-- ==== Sys2Proof/Word.lean ====
section
/-! DEFINITION. The word types of the part: registers are 32 bits wide (R11, R12), the byte is the smallest unit of
the band store (R70), a ring entry or descriptor is 64 bytes (R237, R238). -/

namespace Sys2Proof

/-- A BAR0 register or register field, 32 bits (R11). -/
abbrev Word := BitVec 32

/-- A byte of the band store, of a source in host memory or of a PMBus transfer. -/
abbrev Byte := BitVec 8

/-- A 64-byte ring entry; byte i is bits 8i to 8i + 7, so multi-byte fields are little-endian (R43, R237). -/
abbrev Desc := BitVec 512

end Sys2Proof
end

