-- ==== Sys2Proof/Syntax.lean ====
section
/-! DEFINITION. The commands of the block, one constructor per row of the opcode table, those with operands first and
each part in table order, and the forms of their operands. A row whose command comes from a ring names the ring; a row
that an input raises carries what the device measures there. -/
namespace Sys2Proof

/-- R316–R327: what a motor channel samples at one loop tick: ADC codes of the three shunts and of the three phase voltages;
and what the two tracking observers, whose equations the spec does not give, make of it (log 127): corrections of the observer's
and of the injection's angle (2^-32 electrical turn) and speed (10^-6 rev/s), and the amplitude of the injection response. -/
structure MotSample where
  iu : Int
  iv : Int
  iw : Int
  vu : Int
  vv : Int
  vw : Int
  obsAng : Int
  obsSpd : Int
  injAng : Int
  injSpd : Int
  aMeas : Nat
  deriving DecidableEq, Repr

/-- R323: one pulse of an attempt: the shunts' codes at the end of the vector, and at each loop tick from the end of PULSE_REST
until the current has fallen. -/
structure MotPulse where
  iu : Int
  iv : Int
  iw : Int
  rest : List (Int × Int × Int)
  deriving DecidableEq, Repr

/-- R113: a chain table entry as host memory gave it: ADDR, LEN, CTL; `early`: it was read and checked before the fence
windows last changed in its job (R259). -/
structure ChainEnt where
  addr : Nat
  len : Nat
  ctl : Nat
  early : Bool := false
  deriving DecidableEq, Repr

/-- R234: the BARs of the function. -/
inductive Bar where
  | bar0 | bar2 | bar4
  deriving DecidableEq, Repr

/-- R540: a read of host memory: the next descriptor of a ring, a source of a plane of a slot (image or tag plane), the
input or the chain table of a codec job, or a read whose end its own command reports (a table source, a patch image). -/
inductive ReadRef where
  | desc (ring : Fin 32)
  | stage (slot : Fin 160) (station : Fin 8) (tag : Bool)
  | codec (id : Nat) (chain : List ChainEnt)
  | other
  deriving DecidableEq, Repr

/-- R80, R112: what reading a scatter list brings: the fragments as (address, length) in list order, and the bytes that the
reads of host memory bring, in the same order; a fragment in the band store aperture brings none, the band store serves it. A
list in the aperture brings no fragments either. `ce` and `ue` are the sectors, counted from the first of the scratch region,
that gave a corrected and an uncorrectable error (R90). `early` is how many fragments were checked before the fence windows
last changed while the list was served (R259). -/
structure SrcRead where
  frags : List (Nat × Nat)
  bytes : List Byte
  ce : List Nat := []
  ue : List Nat := []
  early : Nat := 0
  deriving DecidableEq, Repr

/-- R80, R110: the scatter list of a codec job as `SrcRead` gives a plane's. -/
structure ListRead where
  frags : List (Nat × Nat)
  early : Nat := 0
  deriving DecidableEq, Repr

/-- A command: a row of the opcode table. -/
inductive Instr where
  /-- PORST_RELEASE (R458). -/
  | porstRelease (mode : Fin 4) (boot : Bool) (lpSel : Bool)
  /-- REGISTER_WRITE (R12). -/
  | registerWrite (bar : Bar) (off : BitVec 24) (v : Word)
  /-- BAR_MISSIZED_ACCESS (R11). -/
  | barMissizedAccess (bar : Nat) (off : Nat) (be : Nat) (write : Bool) (len : Nat)
  /-- LOW_WORD_READ (R14). -/
  | lowWordRead (bar : Bar) (off : BitVec 24)
  /-- PAGE_TRANSACTION (R45). -/
  | pageTransaction (ring : Fin 32)
  /-- PAGE_CANCEL (R47). -/
  | pageCancel (ring : Fin 32)
  /-- GRANULE_ALLOCATION (R81). -/
  | granuleAllocation (slot : Fin 160)
  /-- STAGING_COMPLETE (R41). -/
  | stagingComplete (slot : Fin 160) (srcs : List SrcRead)
  /-- STAGE_FAIL (R83). -/
  | stageFail (slot : Fin 160) (station : Fin 8) (tag : Bool) (codec : Bool) (sub : Nat)
  /-- EVE (R53). -/
  | eve (slot : Fin 160)
  /-- ADMISSION_DECISION (R52). -/
  | admissionDecision (slot : Fin 160)
  /-- EVE_BACKSTOP (R54). -/
  | eveBackstop (slot : Fin 160)
  /-- FRAME_START (R145). -/
  | frameStart (st : Fin 8) (slot : Fin 160)
  /-- FRAME_END (R41). -/
  | frameEnd (st : Fin 8)
  /-- DELIVERY (R62). -/
  | delivery (slot : Fin 160)
  /-- DELIV_WINDOW_CLOSE (R62). -/
  | delivWindowClose (slot : Fin 160)
  /-- BAND_FETCH_REQUEST (R85). -/
  | bandFetchRequest (st : Fin 8) (slot : Fin 160) (tag : Bool)
  /-- BAND_FETCH_COMPLETE (R85). -/
  | bandFetchComplete (st : Fin 8) (tag : Bool) (ce : List Nat) (ue : List Nat)
  /-- LINE_START (R162). -/
  | lineStart (st : Fin 8) (e : Fin 32)
  /-- BAND_END_CHECK (R87). -/
  | bandEndCheck (st : Fin 8) (tag : Bool)
  /-- ST_FETCH_CLR (R92). -/
  | stFetchClr (st : Fin 8)
  /-- COMPRESS (R110). -/
  | compress (ring : Fin 32)
  /-- DECOMPRESS (R110). -/
  | decompress (ring : Fin 32)
  /-- FRC_ENCODE (R110). -/
  | frcEncode (ring : Fin 32)
  /-- TRANSCODE (R110). -/
  | transcode (ring : Fin 32)
  /-- REPLAY (R123). -/
  | replay (ring : Fin 32)
  /-- CODEC_JOB_START (R111). -/
  | codecJobStart (id : Nat) (empty : Option (List ChainEnt))
  /-- CHAIN_POLL (R114). -/
  | chainPoll (id : Nat) (valid : Bool) (empty : Option (List ChainEnt))
  /-- CODEC_JOB_COMPLETE (R115). -/
  | codecJobComplete (id : Nat) (frags : ListRead) (input : List Byte) (chain : List ChainEnt) (mismatches : List Nat) (rerunAt : Nat) (ce : List (Nat × Nat)) (ue : List (Nat × Nat))
  /-- REPRINT_HOLD (R122). -/
  | reprintHold (ring : Fin 32)
  /-- REPRINT_FREE (R122). -/
  | reprintFree (ring : Fin 32)
  /-- TABLE_LOAD (R141). -/
  | tableLoad (ring : Fin 32)
  /-- TABLE_SWITCH (R144). -/
  | tableSwitch (ring : Fin 32)
  /-- TABLE_TXN_START (R147). -/
  | tableTxnStart (id : Nat)
  /-- TABLE_TXN_COMPLETE (R141). -/
  | tableTxnComplete (id : Nat) (srcs : List (Option (List Byte)))
  /-- BD_EDGE (R155). -/
  | bdEdge (st : Fin 8) (t : Nat) (w : Int)
  /-- EOS_EDGE (R155). -/
  | eosEdge (st : Fin 8) (t : Nat)
  /-- FACET_REFERENCE (R156). -/
  | facetReference (st : Fin 8) (w : Int)
  /-- FACET_GAP (R160). -/
  | facetGap (st : Fin 8)
  /-- SIG_CLEAR (R160). -/
  | sigClear (st : Fin 8)
  /-- MARK_EDGE (R174). -/
  | markEdge (k : Fin 16) (level : Bool)
  /-- REGISTRATION_UPDATE (R177). -/
  | registrationUpdate (st : Fin 8)
  /-- ST_PH_CLR (R181). -/
  | stPhClr (st : Fin 8)
  /-- THERMAL_SAMPLE (R200). -/
  | thermalSample (n : Fin 16) (r : Nat)
  /-- ENERGY_SCALE_UPDATE (R195). -/
  | energyScaleUpdate (n : Fin 16) (vbs : Nat)
  /-- APC_SAMPLE (R197). -/
  | apcSample (n : Fin 16) (m : Nat)
  /-- BEAM_WD_CUT (R203). -/
  | beamWdCut (b : Fin 128) (run : Nat)
  /-- CUT_FAIL (R204). -/
  | cutFail (b : Fin 128)
  /-- BM_STAT_CLEAR (R205). -/
  | bmStatClear (b : Fin 128) (v : Nat) (amps : Nat) (again : Bool)
  /-- BM_ONMAX_CLR (R213). -/
  | bmOnmaxClr (b : Fin 128)
  /-- OCT_CLR (R213). -/
  | octClr (n : Fin 16)
  /-- VBS_OK (R190). -/
  | vbsOk (n : Fin 16) (vbs : Nat)
  /-- NO_SCAN_CUT (R206). -/
  | noScanCut (st : Fin 8)
  /-- NOSCAN_CLR (R207). -/
  | noscanClr (st : Fin 8)
  /-- SCAN_EN_WRITE (R216). -/
  | scanEnWrite (st : Fin 8) (on : Bool)
  /-- LSAFE_TRIP (R208). -/
  | lsafeTrip (b : Bool)
  /-- BEAM_SUPPLY (R209). -/
  | beamSupply (n : Fin 16) (vbs : Nat)
  /-- ROLL_CALL_WINDOW_CLOSE (R221). -/
  | rollCallWindowClose (st : Fin 8)
  /-- ST_DROP_CLR (R228). -/
  | stDropClr (st : Fin 8) (v : Nat)
  /-- ST_ROLL_CLR (R230). -/
  | stRollClr (st : Fin 8)
  /-- DOORBELL (R241). -/
  | doorbell (ring : Fin 32) (v : Nat)
  /-- RING_ENABLE (R237). -/
  | ringEnable (ring : Fin 32)
  /-- RING_DISABLE (R237). -/
  | ringDisable (ring : Fin 32)
  /-- DESCRIPTOR_READ (R242). -/
  | descriptorRead (ring : Fin 32) (d : Desc)
  /-- PHASE_REREAD (R242). -/
  | phaseReread (ring : Fin 32) (d : Desc)
  /-- READ_ERROR_RETRY (R540). -/
  | readErrorRetry (r : ReadRef) (again : Bool)
  /-- Q28_POLL (R243). -/
  | q28Poll (d : Desc)
  /-- RING_WB_WRITE (R249). -/
  | ringWbWrite (ring : Fin 32)
  /-- MSIX_MOD_TIMER (R261). -/
  | msixModTimer (v : Fin 64)
  /-- MSIX_UNMASK (R261). -/
  | msixUnmask (v : Fin 64)
  /-- BZ_WRITE (R276). -/
  | bzWrite (ring : Fin 32)
  /-- BZ_COMMIT (R272). -/
  | bzCommit (ring : Fin 32)
  /-- BZ_DISCARD (R274). -/
  | bzDiscard (ring : Fin 32)
  /-- COMMIT_EFFECT (R273). -/
  | commitEffect (fid : Word)
  /-- ARM (R277). -/
  | arm (ring : Fin 32)
  /-- DISARM (R279). -/
  | disarm (ring : Fin 32)
  /-- PAIR_HOLD_EXPIRY (R282). -/
  | pairHoldExpiry (n : Fin 256)
  /-- REF_LOST (R285). -/
  | refLost (means : List Nat)
  /-- PLL_ENABLE (R285). -/
  | pllEnable (p : Fin 12) (on : Bool)
  /-- PLL_SEARCH_DONE (R288). -/
  | pllSearchDone (p : Fin 12) (cap : Nat)
  /-- PLL_COARSE_LOCK (R285). -/
  | pllCoarseLock (p : Fin 12) (err : Int)
  /-- PLL_FINE (R285). -/
  | pllFine (p : Fin 12) (err : Int) (mean : Nat)
  /-- PLL_FINE_LOST (R285). -/
  | pllFineLost (p : Fin 12) (err : Int)
  /-- PLL_LOCK_LOST (R285). -/
  | pllLockLost (p : Fin 12) (err : Int)
  /-- PLL_CODE_LIMIT (R285). -/
  | pllCodeLimit (p : Fin 12)
  /-- PLL_PULL_TIMEOUT (R285). -/
  | pllPullTimeout (p : Fin 12)
  /-- PLL_CLR (R306). -/
  | pllClr (p : Fin 12)
  /-- PLL_HOP_CLR (R290). -/
  | pllHopClr (p : Fin 12) (m : Nat)
  /-- CLK_HOP (R300). -/
  | clkHop (ring : Fin 32)
  /-- CLK_RAMP_START (R301). -/
  | clkRampStart (ring : Fin 32)
  /-- CLK_RAMP_STOP_HOLD (R300). -/
  | clkRampStopHold (ring : Fin 32)
  /-- CLK_RAMP_STOP_RETURN (R300). -/
  | clkRampStopReturn (ring : Fin 32)
  /-- CLK_SWEEP (R291). -/
  | clkSweep (ring : Fin 32)
  /-- SWEEP_COMPLETE (R291). -/
  | sweepComplete (p : Fin 12) (fmin : Nat) (fmax : Nat) (kdco : Nat)
  /-- RAMP_UPDATE (R302). -/
  | rampUpdate (p : Fin 12) (g : List (Nat × Nat))
  /-- CLK_OUT_ENABLE (R294). -/
  | clkOutEnable (c : Fin 24) (on : Bool)
  /-- CLK_CMD_HOP_FCW (R308). -/
  | clkCmdHopFcw (p : Fin 16)
  /-- CLK_CMD_HOP_ENTRY (R308). -/
  | clkCmdHopEntry (p : Fin 16) (arg : Fin 256)
  /-- CLK_CMD_RAMP_START (R308). -/
  | clkCmdRampStart (p : Fin 16)
  /-- CLK_CMD_RAMP_HOLD (R308). -/
  | clkCmdRampHold (p : Fin 16)
  /-- CLK_CMD_RAMP_RETURN (R308). -/
  | clkCmdRampReturn (p : Fin 16)
  /-- CLK_CMD_SWEEP (R308). -/
  | clkCmdSweep (p : Fin 16) (arg : Fin 256) (sweepEnt : Fin 256)
  /-- MOTOR_LOOP_TICK (R317). -/
  | motorLoopTick (m : Fin 16) (x : MotSample)
  /-- CATCH_COMPLETE (R321). -/
  | catchComplete (m : Fin 16)
  /-- BRAKE_MEASURE (R322). -/
  | brakeMeasure (m : Fin 16)
  /-- BRAKE_TIMEOUT (R320). -/
  | brakeTimeout (m : Fin 16)
  /-- ALIGN_COMPLETE (R324). -/
  | alignComplete (m : Fin 16) (pulses : List MotPulse)
  /-- ROTOR_LOSS (R327). -/
  | rotorLoss (m : Fin 16)
  /-- REACQUIRED (R328). -/
  | reacquired (m : Fin 16)
  /-- ROTOR_LOST (R320). -/
  | rotorLost (m : Fin 16)
  /-- AT_SPEED (R330). -/
  | atSpeed (m : Fin 16)
  /-- MOT_CMD_RUN (R335). -/
  | motCmdRun (ring : Fin 32)
  /-- MOT_CMD_SETPOINT (R335). -/
  | motCmdSetpoint (ring : Fin 32)
  /-- MOT_CMD_STOP (R335). -/
  | motCmdStop (ring : Fin 32)
  /-- MOT_CMD_COAST (R335). -/
  | motCmdCoast (ring : Fin 32)
  /-- MOT_CMD_CLEAR (R335). -/
  | motCmdClear (ring : Fin 32)
  /-- XD_CMD (R335). -/
  | xdCmd (ring : Fin 32)
  /-- MOT_CLR (R336). -/
  | motClr (m : Fin 16)
  /-- CMD_PIN_MEASURE (R331). -/
  | cmdPinMeasure (n : Fin 8) (codes : List Nat) (high period : Nat)
  /-- CMD_PIN_TIMEOUT (R331). -/
  | cmdPinTimeout (n : Fin 8)
  /-- AX_MOVE (R345). -/
  | axMove (ring : Fin 32)
  /-- AX_RETARGET (R347). -/
  | axRetarget (ring : Fin 32)
  /-- AX_HOME (R350). -/
  | axHome (ring : Fin 32)
  /-- AX_CTL_STOP (R351). -/
  | axCtlStop (ring : Fin 32)
  /-- AX_CTL_ESTOP (R351). -/
  | axCtlEstop (ring : Fin 32)
  /-- AX_CTL_CLEAR (R351). -/
  | axCtlClear (ring : Fin 32)
  /-- AX_CTL_SET_POS (R351). -/
  | axCtlSetPos (ring : Fin 32)
  /-- STEP_PULSE (R342). -/
  | stepPulse (a : Fin 32)
  /-- SWITCH_EDGE_QUALIFIED (R348). -/
  | switchEdgeQualified (a : Fin 32) (limit : Bool) (level : Bool)
  /-- AX_LATCH_CLR (R348). -/
  | axLatchClr (a : Fin 32)
  /-- ENCODER_COUNT (R354). -/
  | encoderCount (n : Fin 8) (a b : Bool)
  /-- ENCODER_Z_EDGE (R353). -/
  | encoderZEdge (n : Fin 8) (z : Bool)
  /-- LOOP_TICK (R366). -/
  | loopTick (l : Fin 192)
  /-- LOOP_CTL_OFF (R375). -/
  | loopCtlOff (ring : Fin 32)
  /-- LOOP_CTL_MANUAL (R375). -/
  | loopCtlManual (ring : Fin 32)
  /-- LOOP_CTL_MANUAL_HOLD (R375). -/
  | loopCtlManualHold (ring : Fin 32)
  /-- LOOP_CTL_AUTO (R375). -/
  | loopCtlAuto (ring : Fin 32)
  /-- LOOP_CTL_SETPOINT (R376). -/
  | loopCtlSetpoint (ring : Fin 32)
  /-- LOOP_CTL_CLEAR (R375). -/
  | loopCtlClear (ring : Fin 32)
  /-- LOOP_PROG (R382). -/
  | loopProg (ring : Fin 32)
  /-- HV_SENSE_SAMPLE (R384). -/
  | hvSenseSample (n : Fin 24) (code : Nat)
  /-- HV_TRIP_CLR (R384). -/
  | hvTripClr (n : Fin 24)
  /-- ZERO_CROSS (R387). -/
  | zeroCross (rising : Bool) (held : Nat)
  /-- THERMISTOR_SAMPLE (R388). -/
  | thermistorSample (n : Fin 16) (r : Nat)
  /-- FUSER_CLR (R389). -/
  | fuserClr (n : Fin 8)
  /-- CLASP_PRESENTATION (R394). -/
  | claspPresentation (c : Fin 104) (u : Fin 2) (shadow : Option Nat)
  /-- CLASP_HOLD (R395). -/
  | claspHold (c : Fin 104)
  /-- CLASP_SAFE (R395). -/
  | claspSafe (c : Fin 104)
  /-- HEARTBEAT_SEND (R399). -/
  | heartbeatSend (u : Fin 2) (advanced : Bool)
  /-- HEARTBEAT (R399). -/
  | heartbeat (u : Fin 2) (crcOk : Bool)
  /-- PEER_LOST (R399). -/
  | peerLost (u : Fin 2)
  /-- ISLAND_BOOT_COMPLETE (R400). -/
  | islandBootComplete (u : Fin 2) (flash : List Byte) (err : Bool)
  /-- SELFTEST_COMPLETE (R400). -/
  | selftestComplete (u : Fin 2) (fail : Option (Fin 9))
  /-- BID_RESOLVE (R400). -/
  | bidResolve (u : Fin 2)
  /-- TAKEOVER_RESUME (R407). -/
  | takeoverResume (u : Fin 2)
  /-- ISLAND_INTERNAL_FAULT (R409). -/
  | islandInternalFault (u : Fin 2) (cause : Fin 4) (core : Fin 2)
  /-- LOCKET_VALIDATE (R404). -/
  | locketValidate (u : Fin 2) (ok : Bool)
  /-- BIST_SLICE (R411). -/
  | bistSlice (u : Fin 2) (bist : Bool) (ok : Bool) (n : Nat) (corrected : Nat)
  /-- HEALTH_RECORD (R412). -/
  | healthRecord (u : Fin 2)
  /-- REJOIN_COMPLETE (R414). -/
  | rejoinComplete (u : Fin 2)
  /-- ISL_CMD_SWITCH (R416). -/
  | islCmdSwitch (ring : Fin 32)
  /-- ISL_CMD_RETEST (R416). -/
  | islCmdRetest (ring : Fin 32)
  /-- PWR_STATE (R428). -/
  | pwrState (ring : Fin 32)
  /-- PWR_DOMAIN (R430). -/
  | pwrDomain (ring : Fin 32)
  /-- PWR_DOM_REQ_WRITE (R430). -/
  | pwrDomReqWrite (d : Fin 32) (req : Fin 4)
  /-- WAKE_STEP_TIMEOUT (R427). -/
  | wakeStepTimeout (stack : Fin 2)
  /-- WAKE_SOURCE (R432). -/
  | wakeSource (b : Fin 9) (rise : Bool)
  /-- EMBER_SAMPLE (R434). -/
  | emberSample (r : Nat)
  /-- RAIL_ON_DELAY (R440). -/
  | railOnDelay (k : Fin 24)
  /-- RAIL_PG (R440). -/
  | railPg (k : Fin 24) (level : Bool)
  /-- RAIL_TIMEOUT (R440). -/
  | railTimeout (k : Fin 24)
  /-- RAIL_FAULT (R444). -/
  | railFault (k : Fin 24)
  /-- SEQ_IN_EDGE (R441). -/
  | seqInEdge (rise : Bool)
  /-- PMBUS_TRANSFER_COMPLETE (R447). -/
  | pmbusTransferComplete (fail : Fin 5) (data : BitVec 16)
  /-- OPERATION (R448). -/
  | operation (w : Option (BitVec 8))
  /-- CLEAR_FAULTS (R448). -/
  | clearFaults (listed : Bool)
  /-- STATUS_BYTE (R448). -/
  | statusByte (listed : Bool)
  /-- STATUS_WORD (R448). -/
  | statusWord (listed : Bool)
  /-- MFR_PG_LO (R448). -/
  | mfrPgLo (listed : Bool)
  /-- MFR_PG_HI (R448). -/
  | mfrPgHi (listed : Bool)
  /-- SEQ_UP (R454). -/
  | seqUp (ring : Fin 32)
  /-- SEQ_DOWN (R454). -/
  | seqDown (ring : Fin 32)
  /-- RAIL_SET (R454). -/
  | railSet (ring : Fin 32)
  /-- RAIL_CLEAR (R454). -/
  | railClear (ring : Fin 32)
  /-- PMB_XFER (R454). -/
  | pmbXfer (ring : Fin 32)
  /-- SEQ_CMD_RAIL_ON (R454). -/
  | seqCmdRailOn (k : Fin 32)
  /-- SEQ_CMD_RAIL_OFF (R454). -/
  | seqCmdRailOff (k : Fin 32)
  /-- SEQ_CMD_RAIL_CLEAR (R454). -/
  | seqCmdRailClear (k : Fin 32)
  /-- PATCH_READ_COMPLETE (R466). -/
  | patchReadComplete (img : List Byte) (err : Bool)
  /-- JUNCTION_SAMPLE (R536). -/
  | junctionSample (t0 : Int) (t1 : Int) (t2 : Int) (t3 : Int)
  /-- LEGACY_WRITE (R502). -/
  | legacyWrite (n : Fin 256) (v : BitVec 16)
  /-- LEGACY_RUN (R500). -/
  | legacyRun (run : Bool)
  /-- L_DROP_RESTORE (R505). -/
  | lDropRestore (st : Fin 4) (mask : BitVec 8)
  /-- LEGACY_HV_CTL_WRITE (R505). -/
  | legacyHvCtlWrite (c : Fin 16) (v : BitVec 16)
  /-- LEGACY_FZ_CTL_WRITE (R505). -/
  | legacyFzCtlWrite (n : Fin 8) (v : BitVec 16)
  /-- LEGACY_FREQ_HOP (R506). -/
  | legacyFreqHop (st : Fin 4)
  /-- LEGACY_FRAME_START (R501). -/
  | legacyFrameStart (st : Fin 4)
  /-- LVR_PACKET (R510). -/
  | lvrPacket (ws : List (BitVec 16))
  /-- LINK_TRAINED (R508). -/
  | linkTrained (skew : Nat)
  /-- LVT_BD_REQUEST (R512). -/
  | lvtBdRequest (st : Fin 8)
  /-- LVT_TOP (R513). -/
  | lvtTop (st : Fin 8)
  /-- LINK_LOOP_DONE (R515). -/
  | linkLoopDone (words : List (BitVec 16))
  /-- REFERENCE_SOURCE_LATCH (R283). -/
  | referenceSourceLatch (edges : Bool)
  /-- CLK_HOP_TIMEOUT (R300). -/
  | clkHopTimeout (p : Fin 12)
  /-- MOT_CMD_RUN_TIMEOUT (R335). -/
  | motCmdRunTimeout (m : Fin 16)
  /-- LSAFE_INPUT_HIGH (R214). -/
  | lsafeInputHigh (b : Bool)
  /-- SUPPLY_UNDERVOLTAGE (R528): bit 0 VDD_CORE, 1 VDD_IO18, 2 VDD_VIG, 3 VDD_IO33 below 90 % of nominal. -/
  | supplyUndervoltage (low : Fin 16)
  /-- XTAL_QUALIFIED (R459). -/
  | xtalQualified
  /-- XTAL_QUALIFY_TIMEOUT (R459). -/
  | xtalQualifyTimeout
  /-- POWER_ON_WAKE_RETRY (R461). -/
  | powerOnWakeRetry
  /-- TSNAP_SNAP (R28). -/
  | tsnapSnap
  /-- WPOS_PRESET (R27). -/
  | wposPreset
  /-- PAGE_RECORD_WRITE (R63). -/
  | pageRecordWrite
  /-- PRI_PAGE_ABORT (R256). -/
  | priPageAbort
  /-- PRI_FRAME_STOP (R256). -/
  | priFrameStop
  /-- PRI_SAFE_STATE (R256). -/
  | priSafeState
  /-- PRI_PING (R256). -/
  | priPing
  /-- REPRINT_INDEX_WRITE (R121). -/
  | reprintIndexWrite
  /-- CODEC_DONE_WRITE (R115). -/
  | codecDoneWrite
  /-- TABLE_DONE_WRITE (R148). -/
  | tableDoneWrite
  /-- LSAFE_DISAGREE (R210). -/
  | lsafeDisagree
  /-- DISAGREE_CLEAR (R210). -/
  | disagreeClear
  /-- LSAFE_CLR (R210). -/
  | lsafeClr
  /-- EVENT_RECORD_WRITE (R251). -/
  | eventRecordWrite
  /-- MACH_DONE_WRITE (R253). -/
  | machDoneWrite
  /-- RING_STOP (R258). -/
  | ringStop
  /-- RING_START (R258). -/
  | ringStart
  /-- RING_RESET (R258). -/
  | ringReset
  /-- RING_RESIZE (R258). -/
  | ringResize
  /-- FENCE_SET (R259). -/
  | fenceSet
  /-- FENCE_CLEAR (R259). -/
  | fenceClear
  /-- PERST_ASSERT (R235). -/
  | perstAssert
  /-- LINK_DOWN (R235). -/
  | linkDown
  /-- FUNCTION_LEVEL_RESET (R235). -/
  | functionLevelReset
  /-- FLR_COMPLETE (R235). -/
  | flrComplete
  /-- LINK_UP (R235). -/
  | linkUp
  /-- BEZEL_CMD_COMMIT_ALL (R280). -/
  | bezelCmdCommitAll
  /-- BEZEL_CMD_COMMIT_GROUP (R280). -/
  | bezelCmdCommitGroup
  /-- BEZEL_CMD_DISCARD_ALL (R280). -/
  | bezelCmdDiscardAll
  /-- BEZEL_CMD_DISCARD_GROUP (R280). -/
  | bezelCmdDiscardGroup
  /-- BEZEL_CMD_ARM (R280). -/
  | bezelCmdArm
  /-- BEZEL_CMD_DISARM (R280). -/
  | bezelCmdDisarm
  /-- REF_RESTORED (R285). -/
  | refRestored
  /-- VWEB_UPDATE (R359). -/
  | vwebUpdate
  /-- ZC_LOST (R386). -/
  | zcLost
  /-- CLASP_CLR (R418). -/
  | claspClr
  /-- CLASP_MONITOR_SILENCE (R401). -/
  | claspMonitorSilence
  /-- LOCKET_WRITE (R404). -/
  | locketWrite
  /-- CLASP_ISL_CMD_SWITCH (R416). -/
  | claspIslCmdSwitch
  /-- CLASP_ISL_CMD_RETEST_A (R416). -/
  | claspIslCmdRetestA
  /-- CLASP_ISL_CMD_RETEST_B (R416). -/
  | claspIslCmdRetestB
  /-- PWR_CMD_VIGIL (R436). -/
  | pwrCmdVigil
  /-- PWR_CMD_DOZE (R436). -/
  | pwrCmdDoze
  /-- PWR_CMD_READY (R436). -/
  | pwrCmdReady
  /-- CODEC_RETENTION_TIMER (R430). -/
  | codecRetentionTimer
  /-- WAKE_STEP_READY (R424). -/
  | wakeStepReady
  /-- WAKE_RETRY (R427). -/
  | wakeRetry
  /-- VIG_ALARM (R432). -/
  | vigAlarm
  /-- PWR_LOG_CLR (R436). -/
  | pwrLogClr
  /-- EMBER_CLR (R435). -/
  | emberClr
  /-- SEQ_OUT_ASSERT (R442). -/
  | seqOutAssert
  /-- CASC_WAIT_EXPIRY (R442). -/
  | cascWaitExpiry
  /-- RAIL_RELEASE_STEP (R442). -/
  | railReleaseStep
  /-- MIN_OFF_EXPIRY (R442). -/
  | minOffExpiry
  /-- PFI_TRIP (R451). -/
  | pfiTrip
  /-- SHUTDOWN_DOMAINS_DOWN (R451). -/
  | shutdownDomainsDown
  /-- SHUTDOWN_RAIL_RELEASE (R451). -/
  | shutdownRailRelease
  /-- PFI_GOOD (R449). -/
  | pfiGood
  /-- PFW_RELEASE (R449). -/
  | pfwRelease
  /-- RESTART (R452). -/
  | restart
  /-- VIG_BROWNOUT (R453). -/
  | vigBrownout
  /-- PMBUS_POLL (R447). -/
  | pmbusPoll
  /-- ALERT_RESPONSE (R448). -/
  | alertResponse
  /-- SEQ_CMD_UP (R454). -/
  | seqCmdUp
  /-- SEQ_CMD_DOWN (R454). -/
  | seqCmdDown
  /-- PATCH_LOAD (R467). -/
  | patchLoad
  /-- TIER_EVALUATION (R470). -/
  | tierEvaluation
  /-- FS_CLR (R481). -/
  | fsClr
  /-- FLUSHABLE (R482). -/
  | flushable
  /-- FLUSH (R482). -/
  | flush
  /-- TELEMETRY_RECORD (R484). -/
  | telemetryRecord
  /-- VIG_TJ_PEAK_CLR (R536). -/
  | vigTjPeakClr
  /-- L_CTRL_FS_CLR (R502). -/
  | lCtrlFsClr
  /-- L_CTRL_SAFE_CLR (R502). -/
  | lCtrlSafeClr
  /-- L_AX_CMD_MOVE (R502). -/
  | lAxCmdMove
  /-- L_AX_CMD_HOME (R502). -/
  | lAxCmdHome
  /-- L_AX_CMD_STOP (R502). -/
  | lAxCmdStop
  /-- L_AX_CMD_ESTOP (R502). -/
  | lAxCmdEstop
  /-- L_AX_CMD_CLEAR (R502). -/
  | lAxCmdClear
  /-- LINK_CLOCK_LOST (R508). -/
  | linkClockLost
  /-- LRDY_FALL (R508). -/
  | lrdyFall
  /-- LVT_ENGINE_LOST (R514). -/
  | lvtEngineLost
  /-- LINK_LOOP_START (R515). -/
  | linkLoopStart
  /-- PORST_ASSERT (R527). -/
  | porstAssert
  /-- LVT_RDY_RISE (R508). -/
  | lvtRdyRise
  deriving DecidableEq, Repr

end Sys2Proof
end

