-- ==== Sys2Proof/WellFormed.lean ====
section
/-! DEFINITION. Which commands a sender can send: operands that no type bounds lie in the range of what the device
measures or receives. -/

namespace Sys2Proof

/-- A command's operands are in range. Every constructor is listed; those without a check are well formed by their types. -/
def Instr.wellFormed : Instr → Bool
  | .porstRelease _ _ _ => true
  | .registerWrite _ _ _ => true
  | .barMissizedAccess bar off be _ len => (bar == 0 || bar == 2) && off < 16777216 && be < 256 && 1 ≤ len && len ≤ 1024
  | .lowWordRead _ _ => true
  | .pageTransaction _ => true
  | .pageCancel _ => true
  | .granuleAllocation _ => true
  | .stagingComplete _ srcs => srcs.length ≤ 16
  | .stageFail _ _ _ codec sub => 1 ≤ sub && sub ≤ (if codec then 2 else 6)
  | .eve _ => true
  | .admissionDecision _ => true
  | .eveBackstop _ => true
  | .frameStart _ _ => true
  | .frameEnd _ => true
  | .delivery _ => true
  | .delivWindowClose _ => true
  | .bandFetchRequest _ _ _ => true
  | .bandFetchComplete _ _ ce ue => ce.all (fun i => i < 49153) && ue.all (fun i => i < 49153)
  | .lineStart _ _ => true
  | .bandEndCheck _ _ => true
  | .stFetchClr _ => true
  | .compress _ => true
  | .decompress _ => true
  | .frcEncode _ => true
  | .transcode _ => true
  | .replay _ => true
  | .codecJobStart _ _ => true
  | .chainPoll _ _ _ => true
  | .codecJobComplete _ _ _ _ mismatches _ ce ue => mismatches.length ≤ 1 && (ce ++ ue).all (fun x => x.1 < 786432 && x.2 < 2048)
  | .reprintHold _ => true
  | .reprintFree _ => true
  | .tableLoad _ => true
  | .tableSwitch _ => true
  | .tableTxnStart _ => true
  | .tableTxnComplete _ srcs => srcs.length ≤ 16
  | .bdEdge _ _ _ => true
  | .eosEdge _ _ => true
  | .facetReference _ _ => true
  | .facetGap _ => true
  | .sigClear _ => true
  | .markEdge _ _ => true
  | .registrationUpdate _ => true
  | .stPhClr _ => true
  | .thermalSample _ r => r ≤ 65536
  | .energyScaleUpdate _ vbs => vbs < 65536
  | .apcSample _ m => m < 65536
  | .beamWdCut _ _ => true
  | .cutFail _ => true
  | .bmStatClear _ v _ _ => v < 4294967296
  | .bmOnmaxClr _ => true
  | .octClr _ => true
  | .vbsOk _ vbs => vbs < 65536
  | .noScanCut _ => true
  | .noscanClr _ => true
  | .scanEnWrite _ _ => true
  | .lsafeTrip _ => true
  | .beamSupply _ vbs => vbs < 65536
  | .rollCallWindowClose _ => true
  | .stDropClr _ v => v < 4294967296
  | .stRollClr _ => true
  | .doorbell _ v => v < 4294967296
  | .ringEnable _ => true
  | .ringDisable _ => true
  | .descriptorRead _ _ => true
  | .phaseReread _ _ => true
  | .readErrorRetry _ _ => true
  | .q28Poll _ => true
  | .ringWbWrite _ => true
  | .msixModTimer _ => true
  | .msixUnmask _ => true
  | .bzWrite _ => true
  | .bzCommit _ => true
  | .bzDiscard _ => true
  | .commitEffect _ => true
  | .arm _ => true
  | .disarm _ => true
  | .pairHoldExpiry _ => true
  | .refLost means => means.length == 12 && means.all (fun m => m < 65536)
  | .pllEnable _ _ => true
  | .pllSearchDone _ cap => cap < 256
  | .pllCoarseLock _ _ => true
  | .pllFine _ _ mean => mean < 65536
  | .pllFineLost _ _ => true
  | .pllLockLost _ _ => true
  | .pllCodeLimit _ => true
  | .pllPullTimeout _ => true
  | .pllClr _ => true
  | .pllHopClr _ m => m < 4294967296
  | .clkHop _ => true
  | .clkRampStart _ => true
  | .clkRampStopHold _ => true
  | .clkRampStopReturn _ => true
  | .clkSweep _ => true
  | .sweepComplete _ fmin fmax kdco => fmin < 65536 && fmax < 65536 && kdco < 65536
  | .rampUpdate _ _ => true
  | .clkOutEnable _ _ => true
  | .clkCmdHopFcw _ => true
  | .clkCmdHopEntry _ _ => true
  | .clkCmdRampStart _ => true
  | .clkCmdRampHold _ => true
  | .clkCmdRampReturn _ => true
  | .clkCmdSweep _ _ _ => true
  | .motorLoopTick _ _ => true
  | .catchComplete _ => true
  | .brakeMeasure _ => true
  | .brakeTimeout _ => true
  | .alignComplete _ pulses => pulses.length == 12
  | .rotorLoss _ => true
  | .reacquired _ => true
  | .rotorLost _ => true
  | .atSpeed _ => true
  | .motCmdRun _ => true
  | .motCmdSetpoint _ => true
  | .motCmdStop _ => true
  | .motCmdCoast _ => true
  | .motCmdClear _ => true
  | .xdCmd _ => true
  | .motClr _ => true
  | .cmdPinMeasure _ codes high period => codes.length == 10 && codes.all (fun c => decide (c < 4096)) && decide (high ≤ period)
  | .cmdPinTimeout _ => true
  | .axMove _ => true
  | .axRetarget _ => true
  | .axHome _ => true
  | .axCtlStop _ => true
  | .axCtlEstop _ => true
  | .axCtlClear _ => true
  | .axCtlSetPos _ => true
  | .stepPulse _ => true
  | .switchEdgeQualified _ _ _ => true
  | .axLatchClr _ => true
  | .encoderCount _ _ _ => true
  | .encoderZEdge _ _ => true
  | .loopTick _ => true
  | .loopCtlOff _ => true
  | .loopCtlManual _ => true
  | .loopCtlManualHold _ => true
  | .loopCtlAuto _ => true
  | .loopCtlSetpoint _ => true
  | .loopCtlClear _ => true
  | .loopProg _ => true
  | .hvSenseSample _ code => code < 4096
  | .hvTripClr _ => true
  | .zeroCross _ _ => true
  | .thermistorSample _ r => r ≤ 65536
  | .fuserClr _ => true
  | .claspPresentation _ _ _ => true
  | .claspHold _ => true
  | .claspSafe _ => true
  | .heartbeatSend _ _ => true
  | .heartbeat _ _ => true
  | .peerLost _ => true
  | .islandBootComplete _ flash _ => flash.length ≤ 262272
  | .selftestComplete _ _ => true
  | .bidResolve _ => true
  | .takeoverResume _ => true
  | .islandInternalFault _ _ _ => true
  | .locketValidate _ _ => true
  | .bistSlice _ _ _ n _ => n < 65536
  | .healthRecord _ => true
  | .rejoinComplete _ => true
  | .islCmdSwitch _ => true
  | .islCmdRetest _ => true
  | .pwrState _ => true
  | .pwrDomain _ => true
  | .pwrDomReqWrite _ _ => true
  | .wakeStepTimeout _ => true
  | .wakeSource _ _ => true
  | .emberSample r => r ≤ 65536
  | .railOnDelay _ => true
  | .railPg _ _ => true
  | .railTimeout _ => true
  | .railFault _ => true
  | .seqInEdge _ => true
  | .pmbusTransferComplete _ _ => true
  | .operation _ => true
  | .clearFaults _ => true
  | .statusByte _ => true
  | .statusWord _ => true
  | .mfrPgLo _ => true
  | .mfrPgHi _ => true
  | .seqUp _ => true
  | .seqDown _ => true
  | .railSet _ => true
  | .railClear _ => true
  | .pmbXfer _ => true
  | .seqCmdRailOn _ => true
  | .seqCmdRailOff _ => true
  | .seqCmdRailClear _ => true
  | .patchReadComplete img _ => img.length ≤ 4294967295
  | .junctionSample _ _ _ _ => true
  | .legacyWrite _ _ => true
  | .legacyRun _ => true
  | .lDropRestore _ _ => true
  | .legacyHvCtlWrite _ _ => true
  | .legacyFzCtlWrite _ _ => true
  | .legacyFreqHop _ => true
  | .legacyFrameStart _ => true
  | .lvrPacket ws => 1 ≤ ws.length
  | .linkTrained _ => true
  | .lvtBdRequest _ => true
  | .lvtTop _ => true
  | .linkLoopDone _ => true
  | .referenceSourceLatch _ => true
  | .clkHopTimeout _ => true
  | .motCmdRunTimeout _ => true
  | .lsafeInputHigh _ => true
  | .supplyUndervoltage _ => true
  | .xtalQualified => true
  | .xtalQualifyTimeout => true
  | .powerOnWakeRetry => true
  | .tsnapSnap => true
  | .wposPreset => true
  | .pageRecordWrite => true
  | .priPageAbort => true
  | .priFrameStop => true
  | .priSafeState => true
  | .priPing => true
  | .reprintIndexWrite => true
  | .codecDoneWrite => true
  | .tableDoneWrite => true
  | .lsafeDisagree => true
  | .disagreeClear => true
  | .lsafeClr => true
  | .eventRecordWrite => true
  | .machDoneWrite => true
  | .ringStop => true
  | .ringStart => true
  | .ringReset => true
  | .ringResize => true
  | .fenceSet => true
  | .fenceClear => true
  | .perstAssert => true
  | .linkDown => true
  | .functionLevelReset => true
  | .flrComplete => true
  | .linkUp => true
  | .bezelCmdCommitAll => true
  | .bezelCmdCommitGroup => true
  | .bezelCmdDiscardAll => true
  | .bezelCmdDiscardGroup => true
  | .bezelCmdArm => true
  | .bezelCmdDisarm => true
  | .refRestored => true
  | .vwebUpdate => true
  | .zcLost => true
  | .claspClr => true
  | .claspMonitorSilence => true
  | .locketWrite => true
  | .claspIslCmdSwitch => true
  | .claspIslCmdRetestA => true
  | .claspIslCmdRetestB => true
  | .pwrCmdVigil => true
  | .pwrCmdDoze => true
  | .pwrCmdReady => true
  | .codecRetentionTimer => true
  | .wakeStepReady => true
  | .wakeRetry => true
  | .vigAlarm => true
  | .pwrLogClr => true
  | .emberClr => true
  | .seqOutAssert => true
  | .cascWaitExpiry => true
  | .railReleaseStep => true
  | .minOffExpiry => true
  | .pfiTrip => true
  | .shutdownDomainsDown => true
  | .shutdownRailRelease => true
  | .pfiGood => true
  | .pfwRelease => true
  | .restart => true
  | .vigBrownout => true
  | .pmbusPoll => true
  | .alertResponse => true
  | .seqCmdUp => true
  | .seqCmdDown => true
  | .patchLoad => true
  | .tierEvaluation => true
  | .fsClr => true
  | .flushable => true
  | .flush => true
  | .telemetryRecord => true
  | .vigTjPeakClr => true
  | .lCtrlFsClr => true
  | .lCtrlSafeClr => true
  | .lAxCmdMove => true
  | .lAxCmdHome => true
  | .lAxCmdStop => true
  | .lAxCmdEstop => true
  | .lAxCmdClear => true
  | .linkClockLost => true
  | .lrdyFall => true
  | .lvtEngineLost => true
  | .linkLoopStart => true
  | .porstAssert => true
  | .lvtRdyRise => true

end Sys2Proof
end

