-- ==== Sys2Proof/Config.lean ====
section
/-! DEFINITION. What the spec leaves open: free values and functions with no body. Nothing in Lean can evaluate them,
so a theorem holds whatever they are. Each is named in a log entry. -/

namespace Sys2Proof.Config

open Sys2Proof

/-- A fresh value the spec does not give; the state's `freeCtr` numbers the uses (log 3). -/
opaque freeValue : Nat → BitVec 64

/-- The bits after BTYPE of the dynamic Huffman block that codes block `k` of an input under DEPTH and LAZY: a fixed function
of them whose "byte sequence is not otherwise specified" (R101, log 4). -/
opaque dynamicBlock : Nat → Bool → List Byte → Nat → List Bool

/-- How a block of 65,536 input bytes is coded as stored: last block or not, the bit of the byte it begins at, its bytes (R102,
log 4). -/
opaque storedFull : Bool → Nat → List Byte → List Bool

/-- The SHA-512 digest of a message and whether an Ed25519 signature verifies: key, signature, message. The spec names the two
functions and does not give them (R465, R466, log 5). -/
opaque sha512 : List Byte → List Byte
opaque ed25519 : List Byte → List Byte → List Byte → Bool

/-- The 64-byte key hash that this part's fuses hold (R466, R539, log 5). -/
opaque keyHash : List Byte

/-- R515: word `i` of the PRBS-15 sequence with a seed, and the payload words of a test packet at 1 or 2 bpp: the spec gives
neither the polynomial nor the length (log 133). -/
opaque prbs15 : Nat → Nat → BitVec 16
opaque loopWords : Nat → Nat

/-- R405: the bytes of a Locket's body, given its parts as numbers; the spec gives the parts and no layout (log 81). -/
opaque locketBody : List Int → List Byte

/-- The coefficients of the MODEL step of the ROM loop programs, of high voltage and of the fuser: the spec gives only that
plausibility is supervised (R498, R505, log 61). -/
opaque romModel : Bool → Nat → BitVec 16

/-- The band table records of SYS, MEM, MOT and AUX that this part's fuses hold, by register and bit (R289, log 40). -/
opaque coreBand : Nat → Nat → BitVec 32

/-- The BD-to-EOS time at which a station's end-of-scan pulse of an emitter expects its crossing while T_REF is 0, in 4 ps
units (R157, R181, log 31): the spec gives no other length to go by. -/
opaque eosTime : Nat → Nat → BitVec 32

/-- R325: A_exp, the injection response expected of LD, LQ, HFI_AMP and HFI_FREQ, from which the spec says it follows without the
formula (log 127). -/
opaque injExpect : Nat → Nat → Nat → Nat → BitVec 32

end Sys2Proof.Config
end

