-- ==== Sys2Proof/Machine/State.lean ====
section
/-! DEFINITION. The state of the block, all of it plain data. Every BAR0 register field lives in `regs` (its ACTIVE
value) and, once a staged write has been made, in `staged`; the structures below hold what the spec gives the
machine and no register stores. Each structure's default is its value right after reset. -/

namespace Sys2Proof.Machine

open Sys2Proof

/-- The spec names nothing that stops the machine: no command faults. -/
inductive Fault where
  deriving DecidableEq, Repr

/-- Why a step was refused. -/
inductive Refusal where
  /-- The row has no meaning yet; raised by Dispatch alone; safe. -/
  | notModelled (mnemonic : String)
  deriving DecidableEq, Repr

/-- What a command answers. -/
abbrev Out := Host.Outcome

/-- A register field: offset of its register in BAR0, lowest bit, width, reset value. -/
structure Fld where
  off : Nat
  lo : Nat
  w : Nat
  rst : Nat
  deriving DecidableEq, Repr

/-- Field values by key (register offset × 32 + lowest bit): keys strictly rising, no entry equal to the field's
reset value. -/
abbrev FieldMap := List (Nat × Word)

/-- R21–R28: the timebases. `now` is the model's own count of nanoseconds since PORST_N released. -/
structure Time where
  now : Nat := 0
  etime : Nat := 0
  vtime : Nat := 0
  /-- Part of a VTIME period elapsed, in 1/32,768 ns (R28: VPHASE is its whole nanoseconds). -/
  vfrac : Nat := 0
  /-- SYS is stopped (R23). -/
  sysStopped : Bool := true
  /-- R22: ETIME has started. -/
  etimeStarted : Bool := false
  etimeStop : Nat := 0
  vtimeStop : Nat := 0
  deriving DecidableEq, Repr

/-- R477, R252: an event record with its BLOCK, SEQ and HOST_TAG; DETAIL is bytes 30–39. -/
structure Ev where
  etime : Nat
  wpos : Int
  code : Nat
  sev : Nat
  src : Nat
  inst : Nat
  detail : BitVec 80
  block : Nat
  seq : Nat
  tag : Nat
  deriving DecidableEq, Repr

/-- A record bound for a device-to-host ring: its entries without PHASE, whether it carries IRQ (R246), and the
ring of the transaction it finishes, if it is that transaction's last (R246). -/
structure Rec where
  entries : List Desc
  irq : Bool := false
  closes : Option Nat := none
  /-- A page record's slot (160 for a refused submission's), else none (R63). -/
  slot : Option Nat := none
  /-- The TRACE record due when it is written (R485), without its ETIME and WPOS. -/
  trace : Option Desc := none
  deriving DecidableEq, Repr

/-- R248: a valid fence window: first and last byte, what it grants. -/
structure Win where
  base : Nat
  limit : Nat
  read : Bool
  write : Bool
  deriving DecidableEq, Repr

/-- What a ring holds beside its registers (R237–R250). -/
structure Ring where
  /-- Laps of the index the device moves: CI of a host → device ring, PI of a device → host ring. -/
  lap : Nat := 0
  /-- Descriptors read at and after CI, not yet taken (R242). -/
  fetched : List Desc := []
  /-- When a descriptor whose PHASE differed is read again (R242). -/
  rereadAt : Option Nat := none
  /-- A read has failed once and its retry is outstanding (R540). -/
  retry : Bool := false
  /-- Transactions taken whose last completion record is not yet written (R246). -/
  outstanding : Nat := 0
  /-- Entries written and not yet returned by the host, oldest first, with PHASE (R249). -/
  entries : List Desc := []
  /-- Records that wait for room (R250, R63). -/
  waiting : List Rec := []
  /-- When the last writeback was made, and whether a newer CI waits (R249). -/
  wbAt : Option Nat := none
  wbDue : Bool := false
  /-- The CI value last written to RING_WB. -/
  wbValue : Nat := 0
  /-- Q28: PI the host has doorbelled (R243). -/
  bell : Nat := 0
  /-- End of the previous poll read of Q28 (R243). -/
  polledAt : Option Nat := none
  /-- ETIME at which the read of each entry of `fetched` completed (R256). -/
  found : List Nat := []
  /-- What the read after `fetched` failed with: ERR_CAUSE and the PHASE read. The ring enters ERROR when CI reaches its
  transaction (R237, R242). -/
  errAt : Option (Nat × Nat) := none
  deriving DecidableEq, Repr

/-- R261: one MSI-X vector. -/
structure Vec where
  count : Nat := 0
  firstAt : Option Nat := none
  masked : Bool := true
  pendingBit : Bool := false
  /-- The address and data of its message (R234; the PCIe MSI-X table entry, log 123). -/
  addr : Nat := 0
  data : Nat := 0
  /-- Messages sent since reset. -/
  sent : Nat := 0
  deriving DecidableEq, Repr

/-- R233: what the endpoint says of itself in PCIe configuration space, and the sizes set there: the sizes' reset values are
PCIe's (PRESUMED, log 123). -/
structure PciCfg where
  vendor : Nat := 0x1F3C
  device : Nat := 0x7128
  revision : Nat := 0xA1
  classCode : Nat := 0x118000
  /-- Max payload size and max read request size, in bytes. -/
  mps : Nat := 128
  mrrs : Nat := 512
  /-- Vectors of the MSI-X capability, outstanding reads; AER, FLR and ASPM L1 are there, L0s is not. -/
  vectors : Nat := 64
  reads : Nat := 512
  aer : Bool := true
  flr : Bool := true
  aspmL1 : Bool := true
  /-- L1 PM substates, 10-bit tags. -/
  l1Substates : Bool := true
  tags10 : Bool := true
  l0s : Bool := false
  deriving DecidableEq, Repr

/-- R253: a machine-class transaction taken and not yet answered. -/
structure MTxn where
  id : Nat
  ring : Nat
  descs : List Desc
  taken : Nat
  tseq : Nat
  irq : Bool
  /-- Parts still running. -/
  waits : Nat
  status : Nat := 0
  failIndex : Nat := 255
  failOp : Nat := 0
  detail : Nat := 0
  /-- Transfers checked under a window this transaction narrowed or removed, not ended yet (R259). -/
  holds : List Nat := []
  /-- Groups committed or discarded, FIELD_ID and GROUP_ID of a bezel transaction are in the RESULT, bytes 40–55. -/
  result : BitVec 128 := 0
  deriving DecidableEq, Repr

/-- The host side: events, vectors, transactions in progress, snapshots of high words (R14), link state. -/
structure HostIf where
  cfg : PciCfg := {}
  evq : List Ev := []
  evLast : Option Ev := none
  seq : Nat := 0
  vecs : List Vec := List.replicate 64 {}
  mach : List MTxn := []
  nextTxn : Nat := 1
  /-- R406: TSEQ of the next transaction, and the transactions kept until a Locket covers them. -/
  tseq : Nat := 1
  kept : List (Nat × List Desc) := []
  /-- R406, R407: transactions taken and kept while no island serves, that an island has still to apply: ring, descriptors, TSEQ. -/
  unserved : List (Nat × List Desc × Nat) := []
  /-- The ring each class served last: page, table, codec, machine (R247). -/
  lastServed : List Nat := [7, 11, 15, 19]
  /-- R14: high words snapped by a low-word read, by the high register's offset. -/
  hiSnap : List (Nat × Word) := []
  /-- The data of the last register read's completion (the model's own). -/
  readData : Word := 0
  /-- R235: cause of the host reset that DL_Active will report; PERST_N asserted; FLR in progress since. -/
  resetCause : Option Nat := none
  perst : Bool := true
  linkUp : Bool := false
  flrAt : Option Nat := none
  deriving DecidableEq, Repr

/-- R273: a group whose commit is pending, and the machine transaction it answers, if any. -/
structure Pend where
  group : Nat
  txn : Option Nat
  deriving DecidableEq, Repr

/-- R267 and the tables of R309, R338, R362, R392, R419, R436, R456 and R518: which commit group a register of
RW-S or RW-F fields belongs to; `own` is a group of the one register. -/
inductive GrpKind where
  | own | band | ring | fence | almanac | stGeom | stPlace | stExpo | slice | beam | octTherm | octEct | loop
  | loopClass | pll | ramp | bandTbl | clkOut | motor | cmdPin | xd | axis | encoder | web | hv | fz | th | clasp
  | pwrDom | ember | seq | rail | pmb | compat | lvt
  deriving DecidableEq, Repr

/-- R275: the bezel controller's pending commits. -/
structure Bezel where
  pending : List Pend := []
  /-- R269: RW-F fields that BAR0 writes of the present SYS cycle have staged: key, staged value before. -/
  fresh : List (Nat × Option Word) := []
  /-- R269, R276: ring transactions that write RW-F fields, taken in the present SYS cycle, in order; they act at its end. -/
  late : List Nat := []
  /-- R273: boundaries reached on the present 10 ns tick: group kind, instance, tick. -/
  edge : List (GrpKind × Nat × Nat) := []
  deriving DecidableEq, Repr

/-- R41, R67: the state of a page slot. -/
inductive SlotState where
  | free | loaded | staging | staged | admitted | imaging | transit | delivered | retired
  deriving DecidableEq, Repr

/-- R76: one station's plane of a page, with the granules that hold it. -/
structure Plane where
  station : Nat := 0
  coding : Nat := 0
  tagCoding : Nat := 0
  xOffset : Nat := 0
  width : Nat := 0
  sgAddr : Nat := 0
  sgCount : Nat := 0
  tagSgCount : Nat := 0
  check : Nat := 0
  srcLen : Nat := 0
  tagSgAddr : Nat := 0
  tagSrcLen : Nat := 0
  tagCheck : Nat := 0
  grans : List Nat := []
  tagGrans : List Nat := []
  deriving DecidableEq, Repr

/-- R40: a page slot: header, position, eve, planes and outcome so far. -/
structure Slot where
  st : SlotState := .free
  ring : Nat := 0
  tag : Nat := 0
  pageId : Nat := 0
  mask : Nat := 0
  minTier : Nat := 0
  flags : Nat := 0
  capMask : Nat := 0
  frameLen : Nat := 0
  lines : Nat := 0
  planes : List Plane := []
  fp : Int := 0
  eve : Int := 0
  /-- D_first at acceptance (R49, R51) and DELIV_POS in force at acceptance (R273). -/
  dFirst : Int := 0
  delivPos : Int := 0
  irq : Bool := false
  /-- R53: the eve has fired; what the eve tick sampled: the first failing cause of R52, 0 for none, its detail. -/
  eveFired : Bool := false
  eveCause : Nat := 0
  eveDetail : Nat := 0
  /-- R53, R472: GLB_STATE.TIER on the eve tick. -/
  eveTier : Nat := 0
  etimeEve : Nat := 0
  /-- Stations that have started and ended the frame. -/
  started : Nat := 0
  ended : Nat := 0
  /-- 0 GOOD, 1 FLAGGED, 2 SPOILED, 3 NOT_PRINTED (R64). -/
  outcome : Nat := 0
  cause : Nat := 0
  /-- PAGE_FLAGS and ST_FLAGS of the record (R64). -/
  recFlags : Nat := 0
  stFlags : List Nat := List.replicate 8 0
  blanked : Nat := 0
  marks : Nat := 0
  drops : Nat := 0
  /-- Samples for REG_STATS: station, whether cross-track, error in 1/262,144 unit (R65, R179). -/
  regs : List (Nat × Bool × Int) := []
  /-- R60: a priority abort blanks every remaining line. -/
  aborted : Bool := false
  etimeEnd : Nat := 0
  wposEnd : Int := 0
  /-- R62: an edge of MK[DELIV_MK] came within the window; the window has been settled. -/
  delivEdge : Bool := false
  delivClosed : Bool := false
  tseq : Nat := 0
  /-- R81: 0x2040 has been posted. -/
  poolWaited : Bool := false
  /-- R513: an LVT page. -/
  lvt : Bool := false
  /-- Codes posted once per page and station or octet. -/
  once : List (Nat × Nat) := []
  /-- Source reads that have failed once, by station and plane (R540). -/
  retries : List (Nat × Bool) := []
  /-- `now` of the eve (R53). -/
  eveAt : Nat := 0
  /-- CODEC instances that staging of the slot holds (R82), and the windows in force as its staging began (R259). -/
  engines : List Nat := []
  wins : List Win := []
  deriving DecidableEq, Repr

/-- The Almanac's state beside the slots. -/
structure Almanac where
  slots : List Slot := List.replicate 160 {}
  /-- Frame end of the last retired frame (R49). -/
  lastEnd : Int := 0
  /-- F_p of the last page accepted, by page ring (R45). -/
  lastFp : List (Option Int) := List.replicate 8 none
  deriving DecidableEq, Repr

/-- A band in a station's fetch buffer (R84), with its record's bytes and the lines an uncorrectable error blanks. -/
structure BandHeld where
  slot : Nat
  tag : Bool
  index : Nat
  arrived : Nat
  bytes : List Byte
  badLines : List Nat := []
  trailerBad : Bool := false
  /-- A line of the band was blanked because its data was absent (R89). -/
  skipCheck : Bool := false
  used : Bool := false
  deriving DecidableEq, Repr

/-- The band store (R70): its bytes in canonical form, granules that gave an uncorrectable error, retired granules. -/
structure Band where
  mem : List Host.Cell := []
  faulty : List Nat := []
  retired : List Nat := []
  /-- Corrected errors since the last 0x2031 and when that was posted (R90). -/
  ceSince : Nat := 0
  ceAt : Option Nat := none
  deriving DecidableEq, Repr

/-- R480–R485: what the fault chapter keeps beside its registers. -/
structure FaultSt where
  stopAt : Nat := 0
  /-- `now` since which VWEB has read 0 (R482). -/
  webZeroSince : Option Nat := some 0
  telAt : Nat := 0
  /-- Tick of the latest HARD event (R481). -/
  hardAt : Option Nat := none
  /-- R481: `now` of the last accepted FS_CLR, with FS_CAUSE, FLUSHABLE and the start of the frame stop it ended. -/
  clr : Option (Nat × Nat × Nat × Nat) := none
  deriving DecidableEq, Repr

/-- R109–R115: a codec job from its taking to its completion. -/
structure Job where
  id : Nat
  ring : Nat
  desc : Desc
  op : Nat
  irq : Bool := false
  started : Bool := false
  /-- CODEC instances it runs on (R94, R111). -/
  engines : List Nat := []
  etimeStart : Nat := 0
  suspends : Nat := 0
  /-- `now` of the present CHAIN_EMPTY suspension and of the last read of the entry (R114). -/
  suspendedAt : Option Nat := none
  polledAt : Nat := 0
  entry : Nat := 0
  /-- Address of the entry the job is suspended on (R114). -/
  entryAt : Nat := 0
  /-- R106: the job runs a second time, after a mismatch on verify. -/
  rerun : Bool := false
  /-- Output buffers known to be filled at the last suspension, and the windows in force at the start (R107, R259). -/
  chain : List (Nat × Nat) := []
  wins : List Win := []
  /-- A read of the job has failed once and its retry is outstanding (R540). -/
  retry : Bool := false
  deriving DecidableEq, Repr

/-- R117–R122: a reprint capture. `lines` holds the captured levels of bands not yet stored, by line, none for an
absent line. -/
structure Capture where
  id : Nat := 0
  slot : Nat
  station : Nat
  tag : Nat
  pageId : Nat
  lines : Nat
  pixels : Nat
  fp : Int
  grans : List Nat := []
  bytes : Nat := 0
  bandsStored : Nat := 0
  levels : List (Nat × Option (List Nat)) := []
  beamBlanked : Nat := 0
  absent : Bool := false
  mismatch : Bool := false
  truncated : Bool := false
  /-- Frame and last band check finished: it has a CAPTURE_ID; its index record has been written. -/
  closed : Bool := false
  indexed : Bool := false
  held : Bool := false
  /-- REPLAY jobs that pin it, and FREEs that wait for them: (ring, descriptor) (R122). -/
  pins : Nat := 0
  frees : List (Nat × Desc) := []
  etimeEnd : Nat := 0
  deriving DecidableEq, Repr

/-- The codecs: jobs in the order taken, captures in the order begun. -/
structure CodecSt where
  jobs : List Job := []
  nextJob : Nat := 0
  captures : List Capture := []
  /-- Ring whose job started last (R111). -/
  lastRing : Nat := 15
  /-- Queue of captures whose index record waits, by CAPTURE_ID, held in Q29's waiting list. -/
  lastCapture : Nat := 0
  deriving DecidableEq, Repr

/-- R131, R140: where and how a screen lies in a bank's screen memory. -/
structure Screen where
  w : Nat := 0
  h : Nat := 0
  base : Nat := 0
  shift : Nat := 0
  xph : Nat := 0
  yph : Nat := 0
  deriving DecidableEq, Repr

/-- R138: one table bank. `cells` lists the 16-byte cells that are not all 0; `valid` holds the VALID bits as
ST_TBL_STAT.SHADOW_VALID orders them (R151). -/
structure TBank where
  trc : List (List Nat) := List.replicate 4 []
  screens : List Screen := List.replicate 4 {}
  cells : List (Nat × BitVec 128) := []
  gain : List Nat := []
  levelMap : List Nat := []
  tagMap : List Nat := []
  valid : Nat := 0
  deriving DecidableEq, Repr

/-- R145: a pending switch of a station; `page` is the slot an AT_PAGE switch waits for. -/
structure PendSwitch where
  txn : Nat
  desc : Desc
  page : Option Nat
  deriving DecidableEq, Repr

/-- R147: a table transaction taken and not finished. -/
structure TblTxn where
  id : Nat
  ring : Nat
  descs : List Desc
  started : Bool := false
  /-- Switch records still to be given. -/
  left : Nat := 0
  /-- What orders 1 and 2 of R141 gave each load at the start, before its reads (R248, R259): 0, 2 or 3. -/
  early : List Nat := []
  deriving DecidableEq, Repr

/-- A station's tables. -/
structure TblStation where
  banks : List TBank := List.replicate 2 {}
  pend : Option PendSwitch := none
  /-- The time of the station's last frame start and the slot that started (R145). -/
  started : Option (Nat × Nat) := none
  deriving DecidableEq, Repr

/-- The table class. -/
structure TablesSt where
  st : List TblStation := List.replicate 8 {}
  txns : List TblTxn := []
  nextTxn : Nat := 0
  deriving DecidableEq, Repr

/-- R155: an edge given to an emitter: its time in 4 ps units and the WPOS in 1/256 unit. -/
structure Edge where
  e : Nat
  t : Nat
  w : Int
  deriving DecidableEq, Repr

/-- R226, R227: a first missing call of an emitter: the slot and PAGE_ID on the station, the number of the facet, and whether the
emitter's line of that facet lies in the frame. -/
structure Miss where
  e : Nat
  slot : Nat
  pageId : Nat
  fno : Nat
  inFrame : Bool
  deriving DecidableEq, Repr

/-- R156–R230: what a station's scan keeps beside its registers. Times of edges are in 4 ps units since PORST_N
released, positions of facets in 1/256 unit. -/
structure Scan where
  /-- t_f, w_f and m(f) of the last facet reference. -/
  tf : Option Nat := none
  wf : Int := 0
  m : Option Int := none
  /-- t_f of the last measured facet reference (R158, R160). -/
  bdT : Option Nat := none
  /-- `now` of the last measured reference, or of the start of its deadline; no reference since then (R206). -/
  since : Nat := 0
  first : Bool := true
  /-- Facet references since SCAN_EN was last set (R197), and facets counted for drops (R222). -/
  refs : Nat := 0
  fno : Nat := 0
  /-- References since ACQUIRE (R218), and the predicted reference of the present facet (R219). -/
  found : Nat := 0
  that : Nat := 0
  /-- The present facet has its reference; its arrivals; emitters whose line has started. -/
  refDone : Bool := false
  edges : List Edge := []
  begun : Nat := 0
  /-- Arrivals and BD-to-EOS times of the facet whose window closed last, and its facet index. -/
  last : List Edge := []
  eos : List (Nat × Nat) := []
  lastFacet : Nat := 0
  lastTf : Nat := 0
  /-- R218: its pulses were timed ones, so that its arrivals are SOFF samples; emitters whose end-of-scan pulse is off after
  its first edge (R157). -/
  lastTimed : Bool := false
  eosHit : List Nat := []
  /-- Revolutions of the polygon counted (R157). -/
  revs : Nat := 0
  /-- R160: references in a row on the expected period; a gap has come; facets are numbered. -/
  steady : Nat := 0
  gap : Bool := false
  numbered : Bool := false
  /-- Samples taken per entry 32 × facet + emitter: SOFF and LSCALE (R159). -/
  samples : List (Nat × Nat × Nat) := []
  wasValid : Bool := false
  /-- Measured facet means of LSCALE, 1/256 of 2^-24, while IDENTIFYING (R161). -/
  means : List Int := []
  /-- R169, R173: the nominal and the actual target, 1/256 unit. -/
  goal : Int := 0
  theta : Int := 0
  lockRun : Nat := 0
  unlockRun : Nat := 0
  /-- R218: the emitter SEARCH calls, and the emitters seeded. -/
  search : Nat := 1
  seeded : Nat := 0
  /-- R218: missed calls of that emitter in its search, and emitters whose search has ended with two of them. -/
  srchMiss : Nat := 0
  tried : Nat := 0
  /-- Emitters dropped, in order of declaration, with the facet of the second missing call (R222). -/
  drops : List (Nat × Nat) := []
  /-- R226, R227: the first missing call of emitters, with the page on the station; a drop has been declared between frames; `now`
  of each declaration, by emitter (R229). -/
  missPage : List Miss := []
  dropIdle : Bool := false
  dropNow : List (Nat × Nat) := []
  /-- Missed calls in a row while a restore is pending (R229). -/
  restMiss : List (Nat × Nat) := []
  /-- Frame in progress: first grid line, and the trims latched at its start (R162, R170, R177). -/
  g0 : Int := 0
  xoff : Int := 0
  xscale : Int := 0
  /-- Lines written, with a bit for each of the two writes; lines left blank; lost lines concealed. -/
  wrote : List (Nat × Nat) := []
  blank : List Nat := []
  healed : List Nat := []
  unconc : Bool := false
  /-- The facet of the last frame line started, of this frame and of the frame before it (R168). -/
  lineFno : Nat := 0
  prevFno : Nat := 0
  /-- Bands asked for and not arrived, (slot, tag plane, index); the next to ask for; bands held (R84, R85). -/
  asked : List (Nat × Bool × Nat) := []
  next : List (Nat × Bool × Nat) := []
  held : List BandHeld := []
  /-- Bands with a line blanked for want of its data, (slot, index), also where they had not arrived (R89). -/
  absent : List (Nat × Nat) := []
  /-- R178: updated frames in a row inside CONV_WIN. -/
  conv : Nat := 0
  /-- R32: D_s of the frame on the station, as latched; ST_DS_EFF shows its low 32 bits. -/
  dsEff : Int := 0
  /-- Lines of this frame counted in ST_LATE_LINES (R86), and lines whose last write has passed (R87). -/
  late : List Nat := []
  done : List Nat := []
  deriving DecidableEq, Repr

/-- R174, R182: a mark sensor's pin: its level, the level that has passed the filter, and the `now`, ETIME and WPOS of the
pin's last change. -/
structure MkPin where
  raw : Bool := false
  level : Bool := false
  at_ : Nat := 0
  etime : Nat := 0
  w : Int := 0
  deriving DecidableEq, Repr

/-- R174–R176: a mark captured in a frame; `d` is its centre less E in 1/131,072 unit. -/
structure Mark where
  plan : Nat
  station : Nat
  sensor : Nat
  kind : Nat
  d : Int
  deriving DecidableEq, Repr

/-- R175: an admitted frame whose mark windows are not all closed, with leading edges that wait for their trailing
edge as (plan, ETIME, WPOS). -/
structure RegFrame where
  slot : Nat := 0
  tag : Nat := 0
  pageId : Nat := 0
  mask : Nat := 0
  fp : Int := 0
  lead : List (Nat × Nat × Int) := []
  marks : List Mark := []
  /-- Stations whose update has been made (R177). -/
  updated : Nat := 0
  deriving DecidableEq, Repr

/-- R186–R211: one beam driver: the pulses of its line, as (start after the line's nominal start, width) in 1/256
pixel, with the codes that drive them. -/
structure Beam where
  pulses : List (Int × Nat) := []
  /-- The facet reference its line is placed from, in 4 ps units, and the instant from which ONMAX counts its runs (R213). -/
  tf : Nat := 0
  onSince : Int := 0
  /-- The frame line it writes or last wrote. -/
  line : Option Nat := none
  /-- BIAS and MOD as its last line start took them, and the MOD of its line, which line heal may raise (R188, R224). -/
  bias : Nat := 0
  mod : Nat := 0
  lineMod : Nat := 0
  /-- MOD that APC has formed for the next line start (R198). -/
  next : Option Nat := none
  /-- MOD has been scaled for derating, and the emitter is OFF under a thermal cut, each from a line start on (R200). -/
  scaled : Bool := false
  cut : Bool := false
  /-- Pages admitted before a watchdog cut (R205). -/
  cutSlots : List Nat := []
  deriving DecidableEq, Repr

/-- R190–R202: one octet. -/
structure Octet where
  /-- Last four conversions, 1/16 °C, latest first (R199). -/
  temps : List Int := []
  /-- `now` from which a derate and a cut act at line starts (R200). -/
  derateAt : Nat := 0
  cutAt : Nat := 0
  /-- The derate or cut that was due has not yet acted at a line start (R200). -/
  derateDue : Bool := false
  cutDue : Bool := false
  /-- Pages that the thermal cut holds the octet OFF for (R201). -/
  cutSlots : List Nat := []
  /-- Pages admitted by the sample that released a cut which had not acted yet (R201). -/
  dueSlots : List Nat := []
  /-- A sample below T_DERATE − HYST has come since the derate (R202). -/
  coolDerate : Bool := false
  /-- R191: enabled for emission; emitters that have started a line since the disable. -/
  enabled : Bool := false
  offMask : Nat := 0
  /-- `now` at which BSEN was asserted (R190). -/
  bsenAt : Option Nat := none
  deriving DecidableEq, Repr

/-- R208–R214: the interlock inputs. -/
structure Interlock where
  /-- `now` since which A and B have been high, and since which they agree or disagree. -/
  aHigh : Nat := 0
  bHigh : Nat := 0
  changed : Nat := 0
  deriving DecidableEq, Repr

/-- R394, R395: the value the active island presents at a Clasp, the passed value and the `now` of the last accepted presentation. -/
structure Clasp where
  /-- The command value (R405), and what the active island presents. -/
  cmd : Nat := 0
  want : Nat := 0
  value : Nat := 0
  acceptedAt : Nat := 0
  /-- ACK before the cycle of the last acceptance (R394). -/
  ackWas : Nat := 0
  deriving DecidableEq, Repr

/-- R291: a sweep in progress: CAP, whether it stages and where, its start, and the transaction part it answers, none
for CLK_CMD; whether it is the boot controller's (R503). -/
structure SweepJob where
  cap : Nat
  stage : Bool
  entry : Nat
  start : Nat
  ref : Option Nat
  boot : Bool := false
  deriving DecidableEq, Repr

/-- R285–R303: what a PLL holds beside its registers. -/
structure Pll where
  /-- `now` at the start of the acquisition and of the stay in PULL; this acquisition has searched; a search runs. -/
  startAt : Nat := 0
  pullAt : Nat := 0
  searched : Bool := false
  searching : Bool := false
  /-- The fine code: as preset, or frozen in HOLDOVER. -/
  fine : Nat := 0
  /-- HOST_TAG of the CLK_HOP that began the acquisition, 0 for none. -/
  tag : Nat := 0
  /-- The hop memory entry and the HOST_TAG that a CLK_HOP hands to the acquisition of its commit. -/
  nextEntry : Option Nat := none
  nextTag : Nat := 0
  /-- Hop memory entries, the least recently used first (R290). -/
  used : List Nat := []
  /-- R293: the station's output is held low until COARSE. -/
  held : Bool := false
  /-- CLK_HOPs that wait for FINE: the transaction part, none for CLK_CMD, and the start (R300). -/
  hops : List (Option Nat × Nat) := []
  sweep : Option SweepJob := none
  /-- R301: FCW in use and `now` when the ramp started; the next update; OP 2 in progress and what waits for it. -/
  rampFrom : Nat := 0
  rampAt : Nat := 0
  rampNext : Nat := 0
  returning : Bool := false
  backs : List (Option Nat) := []
  /-- R303: the ramp holds for want of a band. -/
  noBand : Bool := false
  /-- R298: not locked under R297 since it last left COARSE and FINE. -/
  unlocked : Bool := true
  /-- `now` of the last 0x4031 and 0x4030 posted outside frames. -/
  limitAt : Option Nat := none
  swallowAt : Option Nat := none
  deriving DecidableEq, Repr

/-- The clocks: SYS, MEM, MOT, AUX, SP0–SP7; and `now` of the loss of the reference. -/
structure ClockSt where
  plls : List Pll := List.replicate 12 {}
  refLostAt : Nat := 0
  /-- R287: the pins LOCKA[0]–LOCKA[3]. -/
  lockA : List Bool := List.replicate 4 false
  /-- Keys of core band table fields that a commit has set; the others hold the fuse records (R289). -/
  coreSet : List Nat := []
  deriving DecidableEq, Repr

/-- R311, R322, R323: what a channel's gate drives do: all off; PWM with the three duties; the low-side switches closed, or open
for the chop of a brake; the pulses of an attempt. -/
inductive MotDrive where
  | off
  | pwm
  | brake (on : Bool)
  | pulses
  deriving DecidableEq, Repr

/-- R321: the space vector of the phase voltages: `now` of the first and the last tick, its direction (2^-16 turn), its rotation
since the first (2^-16 turn), its amplitude (µV). -/
structure Emf where
  t0 : Nat
  t1 : Nat
  ang : Nat
  rot : Int
  amp : Nat
  deriving DecidableEq, Repr

/-- R311–R330: a motor channel. Times are `now`; currents in µA, voltages in µV, speeds in 10^-6 rev/s, angles in 2^-32
electrical turn. -/
structure Mot where
  stateAt : Nat := 0
  /-- The last opening of the switches in BRAKE, or its start (R322). -/
  measuredAt : Nat := 0
  emf : Option Emf := none
  drive : MotDrive := .off
  /-- High-side duties of U, V, W in 1/65,536. -/
  duties : List Nat := [0, 0, 0]
  /-- The speed of the source in use. -/
  spd : Int := 0
  /-- The observer runs; angle and speed of the observer, of the injection's tracking observer, of open-loop drive. -/
  obsOn : Bool := false
  obsAng : Nat := 0
  obsSpd : Int := 0
  injAng : Nat := 0
  injSpd : Int := 0
  openAng : Nat := 0
  openSpd : Int := 0
  /-- The injection's phase; the observer's confidence, averaged over the last electrical period. -/
  hfi : Nat := 0
  obsC : Nat := 0
  /-- R326: the observer's confidence samples of the last electrical period, latest first, with their `now`. -/
  obsConfs : List (Nat × Nat) := []
  /-- Attempts of the present ALIGN. -/
  attempt : Nat := 1
  /-- R323: a vector of the attempt, when it began, and whether the next one waits for the current to fall. -/
  pulseK : Nat := 0
  pulseAt : Nat := 0
  pulseWait : Bool := false
  /-- Largest pulse peak and that of the opposite vector. -/
  pMax : Nat := 0
  pOpp : Nat := 0
  target : Int := 0
  /-- Loop ticks counted modulo 4. -/
  tick : Nat := 0
  iqRef : Int := 0
  sInt : Int := 0
  dInt : Int := 0
  qInt : Int := 0
  id : Int := 0
  iq : Int := 0
  vd : Int := 0
  vq : Int := 0
  /-- CONF samples of the last electrical period, latest first, with their `now`. -/
  confs : List (Nat × Nat) := []
  lowSince : Option Nat := none
  okSince : Option Nat := none
  atSince : Option Nat := none
  /-- MOT_CMDs that wait: transaction part, OP, start. -/
  cmds : List (Nat × Nat × Nat) := []
  deriving DecidableEq, Repr

/-- R331: a command pin: its set-point, consecutive valid measurements since it became invalid, last measurement. -/
structure CmdPin where
  setpt : Int := 0
  invalid : Bool := false
  good : Nat := 0
  lastAt : Nat := 0
  deriving DecidableEq, Repr

/-- R333: an external drive output: a value that waits for the end of the period, when the value in use began, and
XD_CMD parts that wait; since when the rate has been within AT_WIN (R334). -/
structure Xd where
  next : Option (Nat × Nat) := none
  since : Nat := 0
  waits : List Nat := []
  atSince : Option Nat := none
  deriving DecidableEq, Repr

/-- R340: a profile segment: start position (2^-32 step), speed (2^-16 step/s), acceleration (2^-16 step/s²), jerk
(step/s³), duration (ps), position at its end; whether a move, or the run to the solstice, ends with it. -/
structure Seg where
  p : Int
  v : Int
  a : Int
  j : Int
  dur : Nat
  pEnd : Int
  vEnd : Int
  aEnd : Int
  moveEnd : Bool := false
  solEnd : Bool := false
  deriving DecidableEq, Repr

/-- R345: a queued move. Speeds in 1/256 step/s, jerk in step/s³. -/
structure Move where
  target : Int
  vmax : Nat
  amax : Nat
  jmax : Nat
  blend : Nat
  tag : Nat
  notify : Bool
  deriving DecidableEq, Repr

/-- R350: a homing pass: 1 leaving the active input, 2 backing off, 3 seeking, 4 stopping after a latch, 5 returning,
6 approaching, 7 stopping after a failure. -/
structure Home where
  ref : Nat
  phase : Nat
  start : Int
  passes : Nat := 0
  latched : Int := 0
  latchedAt : Nat := 0
  cause : Nat := 0
  deriving DecidableEq, Repr

/-- R348: a raw edge that has not been qualified: c, ETIME and WPOS on its tick, with its `now`. -/
structure SwEdge where
  at_ : Nat
  c : Int
  etime : Nat
  wpos : Int
  deriving DecidableEq, Repr

/-- R348: a switch input: the level of its pin (log 155), its sampled level after the polarity, and its last raw edge. -/
structure SwIn where
  pin : Bool := true
  level : Bool := false
  edge : Option SwEdge := none
  deriving DecidableEq, Repr

/-- R340–R352: an axis beside its registers. -/
structure Axis where
  /-- R343: `now` of the leading edge of the STEP pulse that is active, and of the last change of DIR. -/
  stepAt : Option Nat := none
  dirAt : Option Nat := none
  homeIn : SwIn := {}
  limitIn : SwIn := {}
  queue : List Move := []
  /-- Segments in the engine, the start of the first in ps of `now`; the end state of the last delivered. -/
  segs : List Seg := []
  t0 : Nat := 0
  pEnd : Int := 0
  vEnd : Int := 0
  aEnd : Int := 0
  /-- Segments planned and not delivered; sequence number of the last delivered (R406). -/
  plan : List Seg := []
  seq : Nat := 0
  /-- The latch of HOME and of LIMIT is armed (R348). -/
  homeArmed : Bool := false
  limitArmed : Bool := false
  home : Option Home := none
  /-- AX_CTL STOPs that wait for IDLE, ESTOPs that wait for HALTED. -/
  stops : List Nat := []
  /-- The last entry to ESTOP posted a HARD event (R481). -/
  hard : Bool := false
  estops : List Nat := []
  deriving DecidableEq, Repr

/-- R353: a filtered input: the pin's level, since when, and the level behind the filter. -/
structure FiltIn where
  raw : Bool := false
  at_ : Nat := 0
  level : Bool := false
  deriving DecidableEq, Repr

/-- R353–R355: an encoder: its inputs A, B and Z; counts at the last enable, contribution and exact position in 2^-24 unit, `now` of the last
count, the last interval, the direction it moved. -/
structure Enc where
  a : FiltIn := {}
  b : FiltIn := {}
  z : FiltIn := {}
  base : Int := 0
  exact : Int := 0
  contrib : Int := 0
  lastAt : Nat := 0
  interval : Nat := 0
  dir : Int := 1
  /-- `now` of the illegal transitions of the last second, and of the last 0x5200. -/
  illegal : List Nat := []
  errAt : Option Nat := none
  /-- R353: WPOS at the last Z edge. -/
  zWpos : Int := 0
  deriving DecidableEq, Repr

/-- R355–R359: the web tracker, in 1/256 unit. -/
structure Web where
  g : Int := 0
  o : Int := 0
  f : Int := 0
  /-- What makes f continuous after a change of source (R358). -/
  off : Int := 0
  /-- SEC's contribution at the last PRI count. -/
  secAtPri : Int := 0
  /-- The span of the comparison at its start: f, and the contributions of PRI and SEC in 2^-24 unit. -/
  spanF : Int := 0
  spanPri : Int := 0
  spanSec : Int := 0
  /-- f at the last VWEB updates, latest first, with their `now` (R359). -/
  hist : List (Nat × Int) := []
  /-- WPOS as published on the previous 10 ns tick (R25); a preset that takes effect on the next (R27). -/
  prev : Int := 0
  preset : Option Int := none
  deriving DecidableEq, Repr

/-- R370: the state of one step: I, d, e_prev, s1, s2, y_prev, m. -/
structure StepSt where
  i : Int := 0
  d : Int := 0
  e : Int := 0
  s1 : Int := 0
  s2 : Int := 0
  y : Int := 0
  m : Int := 0
  deriving DecidableEq, Repr

/-- R364–R378: a loop slot beside its registers. Both islands compute it from the same inputs on the same ticks, so it is
held once. -/
structure LoopSlot where
  steps : List StepSt := []
  /-- The output computed at the last tick, not yet delivered; the output last delivered. -/
  due : Option Int := none
  delivered : Int := 0
  /-- LOOP_CTLs that wait for a tick: transaction part, OP, VALUE. -/
  ctls : List (Nat × Nat × Nat) := []
  /-- ETIME of the last class tick seen, and class ticks since the last run. -/
  tickAt : Option Nat := none
  count : Nat := 0
  /-- q of the encoders at the last exit from OFF. -/
  qref : List Int := List.replicate 8 0
  /-- Sum and count of the sense samples of each input at the previous tick. -/
  sense : List (Nat × Nat) := List.replicate 4 (0, 0)
  /-- R375: HOLD has become 1 and takes the slot to OFF at its next tick. -/
  held : Bool := false
  /-- R376: the tick in whose cycle SETPT was last written, and its value before. -/
  setOld : Option (Nat × Nat) := none
  /-- R19, R368: the tick of the last delivery, and the output delivered before it. -/
  before : Nat × Int := (0, 0)
  deriving DecidableEq, Repr

/-- R383, R384: a high-voltage channel: sense samples summed and counted, samples in a row at TRIP or above, and `now`
from which a new duty is in use. -/
structure Hv where
  sum : Nat := 0
  count : Nat := 0
  high : Nat := 0
  dutyAt : Option Nat := none
  /-- The last trip posted 0x6020 with HARD (R481). -/
  hard : Bool := false
  deriving DecidableEq, Repr

/-- R387: a fuser zone: its accumulator, the decision of the last rising edge, its output FZ[n], the changes of that output that
are to come (`now`, level), and `now` of the last half-cycle that conducts with HALVES before it. -/
structure Fz where
  acc : Nat := 0
  rising : Bool := false
  out : Bool := false
  edges : List (Nat × Bool) := []
  counted : Option (Nat × Nat) := none
  deriving DecidableEq, Repr

/-- R386: the zero-cross input: `now` of the last edge, the last intervals in ns, loss posted. -/
structure Zc where
  lastAt : Option Nat := none
  since : Nat := 0
  intervals : List Nat := []
  lost : Bool := false
  deriving DecidableEq, Repr

/-- R399: a heartbeat on its way to the peer: the sender's STATE, Signet, LKSEQ and last TSEQ, its flags and sequence
number. -/
structure Beat where
  state : Nat
  signet : Nat
  lkseq : Nat
  tseq : Nat
  resign : Bool
  handover : Bool
  fenced : Bool
  seq : Nat
  deriving DecidableEq, Repr

/-- R37, R414: an island's own copy of a loop slot, where it is not the active island's: its registers (active values) and the
slot's run. -/
structure SlotCopy where
  slot : Nat
  regs : FieldMap := []
  run : LoopSlot := {}
  deriving DecidableEq, Repr

/-- R399–R414: an island beside its registers. -/
structure Island where
  /-- Both cores have advanced since the previous heartbeat. -/
  alive : Bool := true
  /-- The heartbeat on its path to the peer; its number; `now` of the last heartbeat sent. -/
  beat : Option Beat := none
  beatSeq : Nat := 0
  sentAt : Option Nat := none
  /-- The last valid heartbeat received and its `now`; none has come for 20 µs. -/
  heard : Option Beat := none
  heardAt : Nat := 0
  peerLost : Bool := true
  /-- It has lost a bid and received no valid heartbeat since (R401). -/
  bidLost : Bool := false
  /-- `now` of the last bid (R400), its trigger (0–3 as 0x7001 gives, 4 the self-test) and ACK_MAX before it. -/
  bidAt : Option Nat := none
  bidCause : Nat := 4
  bidPrev : Nat := 0
  /-- Slots in flight on the tick the bid's Signet was first acknowledged (R408). -/
  ackSlots : Option (List Nat) := none
  /-- HANDOVER sent (R416); `now` at which it could first see an ACK above its Signet (R400). -/
  handover : Bool := false
  ackAt : Option Nat := none
  /-- 0x7007 posted for the present want of a successor. -/
  noSucc : Bool := false
  /-- `now` at the start of the self-test. -/
  testAt : Nat := 0
  /-- Rejoin under way and finished (R414); its peer has lost it (R401). -/
  rejoining : Bool := false
  rejoined : Bool := false
  declaredLost : Bool := false
  /-- R402: `now` at which its peer last lost it, and its READY before. -/
  lostAt : Option (Nat × Bool) := none
  /-- R404: LKSEQ of the last Locket that failed its validation. -/
  badLk : Option Nat := none
  /-- R417: it has tested itself again since it booted. -/
  retested : Bool := false
  /-- The last BIST slice passed, no uncorrectable error since the self-test, the latest Locket is good (R401, R413). -/
  bistOk : Bool := true
  scrubOk : Bool := true
  locketOk : Bool := true
  /-- It presents Locket values until it has resumed (R407). -/
  resuming : Bool := false
  /-- Failed comparisons, corrected errors and slices passed in the HEALTH period, and its last record's ETIME. -/
  mm : Nat := 0
  ce : Nat := 0
  slices : Nat := 0
  healthAt : Nat := 0
  /-- ISL_CMD RETESTs that wait: the transaction part, none for CLASP_ISL_CMD. -/
  retests : List (Option Nat) := []
  /-- R37, R414: its own copies of the loop slots it has not taken from the active island; any other slot equals that one's. -/
  slots : List SlotCopy := []
  deriving DecidableEq, Repr

/-- R405: a Locket. -/
structure Locket where
  lkseq : Nat
  tseq : Nat
  etime : Nat
  wpos : Int
  /-- Body length in bytes and CRC-32C over the body. -/
  bodyLen : Nat := 0
  crc : Nat := 0
  valid : Bool
  /-- Almanac control: ALM_TAIL, F_p of each page ring, slots decided by no one yet. -/
  tail : Int
  lastFp : List (Option Int)
  undecided : List Nat
  /-- Planner: queue, segment number and homing pass of each axis. -/
  axes : List (List Move × Nat × Option Home)
  /-- Machine transactions in progress. -/
  txns : List MTxn
  /-- Command values of the Clasps. -/
  cmds : List Nat
  deriving DecidableEq, Repr

/-- The islands, A first, the two banks of the Locket store and the switches in progress: the new Signet once bid, and
the transaction part, none for CLASP_ISL_CMD. -/
structure IslandsSt where
  isls : List Island := List.replicate 2 {}
  lockets : List (Option Locket) := [none, none]
  switches : List (Option Nat × Option Nat) := []
  deriving DecidableEq, Repr

/-- R424–R428: a change of state or a wake of a single domain. -/
structure PowerJob where
  /-- The state being entered, or for a single domain the present one; the state before. -/
  target : Nat
  frm : Nat
  dom : Option Nat := none
  /-- R460: the power-on wake. -/
  powerOn : Bool := false
  /-- Domains of an attempt in wake order; those still to wake; the step of the first (1–4) and `now` of its start. -/
  all : List Nat := []
  left : List Nat := []
  step : Nat := 0
  stepAt : Nat := 0
  /-- Domains the attempt has changed, with their previous levels. -/
  changed : List (Nat × Nat) := []
  attempt : Nat := 1
  /-- `now` of the next attempt, between two. -/
  retryAt : Option Nat := none
  /-- What it answers: nothing, PWR_CMD (some none), or a transaction part. -/
  ref : Option (Option Nat) := none
  /-- R432: the wake source and VTIME at its firing. -/
  cause : Option (Nat × Nat) := none
  deriving DecidableEq, Repr

/-- R421–R435: the power-state controller and the ember loop beside their registers. -/
structure PowerSt where
  job : Option PowerJob := none
  /-- Domains that wait to be woken singly, with the PWR_DOMAINs they answer. -/
  wanted : List (Nat × Option Nat) := []
  /-- R457: the latest four events that arose while PD_HOST was off: severity, code, block, instance, detail. -/
  held : List (Nat × Nat × Nat × Nat × BitVec 80) := []
  /-- R421: the FROM of an entry to VIGIL whose 0x8001 waits for the wake. -/
  vigilFrom : Option Nat := none
  /-- VTIME at which each wake source last fired, by bit. -/
  firedAt : List Nat := List.replicate 9 0
  /-- WAKE_N is driven low (R432). -/
  wakeN : Bool := false
  /-- VTIME has reached VIG_ALARM. -/
  alarmed : Bool := true
  /-- R430: `now` since which PD_CODEC has had nothing to do. -/
  codecIdle : Option Nat := none
  /-- R461: `now` of the next power-on wake. -/
  wakeAgain : Option Nat := none
  /-- R434: the ember zone's accumulator, the decision of the last rising edge, its last conversions, the last sample. -/
  emberAcc : Nat := 0
  emberRising : Bool := false
  emberTemps : List Int := []
  emberAt : Option Nat := none
  /-- R434: PD_MOT is ON, and no zero-cross has come since its logic step. -/
  emberTail : Bool := false
  /-- R528: the supplies below 90 % of their nominal value: bit 0 VDD_CORE, 1 VDD_IO18, 2 VDD_VIG, 3 VDD_IO33. -/
  low : Nat := 0
  /-- R429, R432: the wake sources that fired during the present job; a wake is judged again: after a job that is done or a
  commit of VIG_WAKE_EN (true), or after one that failed, by the sources that fired during it (false). -/
  firedIn : List Nat := []
  recheck : Option Bool := none
  /-- R459: 0x8032 waits for PD_HOST. -/
  xtalDue : Bool := false
  /-- R536: 0x8070 posted since the reading was last 5 °C below TJ_WARN; the last sample was at 125 °C. -/
  tjWarned : Bool := false
  tjHot : Bool := false
  deriving DecidableEq, Repr

/-- R440: a rail beside its registers. -/
structure Rail where
  /-- `now` at which ON_DLY began (WAIT) or EN was asserted (RAMP). -/
  since : Nat := 0
  /-- The qualified level of the PG pin (R438). -/
  pin : Bool := false
  /-- PG is lost; `now` of the last 0x8050 (R444). -/
  lost : Bool := false
  /-- It has been commanded on: EN[Pk] asserted, or OPERATION 0x80 over PMBus. -/
  on : Bool := false
  warnAt : Option Nat := none
  /-- Consecutive polls that read PG as lost, the last STATUS_WORD and the last poll (R447). -/
  badPolls : Nat := 0
  status : Nat := 0
  polledAt : Option Nat := none
  /-- RAIL_SET on that waits: the transaction part, none for SEQ_CMD. -/
  waits : List (Option Nat) := []
  deriving DecidableEq, Repr

/-- R447: a PMBus master transfer. KIND 0 send byte, 1 write byte, 2 write word, 3 read byte, 4 read word. -/
structure PmXfer where
  addr : Nat
  page : Option Nat
  cmd : Nat
  kind : Nat
  data : Nat
  /-- The rail it switches or polls; what it answers: nothing, or the PMB_XFER part. -/
  rail : Option Nat
  ref : Option Nat
  tries : Nat := 0
  deriving DecidableEq, Repr

/-- R441–R454: the sequencer and the PMBus port beside their registers. -/
structure SeqSt where
  rails : List Rail := List.replicate 24 {}
  /-- `now` of entry to the present state; why the pending on request was made (R457). -/
  stateAt : Nat := 0
  pendCause : Nat := 0
  /-- VTIME and cause of the last on request; VTIME at which it started UP, and `stateAt` before it; VTIME of the last off
  request that acted, and the state it met; VTIME of the last trip of PFI (R443). -/
  onAt : Option (Nat × Nat) := none
  upFrom : Option (Nat × Nat) := none
  offAt : Option (Nat × Nat) := none
  tripCycle : Option Nat := none
  /-- A commit has read a PG pin again (R438). -/
  pgDue : Bool := false
  /-- R442: an off request waits for the ramping rail, with its cause. -/
  off : Option Nat := none
  /-- `now` at which the highest programme rail came ON; at which SEQ_OUT was released, with the cause. -/
  topAt : Option Nat := none
  cascAt : Option (Nat × Nat) := none
  /-- The cause of the present DOWN. -/
  downCause : Nat := 0
  /-- DOWN, SHUTDOWN: the next release counts OFF_DLY from here; a released rail whose PG fall is awaited, and until. -/
  relAt : Nat := 0
  relWait : Option (Nat × Nat) := none
  /-- SEQ_UPs and SEQ_DOWNs that wait: the transaction part, none for SEQ_CMD. -/
  ups : List (Option Nat) := []
  downs : List (Option Nat) := []
  /-- R449–R452: PFW_N low; `now` since which PFI has been good; of the trip, the end of the shutdown, and whether the
  input came back during it; a restart is under way; the domains are down. -/
  pfw : Bool := false
  goodAt : Nat := 0
  tripAt : Nat := 0
  endAt : Nat := 0
  back : Bool := false
  restarted : Bool := false
  domsDown : Bool := false
  /-- HVPWM duties in use at the trip (R451). -/
  duties : List Nat := []
  /-- The transfers of the master role, the one on the bus first. -/
  xfers : List PmXfer := []
  /-- R448: CML; a rail fault since CLEAR_FAULTS; PM_ALERT_N driven low; the data last read from the device. -/
  cml : Bool := false
  railFault : Bool := false
  alert : Bool := false
  reply : Option Nat := none
  deriving DecidableEq, Repr

/-- R458–R467: start-up and patches beside their registers. -/
structure BootSt where
  /-- PORST_N is low (R527). -/
  porst : Bool := true
  /-- `now` at which PORST_N was released; the source of the 25 MHz reference is fixed (R283). -/
  releasedAt : Nat := 0
  refFixed : Bool := false
  /-- R459: Vigil runs from the qualified crystal. -/
  xtal : Bool := false
  /-- R464: the flash has been read for the present boot; its patch is good. -/
  flashRead : Bool := false
  flashGood : Bool := false
  /-- R467: what the application of a host image waits for: 1 the standby's
  retest, 2 READY, 3 the switch, 4 the former active island's retest; the island tested. -/
  phase : Nat := 0
  isl : Nat := 0
  newSvn : Nat := 0
  /-- R467, R259: PATCH_LEN as the load began, and whether its reads lie in the windows in force then. -/
  load : Nat × Bool := (0, false)
  deriving DecidableEq, Repr

/-- R470: `now` since which the conditions of P and of F have held at every evaluation; the last evaluation. -/
structure TierSt where
  pSince : Option Nat := none
  fSince : Option Nat := none
  evalAt : Option Nat := none
  /-- R470: the value to be written to TIER and `now` of that tick; the tick (10 ns) TIER last changed on and its value before. -/
  next : Option (Nat × Nat) := none
  was : Nat × Nat := (0, 0)
  deriving DecidableEq, Repr

/-- R282: a legacy pair of which a half has been written: the address of the first half written and of the other, their
written values, and the start. -/
structure PairHold where
  addr : Nat
  other : Nat
  val : Nat
  val2 : Option Nat
  start : Nat
  deriving DecidableEq, Repr

/-- R501–R510: a legacy station: the next frame's number; the number of the facet that LBD last requested, and whether the
facet before it was requested; the number of the facet that opened the frame (LTOP); packets held as (emitter, facet, codes); 0xA020 posted for this frame. -/
structure LegStation where
  next : Nat := 0
  asked : Option Nat := none
  before : Bool := false
  first : Nat := 0
  packets : List (Nat × Nat × List Nat) := []
  under : Bool := false
  /-- R506: a new frequency, in Hz, that waits for the station to be out of its frame, and whether SCAN_EN is to be
  set again at FINE. -/
  hop : Option Nat := none
  rescan : Bool := false
  /-- R506: a polygon frequency, in mHz, that waits for the end of the reference period. -/
  freq : Option Nat := none
  /-- R510: `now` of the latest pulse of LBD[s], and whether LTOP[s] pulsed with it. -/
  pulse : Option (Nat × Bool) := none
  deriving DecidableEq, Repr

/-- R511–R514: the transmitter of one LVT station: the page in its frame, its next facet within the frame, the packets sent
for the latest request. -/
structure LvtStation where
  page : Option Nat := none
  facet : Nat := 0
  sent : List (List Nat) := []
  deriving DecidableEq, Repr

/-- R494–R516: the legacy side beside its registers. -/
structure LegacySt where
  pairs : List PairHold := []
  /-- R506: an axis target that waits for the next L_AX_CMD. -/
  axTgt : Option Nat := none
  st : List LegStation := List.replicate 4 {}
  /-- Legacy frames, one per station, kept as page slots 160–163 of their own. -/
  frames : List Slot := List.replicate 4 {}
  /-- R500: RUN has been written 0 and the DISARM waits; F_run. -/
  stopping : Bool := false
  fRun : Int := 0
  /-- LP_INT_N low (R516). -/
  int : Bool := false
  /-- Values of native fields that legacy fields drive, by key, that wait for their groups' boundaries (R273, R282). -/
  due : List (Nat × Nat) := []
  /-- The transmitter: LVT pages accepted, in order; those admitted and not yet delivered, in order; each station; training
  goes on until `now`. -/
  lvtWait : List Nat := []
  lvtOrder : List Nat := []
  lvt : List LvtStation := List.replicate 8 {}
  trainAt : Option Nat := none
  looping : Bool := false
  deriving DecidableEq, Repr

/-- The state of the block. -/
structure State where
  pending : List Instr := []
  regs : FieldMap := []
  staged : FieldMap := []
  time : Time := {}
  host : HostIf := {}
  rings : List Ring := List.replicate 32 {}
  bezel : Bezel := {}
  alm : Almanac := {}
  band : Band := {}
  codec : CodecSt := {}
  tbl : TablesSt := {}
  flt : FaultSt := {}
  scan : List Scan := List.replicate 8 {}
  regf : List RegFrame := []
  mks : List MkPin := List.replicate 16 {}
  beams : List Beam := List.replicate 128 {}
  octs : List Octet := List.replicate 16 {}
  lsafe : Interlock := {}
  clasps : List Clasp := List.replicate 104 {}
  clk : ClockSt := {}
  mots : List Mot := List.replicate 16 {}
  pins : List CmdPin := List.replicate 8 {}
  xds : List Xd := List.replicate 8 {}
  axes : List Axis := List.replicate 32 {}
  encs : List Enc := List.replicate 8 {}
  web : Web := {}
  loops : List LoopSlot := List.replicate 192 {}
  hvs : List Hv := List.replicate 24 {}
  fzs : List Fz := List.replicate 8 {}
  /-- Last four conversions of each thermistor, 1/16 °C. -/
  ths : List (List Int) := List.replicate 16 []
  zc : Zc := {}
  isl : IslandsSt := {}
  pwr : PowerSt := {}
  seq : SeqSt := {}
  boot : BootSt := {}
  tier : TierSt := {}
  leg : LegacySt := {}
  /-- R13: W1C bits that hardware set in the present clock cycle: key, bits, `now`. -/
  justSet : List (Nat × Nat × Nat) := []
  freeCtr : Nat := 0
  deriving DecidableEq, Repr

/-- The block right after reset: PORST_N low (R527), every register at its reset value, every queue and memory empty; the
values the spec does not give are those of log 6 and 7. -/
def State.reset : State := {}

end Sys2Proof.Machine
end

