-- ==== Sys2Proof/Machine/Operands.lean ====
section
/-! DEFINITION. The operand forms: fields of 64-byte descriptors and of byte strings, signed values, sorted maps
(field values, band store bytes), bit masks, rounding. -/

namespace Sys2Proof.Machine

open Sys2Proof

/-! ### Numbers -/

/-- Two's complement reading of the low `w` bits of `n`. -/
def sInt (w n : Nat) : Int :=
  let m := n % 2 ^ w
  if m < 2 ^ (w - 1) then (m : Int) else (m : Int) - (2 ^ w : Nat)

/-- The low `w` bits of a signed value. -/
def uBits (w : Nat) (i : Int) : Nat := (i % ((2 ^ w : Nat) : Int)).toNat

/-- A signed value clamped to [lo, hi]. -/
def clampI (lo hi x : Int) : Int := if x < lo then lo else if hi < x then hi else x

/-- Saturating increase of a counter of `w` bits. -/
def satAdd (w n k : Nat) : Nat := min (n + k) (2 ^ w - 1)

/-- Division rounded up. -/
def ceilDiv (a b : Nat) : Nat := (a + b - 1) / b

/-- A quotient rounded to nearest, halves away from zero. -/
def roundDiv (a : Int) (b : Nat) : Int :=
  if 0 ≤ a then (2 * a + b) / (2 * b : Nat) else - ((2 * (-a) + b) / (2 * b : Nat))

/-- A quotient rounded towards zero. -/
def truncDiv (a : Int) (b : Nat) : Int := if 0 ≤ a then a / (b : Int) else - ((-a) / (b : Int))

/-- Bit `i` of a mask. -/
def bitSet (m i : Nat) : Bool := m.testBit i

/-- A mask with bit `i` set. -/
def setBit (m i : Nat) : Nat := m ||| 2 ^ i

/-- A mask with bit `i` cleared. -/
def clrBit (m i : Nat) : Nat := if m.testBit i then m - 2 ^ i else m

/-- The indices below `n` whose bit is set. -/
def bitsOf (n m : Nat) : List Nat := (List.range n).filter (fun i => m.testBit i)

/-- The number of set bits below `n`. -/
def popCount (n m : Nat) : Nat := (bitsOf n m).length

/-- 1 for true. -/
def b2n (b : Bool) : Nat := if b then 1 else 0

/-- The number whose bits a list gives, bit 0 first. -/
def packBits : List Bool → Nat
  | [] => 0
  | b :: t => b2n b + 2 * packBits t

/-! ### Descriptors and byte strings (R43, R238: little-endian) -/

/-- `n` bytes of a descriptor from byte `at`. -/
def dField (d : Desc) (a n : Nat) : Nat := (d.toNat >>> (8 * a)) % 2 ^ (8 * n)

def dOpcode (d : Desc) : Nat := dField d 0 1
def dFlags (d : Desc) : Nat := dField d 1 1
def dPhase (d : Desc) : Nat := dField d 1 1 % 2
def dChain (d : Desc) : Bool := (dFlags d).testBit 1
def dIrq (d : Desc) : Bool := (dFlags d).testBit 2
def dFence (d : Desc) : Bool := (dFlags d).testBit 3
def dCount (d : Desc) : Nat := dField d 2 2
def dTag (d : Desc) : Nat := dField d 4 4

/-- Whether bytes `a` to `b` (inclusive) of a descriptor are all 0. -/
def dZero (d : Desc) (a b : Nat) : Bool := dField d a (b + 1 - a) == 0

/-- A number built of (byte offset, byte count, value) parts. -/
def packBytes (fs : List (Nat × Nat × Nat)) : Nat :=
  (fs.map (fun (o, n, v) => (v % 2 ^ (8 * n)) <<< (8 * o))).sum

/-- An entry built of (byte offset, byte count, value) parts. -/
def mkEntry (fs : List (Nat × Nat × Nat)) : Desc := BitVec.ofNat 512 (packBytes fs)

/-- The entry with its PHASE bit set as given (R249). -/
def withPhase (d : Desc) (p : Nat) : Desc :=
  BitVec.ofNat 512 ((d.toNat - (dFlags d % 2) * 256) + (p % 2) * 256)

/-- The little-endian number that bytes spell. -/
def leNat : List Byte → Nat
  | [] => 0
  | b :: t => b.toNat + 256 * leNat t

/-- `n` bytes of a byte string from position `a`. -/
def bField (bs : List Byte) (a n : Nat) : Nat := leNat ((bs.drop a).take n)

/-- The `n` little-endian bytes of a number. -/
def leBytes : Nat → Nat → List Byte
  | 0, _ => []
  | n + 1, v => BitVec.ofNat 8 v :: leBytes n (v / 256)

/-! ### Sorted maps: keys strictly rising, no entry equal to what an unlisted key reads as -/

/-- The value at a key; `d` where the key is not listed. -/
def amGet {α : Type} (d : α) : List (Nat × α) → Nat → α
  | [], _ => d
  | (k', v) :: t, k => if k' = k then v else amGet d t k

/-- An entry put at its place. -/
def amIns {α : Type} : List (Nat × α) → Nat → α → List (Nat × α)
  | [], k, v => [(k, v)]
  | (k', v') :: t, k, v => if k < k' then (k, v) :: (k', v') :: t else (k', v') :: amIns t k v

/-- The map without a key. -/
def amDel {α : Type} : List (Nat × α) → Nat → List (Nat × α)
  | [], _ => []
  | (k', v') :: t, k => if k' = k then amDel t k else (k', v') :: amDel t k

/-- The map with a key's value replaced; a value equal to what an unlisted key reads as is not listed. -/
def amSet {α : Type} [DecidableEq α] (d : α) (m : List (Nat × α)) (k : Nat) (v : α) : List (Nat × α) :=
  if v = d then amDel m k else amIns (amDel m k) k v

/-- The value listed at a key, if any. -/
def amFind {α : Type} : List (Nat × α) → Nat → Option α
  | [], _ => none
  | (k', v) :: t, k => if k = k' then some v else if k < k' then none else amFind t k

/-- The map with a key listed at a value, whatever the value. -/
def amPut {α : Type} : List (Nat × α) → Nat → α → List (Nat × α)
  | [], k, v => [(k, v)]
  | (k', v') :: t, k, v =>
    if k < k' then (k, v) :: (k', v') :: t
    else if k = k' then (k, v) :: t
    else (k', v') :: amPut t k v

/-- Keys strictly rising from above `lo`. -/
def amSorted {α : Type} : Option Nat → List (Nat × α) → Bool
  | _, [] => true
  | lo, (k, _) :: t => (match lo with | none => true | some l => l < k) && amSorted (some k) t

/-- A field's key in a field map. -/
def Fld.key (f : Fld) : Nat := f.off * 32 + f.lo

/-! ### Lists -/

/-- Insertion by a key, before entries of an equal key. -/
def insertBy {α : Type} (le : α → α → Bool) (x : α) : List α → List α
  | [] => [x]
  | y :: t => if le x y then x :: y :: t else y :: insertBy le x t

/-- Insertion sort; entries of an equal key keep their order. -/
def sortBy {α : Type} (le : α → α → Bool) : List α → List α
  | [] => []
  | x :: t => insertBy le x (sortBy le t)

/-- The greatest number below 2^bits, over `acc`, that meets a monotone test. -/
def maxBelow (t : Nat → Bool) : Nat → Nat → Nat
  | 0, acc => acc
  | b + 1, acc => if t (acc + 2 ^ b) then maxBelow t b (acc + 2 ^ b) else maxBelow t b acc

/-- The integer square root. -/
def isqrt (n : Nat) : Nat := maxBelow (fun x => decide (x * x ≤ n)) 64 0

/-- The least of a list of integers, `d` where it is empty. -/
def minI (d : Int) : List Int → Int
  | [] => d
  | x :: t => t.foldl (fun a b => if b < a then b else a) x

/-- The greatest of a list of integers, `d` where it is empty. -/
def maxI (d : Int) : List Int → Int
  | [] => d
  | x :: t => t.foldl (fun a b => if a < b then b else a) x

end Sys2Proof.Machine
end

