-- ==== Sys2Proof/Machine/Inflate.lean ====
section
/-! DEFINITION. Decompression of raw DEFLATE (R103): stored, fixed and dynamic blocks of RFC 1951, which R103 names. -/

namespace Sys2Proof.Machine

open Sys2Proof

/-- The bits of a stream, each byte from its lowest bit on. -/
def bitStream (bs : List Byte) : List Bool := bs.flatMap (fun b => (List.range 8).map b.toNat.testBit)

/-- A field of `n` bits, lowest first, and the bits after it. -/
def takeBits (n : Nat) (bs : List Bool) : Option (Nat × List Bool) :=
  if bs.length < n then none
  else some ((bs.take n).foldr (fun b a => 2 * a + b2n b) 0, bs.drop n)

/-- A Huffman code: codes of each length from 1 to 15, and the symbols in the order of their codes. -/
structure Huff where
  counts : List Nat
  symbols : List Nat
  deriving DecidableEq, Repr

/-- The code that a list of code lengths gives, symbol by symbol. -/
def mkHuff (lens : List Nat) : Huff :=
  { counts := (List.range 15).map (fun l => (lens.filter (· == l + 1)).length)
    symbols := (List.range 15).flatMap (fun l => (lens.zipIdx.filter (fun x => x.1 == l + 1)).map (·.2)) }

/-- Codes of 15 bits that a set of lengths leaves unused; none where it is over-subscribed. -/
def Huff.left (h : Huff) : Option Nat :=
  h.counts.foldl (fun a c => a.bind (fun l => if 2 * l < c then none else some (2 * l - c))) (some 1)

/-- R103: a set of code lengths that is neither over-subscribed nor incomplete. -/
def Huff.complete (h : Huff) : Bool := h.left == some 0

/-- R103: a distance set is complete, or holds a single code of one bit, or no code at all. -/
def Huff.distOk (h : Huff) : Bool :=
  h.complete || h.symbols == [] || (h.symbols.length == 1 && h.counts.headD 0 == 1)

/-- One symbol: the codes of each length in turn. -/
def symAt (symbols : List Nat) : List Nat → Nat → Nat → Nat → List Bool → Option (Nat × List Bool)
  | [], _, _, _, _ => none
  | _ :: _, _, _, _, [] => none
  | c :: cs, code, first, index, b :: bs =>
    let code := code + b2n b
    if code < first + c then some (symbols.getD (index + (code - first)) 0, bs)
    else symAt symbols cs (2 * code) (2 * (first + c)) (index + c) bs

def Huff.next (h : Huff) (bs : List Bool) : Option (Nat × List Bool) := symAt h.symbols h.counts 0 0 0 bs

/-- Base and extra bits of length symbol 257 + `k`. -/
def lenCode (k : Nat) : Nat × Nat :=
  if k < 8 then (3 + k, 0)
  else if k = 28 then (258, 0)
  else (3 + (4 + k % 4) * 2 ^ (k / 4 - 1), k / 4 - 1)

/-- Base and extra bits of a distance symbol. -/
def distCode (k : Nat) : Nat × Nat :=
  if k < 4 then (1 + k, 0) else (1 + (2 + k % 2) * 2 ^ (k / 2 - 1), k / 2 - 1)

/-- A match of `n` bytes at a distance; the output is held last byte first. -/
def copyMatch (d : Nat) : Nat → List Byte → List Byte
  | 0, out => out
  | n + 1, out => copyMatch d n (out.getD (d - 1) 0#8 :: out)

/-- A length and distance of a match, and the bits after them. -/
def readMatch (dist : Huff) (sym : Nat) (bs : List Bool) : Option (Nat × Nat × List Bool) :=
  let (lb, le) := lenCode (sym - 257)
  (takeBits le bs).bind fun (lx, bs) =>
  (dist.next bs).bind fun (dsym, bs) =>
    if 29 < dsym then none else
    let (db, de) := distCode dsym
    (takeBits de bs).map fun (dx, bs) => (lb + lx, db + dx, bs)

/-- The symbols of a block; `fuel` bounds their number. Symbols 286 and 287, distance symbols 30 and 31 and a distance
before the first byte are errors (R103). Gives the bits after the block, none at an error, and the output as far as it came. -/
def inflateSyms (lit dist : Huff) : Nat → List Bool → List Byte → Option (List Bool) × List Byte
  | 0, _, out => (none, out)
  | fuel + 1, bs, out =>
    match lit.next bs with
    | none => (none, out)
    | some (sym, bs) =>
      if sym < 256 then inflateSyms lit dist fuel bs (BitVec.ofNat 8 sym :: out)
      else if sym = 256 then (some bs, out)
      else if 285 < sym then (none, out)
      else match readMatch dist sym bs with
        | none => (none, out)
        | some (len, d, bs) =>
          if out.length < d then (none, out) else inflateSyms lit dist fuel bs (copyMatch d len out)

/-- The code lengths of a dynamic block, run by run; `fuel` bounds their number, the list is last length first. -/
def readLens (h : Huff) (total : Nat) : Nat → List Bool → List Nat → Option (List Nat × List Bool)
  | 0, _, _ => none
  | fuel + 1, bs, acc =>
    if acc.length = total then some (acc.reverse, bs)
    else if total < acc.length then none
    else (h.next bs).bind fun (sym, bs) =>
      if sym < 16 then readLens h total fuel bs (sym :: acc)
      else if sym = 16 then
        match acc with
        | [] => none
        | p :: _ => (takeBits 2 bs).bind fun (x, bs) => readLens h total fuel bs (List.replicate (3 + x) p ++ acc)
      else if sym = 17 then (takeBits 3 bs).bind fun (x, bs) => readLens h total fuel bs (List.replicate (3 + x) 0 ++ acc)
      else (takeBits 7 bs).bind fun (x, bs) => readLens h total fuel bs (List.replicate (11 + x) 0 ++ acc)

/-- The order in which a dynamic block gives the lengths of its code-length code. -/
def lenOrder : List Nat := [16, 17, 18, 0, 8, 7, 9, 6, 10, 5, 11, 4, 12, 3, 13, 2, 14, 1, 15]

/-- `n` three-bit lengths. -/
def readTriples : Nat → List Bool → Option (List Nat × List Bool)
  | 0, bs => some ([], bs)
  | n + 1, bs => (takeBits 3 bs).bind fun (x, bs) => (readTriples n bs).map fun (xs, bs) => (x :: xs, bs)

/-- The two codes of a dynamic block. -/
def dynamicCodes (bs : List Bool) : Option (Huff × Huff × List Bool) :=
  (takeBits 5 bs).bind fun (hlit, bs) =>
  (takeBits 5 bs).bind fun (hdist, bs) =>
  (takeBits 4 bs).bind fun (hclen, bs) =>
  (readTriples (hclen + 4) bs).bind fun (cl, bs) =>
    let h := mkHuff ((List.range 19).map (fun k => cl.getD (lenOrder.findIdx (· == k)) 0))
    if !h.complete then none else
    (readLens h (hlit + 257 + hdist + 1) (hlit + hdist + 259) bs []).bind fun (lens, bs) =>
      let lit := mkHuff (lens.take (hlit + 257))
      let dist := mkHuff (lens.drop (hlit + 257))
      if lit.complete && dist.distOk then some (lit, dist, bs) else none

/-- The codes of a fixed block. -/
def fixedLit : Huff :=
  mkHuff (List.replicate 144 8 ++ List.replicate 112 9 ++ List.replicate 24 7 ++ List.replicate 8 8)

def fixedDist : Huff := mkHuff (List.replicate 32 5)

/-- A stored block: LEN, its complement, and LEN bytes from the next byte boundary on. -/
def storedBlock (bs : List Bool) (out : List Byte) : Option (List Bool) × List Byte :=
  match (takeBits 16 (bs.drop (bs.length % 8))).bind (fun (len, bs) => (takeBits 16 bs).map (fun (nlen, bs) => (len, nlen, bs))) with
  | none => (none, out)
  | some (len, nlen, bs) =>
    if len + nlen ≠ 65535 then (none, out)
    else
      let byte (i : Nat) : Byte := BitVec.ofNat 8 (((bs.drop (8 * i)).take 8).foldr (fun b a => 2 * a + b2n b) 0)
      (if bs.length < 8 * len then none else some (bs.drop (8 * len)),
        ((List.range (min len (bs.length / 8))).map byte).reverse ++ out)

/-- The blocks of a stream up to the one with BFINAL; `fuel` bounds their number. -/
def inflateBlocks : Nat → List Bool → List Byte → Option (List Bool) × List Byte
  | 0, _, out => (none, out)
  | fuel + 1, bs, out =>
    match (takeBits 1 bs).bind (fun (final, bs) => (takeBits 2 bs).map (fun (kind, bs) => (final, kind, bs))) with
    | none => (none, out)
    | some (final, kind, bs) =>
      let body := match kind with
        | 0 => storedBlock bs out
        | 1 => inflateSyms fixedLit fixedDist (bs.length + 1) bs out
        | 2 => (match dynamicCodes bs with
          | none => (none, out)
          | some (lit, dist, bs) => inflateSyms lit dist (bs.length + 1) bs out)
        | _ => (none, out)
      match body with
      | (none, out) => (none, out)
      | (some bs, out) => if final = 1 then (some bs, out) else inflateBlocks fuel bs out

/-- R103: the content of a raw stream as far as it is sound, and the bytes a sound stream takes; none for STREAM_ERROR. -/
def rawInflate (src : List Byte) : List Byte × Option Nat :=
  let bs := bitStream src
  let (rest, out) := inflateBlocks (bs.length + 1) bs []
  (out.reverse, rest.map fun rest => src.length - rest.length / 8)

end Sys2Proof.Machine
end

