-- ==== Sys2Proof/Machine/Coding.lean ====
section
/-! DEFINITION. The codings as pure functions: CRC-32C (R75), packing (R73), the FRC blocks (R95–R100), the stream
containers (R104, R105) and the capture tokens (R119). -/

namespace Sys2Proof.Machine

open Sys2Proof

/-! ### CRC-32C (R75) -/

/-- One bit of the reflected Castagnoli CRC. -/
def crcStep (c : Nat) : Nat := if c % 2 = 1 then (c / 2) ^^^ 0x82F63B78 else c / 2

def crcByte (c b : Nat) : Nat :=
  crcStep (crcStep (crcStep (crcStep (crcStep (crcStep (crcStep (crcStep (c ^^^ b))))))))

/-- CRC-32C with initial value and final XOR of all ones. -/
def crc32c (bs : List Byte) : Nat := (bs.foldl (fun c b => crcByte c b.toNat) 0xFFFFFFFF) ^^^ 0xFFFFFFFF

/-- Adler-32 of RFC 1950, used by R104. -/
def adler32 (bs : List Byte) : Nat :=
  let (a, b) := bs.foldl (fun (a, b) x => let a := (a + x.toNat) % 65521; (a, (b + a) % 65521)) (1, 0)
  b * 65536 + a

/-! ### Packing (R73) -/

/-- RAW4: pixel 2i in bits [3:0] of byte i. -/
def pack4 : List Nat → List Byte
  | a :: b :: t => BitVec.ofNat 8 (a % 16 + 16 * (b % 16)) :: pack4 t
  | [a] => [BitVec.ofNat 8 (a % 16)]
  | [] => []

def unpack4 (bs : List Byte) : List Nat := bs.flatMap (fun b => [b.toNat % 16, b.toNat / 16])

/-- TAG2: pixel 4i + j in bits [2j + 1 : 2j] of byte i. -/
def unpack2 (bs : List Byte) : List Nat :=
  bs.flatMap (fun b => [b.toNat % 4, b.toNat / 4 % 4, b.toNat / 16 % 4, b.toNat / 64])

/-- Payload bytes of a band of `n` lines of `w` pixels under a coding of R73. -/
def payloadLen (coding w n : Nat) : Nat :=
  match coding with
  | 0 => w * n
  | 1 => w / 2 * n
  | 2 => w / 8 * ceilDiv n 8 * 32
  | 3 => w / 8 * ceilDiv n 8 * 16
  | _ => w / 4 * n

/-- A length rounded up to the 32-byte units of R72. -/
def pad32 (n : Nat) : Nat := ceilDiv n 32 * 32

/-- Lines of band `b` of a plane of `lines` (R72). -/
def bandLines (lines b : Nat) : Nat := min 64 (lines - 64 * b)

def bandCount (lines : Nat) : Nat := ceilDiv lines 64

/-- Bytes of the record of band `b`: payload, padding and trailer (R72). -/
def bandRecLen (coding w lines b : Nat) : Nat := pad32 (payloadLen coding w (bandLines lines b)) + 32

/-- First byte of band `b` in the staged plane: every band before it is of 64 lines. -/
def bandStart (coding w b : Nat) : Nat := b * (pad32 (payloadLen coding w 64) + 32)

/-- Bytes of the whole staged plane (R72). -/
def stagedLen (coding w lines : Nat) : Nat :=
  ((List.range (bandCount lines)).map (bandRecLen coding w lines)).sum

/-- Bytes of the PACKED form: band payloads only, no padding and no trailers (R77); RAW8 contone for an FRC target. -/
def packedLen (target w lines : Nat) : Nat :=
  if target = 2 ∨ target = 3 then w * lines
  else ((List.range (bandCount lines)).map (fun b => payloadLen target w (bandLines lines b))).sum

/-- The trailer of R74. -/
def trailer (coding : Nat) (last gen : Bool) (b lines plen crc : Nat) : List Byte :=
  leBytes 32 (packBytes [(0, 2, 0x4254), (2, 1, coding), (3, 1, b2n last + 2 * b2n gen), (4, 4, b), (8, 2, lines),
    (12, 4, plen), (16, 4, crc)])

/-! ### FRC blocks (R95–R98) -/

def clamp8 (x : Int) : Nat := (clampI 0 255 x).toNat

/-- R98: a 7-bit field expanded to 8 bits. -/
def e7 (v : Nat) : Nat := v * 2 + v / 64

/-- Bits of a quadrant, lowest bit and width. -/
def qf (q lo w : Nat) : Nat := (q >>> lo) % 2 ^ w

/-- The 2 × 2 sub-block of pixel j. -/
def subBlock (j : Nat) : Nat := j % 4 / 2 + 2 * (j / 4 / 2)

/-- The PLANE predictor of R98. -/
def planeAt (p : Nat) (gx gy : Int) (j : Nat) : Int :=
  (p : Int) + (gx * (j % 4 : Nat) + gy * (j / 4 : Nat) + 8) / 16

/-- R98: pixel j of an FRC2 quadrant. -/
def frc2Pixel (q j : Nat) : Nat :=
  match qf q 0 2 with
  | 0 => clamp8 ((qf q 2 8 + (qf q (16 + 3 * j) 3 * qf q 10 5 + 3) / 7 : Nat) : Int)
  | 1 =>
    let a := qf q 2 8
    let b := qf q 10 8
    match qf q (32 + 2 * j) 2 with
    | 0 => a
    | 1 => clamp8 ((a : Int) + sInt 7 (qf q 18 7))
    | 2 => clamp8 ((b : Int) + sInt 7 (qf q 25 7))
    | _ => b
  | 2 => clamp8 (planeAt (qf q 2 8) (sInt 8 (qf q 10 8)) (sInt 8 (qf q 18 8)) j + 2 * (qf q (32 + 2 * j) 2 : Nat) - 3)
  | _ => clamp8 ((qf q (2 + 8 * subBlock j) 8 + 2 * qf q (48 + j) 1 : Nat) : Int)

/-- R98: pixel j of an FRC4 quadrant. -/
def frc4Pixel (q j : Nat) : Nat :=
  match qf q 0 2 with
  | 0 => clamp8 ((qf q 2 8 + qf q (16 + j) 1 * qf q 10 6 : Nat) : Int)
  | 1 => if qf q (16 + j) 1 = 0 then e7 (qf q 2 7) else e7 (qf q 9 7)
  | 2 => clamp8 (planeAt (qf q 2 8) (sInt 7 (qf q 10 7)) (sInt 7 (qf q 17 7)) j + 4 * (qf q (24 + 2 * subBlock j) 2 : Nat) - 6)
  | _ => e7 (qf q (2 + 7 * subBlock j) 7)

/-- The quadrant's 16 pixels, FRC2 for `two`. -/
def frcPixels (two : Bool) (q : Nat) : List Nat :=
  (List.range 16).map (fun j => if two then frc2Pixel q j else frc4Pixel q j)

/-- Bytes of a block: 32 for FRC2, 16 for FRC4 (R95). -/
def frcBytes (two : Bool) : Nat := if two then 32 else 16

/-- R95: pixel (x, y) of a block held as one number. -/
def frcBlockPixel (two : Bool) (blk x y : Nat) : Nat :=
  let qn := x / 4 + 2 * (y / 4)
  let w := if two then 64 else 32
  let q := qf blk (w * qn) w
  let j := 4 * (y % 4) + x % 4
  if two then frc2Pixel q j else frc4Pixel q j

/-! ### FRC encoder (R100) -/

def roundHalf (num : Int) (den : Nat) : Int := (2 * num + den) / (2 * den : Nat)

def sumL (l : List Nat) : Nat := l.sum

/-- The index below `n` whose level is nearest to a pixel, the lower level, then the lower index, on a tie. -/
def nearest (level : Nat → Nat) (n px : Nat) : Nat :=
  let dist (i : Nat) : Nat := if level i ≤ px then px - level i else level i - px
  (List.range n).foldl (fun best i =>
    if dist i < dist best ∨ (dist i = dist best ∧ level i < level best) then i else best) 0

/-- The index of each of the 16 pixels put at `base + step × key` into a quadrant. -/
def putIdx (hdr base step : Nat) (key : Nat → Nat) (idx : Nat → Nat) (n : Nat) : Nat :=
  (List.range n).foldl (fun a j => a + idx j * 2 ^ (base + step * key j)) hdr

/-- One candidate of R100 for an FRC2 quadrant, given its 16 pixels. -/
def frc2Cand (px : List Nat) (mode : Nat) : Nat :=
  let lo := px.foldl min 255
  let hi := px.foldl max 0
  let at_ (j : Nat) : Nat := px.getD j 0
  match mode with
  | 0 =>
    let sp := min (hi - lo) 31
    let hdr := lo * 4 + sp * 1024
    putIdx hdr 16 3 id (fun j => nearest (fun i => clamp8 ((lo + (i * sp + 3) / 7 : Nat) : Int)) 8 (at_ j)) 16
  | 1 =>
    let v := sortBy (fun a b => decide (a ≤ b)) px
    let da := clampI (-64) 63 ((v.getD 5 0 : Int) - lo)
    let db := clampI (-64) 63 ((v.getD 10 0 : Int) - hi)
    let hdr := 1 + lo * 4 + hi * 1024 + uBits 7 da * 2 ^ 18 + uBits 7 db * 2 ^ 25
    let lev (i : Nat) : Nat := match i with
      | 0 => lo | 1 => clamp8 (lo + da) | 2 => clamp8 (hi + db) | _ => hi
    putIdx hdr 32 2 id (fun j => nearest lev 4 (at_ j)) 16
  | 2 =>
    let col (c : Nat) : Int := ((at_ c + at_ (c + 4) + at_ (c + 8) + at_ (c + 12) : Nat) : Int)
    let row (r : Nat) : Int := ((at_ (4 * r) + at_ (4 * r + 1) + at_ (4 * r + 2) + at_ (4 * r + 3) : Nat) : Int)
    let gx := clampI (-128) 127 (roundHalf (4 * (col 3 - col 0)) 3)
    let gy := clampI (-128) 127 (roundHalf (4 * (row 3 - row 0)) 3)
    let p := clamp8 (roundHalf (2 * (sumL px : Int) - 3 * (gx + gy)) 32)
    let hdr := 2 + p * 4 + uBits 8 gx * 2 ^ 10 + uBits 8 gy * 2 ^ 18
    putIdx hdr 32 2 id (fun j => nearest (fun i => clamp8 (planeAt p gx gy j + 2 * (i : Int) - 3)) 4 (at_ j)) 16
  | _ =>
    let v (k : Nat) : Nat := ((List.range 16).filter (fun j => subBlock j = k)).foldl (fun a j => min a (at_ j)) 255
    let hdr := 3 + v 0 * 4 + v 1 * 2 ^ 10 + v 2 * 2 ^ 18 + v 3 * 2 ^ 26
    putIdx hdr 48 1 id (fun j => nearest (fun i => clamp8 ((v (subBlock j) + 2 * i : Nat) : Int)) 2 (at_ j)) 16

/-- The pixel of a sub-block's correction nearest on the whole: the C_k with the least error sum on its four pixels
would not be "the value nearest to the source" of one pixel; the sum of the four decides, the lower value on a tie
(log 20). -/
def bestCorr (p : Nat) (gx gy : Int) (px : List Nat) (k : Nat) : Nat :=
  let js := (List.range 16).filter (fun j => subBlock j = k)
  let err (c : Nat) : Nat := (js.map (fun j =>
    (((clamp8 (planeAt p gx gy j + 4 * (c : Int) - 6) : Nat) : Int) - (px.getD j 0 : Int)).natAbs)).sum
  (List.range 4).foldl (fun best c => if err c < err best then c else best) 0

/-- One candidate of R100 for an FRC4 quadrant. V_k of four 255s is 128, which needs an eighth bit: the model adds it unmasked,
so it carries into the field above (the model's choice, log 120). -/
def frc4Cand (px : List Nat) (mode : Nat) : Nat :=
  let lo := px.foldl min 255
  let hi := px.foldl max 0
  let at_ (j : Nat) : Nat := px.getD j 0
  match mode with
  | 0 =>
    let sp := min (hi - lo) 63
    putIdx (lo * 4 + sp * 1024) 16 1 id (fun j => nearest (fun i => clamp8 ((lo + i * sp : Nat) : Int)) 2 (at_ j)) 16
  | 1 =>
    let a := lo / 2
    let b := hi / 2
    putIdx (1 + a * 4 + b * 512) 16 1 id (fun j => nearest (fun i => if i = 0 then e7 a else e7 b) 2 (at_ j)) 16
  | 2 =>
    let col (c : Nat) : Int := ((at_ c + at_ (c + 4) + at_ (c + 8) + at_ (c + 12) : Nat) : Int)
    let row (r : Nat) : Int := ((at_ (4 * r) + at_ (4 * r + 1) + at_ (4 * r + 2) + at_ (4 * r + 3) : Nat) : Int)
    let gx := clampI (-64) 63 (roundHalf (4 * (col 3 - col 0)) 3)
    let gy := clampI (-64) 63 (roundHalf (4 * (row 3 - row 0)) 3)
    let p := clamp8 (roundHalf (2 * (sumL px : Int) - 3 * (gx + gy)) 32)
    putIdx (2 + p * 4 + uBits 7 gx * 2 ^ 10 + uBits 7 gy * 2 ^ 17) 24 2 id (bestCorr p gx gy px) 4
  | _ =>
    let v (k : Nat) : Nat := (((List.range 16).filter (fun j => subBlock j = k)).map at_ |>.sum) + 4
    3 + v 0 / 8 * 4 + v 1 / 8 * 2 ^ 9 + v 2 / 8 * 2 ^ 16 + v 3 / 8 * 2 ^ 23

/-- Largest and summed absolute error of a coded quadrant against its source. -/
def frcError (two : Bool) (px : List Nat) (q : Nat) : Nat × Nat :=
  let es := (List.range 16).map (fun j =>
    (((if two then frc2Pixel q j else frc4Pixel q j : Nat) : Int) - (px.getD j 0 : Int)).natAbs)
  (es.foldl max 0, es.sum)

/-- R100: the candidate with the least maximum error, then the least sum, then the lowest QMODE. -/
def frcQuadrant (two : Bool) (px : List Nat) : Nat :=
  let cand (m : Nat) : Nat := if two then frc2Cand px m else frc4Cand px m
  let better (a b : Nat × Nat) : Bool := a.1 < b.1 || (a.1 = b.1 && a.2 < b.2)
  let best := [1, 2, 3].foldl (fun m n =>
    if better (frcError two px (cand n)) (frcError two px (cand m)) then n else m) 0
  cand best

/-- An 8 × 8 block coded, and whether it is within the bound of R99; `px x y` is the source. -/
def frcEncodeBlock (two : Bool) (px : Nat → Nat → Nat) : Nat × Bool :=
  let quad (qn : Nat) : List Nat :=
    (List.range 16).map (fun j => px (qn % 2 * 4 + j % 4) (qn / 2 * 4 + j / 4))
  let w := if two then 64 else 32
  let qs := (List.range 4).map (fun n => frcQuadrant two (quad n))
  let blk := (List.range 4).foldl (fun a n => a + qs.getD n 0 * 2 ^ (w * n)) 0
  let bound := if two then 1 else 4
  (blk, (List.range 4).all (fun n => (frcError two (quad n) (qs.getD n 0)).1 ≤ bound))

/-- One band of RAW8 lines (`n` lines of `w` pixels) coded in blocks left to right, one block row after another; lines
past the last copy the last line (R73, R100). Gives the payload and the number of blocks over the bound. -/
def frcEncodeBand (two : Bool) (w n : Nat) (raw : List Byte) : List Byte × Nat :=
  let px (r x y : Nat) : Nat := (raw.getD (min (8 * r + y) (n - 1) * w + x) 0).toNat
  let blocks := (List.range (ceilDiv n 8)).flatMap (fun r =>
    (List.range (w / 8)).map (fun c => frcEncodeBlock two (fun x y => px r (8 * c + x) y)))
  (blocks.flatMap (fun b => leBytes (frcBytes two) b.1), (blocks.filter (fun b => !b.2)).length)

/-- The pixels of line `l` of a band under a coding of R73: 8-bit codes, 4-bit levels or 2-bit tags. -/
def bandLine (coding w l : Nat) (payload : List Byte) : List Nat :=
  match coding with
  | 0 => ((payload.drop (l * w)).take w).map (·.toNat)
  | 1 => unpack4 ((payload.drop (l * (w / 2))).take (w / 2))
  | 2 => (List.range w).map (fun x =>
      frcBlockPixel true (bField payload ((l / 8 * (w / 8) + x / 8) * 32) 32) (x % 8) (l % 8))
  | 3 => (List.range w).map (fun x =>
      frcBlockPixel false (bField payload ((l / 8 * (w / 8) + x / 8) * 16) 16) (x % 8) (l % 8))
  | _ => unpack2 ((payload.drop (l * (w / 4))).take (w / 4))

/-- R75: the decoded band as the CRC takes it. -/
def decodedBand (coding w n : Nat) (payload : List Byte) : List Byte :=
  if coding = 2 ∨ coding = 3 then
    (List.range n).flatMap (fun l => (bandLine coding w l payload).map (BitVec.ofNat 8))
  else payload.take (payloadLen coding w n)

/-- R75: BAND_CRC. -/
def bandCrc (coding w n : Nat) (payload : List Byte) : Nat := crc32c (decodedBand coding w n payload)

/-- The bytes a list is short of a length, as zeros. -/
def zeroPad (n : Nat) (bs : List Byte) : List Byte := bs ++ List.replicate (n - bs.length) 0#8

/-- A band record written by the device (R72, R74, GEN = 1). -/
def genBand (coding w lines b : Nat) (payload : List Byte) : List Byte :=
  let n := bandLines lines b
  zeroPad (pad32 payload.length) payload
    ++ trailer coding (b + 1 = bandCount lines) true b n payload.length (bandCrc coding w n payload)

/-- A PACKED source turned into the staged layout, with the number of FRC blocks over the bound (R77). -/
def stagePacked (coding w lines : Nat) (src : List Byte) : List Byte × Nat :=
  (List.range (bandCount lines)).foldl (fun (out, ovr) b =>
    let n := bandLines lines b
    if coding = 2 ∨ coding = 3 then
      let (p, k) := frcEncodeBand (coding = 2) w n ((src.drop (64 * b * w)).take (n * w))
      (out ++ genBand coding w lines b p, ovr + k)
    else
      let p := (src.drop (b * payloadLen coding w 64)).take (payloadLen coding w n)
      (out ++ genBand coding w lines b p, ovr)) ([], 0)

/-! ### Streams (R101–R105): the bits of a dynamic Huffman block that is written are `Config.dynamicBlock` -/

/-- The bits of a byte string, bit 0 of each byte first. -/
def bytesBits (bs : List Byte) : List Bool := bs.flatMap (fun b => (List.range 8).map (fun i => b.getLsbD i))

/-- The bytes that bits fill, bit 0 of each first, the last padded with 0. -/
def bitsBytes (bs : List Bool) : List Byte :=
  (List.range (ceilDiv bs.length 8)).map (fun i => BitVec.ofNat 8 (packBits ((bs.drop (8 * i)).take 8)))

/-- A stored block that begins at bit `pos` of its stream; LEN holds at most 65,535, so how one of 65,536 bytes is stored is
open (log 4). -/
def storedBits (final : Bool) (pos : Nat) (data : List Byte) : List Bool :=
  if data.length ≤ 65535 then
    [final, false, false] ++ List.replicate ((8 - (pos + 3) % 8) % 8) false
      ++ bytesBits (leBytes 2 data.length ++ leBytes 2 (65535 - data.length) ++ data)
  else Config.storedFull final (pos % 8) data

/-- R102: block `k` of an input: dynamic Huffman, or stored where that is not longer. -/
def deflateBlock (depth : Nat) (lazy : Bool) (src : List Byte) (count k pos : Nat) : List Bool :=
  let final := decide (k + 1 = count)
  let data := (src.drop (65536 * k)).take 65536
  let dyn := [final, false, true] ++ Config.dynamicBlock depth lazy src k
  let sto := storedBits final pos data
  if dyn.length < sto.length then dyn else sto

/-- R101, R102: the raw stream of an input, cut into blocks of 65,536 bytes; an empty one gives one empty stored block. -/
def rawDeflate (depth : Nat) (lazy : Bool) (src : List Byte) : List Byte :=
  if src = [] then bitsBytes (storedBits true 0 []) else
  let count := ceilDiv src.length 65536
  bitsBytes ((List.range count).foldl (fun bits k => bits ++ deflateBlock depth lazy src count k bits.length) [])

/-- R104: FLEVEL of a depth. -/
def flevel (depth : Nat) : Nat := if depth ≤ 4 then 0 else if depth ≤ 16 then 1 else if depth ≤ 64 then 2 else 3

/-- R104, R105: the stream a compression job writes in LZ_FMT 0 raw, 1 zlib, 2 KXZ. -/
def lzWrite (fmt depth : Nat) (lazy : Bool) (src : List Byte) : List Byte :=
  let raw := rawDeflate depth lazy src
  match fmt with
  | 0 => raw
  | 1 =>
    let flg := flevel depth * 64
    let chk := (31 - (0x78 * 256 + flg) % 31) % 31
    [0x78#8, BitVec.ofNat 8 (flg + chk)] ++ raw ++ (leBytes 4 (adler32 src)).reverse
  | _ =>
    [0x4B#8, 0x58#8, 0x5A#8, 1#8, 0#8, 0#8, 0#8, 0#8] ++ leBytes 8 src.length ++ raw
      ++ leBytes 4 (crc32c src) ++ leBytes 8 src.length

/-- R103–R105: a stream read, with a status of R116 (0 OK, 2 STREAM_ERROR, 3 CHECK_FAIL, 4 LENGTH_MISMATCH,
8 UNSUPPORTED) and its content as far as it is sound. -/
def lzRead (fmt : Nat) (src : List Byte) : Nat × List Byte :=
  match fmt with
  | 0 =>
    match rawInflate src with
    | (out, none) => (2, out)
    | (out, some used) => if used < src.length then (4, out) else (0, out)
  | 1 =>
    let cmf := bField src 0 1
    let flg := bField src 1 1
    if src.length < 2 ∨ (cmf * 256 + flg) % 31 ≠ 0 ∨ cmf % 16 ≠ 8 ∨ 7 < cmf / 16 then (2, [])
    else if flg.testBit 5 then (8, [])
    else match rawInflate (src.drop 2) with
      | (out, none) => (2, out)
      | (out, some used) =>
        let tl := src.drop (2 + used)
        if tl.length < 4 then (2, out)
        else if leNat (tl.take 4).reverse ≠ adler32 out then (3, out)
        else if 4 < tl.length then (4, out) else (0, out)
  | _ =>
    if src.length < 16 ∨ src.take 4 ≠ [0x4B#8, 0x58#8, 0x5A#8, 1#8] ∨ bField src 4 4 ≠ 0 then (2, [])
    else match rawInflate (src.drop 16) with
      | (out, none) => (2, out)
      | (out, some used) =>
        let tl := src.drop (16 + used)
        if tl.length < 12 then (2, out)
        else if bField tl 0 4 ≠ crc32c out then (3, out)
        else if bField tl 4 8 ≠ out.length ∨ bField src 8 8 ≠ out.length then (4, out)
        else if 12 < tl.length then (4, out) else (0, out)

/-! ### Capture tokens (R119) -/

/-- The length of the run of equal levels at the head of a line. -/
def runLen (v : Nat) : List Nat → Nat
  | [] => 0
  | x :: t => if x = v then 1 + runLen v t else 0

/-- A literal token of up to 128 levels. -/
def litToken (ls : List Nat) : List Byte := BitVec.ofNat 8 (ls.length - 1) :: pack4 ls

/-- Greedy tokens of a line: a repeat for a run of at least `3` equal levels, literals between; the spec fixes the
token formats and when 0x01 is used, not the parse (log 21). `fuel` bounds the recursion. -/
def tokens : Nat → List Nat → List Nat → List Byte
  | 0, lit, _ => if lit = [] then [] else litToken lit
  | _ + 1, lit, [] => if lit = [] then [] else litToken lit
  | fuel + 1, lit, v :: t =>
    let r := min (1 + runLen v t) 2048
    if 3 ≤ r then
      (if lit = [] then [] else litToken lit) ++
        [BitVec.ofNat 8 (128 + v % 16 * 8 + (r - 1) / 256), BitVec.ofNat 8 ((r - 1) % 256)] ++
        tokens fuel [] ((v :: t).drop r)
    else if lit.length = 127 then litToken (lit ++ [v]) ++ tokens fuel [] t
    else tokens fuel (lit ++ [v]) t

/-- R119: a captured line: tokens, or RAW4 where the tokens would be longer. -/
def captureLine (levels : List Nat) : List Byte :=
  let tk := tokens levels.length [] levels
  if levels.length / 2 < tk.length then 1#8 :: pack4 levels else 0#8 :: tk

/-- The levels of a stored line of `w` pixels, and the bytes that follow it. -/
def readTokens : Nat → Nat → List Byte → List Nat × List Byte
  | 0, _, bs => ([], bs)
  | _ + 1, 0, bs => ([], bs)
  | _ + 1, _, [] => ([], [])
  | fuel + 1, w, b :: t =>
    if b.toNat < 128 then
      let n := b.toNat + 1
      let k := (n + 1) / 2
      let (ls, rest) := readTokens fuel (w - n) (t.drop k)
      ((unpack4 (t.take k)).take n ++ ls, rest)
    else
      let n := b.toNat % 8 * 256 + (t.headD 0).toNat + 1
      let (ls, rest) := readTokens fuel (w - n) (t.drop 1)
      (List.replicate n (b.toNat / 8 % 16) ++ ls, rest)

/-- R119: one stored line read back. -/
def readLine (w : Nat) : List Byte → List Nat × List Byte
  | [] => ([], [])
  | m :: t => if m = 1#8 then (unpack4 (t.take (w / 2)), t.drop (w / 2)) else readTokens w w t

/-- The stored lines of a band read back, `n` of them. -/
def readLines (w : Nat) : Nat → List Byte → List (List Nat)
  | 0, _ => []
  | n + 1, bs => let (l, r) := readLine w bs; l :: readLines w n r

end Sys2Proof.Machine
end

