-- ==== Sys2Proof/Machine/Regs.lean ====
section
/-! DEFINITION. Every field of every BAR0 register, one accessor each, written from the register tables of the
spec: the register's offset (with its instance indices), the field's lowest bit, its width and its reset value.
Where the spec's table gives no number (a strap, a fuse, "by state"), the value is a named choice of the log. -/

namespace Sys2Proof.Machine

/-- R292: the fixed sources of C0–C14; C15–C19 read 0, C20–C23 have the reset source 0 (log 12). -/
def clkOutSrcReset (c : Nat) : Nat :=
  if c < 8 then c + 4 else if c = 9 then 1 else if c = 10 ∨ c = 13 then 2 else if c = 11 ∨ c = 14 then 3 else 0

/-- R292: the dividers after reset; C20–C23 take the least divider their range allows (log 12). -/
def clkOutDivReset (c : Nat) : Nat :=
  if c < 8 then 1 else if c = 8 then 4 else if c = 9 then 3 else if c = 10 then 20 else if c = 11 then 6
  else if c = 12 then 5 else if c = 13 then 50 else if c = 14 then 12 else if c < 20 then 0 else 2

/-- R391: the reset periods of the eight loop classes, in µs. -/
def loopClassReset (k : Nat) : Nat := [10, 25, 50, 100, 200, 1000, 5000, 10000].getD k 10


/-! ### Global block and station path offsets (R29, R30) -/

def F.ST_DS_NOM_DS_NOM (i : Nat) : Fld := ⟨0x100100 + i * 0x10000, 0, 32, 0⟩
def F.ST_DS_TRIM_DS_TRIM (i : Nat) : Fld := ⟨0x100104 + i * 0x10000, 0, 32, 0⟩
def F.ST_DS_EFF_DS_EFF (i : Nat) : Fld := ⟨0x100108 + i * 0x10000, 0, 32, 0⟩
def F.ST_DS_LIM_DS_LIM (i : Nat) : Fld := ⟨0x10010c + i * 0x10000, 0, 20, 20000⟩

/-! ### Almanac (R66) -/

def F.ALM_CTL_DELIV_MK : Fld := ⟨0x1000, 8, 4, 0⟩
def F.ALM_CTL_DELIV_MK_EN : Fld := ⟨0x1000, 1, 1, 0⟩
def F.ALM_CTL_ADMIT_EN : Fld := ⟨0x1000, 0, 1, 0⟩
def F.ALM_EVE_MARGIN_EVE_MARGIN : Fld := ⟨0x1004, 0, 32, 0x1e8480⟩
def F.ALM_GAP_GAP : Fld := ⟨0x1008, 0, 32, 40000⟩
def F.ALM_LEAD_LEAD : Fld := ⟨0x100c, 0, 32, 0x3d0900⟩
def F.ALM_DELIV_POS_DELIV_POS : Fld := ⟨0x1010, 0, 32, 0⟩
def F.ALM_DELIV_WIN_DELIV_WIN : Fld := ⟨0x1014, 0, 20, 8000⟩
def F.ALM_COUNT_IN_FLIGHT : Fld := ⟨0x1020, 16, 8, 0⟩
def F.ALM_COUNT_FREE : Fld := ⟨0x1020, 0, 8, 160⟩
def F.ALM_TAIL_LO_TAIL : Fld := ⟨0x1028, 0, 32, 0⟩
def F.ALM_TAIL_HI_TAIL : Fld := ⟨0x102c, 0, 32, 0⟩
def F.ALM_NEXT_EVE_LO_NEXT_EVE : Fld := ⟨0x1030, 0, 32, 0xFFFFFFFF⟩
def F.ALM_NEXT_EVE_HI_NEXT_EVE : Fld := ⟨0x1034, 0, 32, 0xFFFFFFFF⟩
def F.ALM_VACANT_VACANT : Fld := ⟨0x1040, 0, 32, 0⟩
def F.ALM_SPOILED_SPOILED : Fld := ⟨0x1044, 0, 32, 0⟩
def F.ALM_SLOT_STATE_STATE (i : Nat) : Fld := ⟨0x1100 + i * 0x4, 0, 32, 0⟩

/-! ### Band store (R71) and raster feed (R92) -/

def F.BAND_RPR_GRAN_RPR_GRAN : Fld := ⟨0x2000, 0, 20, 0x20000⟩
def F.BAND_SCR_GRAN_SCR_GRAN : Fld := ⟨0x2004, 0, 20, 16384⟩
def F.BAND_POOL_POOL_GRAN : Fld := ⟨0x2008, 0, 20, 0x9c000⟩
def F.BAND_POOL_FREE_POOL_FREE : Fld := ⟨0x200c, 0, 20, 0x9c000⟩
def F.BAND_STAT_IN_SERVICE : Fld := ⟨0x2010, 8, 1, 0⟩
def F.BAND_STAT_TRAINED : Fld := ⟨0x2010, 0, 2, 0⟩
def F.BAND_WRR_HOST_W : Fld := ⟨0x2014, 8, 8, 3⟩
def F.BAND_WRR_CODEC_W : Fld := ⟨0x2014, 0, 8, 1⟩
def F.BAND_CE_COUNT_CE : Fld := ⟨0x2018, 0, 32, 0⟩
def F.BAND_UE_COUNT_UE : Fld := ⟨0x201c, 0, 32, 0⟩
def F.BAND_RETIRED_RETIRED : Fld := ⟨0x2020, 0, 20, 0⟩
def F.ST_FETCH_STAT_TAG_HELD (i : Nat) : Fld := ⟨0x100200 + i * 0x10000, 16, 4, 0⟩
def F.ST_FETCH_STAT_IMG_HELD (i : Nat) : Fld := ⟨0x100200 + i * 0x10000, 8, 4, 0⟩
def F.ST_FETCH_STAT_ACTIVE (i : Nat) : Fld := ⟨0x100200 + i * 0x10000, 0, 1, 0⟩
def F.ST_FETCH_LEAD_LEAD_MIN (i : Nat) : Fld := ⟨0x100204 + i * 0x10000, 0, 16, 65535⟩
def F.ST_LATE_LINES_LATE (i : Nat) : Fld := ⟨0x100208 + i * 0x10000, 0, 32, 0⟩
def F.ST_CHECK_FAIL_FAIL (i : Nat) : Fld := ⟨0x10020c + i * 0x10000, 0, 32, 0⟩
def F.ST_LAST_FAIL_SLOT (i : Nat) : Fld := ⟨0x100210 + i * 0x10000, 24, 8, 0⟩
def F.ST_LAST_FAIL_TAG (i : Nat) : Fld := ⟨0x100210 + i * 0x10000, 23, 1, 0⟩
def F.ST_LAST_FAIL_BAND (i : Nat) : Fld := ⟨0x100210 + i * 0x10000, 0, 23, 0⟩
def F.ST_FETCH_CLR_CLR (i : Nat) : Fld := ⟨0x100214 + i * 0x10000, 0, 1, 0⟩

/-! ### Codecs and reprint (R125) -/

def F.CODEC_STAT_QUEUED : Fld := ⟨0x300000, 16, 5, 0⟩
def F.CODEC_STAT_SUSPENDED : Fld := ⟨0x300000, 8, 4, 0⟩
def F.CODEC_STAT_REPLAY_BUSY : Fld := ⟨0x300000, 6, 1, 0⟩
def F.CODEC_STAT_FRC_BUSY : Fld := ⟨0x300000, 4, 2, 0⟩
def F.CODEC_STAT_LZ_BUSY : Fld := ⟨0x300000, 0, 4, 0⟩
def F.CODEC_CHAIN_CTL_CHAIN_TMO : Fld := ⟨0x300004, 16, 16, 0⟩
def F.CODEC_CHAIN_CTL_CHAIN_POLL : Fld := ⟨0x300004, 0, 8, 20⟩
def F.CODEC_RETRY_RETRY : Fld := ⟨0x300008, 0, 32, 0⟩
def F.CODEC_FAIL_FAIL : Fld := ⟨0x30000c, 0, 32, 0⟩
def F.CODEC_FRC_OVER_OVER : Fld := ⟨0x300010, 0, 32, 0⟩
def F.RPR_CTL_CAP_STATIONS : Fld := ⟨0x300020, 8, 8, 0⟩
def F.RPR_CTL_AUTO_RELEASE : Fld := ⟨0x300020, 0, 1, 1⟩
def F.RPR_FREE_FREE_GRAN : Fld := ⟨0x300024, 0, 20, 0x20000⟩
def F.RPR_HELD_HELD : Fld := ⟨0x300028, 0, 32, 0⟩
def F.RPR_LAST_ID_LAST_ID : Fld := ⟨0x30002c, 0, 32, 0⟩
def F.RPR_TRUNC_TRUNC : Fld := ⟨0x300030, 0, 32, 0⟩

/-! ### Table status (R151) -/

def F.ST_TBL_STAT_SHADOW_VALID (i : Nat) : Fld := ⟨0x100300 + i * 0x10000, 8, 11, 0⟩
def F.ST_TBL_STAT_ACTIVE_OK (i : Nat) : Fld := ⟨0x100300 + i * 0x10000, 4, 1, 0⟩
def F.ST_TBL_STAT_BUSY (i : Nat) : Fld := ⟨0x100300 + i * 0x10000, 3, 1, 0⟩
def F.ST_TBL_STAT_PEND_PAGE (i : Nat) : Fld := ⟨0x100300 + i * 0x10000, 2, 1, 0⟩
def F.ST_TBL_STAT_PENDING (i : Nat) : Fld := ⟨0x100300 + i * 0x10000, 1, 1, 0⟩
def F.ST_TBL_STAT_ACTIVE_BANK (i : Nat) : Fld := ⟨0x100300 + i * 0x10000, 0, 1, 0⟩
def F.ST_TBL_PEND_ID_LO_PEND_ID (i : Nat) : Fld := ⟨0x100304 + i * 0x10000, 0, 32, 0⟩
def F.ST_TBL_PEND_ID_HI_PEND_ID (i : Nat) : Fld := ⟨0x100308 + i * 0x10000, 0, 32, 0⟩
def F.ST_TBL_SWITCHES_SWITCHES (i : Nat) : Fld := ⟨0x10030c + i * 0x10000, 0, 32, 0⟩
def F.ST_TBL_REFUSED_REFUSED (i : Nat) : Fld := ⟨0x100310 + i * 0x10000, 0, 32, 0⟩

/-! ### Scan geometry, marks and registration (R181–R183) -/

def F.ST_OCTETS_OCT_MASK (i : Nat) : Fld := ⟨0x100400 + i * 0x10000, 0, 16, 0⟩
def F.ST_GEOM_PIXELS (i : Nat) : Fld := ⟨0x100404 + i * 0x10000, 16, 16, 24576⟩
def F.ST_GEOM_FACETS (i : Nat) : Fld := ⟨0x100404 + i * 0x10000, 0, 5, 12⟩
def F.ST_LMAP_REVERSE (i : Nat) : Fld := ⟨0x100408 + i * 0x10000, 8, 1, 0⟩
def F.ST_LMAP_PITCH (i : Nat) : Fld := ⟨0x100408 + i * 0x10000, 2, 6, 1⟩
def F.ST_LMAP_PAIRED (i : Nat) : Fld := ⟨0x100408 + i * 0x10000, 0, 1, 0⟩
def F.ST_PLINE_P_LINE (i : Nat) : Fld := ⟨0x10040c + i * 0x10000, 0, 32, 0x54aaab⟩
def F.ST_SCAN_SOS_OFS (i : Nat) : Fld := ⟨0x100410 + i * 0x10000, 0, 16, 2419⟩
def F.ST_SCAN_REF_T_REF (i : Nat) : Fld := ⟨0x100414 + i * 0x10000, 0, 32, 0⟩
def F.ST_FACET_STAT_STRAY (i : Nat) : Fld := ⟨0x100418 + i * 0x10000, 24, 8, 0⟩
def F.ST_FACET_STAT_SIG_STATE (i : Nat) : Fld := ⟨0x100418 + i * 0x10000, 16, 2, 0⟩
def F.ST_FACET_STAT_FACET (i : Nat) : Fld := ⟨0x100418 + i * 0x10000, 8, 4, 0⟩
def F.ST_FACET_STAT_BD_OK (i : Nat) : Fld := ⟨0x100418 + i * 0x10000, 0, 1, 0⟩
def F.ST_FACET_PERIOD_PERIOD (i : Nat) : Fld := ⟨0x10041c + i * 0x10000, 0, 32, 0⟩
def F.ST_SCAN_TIME_SCAN (i : Nat) : Fld := ⟨0x100420 + i * 0x10000, 0, 32, 0⟩
def F.ST_SIG_CTL_SIG_SHIFT (i : Nat) : Fld := ⟨0x100424 + i * 0x10000, 4, 4, 4⟩
def F.ST_SIG_CTL_ID_EN (i : Nat) : Fld := ⟨0x100424 + i * 0x10000, 1, 1, 1⟩
def F.ST_SIG_CTL_CLEAR (i : Nat) : Fld := ⟨0x100424 + i * 0x10000, 0, 1, 0⟩
def F.ST_PH_CTL_PH_LOOP (i : Nat) : Fld := ⟨0x100500 + i * 0x10000, 16, 8, 0⟩
def F.ST_PH_CTL_PH_SLEW (i : Nat) : Fld := ⟨0x100500 + i * 0x10000, 8, 8, 16⟩
def F.ST_PH_CTL_LOCK_EN (i : Nat) : Fld := ⟨0x100500 + i * 0x10000, 0, 1, 0⟩
def F.ST_PH_OFF_PH_OFF (i : Nat) : Fld := ⟨0x100504 + i * 0x10000, 0, 32, 0⟩
def F.ST_PH_TGT_TGT (i : Nat) : Fld := ⟨0x100508 + i * 0x10000, 0, 32, 0⟩
def F.ST_PH_ERR_ERR (i : Nat) : Fld := ⟨0x10050c + i * 0x10000, 0, 32, 0⟩
def F.ST_PH_LOCKCFG_LOCK_CNT (i : Nat) : Fld := ⟨0x100510 + i * 0x10000, 16, 16, 64⟩
def F.ST_PH_LOCKCFG_LOCK_WIN (i : Nat) : Fld := ⟨0x100510 + i * 0x10000, 0, 16, 8⟩
def F.ST_PH_STAT_PEAK (i : Nat) : Fld := ⟨0x100514 + i * 0x10000, 16, 16, 0⟩
def F.ST_PH_STAT_SLEWING (i : Nat) : Fld := ⟨0x100514 + i * 0x10000, 1, 1, 0⟩
def F.ST_PH_STAT_PH_LOCKED (i : Nat) : Fld := ⟨0x100514 + i * 0x10000, 0, 1, 0⟩
def F.ST_PH_SLIPS_SLIPS (i : Nat) : Fld := ⟨0x100518 + i * 0x10000, 0, 32, 0⟩
def F.ST_PH_CLR_CLR (i : Nat) : Fld := ⟨0x10051c + i * 0x10000, 0, 1, 0⟩
def F.ST_REG_CTL_MIN_MARKS (i : Nat) : Fld := ⟨0x100600 + i * 0x10000, 24, 8, 1⟩
def F.ST_REG_CTL_REF (i : Nat) : Fld := ⟨0x100600 + i * 0x10000, 16, 3, 0⟩
def F.ST_REG_CTL_XS_EN (i : Nat) : Fld := ⟨0x100600 + i * 0x10000, 2, 1, 0⟩
def F.ST_REG_CTL_XT_EN (i : Nat) : Fld := ⟨0x100600 + i * 0x10000, 1, 1, 0⟩
def F.ST_REG_CTL_IT_EN (i : Nat) : Fld := ⟨0x100600 + i * 0x10000, 0, 1, 0⟩
def F.ST_REG_GAIN_K_IT (i : Nat) : Fld := ⟨0x100604 + i * 0x10000, 24, 8, 128⟩
def F.ST_REG_GAIN_K_XT (i : Nat) : Fld := ⟨0x100604 + i * 0x10000, 16, 8, 128⟩
def F.ST_REG_GAIN_K_XS (i : Nat) : Fld := ⟨0x100604 + i * 0x10000, 8, 8, 64⟩
def F.ST_REG_STEP_XT_STEP (i : Nat) : Fld := ⟨0x100608 + i * 0x10000, 16, 16, 32⟩
def F.ST_REG_STEP_IT_STEP (i : Nat) : Fld := ⟨0x100608 + i * 0x10000, 0, 16, 8⟩
def F.ST_XOFF_NOM_XOFF_NOM (i : Nat) : Fld := ⟨0x10060c + i * 0x10000, 0, 32, 0⟩
def F.ST_XOFF_TRIM_XOFF_TRIM (i : Nat) : Fld := ⟨0x100610 + i * 0x10000, 0, 32, 0⟩
def F.ST_XOFF_LIM_XOFF_LIM (i : Nat) : Fld := ⟨0x100614 + i * 0x10000, 0, 16, 2560⟩
def F.ST_XSCALE_NOM_XSCALE_NOM (i : Nat) : Fld := ⟨0x100618 + i * 0x10000, 0, 32, 0⟩
def F.ST_XSCALE_TRIM_XSCALE_TRIM (i : Nat) : Fld := ⟨0x10061c + i * 0x10000, 0, 32, 0⟩
def F.ST_XSCALE_LIM_XS_STEP (i : Nat) : Fld := ⟨0x100620 + i * 0x10000, 16, 16, 168⟩
def F.ST_XSCALE_LIM_XS_LIM (i : Nat) : Fld := ⟨0x100620 + i * 0x10000, 0, 16, 1678⟩
def F.ST_REG_CONV_CONV_FRAMES (i : Nat) : Fld := ⟨0x100624 + i * 0x10000, 24, 8, 8⟩
def F.ST_REG_CONV_CONV_WIN (i : Nat) : Fld := ⟨0x100624 + i * 0x10000, 0, 16, 8⟩
def F.ST_REG_E_IT_E_IT (i : Nat) : Fld := ⟨0x100628 + i * 0x10000, 0, 32, 0⟩
def F.ST_REG_E_XT_E_XT (i : Nat) : Fld := ⟨0x10062c + i * 0x10000, 0, 32, 0⟩
def F.ST_REG_E_XS_E_XS (i : Nat) : Fld := ⟨0x100630 + i * 0x10000, 0, 32, 0⟩
def F.ST_REG_STAT_UPDATES (i : Nat) : Fld := ⟨0x100634 + i * 0x10000, 16, 16, 0⟩
def F.ST_REG_STAT_USED (i : Nat) : Fld := ⟨0x100634 + i * 0x10000, 8, 8, 0⟩
def F.ST_REG_STAT_CONVERGED (i : Nat) : Fld := ⟨0x100634 + i * 0x10000, 0, 1, 0⟩
def F.ST_FIL_TRIM_FIL_TRIM (i : Nat) (j : Nat) : Fld := ⟨0x100700 + i * 0x10000 + j * 0x4, 0, 16, 0⟩
def F.ST_SLICE_COUNT_SLICE_COUNT (i : Nat) (j : Nat) : Fld := ⟨0x100780 + i * 0x10000 + j * 0x4, 0, 7, 0⟩
def F.ST_SIG_SOFF (i : Nat) (j : Nat) (k : Nat) : Fld := ⟨0x101000 + i * 0x10000 + j * 0x80 + k * 0x4, 16, 16, 0⟩
def F.ST_SIG_LSCALE (i : Nat) (j : Nat) (k : Nat) : Fld := ⟨0x101000 + i * 0x10000 + j * 0x80 + k * 0x4, 0, 16, 0⟩
def F.ST_SLICE_LIN (i : Nat) (j : Nat) (k : Nat) : Fld := ⟨0x102000 + i * 0x10000 + j * 0x100 + k * 0x4, 30, 2, 0⟩
def F.ST_SLICE_ORDER (i : Nat) (j : Nat) (k : Nat) : Fld := ⟨0x102000 + i * 0x10000 + j * 0x100 + k * 0x4, 24, 6, 0⟩
def F.ST_SLICE_POS (i : Nat) (j : Nat) (k : Nat) : Fld := ⟨0x102000 + i * 0x10000 + j * 0x100 + k * 0x4, 0, 15, 0⟩
def F.MK_CFG_FILT (i : Nat) : Fld := ⟨0x582000 + i * 0x10, 8, 8, 2⟩
def F.MK_CFG_POL (i : Nat) : Fld := ⟨0x582000 + i * 0x10, 1, 1, 0⟩
def F.MK_CFG_EN (i : Nat) : Fld := ⟨0x582000 + i * 0x10, 0, 1, 0⟩
def F.MK_POS_POS (i : Nat) : Fld := ⟨0x582004 + i * 0x10, 0, 32, 0⟩
def F.MK_XPOS_XPOS (i : Nat) : Fld := ⟨0x582008 + i * 0x10, 0, 15, 0⟩
def F.MK_COUNT_COUNT (i : Nat) : Fld := ⟨0x58200c + i * 0x10, 0, 32, 0⟩
def F.MK_CTL_WIN : Fld := ⟨0x582100, 16, 16, 4000⟩
def F.MK_CTL_REC_EN : Fld := ⟨0x582100, 0, 1, 0⟩
def F.REG_PLAN_EN (i : Nat) : Fld := ⟨0x582400 + i * 0x8, 31, 1, 0⟩
def F.REG_PLAN_KIND (i : Nat) : Fld := ⟨0x582400 + i * 0x8, 8, 2, 0⟩
def F.REG_PLAN_SENSOR (i : Nat) : Fld := ⟨0x582400 + i * 0x8, 4, 4, 0⟩
def F.REG_PLAN_STATION (i : Nat) : Fld := ⟨0x582400 + i * 0x8, 0, 3, 0⟩
def F.REG_PLAN_Y_Y (i : Nat) : Fld := ⟨0x582404 + i * 0x8, 0, 24, 0⟩

/-! ### Beams, octets and the interlock latch (R212–R214) -/

def F.ST_EXPO_PAIR_FRAC (i : Nat) : Fld := ⟨0x100800 + i * 0x10000, 16, 16, 8192⟩
def F.ST_EXPO_ALIGN (i : Nat) : Fld := ⟨0x100800 + i * 0x10000, 0, 2, 0⟩
def F.ST_WDOG_MAX_ON (i : Nat) : Fld := ⟨0x100804 + i * 0x10000, 0, 16, 12000⟩
def F.ST_SCANCTL_NOSCAN (i : Nat) : Fld := ⟨0x100808 + i * 0x10000, 2, 1, 0⟩
def F.ST_SCANCTL_NOSCAN_CLR (i : Nat) : Fld := ⟨0x100808 + i * 0x10000, 1, 1, 0⟩
def F.ST_SCANCTL_SCAN_EN (i : Nat) : Fld := ⟨0x100808 + i * 0x10000, 0, 1, 0⟩
def F.BM_BIAS_BIAS (i : Nat) : Fld := ⟨0x200000 + i * 0x100, 0, 10, 0⟩
def F.BM_MOD_MOD (i : Nat) : Fld := ⟨0x200004 + i * 0x100, 16, 10, 0⟩
def F.BM_MOD_MOD_INIT (i : Nat) : Fld := ⟨0x200004 + i * 0x100, 0, 10, 0⟩
def F.BM_MOD_LIM_MOD_MAX (i : Nat) : Fld := ⟨0x200008 + i * 0x100, 16, 10, 1023⟩
def F.BM_MOD_LIM_MOD_MIN (i : Nat) : Fld := ⟨0x200008 + i * 0x100, 0, 10, 0⟩
def F.BM_APC_APC_EN (i : Nat) : Fld := ⟨0x20000c + i * 0x100, 31, 1, 0⟩
def F.BM_APC_TGT (i : Nat) : Fld := ⟨0x20000c + i * 0x100, 0, 12, 0⟩
def F.BM_MPD_SAMPLES (i : Nat) : Fld := ⟨0x200010 + i * 0x100, 16, 16, 0⟩
def F.BM_MPD_LAST (i : Nat) : Fld := ⟨0x200010 + i * 0x100, 0, 12, 0⟩
def F.BM_STAT_CUT_FAIL (i : Nat) : Fld := ⟨0x200014 + i * 0x100, 8, 1, 0⟩
def F.BM_STAT_APC_LIM (i : Nat) : Fld := ⟨0x200014 + i * 0x100, 7, 1, 0⟩
def F.BM_STAT_EXCLUDED (i : Nat) : Fld := ⟨0x200014 + i * 0x100, 6, 1, 0⟩
def F.BM_STAT_WD_CAUSE (i : Nat) : Fld := ⟨0x200014 + i * 0x100, 4, 2, 0⟩
def F.BM_STAT_WD_CUT (i : Nat) : Fld := ⟨0x200014 + i * 0x100, 0, 1, 0⟩
def F.BM_ONMAX_CLR (i : Nat) : Fld := ⟨0x200018 + i * 0x100, 31, 1, 0⟩
def F.BM_ONMAX_ONMAX (i : Nat) : Fld := ⟨0x200018 + i * 0x100, 0, 16, 0⟩
def F.OCT_TLIM_DERATE_PCT (i : Nat) : Fld := ⟨0x200080 + i * 0x800, 24, 8, 20⟩
def F.OCT_TLIM_T_WARN (i : Nat) : Fld := ⟨0x200080 + i * 0x800, 16, 8, 70⟩
def F.OCT_TLIM_T_DERATE (i : Nat) : Fld := ⟨0x200080 + i * 0x800, 8, 8, 80⟩
def F.OCT_TLIM_T_CUT (i : Nat) : Fld := ⟨0x200080 + i * 0x800, 0, 8, 90⟩
def F.OCT_THERM_BETA (i : Nat) : Fld := ⟨0x200084 + i * 0x800, 16, 16, 3435⟩
def F.OCT_THERM_HYST (i : Nat) : Fld := ⟨0x200084 + i * 0x800, 8, 8, 5⟩
def F.OCT_TEMP_TEMP (i : Nat) : Fld := ⟨0x200088 + i * 0x800, 0, 16, 0⟩
def F.OCT_VBS_VBS (i : Nat) : Fld := ⟨0x20008c + i * 0x800, 0, 16, 0⟩
def F.OCT_VBS_WIN_VBS_MAX (i : Nat) : Fld := ⟨0x200090 + i * 0x800, 16, 16, 5250⟩
def F.OCT_VBS_WIN_VBS_MIN (i : Nat) : Fld := ⟨0x200090 + i * 0x800, 0, 16, 2375⟩
def F.OCT_APC_K_APC (i : Nat) : Fld := ⟨0x200094 + i * 0x800, 24, 8, 32⟩
def F.OCT_APC_APC_STEP (i : Nat) : Fld := ⟨0x200094 + i * 0x800, 16, 8, 8⟩
def F.OCT_APC_APC_PULSE (i : Nat) : Fld := ⟨0x200094 + i * 0x800, 8, 8, 4⟩
def F.OCT_SCALE_K_DER (i : Nat) : Fld := ⟨0x200098 + i * 0x800, 16, 16, 16384⟩
def F.OCT_SCALE_S (i : Nat) : Fld := ⟨0x200098 + i * 0x800, 0, 16, 16384⟩
def F.OCT_STAT_VBS_OK (i : Nat) : Fld := ⟨0x20009c + i * 0x800, 5, 1, 0⟩
def F.OCT_STAT_WSAT (i : Nat) : Fld := ⟨0x20009c + i * 0x800, 4, 1, 0⟩
def F.OCT_STAT_CUT_HELD (i : Nat) : Fld := ⟨0x20009c + i * 0x800, 3, 1, 0⟩
def F.OCT_STAT_DERATED (i : Nat) : Fld := ⟨0x20009c + i * 0x800, 2, 1, 0⟩
def F.OCT_STAT_WARN (i : Nat) : Fld := ⟨0x20009c + i * 0x800, 1, 1, 0⟩
def F.OCT_COUNT_WSAT_LINES (i : Nat) : Fld := ⟨0x2000a0 + i * 0x800, 16, 16, 0⟩
def F.OCT_COUNT_APC_SKIP (i : Nat) : Fld := ⟨0x2000a0 + i * 0x800, 0, 16, 0⟩
def F.OCT_CLR_CLR (i : Nat) : Fld := ⟨0x2000a4 + i * 0x800, 0, 1, 0⟩
def F.OCT_ECT_AXES_T0 (i : Nat) : Fld := ⟨0x200180 + i * 0x800, 24, 8, 20⟩
def F.OCT_ECT_AXES_TSTEP (i : Nat) : Fld := ⟨0x200180 + i * 0x800, 16, 8, 10⟩
def F.OCT_ECT_AXES_V0 (i : Nat) : Fld := ⟨0x200180 + i * 0x800, 8, 8, 26⟩
def F.OCT_ECT_AXES_VSTEP (i : Nat) : Fld := ⟨0x200180 + i * 0x800, 0, 8, 30⟩
def F.OCT_ECT_E_ODD (i : Nat) (j : Nat) : Fld := ⟨0x200280 + i * 0x800 + j * 0x4, 16, 16, 16384⟩
def F.OCT_ECT_E_EVEN (i : Nat) (j : Nat) : Fld := ⟨0x200280 + i * 0x800 + j * 0x4, 0, 16, 16384⟩
def F.OCT_ECTB_E_ODD (i : Nat) (j : Nat) : Fld := ⟨0x200380 + i * 0x800 + j * 0x4, 16, 16, 16384⟩
def F.OCT_ECTB_E_EVEN (i : Nat) (j : Nat) : Fld := ⟨0x200380 + i * 0x800 + j * 0x4, 0, 16, 16384⟩
def F.VIG_LSAFE_DISAGREE : Fld := ⟨0x40800, 8, 1, 0⟩
def F.VIG_LSAFE_B_LOW : Fld := ⟨0x40800, 5, 1, 0⟩
def F.VIG_LSAFE_A_LOW : Fld := ⟨0x40800, 4, 1, 0⟩
def F.VIG_LSAFE_SUPPLY_FAULT : Fld := ⟨0x40800, 2, 1, 0⟩
def F.VIG_LSAFE_LATCHED : Fld := ⟨0x40800, 1, 1, 0⟩
def F.VIG_LSAFE_CLR : Fld := ⟨0x40800, 0, 1, 0⟩
def F.VIG_LSAFE_TRIPS_TRIPS : Fld := ⟨0x40804, 0, 32, 0⟩

/-! ### Roll call (R230, R231) -/

def F.ST_ROLL_CTL_HEAL_PCT (i : Nat) : Fld := ⟨0x100900 + i * 0x10000, 24, 7, 25⟩
def F.ST_ROLL_CTL_HEAL_MAX (i : Nat) : Fld := ⟨0x100900 + i * 0x10000, 20, 4, 2⟩
def F.ST_ROLL_CTL_HEAL_EN (i : Nat) : Fld := ⟨0x100900 + i * 0x10000, 16, 1, 1⟩
def F.ST_ROLL_CTL_ROLL_LEAD (i : Nat) : Fld := ⟨0x100900 + i * 0x10000, 8, 8, 20⟩
def F.ST_ROLL_CTL_ROLL_W (i : Nat) : Fld := ⟨0x100900 + i * 0x10000, 0, 8, 40⟩
def F.ST_ROLL_STAT_DROPS (i : Nat) : Fld := ⟨0x100904 + i * 0x10000, 8, 8, 0⟩
def F.ST_ROLL_STAT_CROWDED (i : Nat) : Fld := ⟨0x100904 + i * 0x10000, 4, 1, 0⟩
def F.ST_ROLL_STAT_PHASE (i : Nat) : Fld := ⟨0x100904 + i * 0x10000, 0, 2, 0⟩
def F.ST_DROP_MAP_DROPPED (i : Nat) : Fld := ⟨0x100908 + i * 0x10000, 0, 32, 0⟩
def F.ST_DROP_CLR_CLR (i : Nat) : Fld := ⟨0x10090c + i * 0x10000, 0, 32, 0⟩
def F.ST_RESTORE_PEND_PEND (i : Nat) : Fld := ⟨0x100910 + i * 0x10000, 0, 32, 0⟩
def F.ST_ROLL_MISSES_MISSES (i : Nat) : Fld := ⟨0x100914 + i * 0x10000, 0, 32, 0⟩
def F.ST_HEAL_LINES_HEALED (i : Nat) : Fld := ⟨0x100918 + i * 0x10000, 0, 32, 0⟩
def F.ST_HALF_LINES_HALF (i : Nat) : Fld := ⟨0x10091c + i * 0x10000, 0, 32, 0⟩
def F.ST_HEAL_CLAMP_CLAMP (i : Nat) : Fld := ⟨0x100920 + i * 0x10000, 0, 32, 0⟩
def F.ST_ROLL_CLR_CLR (i : Nat) : Fld := ⟨0x100924 + i * 0x10000, 0, 1, 0⟩
def F.BM_ROLL_REJOINS (i : Nat) : Fld := ⟨0x200020 + i * 0x100, 24, 8, 0⟩
def F.BM_ROLL_MISS_RUN (i : Nat) : Fld := ⟨0x200020 + i * 0x100, 16, 2, 0⟩
def F.BM_ROLL_ADEV (i : Nat) : Fld := ⟨0x200020 + i * 0x100, 0, 16, 0⟩

/-! ### Rings, vectors, events and fence windows (R262, R263) -/

def F.RING_BASE_LO_BASE_L (i : Nat) : Fld := ⟨0x10000 + i * 0x40, 6, 26, 0⟩
def F.RING_BASE_HI_BASE_H (i : Nat) : Fld := ⟨0x10004 + i * 0x40, 0, 32, 0⟩
def F.RING_WB_LO_WB_L (i : Nat) : Fld := ⟨0x10008 + i * 0x40, 2, 30, 0⟩
def F.RING_WB_HI_WB_H (i : Nat) : Fld := ⟨0x1000c + i * 0x40, 0, 32, 0⟩
def F.RING_CFG_LOG2_SIZE (i : Nat) : Fld := ⟨0x10010 + i * 0x40, 0, 5, 8⟩
def F.RING_CTL_EN (i : Nat) : Fld := ⟨0x10014 + i * 0x40, 0, 1, 0⟩
def F.RING_STAT_STATE (i : Nat) : Fld := ⟨0x10018 + i * 0x40, 8, 3, 0⟩
def F.RING_STAT_ERR_CAUSE (i : Nat) : Fld := ⟨0x10018 + i * 0x40, 0, 8, 0⟩
def F.RING_IDX_PI (i : Nat) : Fld := ⟨0x1001c + i * 0x40, 16, 16, 0⟩
def F.RING_IDX_CI (i : Nat) : Fld := ⟨0x1001c + i * 0x40, 0, 16, 0⟩
def F.RING_TAKEN_TAKEN (i : Nat) : Fld := ⟨0x10020 + i * 0x40, 0, 32, 0⟩
def F.RING_REFUSED_REFUSED (i : Nat) : Fld := ⟨0x10024 + i * 0x40, 0, 32, 0⟩
def F.RING_DISCARD_DISCARD (i : Nat) : Fld := ⟨0x10028 + i * 0x40, 0, 32, 0⟩
def F.VEC_MOD_MOD_TIME (i : Nat) : Fld := ⟨0x10800 + i * 0x4, 16, 16, 200⟩
def F.VEC_MOD_MOD_COUNT (i : Nat) : Fld := ⟨0x10800 + i * 0x4, 0, 8, 16⟩
def F.EVT_STAT_HELD : Fld := ⟨0x10c00, 16, 9, 0⟩
def F.EVT_STAT_SEQ : Fld := ⟨0x10c00, 0, 16, 0⟩
def F.EVT_DROPPED_DROPPED : Fld := ⟨0x10c04, 0, 32, 0⟩
def F.EVT_LAST_REC (i : Nat) : Fld := ⟨0x10c20 + i * 0x4, 0, 32, 0⟩
def F.EVT_LAST_8_SEQ : Fld := ⟨0x10c40, 16, 16, 0⟩
def F.EVT_LAST_8_BLOCK : Fld := ⟨0x10c40, 0, 8, 0⟩
def F.FW_BASE_LO_BASE_L (i : Nat) : Fld := ⟨0x11000 + i * 0x10, 12, 20, 0⟩
def F.FW_BASE_LO_WRITE (i : Nat) : Fld := ⟨0x11000 + i * 0x10, 2, 1, 0⟩
def F.FW_BASE_LO_READ (i : Nat) : Fld := ⟨0x11000 + i * 0x10, 1, 1, 0⟩
def F.FW_BASE_LO_VALID (i : Nat) : Fld := ⟨0x11000 + i * 0x10, 0, 1, 0⟩
def F.FW_BASE_HI_BASE_H (i : Nat) : Fld := ⟨0x11004 + i * 0x10, 0, 32, 0⟩
def F.FW_LIMIT_LO_LIMIT_L (i : Nat) : Fld := ⟨0x11008 + i * 0x10, 12, 20, 0⟩
def F.FW_LIMIT_HI_LIMIT_H (i : Nat) : Fld := ⟨0x1100c + i * 0x10, 0, 32, 0⟩

/-! ### Bezel control (R280) -/

def F.BEZEL_STATUS_REASON : Fld := ⟨0x20000, 24, 8, 0⟩
def F.BEZEL_STATUS_SOURCE : Fld := ⟨0x20000, 22, 2, 0⟩
def F.BEZEL_STATUS_BUSY : Fld := ⟨0x20000, 16, 1, 0⟩
def F.BEZEL_STATUS_REFUSALS : Fld := ⟨0x20000, 0, 16, 0⟩
def F.BEZEL_FIELD_FIELD_ID : Fld := ⟨0x20004, 0, 32, 0⟩
def F.BEZEL_GROUP_GROUP_ID : Fld := ⟨0x20008, 0, 32, 0⟩
def F.BEZEL_COUNT_PENDING : Fld := ⟨0x2000c, 16, 16, 0⟩
def F.BEZEL_COUNT_WRITTEN : Fld := ⟨0x2000c, 0, 16, 0⟩
def F.BEZEL_CMD_OP : Fld := ⟨0x20010, 28, 4, 0⟩
def F.BEZEL_CMD_FIELD_FIELD_ID : Fld := ⟨0x20014, 0, 32, 0⟩
def F.BEZEL_PEEK_ADDR_OFFSET : Fld := ⟨0x20018, 2, 22, 0⟩
def F.BEZEL_PEEK_DATA_DATA : Fld := ⟨0x2001c, 0, 32, 0⟩
def F.BEZEL_PEEK_WR_WR : Fld := ⟨0x20020, 0, 32, 0⟩

/-! ### Clocks (R306–R308) -/

def F.PLL_CTL_SEARCH_EN (i : Nat) : Fld := ⟨0x30000 + i * 0x400, 8, 1, 1⟩
def F.PLL_CTL_EN (i : Nat) : Fld := ⟨0x30000 + i * 0x400, 0, 1, if i < 4 then 1 else 0⟩
def F.PLL_FCW_FCW (i : Nat) : Fld := ⟨0x30004 + i * 0x400, 0, 32, if i = 0 ∨ i = 2 then 0x50000000 else if i < 4 then 0x60000000 else 0x40000000⟩
def F.PLL_LOCKCFG_LOCK_CNT (i : Nat) : Fld := ⟨0x30008 + i * 0x400, 20, 12, 256⟩
def F.PLL_LOCKCFG_CWIN (i : Nat) : Fld := ⟨0x30008 + i * 0x400, 10, 10, 500⟩
def F.PLL_LOCKCFG_LOCK_WIN (i : Nat) : Fld := ⟨0x30008 + i * 0x400, 0, 10, 50⟩
def F.PLL_STAT_CAP (i : Nat) : Fld := ⟨0x3000c + i * 0x400, 24, 8, 0⟩
def F.PLL_STAT_STATE (i : Nat) : Fld := ⟨0x3000c + i * 0x400, 16, 3, 0⟩
def F.PLL_STAT_SRC (i : Nat) : Fld := ⟨0x3000c + i * 0x400, 14, 2, 0⟩
def F.PLL_STAT_BAND (i : Nat) : Fld := ⟨0x3000c + i * 0x400, 8, 6, 0⟩
def F.PLL_STAT_HOPENT (i : Nat) : Fld := ⟨0x3000c + i * 0x400, 4, 4, 0⟩
def F.PLL_PHERR_PEAK (i : Nat) : Fld := ⟨0x30010 + i * 0x400, 16, 16, 0⟩
def F.PLL_PHERR_ERR (i : Nat) : Fld := ⟨0x30010 + i * 0x400, 0, 16, 0⟩
def F.PLL_COUNT_LOSSES (i : Nat) : Fld := ⟨0x30014 + i * 0x400, 16, 16, 0⟩
def F.PLL_COUNT_ACQS (i : Nat) : Fld := ⟨0x30014 + i * 0x400, 0, 16, 0⟩
def F.PLL_CLR_CLR (i : Nat) : Fld := ⟨0x30018 + i * 0x400, 0, 1, 0⟩
def F.PLL_HOP_CLR_CLR (i : Nat) : Fld := ⟨0x3001c + i * 0x400, 0, 16, 0⟩
def F.PLL_SSC_SSC_EN (i : Nat) : Fld := ⟨0x30020 + i * 0x400, 31, 1, 0⟩
def F.PLL_SSC_MODE (i : Nat) : Fld := ⟨0x30020 + i * 0x400, 30, 1, 0⟩
def F.PLL_SSC_DEPTH (i : Nat) : Fld := ⟨0x30020 + i * 0x400, 16, 5, 0⟩
def F.PLL_SSC_RATE (i : Nat) : Fld := ⟨0x30020 + i * 0x400, 0, 8, 31⟩
def F.PLL_RAMP_CTL_MODE (i : Nat) : Fld := ⟨0x30040 + i * 0x400, 8, 1, 0⟩
def F.PLL_RAMP_CTL_NSEG (i : Nat) : Fld := ⟨0x30040 + i * 0x400, 0, 6, 1⟩
def F.PLL_RAMP_STAT_SEG (i : Nat) : Fld := ⟨0x30044 + i * 0x400, 21, 5, 0⟩
def F.PLL_RAMP_STAT_LIMITED (i : Nat) : Fld := ⟨0x30044 + i * 0x400, 1, 1, 0⟩
def F.PLL_RAMP_STAT_RUN (i : Nat) : Fld := ⟨0x30044 + i * 0x400, 0, 1, 0⟩
def F.PLL_RAMP_FCW_FCW_NOW (i : Nat) : Fld := ⟨0x30048 + i * 0x400, 0, 32, 0⟩
def F.PLL_RAMP_X_X (i : Nat) (j : Nat) : Fld := ⟨0x30080 + i * 0x400 + j * 0x8, 0, 32, 0⟩
def F.PLL_RAMP_F_FCW (i : Nat) (j : Nat) : Fld := ⟨0x30084 + i * 0x400 + j * 0x8, 0, 32, 0x40000000⟩
def F.PLL_BAND_A_FMAX (i : Nat) (j : Nat) : Fld := ⟨0x30180 + i * 0x400 + j * 0x8, 16, 16, 0⟩
def F.PLL_BAND_A_FMIN (i : Nat) (j : Nat) : Fld := ⟨0x30180 + i * 0x400 + j * 0x8, 0, 16, 0⟩
def F.PLL_BAND_B_VALID (i : Nat) (j : Nat) : Fld := ⟨0x30184 + i * 0x400 + j * 0x8, 31, 1, 0⟩
def F.PLL_BAND_B_CAP (i : Nat) (j : Nat) : Fld := ⟨0x30184 + i * 0x400 + j * 0x8, 16, 8, 0⟩
def F.PLL_BAND_B_KDCO (i : Nat) (j : Nat) : Fld := ⟨0x30184 + i * 0x400 + j * 0x8, 0, 16, 0⟩
def F.PLL_HOP_A_FCW (i : Nat) (j : Nat) : Fld := ⟨0x30380 + i * 0x400 + j * 0x8, 0, 32, 0⟩
def F.PLL_HOP_B_VALID (i : Nat) (j : Nat) : Fld := ⟨0x30384 + i * 0x400 + j * 0x8, 31, 1, 0⟩
def F.PLL_HOP_B_CAP (i : Nat) (j : Nat) : Fld := ⟨0x30384 + i * 0x400 + j * 0x8, 16, 8, 0⟩
def F.PLL_HOP_B_FINE (i : Nat) (j : Nat) : Fld := ⟨0x30384 + i * 0x400 + j * 0x8, 0, 16, 0⟩
def F.CLK_OUT_CFG_SRC (i : Nat) : Fld := ⟨0x33000 + i * 0x20, 28, 4, clkOutSrcReset i⟩
def F.CLK_OUT_CFG_DELAY (i : Nat) : Fld := ⟨0x33000 + i * 0x20, 16, 8, 0⟩
def F.CLK_OUT_CFG_DIV (i : Nat) : Fld := ⟨0x33000 + i * 0x20, 0, 12, clkOutDivReset i⟩
def F.CLK_OUT_CTL_EN (i : Nat) : Fld := ⟨0x33004 + i * 0x20, 0, 1, 0⟩
def F.CLK_OUT_CEIL_CEIL (i : Nat) : Fld := ⟨0x33008 + i * 0x20, 0, 16, 0⟩
def F.CLK_OUT_STAT_SWALLOWS (i : Nat) : Fld := ⟨0x3300c + i * 0x20, 16, 16, 0⟩
def F.CLK_OUT_STAT_RUNNING (i : Nat) : Fld := ⟨0x3300c + i * 0x20, 0, 1, 0⟩
def F.CLK_REF_REF_OK : Fld := ⟨0x33800, 1, 1, 0⟩
def F.CLK_REF_SRC : Fld := ⟨0x33800, 0, 1, 0⟩
def F.CLK_CMD_OP : Fld := ⟨0x33804, 28, 4, 0⟩
def F.CLK_CMD_PLL : Fld := ⟨0x33804, 24, 4, 0⟩
def F.CLK_CMD_ARG : Fld := ⟨0x33804, 16, 8, 0⟩
def F.CLK_CMD_SWEEP_ENT : Fld := ⟨0x33804, 8, 8, 0⟩
def F.CLK_CMD_FCW_FCW : Fld := ⟨0x33808, 0, 32, 0⟩
def F.CLK_CMD_STAT_BUSY : Fld := ⟨0x3380c, 31, 1, 0⟩
def F.CLK_CMD_STAT_STATUS : Fld := ⟨0x3380c, 0, 8, 0⟩
def F.CLK_CMD_RES0_RES : Fld := ⟨0x33810, 0, 32, 0⟩
def F.CLK_CMD_RES1_RES : Fld := ⟨0x33814, 0, 32, 0⟩

/-! ### Motors, command pins and external drives (R336, R337) -/

def F.MOT_CFG_PWM_KHZ (i : Nat) : Fld := ⟨0x400000 + i * 0x1000, 24, 8, 40⟩
def F.MOT_CFG_DEADTIME (i : Nat) : Fld := ⟨0x400000 + i * 0x1000, 16, 8, 40⟩
def F.MOT_CFG_POLE_PAIRS (i : Nat) : Fld := ⟨0x400000 + i * 0x1000, 10, 6, 2⟩
def F.MOT_CFG_POLY_EN (i : Nat) : Fld := ⟨0x400000 + i * 0x1000, 7, 1, 0⟩
def F.MOT_CFG_POLY_STATION (i : Nat) : Fld := ⟨0x400000 + i * 0x1000, 4, 3, 0⟩
def F.MOT_CFG_STOP_MODE (i : Nat) : Fld := ⟨0x400000 + i * 0x1000, 0, 1, 0⟩
def F.MOT_RATED_RATED_I (i : Nat) : Fld := ⟨0x400004 + i * 0x1000, 16, 16, 0⟩
def F.MOT_RATED_RATED_SPD (i : Nat) : Fld := ⟨0x400004 + i * 0x1000, 0, 16, 0⟩
def F.MOT_MODEL_RS (i : Nat) : Fld := ⟨0x400008 + i * 0x1000, 16, 16, 0⟩
def F.MOT_MODEL_KE (i : Nat) : Fld := ⟨0x400008 + i * 0x1000, 0, 16, 0⟩
def F.MOT_IND_LD (i : Nat) : Fld := ⟨0x40000c + i * 0x1000, 16, 16, 0⟩
def F.MOT_IND_LQ (i : Nat) : Fld := ⟨0x40000c + i * 0x1000, 0, 16, 0⟩
def F.MOT_VBUS_VBUS (i : Nat) : Fld := ⟨0x400010 + i * 0x1000, 0, 16, 48000⟩
def F.MOT_ILOOP_KP_I (i : Nat) : Fld := ⟨0x400014 + i * 0x1000, 16, 16, 0⟩
def F.MOT_ILOOP_KI_I (i : Nat) : Fld := ⟨0x400014 + i * 0x1000, 0, 16, 0⟩
def F.MOT_SLOOP_KP_S (i : Nat) : Fld := ⟨0x400018 + i * 0x1000, 16, 16, 0⟩
def F.MOT_SLOOP_KI_S (i : Nat) : Fld := ⟨0x400018 + i * 0x1000, 0, 16, 0⟩
def F.MOT_LIM_I_LIM (i : Nat) : Fld := ⟨0x40001c + i * 0x1000, 16, 16, 0⟩
def F.MOT_LIM_ACC_LIM (i : Nat) : Fld := ⟨0x40001c + i * 0x1000, 0, 16, 100⟩
def F.MOT_PROT_OC_TRIP (i : Nat) : Fld := ⟨0x400020 + i * 0x1000, 16, 16, 0⟩
def F.MOT_PROT_WIN_MIN (i : Nat) : Fld := ⟨0x400020 + i * 0x1000, 0, 9, 120⟩
def F.MOT_START_PULSE_T (i : Nat) : Fld := ⟨0x400024 + i * 0x1000, 24, 8, 50⟩
def F.MOT_START_PULSE_REST (i : Nat) : Fld := ⟨0x400024 + i * 0x1000, 16, 8, 20⟩
def F.MOT_START_CONTRAST (i : Nat) : Fld := ⟨0x400024 + i * 0x1000, 8, 8, 4⟩
def F.MOT_START_CATCH (i : Nat) : Fld := ⟨0x400024 + i * 0x1000, 0, 8, 20⟩
def F.MOT_HFI_HANDOVER (i : Nat) : Fld := ⟨0x400028 + i * 0x1000, 24, 8, 50⟩
def F.MOT_HFI_HYST (i : Nat) : Fld := ⟨0x400028 + i * 0x1000, 16, 8, 20⟩
def F.MOT_HFI_HFI_FREQ (i : Nat) : Fld := ⟨0x400028 + i * 0x1000, 12, 4, 2⟩
def F.MOT_HFI_HFI_AMP (i : Nat) : Fld := ⟨0x400028 + i * 0x1000, 0, 12, 100⟩
def F.MOT_OBS_CONF_MIN (i : Nat) : Fld := ⟨0x40002c + i * 0x1000, 24, 8, 96⟩
def F.MOT_OBS_COAST_PCT (i : Nat) : Fld := ⟨0x40002c + i * 0x1000, 16, 8, 30⟩
def F.MOT_OBS_RES_TOL (i : Nat) : Fld := ⟨0x40002c + i * 0x1000, 0, 16, 50⟩
def F.MOT_AT_AT_TIME (i : Nat) : Fld := ⟨0x400030 + i * 0x1000, 16, 16, 100⟩
def F.MOT_AT_AT_WIN (i : Nat) : Fld := ⟨0x400030 + i * 0x1000, 0, 16, 50⟩
def F.MOT_STAT_STATE (i : Nat) : Fld := ⟨0x400080 + i * 0x1000, 28, 4, 0⟩
def F.MOT_STAT_ASRC (i : Nat) : Fld := ⟨0x400080 + i * 0x1000, 26, 2, 0⟩
def F.MOT_STAT_CONF (i : Nat) : Fld := ⟨0x400080 + i * 0x1000, 16, 8, 0⟩
def F.MOT_STAT_PRED_RUN (i : Nat) : Fld := ⟨0x400080 + i * 0x1000, 8, 4, 0⟩
def F.MOT_STAT_AT_SPEED (i : Nat) : Fld := ⟨0x400080 + i * 0x1000, 2, 1, 0⟩
def F.MOT_STAT_FAULT (i : Nat) : Fld := ⟨0x400080 + i * 0x1000, 1, 1, 0⟩
def F.MOT_STAT_ENABLE (i : Nat) : Fld := ⟨0x400080 + i * 0x1000, 0, 1, 0⟩
def F.MOT_SPEED_SPEED (i : Nat) : Fld := ⟨0x400084 + i * 0x1000, 0, 32, 0⟩
def F.MOT_SETPT_SRC (i : Nat) : Fld := ⟨0x400088 + i * 0x1000, 17, 1, 0⟩
def F.MOT_SETPT_KIND (i : Nat) : Fld := ⟨0x400088 + i * 0x1000, 16, 1, 0⟩
def F.MOT_SETPT_SETPT (i : Nat) : Fld := ⟨0x400088 + i * 0x1000, 0, 16, 0⟩
def F.MOT_IDQ_IQ (i : Nat) : Fld := ⟨0x40008c + i * 0x1000, 16, 16, 0⟩
def F.MOT_IDQ_ID (i : Nat) : Fld := ⟨0x40008c + i * 0x1000, 0, 16, 0⟩
def F.MOT_ANGLE_ANGLE (i : Nat) : Fld := ⟨0x400090 + i * 0x1000, 0, 16, 0⟩
def F.MOT_FAULT_FCAUSE (i : Nat) : Fld := ⟨0x400094 + i * 0x1000, 0, 8, 0⟩
def F.MOT_COUNT_PREDICTS (i : Nat) : Fld := ⟨0x400098 + i * 0x1000, 24, 8, 0⟩
def F.MOT_COUNT_COASTS (i : Nat) : Fld := ⟨0x400098 + i * 0x1000, 16, 8, 0⟩
def F.MOT_COUNT_CATCHES (i : Nat) : Fld := ⟨0x400098 + i * 0x1000, 8, 8, 0⟩
def F.MOT_COUNT_START_FAILS (i : Nat) : Fld := ⟨0x400098 + i * 0x1000, 0, 8, 0⟩
def F.MOT_CLR_CLR (i : Nat) : Fld := ⟨0x4000a0 + i * 0x1000, 0, 1, 0⟩
def F.MOT_PULSE_PEAK (i : Nat) (j : Nat) : Fld := ⟨0x400100 + i * 0x1000 + j * 0x4, 0, 16, 0⟩
def F.CMD_CFG_MODE (i : Nat) : Fld := ⟨0x400800 + i * 0x1000, 30, 2, 0⟩
def F.CMD_CFG_KIND (i : Nat) : Fld := ⟨0x400800 + i * 0x1000, 29, 1, 0⟩
def F.CMD_CFG_TARGET (i : Nat) : Fld := ⟨0x400800 + i * 0x1000, 24, 4, 0⟩
def F.CMD_IN_LO_IN_LO (i : Nat) : Fld := ⟨0x400804 + i * 0x1000, 0, 32, 0⟩
def F.CMD_IN_HI_IN_HI (i : Nat) : Fld := ⟨0x400808 + i * 0x1000, 0, 32, 0⟩
def F.CMD_OUT_OUT_HI (i : Nat) : Fld := ⟨0x40080c + i * 0x1000, 16, 16, 0⟩
def F.CMD_OUT_OUT_LO (i : Nat) : Fld := ⟨0x40080c + i * 0x1000, 0, 16, 0⟩
def F.CMD_VAL_VAL (i : Nat) : Fld := ⟨0x400810 + i * 0x1000, 0, 32, 0⟩
def F.CMD_STAT_VALID (i : Nat) : Fld := ⟨0x400814 + i * 0x1000, 0, 1, 0⟩
def F.XD_CFG_MODE (i : Nat) : Fld := ⟨0x400c00 + i * 0x1000, 30, 2, 0⟩
def F.XD_CFG_POLY_EN (i : Nat) : Fld := ⟨0x400c00 + i * 0x1000, 23, 1, 0⟩
def F.XD_CFG_STATION (i : Nat) : Fld := ⟨0x400c00 + i * 0x1000, 20, 3, 0⟩
def F.XD_CFG_CARRIER (i : Nat) : Fld := ⟨0x400c00 + i * 0x1000, 0, 16, 20⟩
def F.XD_RPR_REF_PER_REV (i : Nat) : Fld := ⟨0x400c04 + i * 0x1000, 0, 32, 0x10000⟩
def F.XD_VALUE_VALUE (i : Nat) : Fld := ⟨0x400c08 + i * 0x1000, 0, 32, 0⟩
def F.XD_STAT_RUNNING (i : Nat) : Fld := ⟨0x400c0c + i * 0x1000, 1, 1, 0⟩
def F.XD_STAT_AT_SPEED (i : Nat) : Fld := ⟨0x400c0c + i * 0x1000, 0, 1, 0⟩

/-! ### Axes, encoders and web tracker (R360, R361) -/

def F.AX_CFG_CRIT (i : Nat) : Fld := ⟨0x500000 + i * 0x400, 31, 1, 0⟩
def F.AX_CFG_HOME_SRC (i : Nat) : Fld := ⟨0x500000 + i * 0x400, 30, 1, 0⟩
def F.AX_CFG_HOME_DIR (i : Nat) : Fld := ⟨0x500000 + i * 0x400, 29, 1, 0⟩
def F.AX_CFG_LIMIT_DIR (i : Nat) : Fld := ⟨0x500000 + i * 0x400, 28, 1, 0⟩
def F.AX_CFG_HOME_POL (i : Nat) : Fld := ⟨0x500000 + i * 0x400, 27, 1, 0⟩
def F.AX_CFG_LIMIT_POL (i : Nat) : Fld := ⟨0x500000 + i * 0x400, 26, 1, 0⟩
def F.AX_CFG_DIR_INV (i : Nat) : Fld := ⟨0x500000 + i * 0x400, 25, 1, 0⟩
def F.AX_CFG_EN_POL (i : Nat) : Fld := ⟨0x500000 + i * 0x400, 24, 1, 0⟩
def F.AX_TIMING_DIR_SU (i : Nat) : Fld := ⟨0x500004 + i * 0x400, 16, 16, 100⟩
def F.AX_TIMING_STEP_W (i : Nat) : Fld := ⟨0x500004 + i * 0x400, 0, 16, 25⟩
def F.AX_DEB_HOME_DEB (i : Nat) : Fld := ⟨0x500008 + i * 0x400, 16, 16, 100⟩
def F.AX_DEB_LIMIT_DEB (i : Nat) : Fld := ⟨0x500008 + i * 0x400, 0, 16, 100⟩
def F.AX_EMAX_EMAX (i : Nat) : Fld := ⟨0x50000c + i * 0x400, 0, 32, 0xf4240⟩
def F.AX_HOME_A_HOME_A (i : Nat) : Fld := ⟨0x500010 + i * 0x400, 0, 32, 0x186a0⟩
def F.AX_HOME_V_V_SEEK (i : Nat) : Fld := ⟨0x500014 + i * 0x400, 0, 32, 0⟩
def F.AX_HOME_VL_V_LATCH (i : Nat) : Fld := ⟨0x500018 + i * 0x400, 0, 32, 0⟩
def F.AX_HOME_CFG_PASSES (i : Nat) : Fld := ⟨0x50001c + i * 0x400, 30, 2, 1⟩
def F.AX_HOME_CFG_BACKOFF (i : Nat) : Fld := ⟨0x50001c + i * 0x400, 0, 30, 200⟩
def F.AX_HOME_TRAV_SEEK_MAX (i : Nat) : Fld := ⟨0x500020 + i * 0x400, 0, 32, 0⟩
def F.AX_HOME_POS_LO_HOME_POS (i : Nat) : Fld := ⟨0x500024 + i * 0x400, 0, 32, 0⟩
def F.AX_HOME_POS_HI_HOME_POS (i : Nat) : Fld := ⟨0x500028 + i * 0x400, 0, 16, 0⟩
def F.AX_STAT_STATE (i : Nat) : Fld := ⟨0x500080 + i * 0x400, 28, 4, 0⟩
def F.AX_STAT_QUEUED (i : Nat) : Fld := ⟨0x500080 + i * 0x400, 16, 7, 0⟩
def F.AX_STAT_SEGS (i : Nat) : Fld := ⟨0x500080 + i * 0x400, 8, 5, 0⟩
def F.AX_STAT_SOLSTICE (i : Nat) : Fld := ⟨0x500080 + i * 0x400, 5, 1, 0⟩
def F.AX_STAT_HOMED (i : Nat) : Fld := ⟨0x500080 + i * 0x400, 4, 1, 0⟩
def F.AX_STAT_LIMIT_ACT (i : Nat) : Fld := ⟨0x500080 + i * 0x400, 3, 1, 0⟩
def F.AX_STAT_HOME_ACT (i : Nat) : Fld := ⟨0x500080 + i * 0x400, 2, 1, 0⟩
def F.AX_STAT_DIR (i : Nat) : Fld := ⟨0x500080 + i * 0x400, 1, 1, 0⟩
def F.AX_STAT_EN (i : Nat) : Fld := ⟨0x500080 + i * 0x400, 0, 1, 0⟩
def F.AX_POS_LO_POS (i : Nat) : Fld := ⟨0x500084 + i * 0x400, 0, 32, 0⟩
def F.AX_POS_HI_POS (i : Nat) : Fld := ⟨0x500088 + i * 0x400, 0, 32, 0⟩
def F.AX_VEL_VEL (i : Nat) : Fld := ⟨0x50008c + i * 0x400, 0, 32, 0⟩
def F.AX_SOLSTICE_LO_SOL (i : Nat) : Fld := ⟨0x500090 + i * 0x400, 0, 32, 0⟩
def F.AX_SOLSTICE_HI_SOL (i : Nat) : Fld := ⟨0x500094 + i * 0x400, 0, 32, 0⟩
def F.AX_LATCH_POS_LO_LPOS (i : Nat) : Fld := ⟨0x500098 + i * 0x400, 0, 32, 0⟩
def F.AX_LATCH_POS_HI_LPOS (i : Nat) : Fld := ⟨0x50009c + i * 0x400, 0, 32, 0⟩
def F.AX_LATCH_ETIME_LO_LTIME (i : Nat) : Fld := ⟨0x5000a0 + i * 0x400, 0, 32, 0⟩
def F.AX_LATCH_ETIME_HI_LTIME (i : Nat) : Fld := ⟨0x5000a4 + i * 0x400, 0, 32, 0⟩
def F.AX_LATCH_WPOS_LO_LWPOS (i : Nat) : Fld := ⟨0x5000a8 + i * 0x400, 0, 32, 0⟩
def F.AX_LATCH_WPOS_HI_LWPOS (i : Nat) : Fld := ⟨0x5000ac + i * 0x400, 0, 32, 0⟩
def F.AX_LATCH_CLR_SRC (i : Nat) : Fld := ⟨0x5000b0 + i * 0x400, 1, 1, 0⟩
def F.AX_LATCH_CLR_CLR (i : Nat) : Fld := ⟨0x5000b0 + i * 0x400, 0, 1, 0⟩
def F.ENC_CFG_EN (i : Nat) : Fld := ⟨0x580000 + i * 0x40, 31, 1, 0⟩
def F.ENC_CFG_DIR_INV (i : Nat) : Fld := ⟨0x580000 + i * 0x40, 30, 1, 0⟩
def F.ENC_CFG_Z_POL (i : Nat) : Fld := ⟨0x580000 + i * 0x40, 29, 1, 0⟩
def F.ENC_CFG_FILT (i : Nat) : Fld := ⟨0x580000 + i * 0x40, 24, 3, 1⟩
def F.ENC_CFG_JW (i : Nat) : Fld := ⟨0x580000 + i * 0x40, 16, 4, 2⟩
def F.ENC_SCALE_SCALE (i : Nat) : Fld := ⟨0x580004 + i * 0x40, 0, 32, 0x1000000⟩
def F.ENC_RAW_LO_RAW (i : Nat) : Fld := ⟨0x580008 + i * 0x40, 0, 32, 0⟩
def F.ENC_RAW_HI_RAW (i : Nat) : Fld := ⟨0x58000c + i * 0x40, 0, 32, 0⟩
def F.ENC_REP_LO_REP (i : Nat) : Fld := ⟨0x580010 + i * 0x40, 0, 32, 0⟩
def F.ENC_REP_HI_REP (i : Nat) : Fld := ⟨0x580014 + i * 0x40, 0, 32, 0⟩
def F.ENC_Z_LO_ZCNT (i : Nat) : Fld := ⟨0x580018 + i * 0x40, 0, 32, 0⟩
def F.ENC_Z_HI_ZCNT (i : Nat) : Fld := ⟨0x58001c + i * 0x40, 0, 32, 0⟩
def F.ENC_Z_ETIME_LO_ZTIME (i : Nat) : Fld := ⟨0x580020 + i * 0x40, 0, 32, 0⟩
def F.ENC_Z_ETIME_HI_ZTIME (i : Nat) : Fld := ⟨0x580024 + i * 0x40, 0, 32, 0⟩
def F.ENC_STAT_ILLEGAL (i : Nat) : Fld := ⟨0x580028 + i * 0x40, 16, 16, 0⟩
def F.ENC_STAT_DIR (i : Nat) : Fld := ⟨0x580028 + i * 0x40, 1, 1, 0⟩
def F.ENC_STAT_Z_SEEN (i : Nat) : Fld := ⟨0x580028 + i * 0x40, 0, 1, 0⟩
def F.WEB_CFG_EN : Fld := ⟨0x581000, 31, 1, 0⟩
def F.WEB_CFG_MODE : Fld := ⟨0x581000, 8, 2, 0⟩
def F.WEB_CFG_SEC : Fld := ⟨0x581000, 4, 3, 1⟩
def F.WEB_CFG_PRI : Fld := ⟨0x581000, 0, 3, 0⟩
def F.WEB_FAIL_FAIL_DIST : Fld := ⟨0x581004, 0, 24, 4000⟩
def F.WEB_DISAGREE_DISAGREE : Fld := ⟨0x581008, 0, 32, 4000⟩
def F.WEB_STAT_SRC_SEC : Fld := ⟨0x58100c, 3, 1, 0⟩
def F.WEB_STAT_REVERSED : Fld := ⟨0x58100c, 2, 1, 0⟩
def F.WEB_STAT_DIS : Fld := ⟨0x58100c, 1, 1, 0⟩
def F.WEB_STAT_RUN : Fld := ⟨0x58100c, 0, 1, 0⟩
def F.WEB_VEL_VWEB : Fld := ⟨0x581010, 0, 32, 0⟩
def F.WEB_REV_DEPTH_DEPTH : Fld := ⟨0x581014, 0, 32, 0⟩
def F.WEB_REV_COUNT_REVS : Fld := ⟨0x581018, 0, 32, 0⟩

/-! ### Loop slots, high voltage, fuser zones and thermistors (R390, R391) -/

def F.LP_CFG_RATE (i : Nat) : Fld := ⟨0x600000 + i * 0x80, 28, 4, 0⟩
def F.LP_CFG_DECIM (i : Nat) : Fld := ⟨0x600000 + i * 0x80, 20, 8, 1⟩
def F.LP_CFG_ASSOC (i : Nat) : Fld := ⟨0x600000 + i * 0x80, 16, 4, 8⟩
def F.LP_CFG_SUP_ACT (i : Nat) : Fld := ⟨0x600000 + i * 0x80, 14, 2, 0⟩
def F.LP_CFG_NSTEPS (i : Nat) : Fld := ⟨0x600000 + i * 0x80, 8, 6, 1⟩
def F.LP_CFG_OUTREG (i : Nat) : Fld := ⟨0x600000 + i * 0x80, 0, 3, 4⟩
def F.LP_IN01_IN1 (i : Nat) : Fld := ⟨0x600004 + i * 0x80, 16, 16, 0⟩
def F.LP_IN01_IN0 (i : Nat) : Fld := ⟨0x600004 + i * 0x80, 0, 16, 0⟩
def F.LP_IN23_IN3 (i : Nat) : Fld := ⟨0x600008 + i * 0x80, 16, 16, 0⟩
def F.LP_IN23_IN2 (i : Nat) : Fld := ⟨0x600008 + i * 0x80, 0, 16, 0⟩
def F.LP_SINK_SINK (i : Nat) : Fld := ⟨0x60000c + i * 0x80, 0, 16, 0⟩
def F.LP_XSCALE_SCALE (i : Nat) : Fld := ⟨0x600010 + i * 0x80, 0, 32, 0⟩
def F.LP_XOFS_OFFSET (i : Nat) : Fld := ⟨0x600014 + i * 0x80, 0, 32, 0⟩
def F.LP_SETPT_SETPT (i : Nat) : Fld := ⟨0x600018 + i * 0x80, 0, 16, 0⟩
def F.LP_SUP_PL_CNT (i : Nat) : Fld := ⟨0x60001c + i * 0x80, 16, 16, 16⟩
def F.LP_SUP_SAT_LIM (i : Nat) : Fld := ⟨0x60001c + i * 0x80, 0, 16, 0⟩
def F.LP_PLAUS_PL_EN (i : Nat) : Fld := ⟨0x600020 + i * 0x80, 31, 1, 0⟩
def F.LP_PLAUS_PL_STEP (i : Nat) : Fld := ⟨0x600020 + i * 0x80, 24, 5, 0⟩
def F.LP_PLAUS_PL_FB (i : Nat) : Fld := ⟨0x600020 + i * 0x80, 20, 3, 1⟩
def F.LP_PLAUS_PL_THR (i : Nat) : Fld := ⟨0x600020 + i * 0x80, 0, 16, 1024⟩
def F.LP_STAT_MODE (i : Nat) : Fld := ⟨0x600040 + i * 0x80, 30, 2, 0⟩
def F.LP_STAT_SAT (i : Nat) : Fld := ⟨0x600040 + i * 0x80, 29, 1, 0⟩
def F.LP_STAT_SAT_TRIP (i : Nat) : Fld := ⟨0x600040 + i * 0x80, 28, 1, 0⟩
def F.LP_STAT_PL_TRIP (i : Nat) : Fld := ⟨0x600040 + i * 0x80, 27, 1, 0⟩
def F.LP_STAT_OUT (i : Nat) : Fld := ⟨0x600040 + i * 0x80, 0, 16, 0⟩
def F.LP_SUPCNT_PLCOUNT (i : Nat) : Fld := ⟨0x600044 + i * 0x80, 16, 16, 0⟩
def F.LP_SUPCNT_SATRUN (i : Nat) : Fld := ⟨0x600044 + i * 0x80, 0, 16, 0⟩
def F.LP_MAN_MAN (i : Nat) : Fld := ⟨0x600048 + i * 0x80, 0, 16, 0⟩
def F.LP_PROG_CRC_CRC (i : Nat) : Fld := ⟨0x60004c + i * 0x80, 0, 32, 0⟩
def F.LP_CLIPS_CLIPS (i : Nat) : Fld := ⟨0x600050 + i * 0x80, 0, 32, 0⟩
def F.LP_W_W (i : Nat) (j : Nat) : Fld := ⟨0x600060 + i * 0x80 + j * 0x4, 0, 16, 0⟩
def F.HV_CFG_PWM_KHZ (i : Nat) : Fld := ⟨0x700000 + i * 0x20, 24, 8, 100⟩
def F.HV_CFG_MAXDUTY (i : Nat) : Fld := ⟨0x700000 + i * 0x20, 16, 8, 128⟩
def F.HV_CFG_TRIP (i : Nat) : Fld := ⟨0x700000 + i * 0x20, 0, 12, 0⟩
def F.HV_STAT_SENSE (i : Nat) : Fld := ⟨0x700004 + i * 0x20, 16, 12, 0⟩
def F.HV_STAT_DUTY (i : Nat) : Fld := ⟨0x700004 + i * 0x20, 0, 16, 0⟩
def F.HV_CTL_TRIPPED (i : Nat) : Fld := ⟨0x700008 + i * 0x20, 1, 1, 0⟩
def F.HV_CTL_CLR (i : Nat) : Fld := ⟨0x700008 + i * 0x20, 0, 1, 0⟩
def F.FZ_CFG_EN (i : Nat) : Fld := ⟨0x700400 + i * 0x20, 31, 1, 0⟩
def F.FZ_CFG_LEVEL (i : Nat) : Fld := ⟨0x700400 + i * 0x20, 30, 1, 0⟩
def F.FZ_CFG_FULLCYC (i : Nat) : Fld := ⟨0x700400 + i * 0x20, 29, 1, 0⟩
def F.FZ_CFG_TSRC (i : Nat) : Fld := ⟨0x700400 + i * 0x20, 24, 4, 0⟩
def F.FZ_CFG_ZC_DLY (i : Nat) : Fld := ⟨0x700400 + i * 0x20, 16, 8, 5⟩
def F.FZ_CFG_FZ_PW (i : Nat) : Fld := ⟨0x700400 + i * 0x20, 8, 8, 10⟩
def F.FZ_TMAX_T_MAX (i : Nat) : Fld := ⟨0x700404 + i * 0x20, 0, 9, 230⟩
def F.FZ_STAT_RATIO (i : Nat) : Fld := ⟨0x700408 + i * 0x20, 16, 16, 0⟩
def F.FZ_STAT_OVERTEMP (i : Nat) : Fld := ⟨0x700408 + i * 0x20, 2, 1, 0⟩
def F.FZ_STAT_CONDUCTING (i : Nat) : Fld := ⟨0x700408 + i * 0x20, 1, 1, 0⟩
def F.FZ_STAT_CLR (i : Nat) : Fld := ⟨0x700408 + i * 0x20, 0, 1, 0⟩
def F.FZ_HALVES_HALVES (i : Nat) : Fld := ⟨0x70040c + i * 0x20, 0, 32, 0⟩
def F.TH_CFG_BETA (i : Nat) : Fld := ⟨0x700800 + i * 0x10, 16, 16, 3950⟩
def F.TH_CFG_EN (i : Nat) : Fld := ⟨0x700800 + i * 0x10, 0, 1, 0⟩
def F.TH_STAT_FAULT (i : Nat) : Fld := ⟨0x700804 + i * 0x10, 16, 1, 0⟩
def F.TH_STAT_TEMP (i : Nat) : Fld := ⟨0x700804 + i * 0x10, 0, 16, 0⟩
def F.ZC_CFG_ZC_FILT : Fld := ⟨0x700c00, 0, 1, 1⟩
def F.ZC_STAT_ZC_HALF : Fld := ⟨0x700c04, 16, 16, 0⟩
def F.ZC_STAT_ZC_OK : Fld := ⟨0x700c04, 0, 1, 0⟩
def F.LOOP_CLASS_PERIOD (i : Nat) : Fld := ⟨0x70f000 + i * 0x4, 0, 14, loopClassReset i⟩
def F.LOOP_LOAD_LOAD : Fld := ⟨0x70f020, 0, 10, 0⟩

/-! ### Islands and Clasps (R417, R418) -/

def F.ISL_STAT_STATE (i : Nat) : Fld := ⟨0x60000 + i * 0x8000, 28, 4, 0⟩
def F.ISL_STAT_READY (i : Nat) : Fld := ⟨0x60000 + i * 0x8000, 27, 1, 0⟩
def F.ISL_STAT_HB_OK (i : Nat) : Fld := ⟨0x60000 + i * 0x8000, 26, 1, 0⟩
def F.ISL_STAT_PATCHED (i : Nat) : Fld := ⟨0x60000 + i * 0x8000, 25, 1, 0⟩
def F.ISL_STAT_UNIT (i : Nat) : Fld := ⟨0x60000 + i * 0x8000, 24, 1, 1 - i⟩
def F.ISL_STAT_FENCE_CAUSE (i : Nat) : Fld := ⟨0x60000 + i * 0x8000, 0, 8, 0⟩
def F.ISL_SIGNET_SIGNET (i : Nat) : Fld := ⟨0x60004 + i * 0x8000, 0, 32, 0⟩
def F.ISL_HEALTH_HEALTH (i : Nat) : Fld := ⟨0x60008 + i * 0x8000, 0, 32, 0⟩
def F.ISL_LKSEQ_LKSEQ (i : Nat) : Fld := ⟨0x6000c + i * 0x8000, 0, 32, 0⟩
def F.ISL_EVENTS_TAKEOVERS (i : Nat) : Fld := ⟨0x60010 + i * 0x8000, 16, 16, 0⟩
def F.ISL_EVENTS_FENCES (i : Nat) : Fld := ⟨0x60010 + i * 0x8000, 0, 16, 0⟩
def F.ISL_SCRUB_UE (i : Nat) : Fld := ⟨0x60014 + i * 0x8000, 16, 16, 0⟩
def F.ISL_SCRUB_CE (i : Nat) : Fld := ⟨0x60014 + i * 0x8000, 0, 16, 0⟩
def F.ISL_BIST_FAILS (i : Nat) : Fld := ⟨0x60018 + i * 0x8000, 16, 16, 0⟩
def F.ISL_BIST_PASSES (i : Nat) : Fld := ⟨0x60018 + i * 0x8000, 0, 16, 0⟩
def F.CLASP_CFG_HOLD_LIM (i : Nat) : Fld := ⟨0x70000 + i * 0x10, 16, 16, 100⟩
def F.CLASP_CFG_TOL (i : Nat) : Fld := ⟨0x70000 + i * 0x10, 0, 16, 64⟩
def F.CLASP_SAFE_SAFE (i : Nat) : Fld := ⟨0x70504 + i * 0x10, 0, 32, 0⟩
def F.CLASP_ACK_ACK (i : Nat) : Fld := ⟨0x70008 + i * 0x10, 0, 32, 0⟩
def F.CLASP_STAT_STATE (i : Nat) : Fld := ⟨0x7000c + i * 0x10, 30, 2, 0⟩
def F.CLASP_STAT_MISMATCH (i : Nat) : Fld := ⟨0x7000c + i * 0x10, 29, 1, 0⟩
def F.CLASP_STAT_STALE (i : Nat) : Fld := ⟨0x7000c + i * 0x10, 8, 8, 0⟩
def F.CLASP_STAT_MM_RUN (i : Nat) : Fld := ⟨0x7000c + i * 0x10, 0, 8, 0⟩
def F.CLASP_ACK_MAX_ACK_MAX : Fld := ⟨0x70800, 0, 32, 0⟩
def F.CLASP_SUMMARY_SAFE_N : Fld := ⟨0x70804, 16, 16, 0⟩
def F.CLASP_SUMMARY_MM_N : Fld := ⟨0x70804, 0, 16, 0⟩
def F.CLASP_MM_LIM_MM_LIM : Fld := ⟨0x70808, 0, 8, 8⟩
def F.CLASP_CLR_CLR : Fld := ⟨0x7080c, 0, 1, 0⟩
def F.CLASP_ISL_CMD_OP : Fld := ⟨0x70810, 28, 4, 0⟩
def F.CLASP_ISL_STAT_BUSY : Fld := ⟨0x70814, 31, 1, 0⟩
def F.CLASP_ISL_STAT_STATUS : Fld := ⟨0x70814, 0, 8, 0⟩
def F.LOCKET_STAT_LKSEQ : Fld := ⟨0x70820, 0, 32, 0⟩

/-! ### Power states (R436) -/

def F.PWR_STAT_STATE : Fld := ⟨0x40000, 28, 4, 2⟩
def F.PWR_STAT_TARGET : Fld := ⟨0x40000, 24, 4, 0⟩
def F.PWR_STAT_BUSY : Fld := ⟨0x40000, 23, 1, 0⟩
def F.PWR_STAT_ATTEMPT : Fld := ⟨0x40000, 20, 3, 0⟩
def F.PWR_STAT_STEP : Fld := ⟨0x40000, 16, 4, 0⟩
def F.PWR_STAT_DOMAIN : Fld := ⟨0x40000, 8, 8, 255⟩
def F.PWR_CMD_OP : Fld := ⟨0x40004, 28, 4, 0⟩
def F.PWR_CMD_STAT_BUSY : Fld := ⟨0x40008, 31, 1, 0⟩
def F.PWR_CMD_STAT_STATUS : Fld := ⟨0x40008, 0, 8, 0⟩
def F.PWR_DOM_LEVEL (i : Nat) : Fld := ⟨0x40010 + i * 0x4, 30, 2, 0⟩
def F.PWR_DOM_REQ (i : Nat) : Fld := ⟨0x40010 + i * 0x4, 28, 2, 0⟩
def F.PWR_DOM_RAIL_EN (i : Nat) : Fld := ⟨0x40010 + i * 0x4, 8, 1, 0⟩
def F.PWR_DOM_RAIL (i : Nat) : Fld := ⟨0x40010 + i * 0x4, 0, 5, 0⟩
def F.PWR_TMO_REG_TMO : Fld := ⟨0x40100, 24, 8, 20⟩
def F.PWR_TMO_OSC_TMO : Fld := ⟨0x40100, 16, 8, 50⟩
def F.PWR_TMO_MEM_TMO : Fld := ⟨0x40100, 8, 8, 2⟩
def F.PWR_TMO_LOG_TMO : Fld := ⟨0x40100, 0, 8, 50⟩
def F.PWR_TMO_BAND_MEM_TMO_BAND : Fld := ⟨0x40104, 0, 16, 200⟩
def F.VIG_WAKE_EN_WAKE_TGT : Fld := ⟨0x40110, 30, 2, 1⟩
def F.VIG_WAKE_EN_DOZE_WAKE : Fld := ⟨0x40110, 29, 1, 0⟩
def F.VIG_WAKE_EN_WPOL : Fld := ⟨0x40110, 16, 4, 0⟩
def F.VIG_WAKE_EN_PERST : Fld := ⟨0x40110, 8, 1, 1⟩
def F.VIG_WAKE_EN_WAKE_EN : Fld := ⟨0x40110, 0, 7, 0⟩
def F.VIG_WAKE_PEND_PEND : Fld := ⟨0x40114, 0, 9, 0⟩
def F.VIG_ALARM_LO_ALARM : Fld := ⟨0x40118, 0, 32, 0⟩
def F.VIG_ALARM_HI_ALARM : Fld := ⟨0x4011c, 0, 16, 0⟩
def F.PWR_CNT_REFUSED (i : Nat) : Fld := ⟨0x40120 + i * 0x4, 16, 16, 0⟩
def F.PWR_CNT_ABORTED (i : Nat) : Fld := ⟨0x40120 + i * 0x4, 0, 16, 0⟩
def F.PWR_LOG_PTR_TOTAL : Fld := ⟨0x40130, 8, 8, 0⟩
def F.PWR_LOG_PTR_NEXT : Fld := ⟨0x40130, 0, 4, 0⟩
def F.PWR_LOG_CLR_CLR : Fld := ⟨0x40134, 0, 1, 0⟩
def F.PWR_LOG_FROM (i : Nat) : Fld := ⟨0x40140 + i * 0x10, 28, 4, 0⟩
def F.PWR_LOG_TO (i : Nat) : Fld := ⟨0x40140 + i * 0x10, 24, 4, 0⟩
def F.PWR_LOG_RESULT (i : Nat) : Fld := ⟨0x40140 + i * 0x10, 22, 2, 0⟩
def F.PWR_LOG_ATTEMPT (i : Nat) : Fld := ⟨0x40140 + i * 0x10, 20, 2, 0⟩
def F.PWR_LOG_STEP (i : Nat) : Fld := ⟨0x40140 + i * 0x10, 16, 4, 0⟩
def F.PWR_LOG_DOMAIN (i : Nat) : Fld := ⟨0x40140 + i * 0x10, 8, 8, 0⟩
def F.PWR_LOG_BLOCK (i : Nat) : Fld := ⟨0x40140 + i * 0x10, 0, 8, 0⟩
def F.PWR_LOG_INST_INST (i : Nat) : Fld := ⟨0x40144 + i * 0x10, 0, 16, 0⟩
def F.PWR_LOG_TIME_VTIME (i : Nat) : Fld := ⟨0x40148 + i * 0x10, 0, 32, 0⟩
def F.VIG_EMBER_CFG_EMBER_EN : Fld := ⟨0x40300, 31, 1, 0⟩
def F.VIG_EMBER_CFG_ZONE : Fld := ⟨0x40300, 28, 3, 0⟩
def F.VIG_EMBER_CFG_TH : Fld := ⟨0x40300, 24, 4, 0⟩
def F.VIG_EMBER_CFG_EMBER_TMAX : Fld := ⟨0x40300, 15, 9, 150⟩
def F.VIG_EMBER_CFG_EMBER_SET : Fld := ⟨0x40300, 6, 9, 100⟩
def F.VIG_EMBER_CFG_EMBER_RATIO : Fld := ⟨0x40300, 0, 6, 8⟩
def F.VIG_EMBER_STAT_TEMP : Fld := ⟨0x40304, 16, 16, 0⟩
def F.VIG_EMBER_STAT_CUT : Fld := ⟨0x40304, 2, 1, 0⟩
def F.VIG_EMBER_STAT_ACTIVE : Fld := ⟨0x40304, 1, 1, 0⟩
def F.VIG_EMBER_STAT_EMBER_CLR : Fld := ⟨0x40304, 0, 1, 0⟩

/-! ### Sequencer (R455) -/

def F.SEQ_CTL_PF_EN : Fld := ⟨0x50000, 3, 1, 1⟩
def F.SEQ_CTL_AUTO_RESTART : Fld := ⟨0x50000, 2, 1, 0⟩
def F.SEQ_CTL_CASC_IN : Fld := ⟨0x50000, 1, 1, 1⟩
def F.SEQ_CTL_BOOT : Fld := ⟨0x50000, 0, 1, 0⟩
def F.SEQ_TIME_T_RESTART : Fld := ⟨0x50004, 16, 16, 500⟩
def F.SEQ_TIME_MIN_OFF : Fld := ⟨0x50004, 0, 16, 100⟩
def F.SEQ_CASC_OUT_DLY : Fld := ⟨0x50008, 16, 16, 10⟩
def F.SEQ_CASC_CASC_WAIT : Fld := ⟨0x50008, 0, 16, 0⟩
def F.SEQ_STAT_STATE : Fld := ⟨0x50010, 28, 4, 0⟩
def F.SEQ_STAT_PEND_ON : Fld := ⟨0x50010, 27, 1, 0⟩
def F.SEQ_STAT_PFI_GOOD : Fld := ⟨0x50010, 26, 1, 0⟩
def F.SEQ_STAT_SEQ_IN : Fld := ⟨0x50010, 25, 1, 0⟩
def F.SEQ_STAT_SEQ_OUT : Fld := ⟨0x50010, 24, 1, 0⟩
def F.SEQ_STAT_RAIL : Fld := ⟨0x50010, 16, 5, 31⟩
def F.SEQ_EN_MAP_EN : Fld := ⟨0x50014, 0, 24, 0⟩
def F.SEQ_PG_MAP_PG : Fld := ⟨0x50018, 0, 24, 0⟩
def F.SEQ_FAULT_MAP_FAULT : Fld := ⟨0x5001c, 0, 24, 0⟩
def F.SEQ_COUNT_PF_TRIPS : Fld := ⟨0x50020, 16, 16, 0⟩
def F.SEQ_COUNT_RAIL_FAULTS : Fld := ⟨0x50020, 0, 16, 0⟩
def F.SEQ_CMD_OP : Fld := ⟨0x50030, 28, 4, 0⟩
def F.SEQ_CMD_RAIL : Fld := ⟨0x50030, 16, 5, 0⟩
def F.SEQ_CMD_STAT_BUSY : Fld := ⟨0x50034, 31, 1, 0⟩
def F.SEQ_CMD_STAT_STATUS : Fld := ⟨0x50034, 0, 8, 0⟩
def F.SEQ_RAIL_CFG_SEQ (i : Nat) : Fld := ⟨0x50100 + i * 0x10, 31, 1, if i < 8 then 1 else 0⟩
def F.SEQ_RAIL_CFG_PMB (i : Nat) : Fld := ⟨0x50100 + i * 0x10, 30, 1, 0⟩
def F.SEQ_RAIL_CFG_PG_SRC (i : Nat) : Fld := ⟨0x50100 + i * 0x10, 29, 1, 0⟩
def F.SEQ_RAIL_CFG_PG_POL (i : Nat) : Fld := ⟨0x50100 + i * 0x10, 28, 1, 0⟩
def F.SEQ_RAIL_CFG_FAULT_ACT (i : Nat) : Fld := ⟨0x50100 + i * 0x10, 26, 2, 1⟩
def F.SEQ_RAIL_CFG_PG_TMO (i : Nat) : Fld := ⟨0x50100 + i * 0x10, 16, 8, 20⟩
def F.SEQ_RAIL_CFG_ON_DLY (i : Nat) : Fld := ⟨0x50100 + i * 0x10, 8, 8, 10⟩
def F.SEQ_RAIL_CFG_OFF_DLY (i : Nat) : Fld := ⟨0x50100 + i * 0x10, 0, 8, if i < 8 then 10 else 0⟩
def F.SEQ_RAIL_PMB_ADDR (i : Nat) : Fld := ⟨0x50104 + i * 0x10, 16, 7, 0⟩
def F.SEQ_RAIL_PMB_PAGE (i : Nat) : Fld := ⟨0x50104 + i * 0x10, 0, 8, 0⟩
def F.SEQ_RAIL_STAT_RAMP_T (i : Nat) : Fld := ⟨0x50108 + i * 0x10, 16, 16, 0⟩
def F.SEQ_RAIL_STAT_OWNER (i : Nat) : Fld := ⟨0x50108 + i * 0x10, 4, 2, 0⟩
def F.SEQ_RAIL_STAT_STATE (i : Nat) : Fld := ⟨0x50108 + i * 0x10, 0, 3, 0⟩
def F.PMB_CFG_ROLE : Fld := ⟨0x50800, 30, 2, 0⟩
def F.PMB_CFG_SPEED : Fld := ⟨0x50800, 28, 2, 1⟩
def F.PMB_CFG_PEC : Fld := ⟨0x50800, 27, 1, 1⟩
def F.PMB_CFG_SLV_ADDR : Fld := ⟨0x50800, 16, 7, 64⟩
def F.PMB_CFG_POLL : Fld := ⟨0x50800, 8, 8, 1⟩
def F.PMB_CFG_RETRIES : Fld := ⟨0x50800, 0, 4, 2⟩
def F.PMB_STAT_ERRORS : Fld := ⟨0x50804, 16, 16, 0⟩
def F.PMB_STAT_STATUS_BYTE : Fld := ⟨0x50804, 8, 8, 0⟩
def F.PMB_STAT_BUSY : Fld := ⟨0x50804, 0, 1, 0⟩

/-! ### Start-up, patches and tiers (R475) -/

def F.BOOT_STAT_STAGE : Fld := ⟨0x3000, 28, 4, 0⟩
def F.BOOT_STAT_RESULT : Fld := ⟨0x3000, 26, 2, 0⟩
def F.BOOT_STAT_XTAL_FAIL : Fld := ⟨0x3000, 25, 1, 0⟩
def F.BOOT_STAT_BLOCK : Fld := ⟨0x3000, 16, 8, 0⟩
def F.BOOT_STAT_INST : Fld := ⟨0x3000, 0, 16, 0⟩
def F.BOOT_TIME_US : Fld := ⟨0x3004, 0, 32, 0⟩
def F.BOOT_FUSE_KEY_SET : Fld := ⟨0x3008, 31, 1, 1⟩
def F.BOOT_FUSE_PATCH_REQ : Fld := ⟨0x3008, 30, 1, 0⟩
def F.BOOT_FUSE_SVN_MIN : Fld := ⟨0x3008, 0, 16, 1⟩
def F.PATCH_STAT_STATE : Fld := ⟨0x3010, 28, 4, 0⟩
def F.PATCH_STAT_SRC : Fld := ⟨0x3010, 24, 4, 0⟩
def F.PATCH_STAT_REJECT : Fld := ⟨0x3010, 16, 8, 0⟩
def F.PATCH_STAT_SVN : Fld := ⟨0x3010, 0, 16, 0⟩
def F.PATCH_ADDR_LO_ADDR : Fld := ⟨0x3014, 0, 32, 0⟩
def F.PATCH_ADDR_HI_ADDR : Fld := ⟨0x3018, 0, 32, 0⟩
def F.PATCH_LEN_LEN : Fld := ⟨0x301c, 0, 32, 0⟩
def F.PATCH_CMD_LOAD : Fld := ⟨0x3020, 0, 1, 0⟩
def F.TIER_CFG_VFULL : Fld := ⟨0x3100, 16, 16, 4000⟩
def F.TIER_CFG_RISE_MS : Fld := ⟨0x3100, 8, 8, 100⟩
def F.TIER_CFG_REQ_STANDBY : Fld := ⟨0x3100, 0, 1, 0⟩
def F.TIER_COUNT_F_LOSSES : Fld := ⟨0x3104, 16, 16, 0⟩
def F.TIER_COUNT_P_LOSSES : Fld := ⟨0x3104, 0, 16, 0⟩
def F.TIER_BLOCK_P_STATION : Fld := ⟨0x3108, 16, 3, 0⟩
def F.TIER_BLOCK_P_COND : Fld := ⟨0x3108, 0, 13, 0⟩
def F.TIER_BLOCK_F_STATION : Fld := ⟨0x310c, 16, 3, 0⟩
def F.TIER_BLOCK_F_COND : Fld := ⟨0x310c, 0, 13, 0⟩

/-! ### Faults (R492) -/

def F.FAULT_STAT_FS_CAUSE : Fld := ⟨0x4000, 16, 16, 0⟩
def F.FAULT_STAT_SAFE_SRC : Fld := ⟨0x4000, 8, 4, 0⟩
def F.FAULT_STAT_FLUSHABLE : Fld := ⟨0x4000, 3, 1, 0⟩
def F.FAULT_STAT_WSTOP : Fld := ⟨0x4000, 2, 1, 0⟩
def F.FAULT_STAT_SAFE : Fld := ⟨0x4000, 1, 1, 0⟩
def F.FAULT_STAT_FRAME_STOP : Fld := ⟨0x4000, 0, 1, 0⟩
def F.FAULT_CTL_FLUSH : Fld := ⟨0x4004, 1, 1, 0⟩
def F.FAULT_CTL_FS_CLR : Fld := ⟨0x4004, 0, 1, 0⟩
def F.FAULT_HOLD_HOLD : Fld := ⟨0x4008, 0, 11, 0⟩
def F.FAULT_COUNT_SAFES : Fld := ⟨0x400c, 16, 16, 0⟩
def F.FAULT_COUNT_FRAME_STOPS : Fld := ⟨0x400c, 0, 16, 0⟩
def F.TEL_CFG_PERIOD : Fld := ⟨0x4010, 16, 16, 100⟩
def F.TEL_CFG_EN : Fld := ⟨0x4010, 0, 1, 0⟩
def F.TRACE_CFG_DONE_EN : Fld := ⟨0x4014, 1, 1, 0⟩
def F.TRACE_CFG_EN : Fld := ⟨0x4014, 0, 1, 0⟩

/-! ### Compatibility and link (R518) -/

def F.COMPAT_CFG_NCOM : Fld := ⟨0x5000, 0, 4, 0⟩
def F.LVT_CFG_EN : Fld := ⟨0x5010, 31, 1, 0⟩
def F.LVT_CFG_BPP2 : Fld := ⟨0x5010, 30, 1, 1⟩
def F.LVT_CFG_STATIONS : Fld := ⟨0x5010, 16, 8, 0⟩
def F.LVT_CFG_RATE : Fld := ⟨0x5010, 0, 16, 400⟩
def F.LVT_TH_FMAX : Fld := ⟨0x5014, 16, 16, 0⟩
def F.LVT_TH_T3 : Fld := ⟨0x5014, 8, 4, 12⟩
def F.LVT_TH_T2 : Fld := ⟨0x5014, 4, 4, 8⟩
def F.LVT_TH_T1 : Fld := ⟨0x5014, 0, 4, 4⟩
def F.LVT_STAT_BLANK_PKTS : Fld := ⟨0x5018, 16, 16, 0⟩
def F.LVT_STAT_RDY : Fld := ⟨0x5018, 8, 1, 0⟩
def F.LVT_STAT_TRAINED : Fld := ⟨0x5018, 0, 1, 0⟩
def F.LVR_STAT_UNDERRUN : Fld := ⟨0x501c, 16, 16, 0⟩
def F.LVR_STAT_BAD : Fld := ⟨0x501c, 0, 16, 0⟩
def F.LINK_LOOP_EN : Fld := ⟨0x5020, 31, 1, 0⟩
def F.LINK_LOOP_EXT : Fld := ⟨0x5020, 30, 1, 0⟩
def F.LINK_LOOP_START : Fld := ⟨0x5020, 29, 1, 0⟩
def F.LINK_LOOP_BPP2 : Fld := ⟨0x5020, 28, 1, 1⟩
def F.LINK_LOOP_PACKETS : Fld := ⟨0x5020, 0, 12, 256⟩
def F.LINK_LOOP_STAT_DONE : Fld := ⟨0x5024, 31, 1, 0⟩
def F.LINK_LOOP_STAT_PASS : Fld := ⟨0x5024, 30, 1, 0⟩
def F.LINK_LOOP_STAT_ERRORS : Fld := ⟨0x5024, 0, 16, 0⟩

/-! ### Motor scales and junction temperature (R534, R536) -/

def F.MOT_ISCALE_ISCALE (i : Nat) : Fld := ⟨0x400034 + i * 0x1000, 0, 32, 0x7d00000⟩
def F.MOT_VSCALE_VSCALE (i : Nat) : Fld := ⟨0x400038 + i * 0x1000, 0, 32, 0x11940000⟩
def F.VIG_TJ_TJ_WARN : Fld := ⟨0x40900, 24, 8, 110⟩
def F.VIG_TJ_TJ : Fld := ⟨0x40900, 0, 16, 0⟩
def F.VIG_TJ_PEAK_CLR : Fld := ⟨0x40904, 31, 1, 0⟩
def F.VIG_TJ_PEAK_PEAK : Fld := ⟨0x40904, 0, 16, 0⟩

/-! ### Global block and station path offsets (R29, R30) -/

def F.GLB_ID_PART : Fld := ⟨0x0, 16, 16, 28968⟩
def F.GLB_ID_FAMILY : Fld := ⟨0x0, 8, 8, 75⟩
def F.GLB_REV_STEPPING : Fld := ⟨0x4, 8, 8, 161⟩
def F.GLB_REV_ROM_REV : Fld := ⟨0x4, 0, 8, 1⟩
def F.GLB_MODE_STRAP_ERR : Fld := ⟨0x8, 2, 1, 0⟩
def F.GLB_MODE_MODE : Fld := ⟨0x8, 0, 2, 0⟩
def F.GLB_STATE_PSTATE : Fld := ⟨0x10, 20, 4, 2⟩
def F.GLB_STATE_TIER : Fld := ⟨0x10, 16, 4, 0⟩
def F.GLB_STATE_HOLD : Fld := ⟨0x10, 9, 1, 1⟩
def F.GLB_STATE_ARMED : Fld := ⟨0x10, 8, 1, 0⟩
def F.GLB_STATE_ACTIVE_ISL : Fld := ⟨0x10, 4, 1, 1⟩
def F.GLB_STATE_ETIME_RESEEDED : Fld := ⟨0x10, 0, 1, 0⟩
def F.ETIME_LO_VALUE : Fld := ⟨0x20, 0, 32, 0⟩
def F.ETIME_HI_VALUE : Fld := ⟨0x24, 0, 32, 0⟩
def F.VTIME_LO_VALUE : Fld := ⟨0x28, 0, 32, 0⟩
def F.VTIME_HI_VALUE : Fld := ⟨0x2c, 0, 32, 0⟩
def F.WPOS_LO_VALUE : Fld := ⟨0x30, 0, 32, 0⟩
def F.WPOS_HI_VALUE : Fld := ⟨0x34, 0, 32, 0⟩
def F.TSNAP_CTL_SNAP_VALID : Fld := ⟨0x40, 1, 1, 0⟩
def F.TSNAP_CTL_SNAP : Fld := ⟨0x40, 0, 1, 0⟩
def F.TSNAP_ETIME_LO_VALUE : Fld := ⟨0x48, 0, 32, 0⟩
def F.TSNAP_ETIME_HI_VALUE : Fld := ⟨0x4c, 0, 32, 0⟩
def F.TSNAP_VTIME_LO_VALUE : Fld := ⟨0x50, 0, 32, 0⟩
def F.TSNAP_VTIME_HI_VALUE : Fld := ⟨0x54, 0, 32, 0⟩
def F.TSNAP_WPOS_LO_VALUE : Fld := ⟨0x58, 0, 32, 0⟩
def F.TSNAP_WPOS_HI_VALUE : Fld := ⟨0x5c, 0, 32, 0⟩
def F.TSNAP_VPHASE_VPHASE : Fld := ⟨0x60, 0, 16, 0⟩
def F.WPOS_PRESET_LO_VALUE : Fld := ⟨0x68, 0, 32, 0⟩
def F.WPOS_PRESET_HI_VALUE : Fld := ⟨0x6c, 0, 32, 0⟩
def F.WPOS_CTL_PRESET : Fld := ⟨0x70, 0, 1, 0⟩

end Sys2Proof.Machine
end

