-- ==== Sys2Proof/Machine/RegTable.lean ====
section
/-! DEFINITION. The register table: for each register of BAR0 its name, first offset, instance indices with their
counts and strides, first index, commit group and fields with their access types (R12), from the register tables
of the spec; and the lookup of a BAR0 offset in it. -/

namespace Sys2Proof.Machine

/-- R12: the type of a field. -/
inductive Acc where
  | rwl | rws | rwf | ro | roh | wo | w1c
  deriving DecidableEq, Repr

/-- One row of a register table of the spec. -/
structure RegDesc where
  name : String
  base : Nat
  dims : List (Nat × Nat)
  first : Nat
  grp : GrpKind
  /-- The low word of a 64-bit RO-H value (R14). -/
  lo64 : Bool
  fields : List (Acc × Fld)
  deriving DecidableEq, Repr

/-- Global block and station path offsets (R29, R30). -/
def regTable01 : List RegDesc := [
  ⟨"ST_DS_NOM", 0x100100, [(8, 0x10000)], 0, .stPlace, false, [(.rws, F.ST_DS_NOM_DS_NOM 0)]⟩,
  ⟨"ST_DS_TRIM", 0x100104, [(8, 0x10000)], 0, .own, false, [(.roh, F.ST_DS_TRIM_DS_TRIM 0)]⟩,
  ⟨"ST_DS_EFF", 0x100108, [(8, 0x10000)], 0, .own, false, [(.roh, F.ST_DS_EFF_DS_EFF 0)]⟩,
  ⟨"ST_DS_LIM", 0x10010c, [(8, 0x10000)], 0, .stPlace, false, [(.rws, F.ST_DS_LIM_DS_LIM 0)]⟩,
  ⟨"GLB_ID", 0x0, [], 0, .own, false, [(.ro, F.GLB_ID_PART), (.ro, F.GLB_ID_FAMILY)]⟩,
  ⟨"GLB_REV", 0x4, [], 0, .own, false, [(.ro, F.GLB_REV_STEPPING), (.ro, F.GLB_REV_ROM_REV)]⟩,
  ⟨"GLB_MODE", 0x8, [], 0, .own, false, [(.ro, F.GLB_MODE_STRAP_ERR), (.ro, F.GLB_MODE_MODE)]⟩,
  ⟨"GLB_STATE", 0x10, [], 0, .own, false, [(.roh, F.GLB_STATE_PSTATE), (.roh, F.GLB_STATE_TIER), (.roh, F.GLB_STATE_HOLD), (.roh, F.GLB_STATE_ARMED), (.roh, F.GLB_STATE_ACTIVE_ISL), (.w1c, F.GLB_STATE_ETIME_RESEEDED)]⟩,
  ⟨"ETIME_LO", 0x20, [], 0, .own, true, [(.roh, F.ETIME_LO_VALUE)]⟩,
  ⟨"ETIME_HI", 0x24, [], 0, .own, false, [(.roh, F.ETIME_HI_VALUE)]⟩,
  ⟨"VTIME_LO", 0x28, [], 0, .own, true, [(.roh, F.VTIME_LO_VALUE)]⟩,
  ⟨"VTIME_HI", 0x2c, [], 0, .own, false, [(.roh, F.VTIME_HI_VALUE)]⟩,
  ⟨"WPOS_LO", 0x30, [], 0, .own, true, [(.roh, F.WPOS_LO_VALUE)]⟩,
  ⟨"WPOS_HI", 0x34, [], 0, .own, false, [(.roh, F.WPOS_HI_VALUE)]⟩,
  ⟨"TSNAP_CTL", 0x40, [], 0, .own, false, [(.roh, F.TSNAP_CTL_SNAP_VALID), (.wo, F.TSNAP_CTL_SNAP)]⟩,
  ⟨"TSNAP_ETIME_LO", 0x48, [], 0, .own, true, [(.roh, F.TSNAP_ETIME_LO_VALUE)]⟩,
  ⟨"TSNAP_ETIME_HI", 0x4c, [], 0, .own, false, [(.roh, F.TSNAP_ETIME_HI_VALUE)]⟩,
  ⟨"TSNAP_VTIME_LO", 0x50, [], 0, .own, true, [(.roh, F.TSNAP_VTIME_LO_VALUE)]⟩,
  ⟨"TSNAP_VTIME_HI", 0x54, [], 0, .own, false, [(.roh, F.TSNAP_VTIME_HI_VALUE)]⟩,
  ⟨"TSNAP_WPOS_LO", 0x58, [], 0, .own, true, [(.roh, F.TSNAP_WPOS_LO_VALUE)]⟩,
  ⟨"TSNAP_WPOS_HI", 0x5c, [], 0, .own, false, [(.roh, F.TSNAP_WPOS_HI_VALUE)]⟩,
  ⟨"TSNAP_VPHASE", 0x60, [], 0, .own, false, [(.roh, F.TSNAP_VPHASE_VPHASE)]⟩,
  ⟨"WPOS_PRESET_LO", 0x68, [], 0, .own, false, [(.rwf, F.WPOS_PRESET_LO_VALUE)]⟩,
  ⟨"WPOS_PRESET_HI", 0x6c, [], 0, .own, false, [(.rwf, F.WPOS_PRESET_HI_VALUE)]⟩,
  ⟨"WPOS_CTL", 0x70, [], 0, .own, false, [(.wo, F.WPOS_CTL_PRESET)]⟩]

/-- Almanac (R66). -/
def regTable02 : List RegDesc := [
  ⟨"ALM_CTL", 0x1000, [], 0, .almanac, false, [(.rws, F.ALM_CTL_DELIV_MK), (.rws, F.ALM_CTL_DELIV_MK_EN), (.rwl, F.ALM_CTL_ADMIT_EN)]⟩,
  ⟨"ALM_EVE_MARGIN", 0x1004, [], 0, .almanac, false, [(.rws, F.ALM_EVE_MARGIN_EVE_MARGIN)]⟩,
  ⟨"ALM_GAP", 0x1008, [], 0, .own, false, [(.rwl, F.ALM_GAP_GAP)]⟩,
  ⟨"ALM_LEAD", 0x100c, [], 0, .own, false, [(.rwl, F.ALM_LEAD_LEAD)]⟩,
  ⟨"ALM_DELIV_POS", 0x1010, [], 0, .almanac, false, [(.rws, F.ALM_DELIV_POS_DELIV_POS)]⟩,
  ⟨"ALM_DELIV_WIN", 0x1014, [], 0, .almanac, false, [(.rws, F.ALM_DELIV_WIN_DELIV_WIN)]⟩,
  ⟨"ALM_COUNT", 0x1020, [], 0, .own, false, [(.roh, F.ALM_COUNT_IN_FLIGHT), (.roh, F.ALM_COUNT_FREE)]⟩,
  ⟨"ALM_TAIL_LO", 0x1028, [], 0, .own, true, [(.roh, F.ALM_TAIL_LO_TAIL)]⟩,
  ⟨"ALM_TAIL_HI", 0x102c, [], 0, .own, false, [(.roh, F.ALM_TAIL_HI_TAIL)]⟩,
  ⟨"ALM_NEXT_EVE_LO", 0x1030, [], 0, .own, true, [(.roh, F.ALM_NEXT_EVE_LO_NEXT_EVE)]⟩,
  ⟨"ALM_NEXT_EVE_HI", 0x1034, [], 0, .own, false, [(.roh, F.ALM_NEXT_EVE_HI_NEXT_EVE)]⟩,
  ⟨"ALM_VACANT", 0x1040, [], 0, .own, false, [(.roh, F.ALM_VACANT_VACANT)]⟩,
  ⟨"ALM_SPOILED", 0x1044, [], 0, .own, false, [(.roh, F.ALM_SPOILED_SPOILED)]⟩,
  ⟨"ALM_SLOT_STATE", 0x1100, [(20, 0x4)], 0, .own, false, [(.roh, F.ALM_SLOT_STATE_STATE 0)]⟩]

/-- Band store (R71) and raster feed (R92). -/
def regTable03 : List RegDesc := [
  ⟨"BAND_RPR_GRAN", 0x2000, [], 0, .band, false, [(.rwf, F.BAND_RPR_GRAN_RPR_GRAN)]⟩,
  ⟨"BAND_SCR_GRAN", 0x2004, [], 0, .band, false, [(.rwf, F.BAND_SCR_GRAN_SCR_GRAN)]⟩,
  ⟨"BAND_POOL", 0x2008, [], 0, .own, false, [(.roh, F.BAND_POOL_POOL_GRAN)]⟩,
  ⟨"BAND_POOL_FREE", 0x200c, [], 0, .own, false, [(.roh, F.BAND_POOL_FREE_POOL_FREE)]⟩,
  ⟨"BAND_STAT", 0x2010, [], 0, .own, false, [(.roh, F.BAND_STAT_IN_SERVICE), (.roh, F.BAND_STAT_TRAINED)]⟩,
  ⟨"BAND_WRR", 0x2014, [], 0, .own, false, [(.rwl, F.BAND_WRR_HOST_W), (.rwl, F.BAND_WRR_CODEC_W)]⟩,
  ⟨"BAND_CE_COUNT", 0x2018, [], 0, .own, false, [(.roh, F.BAND_CE_COUNT_CE)]⟩,
  ⟨"BAND_UE_COUNT", 0x201c, [], 0, .own, false, [(.roh, F.BAND_UE_COUNT_UE)]⟩,
  ⟨"BAND_RETIRED", 0x2020, [], 0, .own, false, [(.roh, F.BAND_RETIRED_RETIRED)]⟩,
  ⟨"ST_FETCH_STAT", 0x100200, [(8, 0x10000)], 0, .own, false, [(.roh, F.ST_FETCH_STAT_TAG_HELD 0), (.roh, F.ST_FETCH_STAT_IMG_HELD 0), (.roh, F.ST_FETCH_STAT_ACTIVE 0)]⟩,
  ⟨"ST_FETCH_LEAD", 0x100204, [(8, 0x10000)], 0, .own, false, [(.roh, F.ST_FETCH_LEAD_LEAD_MIN 0)]⟩,
  ⟨"ST_LATE_LINES", 0x100208, [(8, 0x10000)], 0, .own, false, [(.roh, F.ST_LATE_LINES_LATE 0)]⟩,
  ⟨"ST_CHECK_FAIL", 0x10020c, [(8, 0x10000)], 0, .own, false, [(.roh, F.ST_CHECK_FAIL_FAIL 0)]⟩,
  ⟨"ST_LAST_FAIL", 0x100210, [(8, 0x10000)], 0, .own, false, [(.roh, F.ST_LAST_FAIL_SLOT 0), (.roh, F.ST_LAST_FAIL_TAG 0), (.roh, F.ST_LAST_FAIL_BAND 0)]⟩,
  ⟨"ST_FETCH_CLR", 0x100214, [(8, 0x10000)], 0, .own, false, [(.wo, F.ST_FETCH_CLR_CLR 0)]⟩]

/-- Codecs and reprint (R125). -/
def regTable04 : List RegDesc := [
  ⟨"CODEC_STAT", 0x300000, [], 0, .own, false, [(.roh, F.CODEC_STAT_QUEUED), (.roh, F.CODEC_STAT_SUSPENDED), (.roh, F.CODEC_STAT_REPLAY_BUSY), (.roh, F.CODEC_STAT_FRC_BUSY), (.roh, F.CODEC_STAT_LZ_BUSY)]⟩,
  ⟨"CODEC_CHAIN_CTL", 0x300004, [], 0, .own, false, [(.rwl, F.CODEC_CHAIN_CTL_CHAIN_TMO), (.rwl, F.CODEC_CHAIN_CTL_CHAIN_POLL)]⟩,
  ⟨"CODEC_RETRY", 0x300008, [], 0, .own, false, [(.roh, F.CODEC_RETRY_RETRY)]⟩,
  ⟨"CODEC_FAIL", 0x30000c, [], 0, .own, false, [(.roh, F.CODEC_FAIL_FAIL)]⟩,
  ⟨"CODEC_FRC_OVER", 0x300010, [], 0, .own, false, [(.roh, F.CODEC_FRC_OVER_OVER)]⟩,
  ⟨"RPR_CTL", 0x300020, [], 0, .own, false, [(.rws, F.RPR_CTL_CAP_STATIONS), (.rwl, F.RPR_CTL_AUTO_RELEASE)]⟩,
  ⟨"RPR_FREE", 0x300024, [], 0, .own, false, [(.roh, F.RPR_FREE_FREE_GRAN)]⟩,
  ⟨"RPR_HELD", 0x300028, [], 0, .own, false, [(.roh, F.RPR_HELD_HELD)]⟩,
  ⟨"RPR_LAST_ID", 0x30002c, [], 0, .own, false, [(.roh, F.RPR_LAST_ID_LAST_ID)]⟩,
  ⟨"RPR_TRUNC", 0x300030, [], 0, .own, false, [(.roh, F.RPR_TRUNC_TRUNC)]⟩]

/-- Table status (R151). -/
def regTable05 : List RegDesc := [
  ⟨"ST_TBL_STAT", 0x100300, [(8, 0x10000)], 0, .own, false, [(.roh, F.ST_TBL_STAT_SHADOW_VALID 0), (.roh, F.ST_TBL_STAT_ACTIVE_OK 0), (.roh, F.ST_TBL_STAT_BUSY 0), (.roh, F.ST_TBL_STAT_PEND_PAGE 0), (.roh, F.ST_TBL_STAT_PENDING 0), (.roh, F.ST_TBL_STAT_ACTIVE_BANK 0)]⟩,
  ⟨"ST_TBL_PEND_ID_LO", 0x100304, [(8, 0x10000)], 0, .own, true, [(.roh, F.ST_TBL_PEND_ID_LO_PEND_ID 0)]⟩,
  ⟨"ST_TBL_PEND_ID_HI", 0x100308, [(8, 0x10000)], 0, .own, false, [(.roh, F.ST_TBL_PEND_ID_HI_PEND_ID 0)]⟩,
  ⟨"ST_TBL_SWITCHES", 0x10030c, [(8, 0x10000)], 0, .own, false, [(.roh, F.ST_TBL_SWITCHES_SWITCHES 0)]⟩,
  ⟨"ST_TBL_REFUSED", 0x100310, [(8, 0x10000)], 0, .own, false, [(.roh, F.ST_TBL_REFUSED_REFUSED 0)]⟩]

/-- Scan geometry, marks and registration (R181–R183). -/
def regTable06a : List RegDesc := [
  ⟨"ST_OCTETS", 0x100400, [(8, 0x10000)], 0, .stGeom, false, [(.rwf, F.ST_OCTETS_OCT_MASK 0)]⟩,
  ⟨"ST_GEOM", 0x100404, [(8, 0x10000)], 0, .stGeom, false, [(.rwf, F.ST_GEOM_PIXELS 0), (.rwf, F.ST_GEOM_FACETS 0)]⟩,
  ⟨"ST_LMAP", 0x100408, [(8, 0x10000)], 0, .stGeom, false, [(.rwf, F.ST_LMAP_REVERSE 0), (.rwf, F.ST_LMAP_PITCH 0), (.rwf, F.ST_LMAP_PAIRED 0)]⟩,
  ⟨"ST_PLINE", 0x10040c, [(8, 0x10000)], 0, .stGeom, false, [(.rwf, F.ST_PLINE_P_LINE 0)]⟩,
  ⟨"ST_SCAN", 0x100410, [(8, 0x10000)], 0, .stPlace, false, [(.rws, F.ST_SCAN_SOS_OFS 0)]⟩,
  ⟨"ST_SCAN_REF", 0x100414, [(8, 0x10000)], 0, .stPlace, false, [(.rws, F.ST_SCAN_REF_T_REF 0)]⟩,
  ⟨"ST_FACET_STAT", 0x100418, [(8, 0x10000)], 0, .own, false, [(.roh, F.ST_FACET_STAT_STRAY 0), (.roh, F.ST_FACET_STAT_SIG_STATE 0), (.roh, F.ST_FACET_STAT_FACET 0), (.roh, F.ST_FACET_STAT_BD_OK 0)]⟩,
  ⟨"ST_FACET_PERIOD", 0x10041c, [(8, 0x10000)], 0, .own, false, [(.roh, F.ST_FACET_PERIOD_PERIOD 0)]⟩,
  ⟨"ST_SCAN_TIME", 0x100420, [(8, 0x10000)], 0, .own, false, [(.roh, F.ST_SCAN_TIME_SCAN 0)]⟩,
  ⟨"ST_SIG_CTL", 0x100424, [(8, 0x10000)], 0, .own, false, [(.rwl, F.ST_SIG_CTL_SIG_SHIFT 0), (.rwl, F.ST_SIG_CTL_ID_EN 0), (.wo, F.ST_SIG_CTL_CLEAR 0)]⟩,
  ⟨"ST_PH_CTL", 0x100500, [(8, 0x10000)], 0, .stPlace, false, [(.rws, F.ST_PH_CTL_PH_LOOP 0), (.rwl, F.ST_PH_CTL_PH_SLEW 0), (.rwl, F.ST_PH_CTL_LOCK_EN 0)]⟩,
  ⟨"ST_PH_OFF", 0x100504, [(1, 0x10000)], 0, .stPlace, false, [(.rws, F.ST_PH_OFF_PH_OFF 0)]⟩,
  ⟨"ST_PH_TGT", 0x100508, [(8, 0x10000)], 0, .own, false, [(.roh, F.ST_PH_TGT_TGT 0)]⟩,
  ⟨"ST_PH_ERR", 0x10050c, [(8, 0x10000)], 0, .own, false, [(.roh, F.ST_PH_ERR_ERR 0)]⟩,
  ⟨"ST_PH_LOCKCFG", 0x100510, [(8, 0x10000)], 0, .own, false, [(.rwl, F.ST_PH_LOCKCFG_LOCK_CNT 0), (.rwl, F.ST_PH_LOCKCFG_LOCK_WIN 0)]⟩,
  ⟨"ST_PH_STAT", 0x100514, [(8, 0x10000)], 0, .own, false, [(.roh, F.ST_PH_STAT_PEAK 0), (.roh, F.ST_PH_STAT_SLEWING 0), (.roh, F.ST_PH_STAT_PH_LOCKED 0)]⟩,
  ⟨"ST_PH_SLIPS", 0x100518, [(8, 0x10000)], 0, .own, false, [(.roh, F.ST_PH_SLIPS_SLIPS 0)]⟩,
  ⟨"ST_PH_CLR", 0x10051c, [(8, 0x10000)], 0, .own, false, [(.wo, F.ST_PH_CLR_CLR 0)]⟩,
  ⟨"ST_REG_CTL", 0x100600, [(8, 0x10000)], 0, .own, false, [(.rwl, F.ST_REG_CTL_MIN_MARKS 0), (.rwl, F.ST_REG_CTL_REF 0), (.rwl, F.ST_REG_CTL_XS_EN 0), (.rwl, F.ST_REG_CTL_XT_EN 0), (.rwl, F.ST_REG_CTL_IT_EN 0)]⟩,
  ⟨"ST_REG_GAIN", 0x100604, [(8, 0x10000)], 0, .own, false, [(.rwl, F.ST_REG_GAIN_K_IT 0), (.rwl, F.ST_REG_GAIN_K_XT 0), (.rwl, F.ST_REG_GAIN_K_XS 0)]⟩,
  ⟨"ST_REG_STEP", 0x100608, [(8, 0x10000)], 0, .own, false, [(.rwl, F.ST_REG_STEP_XT_STEP 0), (.rwl, F.ST_REG_STEP_IT_STEP 0)]⟩,
  ⟨"ST_XOFF_NOM", 0x10060c, [(8, 0x10000)], 0, .stPlace, false, [(.rws, F.ST_XOFF_NOM_XOFF_NOM 0)]⟩,
  ⟨"ST_XOFF_TRIM", 0x100610, [(8, 0x10000)], 0, .own, false, [(.roh, F.ST_XOFF_TRIM_XOFF_TRIM 0)]⟩,
  ⟨"ST_XOFF_LIM", 0x100614, [(8, 0x10000)], 0, .stPlace, false, [(.rws, F.ST_XOFF_LIM_XOFF_LIM 0)]⟩,
  ⟨"ST_XSCALE_NOM", 0x100618, [(8, 0x10000)], 0, .stPlace, false, [(.rws, F.ST_XSCALE_NOM_XSCALE_NOM 0)]⟩,
  ⟨"ST_XSCALE_TRIM", 0x10061c, [(8, 0x10000)], 0, .own, false, [(.roh, F.ST_XSCALE_TRIM_XSCALE_TRIM 0)]⟩,
  ⟨"ST_XSCALE_LIM", 0x100620, [(8, 0x10000)], 0, .stPlace, false, [(.rwl, F.ST_XSCALE_LIM_XS_STEP 0), (.rws, F.ST_XSCALE_LIM_XS_LIM 0)]⟩,
  ⟨"ST_REG_CONV", 0x100624, [(8, 0x10000)], 0, .own, false, [(.rwl, F.ST_REG_CONV_CONV_FRAMES 0), (.rwl, F.ST_REG_CONV_CONV_WIN 0)]⟩,
  ⟨"ST_REG_E_IT", 0x100628, [(8, 0x10000)], 0, .own, false, [(.roh, F.ST_REG_E_IT_E_IT 0)]⟩,
  ⟨"ST_REG_E_XT", 0x10062c, [(8, 0x10000)], 0, .own, false, [(.roh, F.ST_REG_E_XT_E_XT 0)]⟩,
  ⟨"ST_REG_E_XS", 0x100630, [(8, 0x10000)], 0, .own, false, [(.roh, F.ST_REG_E_XS_E_XS 0)]⟩,
  ⟨"ST_REG_STAT", 0x100634, [(8, 0x10000)], 0, .own, false, [(.roh, F.ST_REG_STAT_UPDATES 0), (.roh, F.ST_REG_STAT_USED 0), (.roh, F.ST_REG_STAT_CONVERGED 0)]⟩,
  ⟨"ST_FIL_TRIM", 0x100700, [(8, 0x10000), (32, 0x4)], 0, .slice, false, [(.rws, F.ST_FIL_TRIM_FIL_TRIM 0 0)]⟩,
  ⟨"ST_SLICE_COUNT", 0x100780, [(8, 0x10000), (32, 0x4)], 0, .slice, false, [(.rws, F.ST_SLICE_COUNT_SLICE_COUNT 0 0)]⟩,
  ⟨"ST_SIG", 0x101000, [(8, 0x10000), (16, 0x80), (32, 0x4)], 0, .own, false, [(.roh, F.ST_SIG_SOFF 0 0 0), (.roh, F.ST_SIG_LSCALE 0 0 0)]⟩,
  ⟨"ST_SLICE", 0x102000, [(8, 0x10000), (32, 0x100), (64, 0x4)], 0, .slice, false, [(.rws, F.ST_SLICE_LIN 0 0 0), (.rws, F.ST_SLICE_ORDER 0 0 0), (.rws, F.ST_SLICE_POS 0 0 0)]⟩,
  ⟨"MK_CFG", 0x582000, [(16, 0x10)], 0, .own, false, [(.rws, F.MK_CFG_FILT 0), (.rws, F.MK_CFG_POL 0), (.rws, F.MK_CFG_EN 0)]⟩,
  ⟨"MK_POS", 0x582004, [(16, 0x10)], 0, .own, false, [(.rws, F.MK_POS_POS 0)]⟩,
  ⟨"MK_XPOS", 0x582008, [(16, 0x10)], 0, .own, false, [(.rws, F.MK_XPOS_XPOS 0)]⟩,
  ⟨"MK_COUNT", 0x58200c, [(16, 0x10)], 0, .own, false, [(.roh, F.MK_COUNT_COUNT 0)]⟩]

/-- Scan geometry, marks and registration (R181–R183). -/
def regTable06b : List RegDesc := [
  ⟨"MK_CTL", 0x582100, [], 0, .own, false, [(.rws, F.MK_CTL_WIN), (.rwl, F.MK_CTL_REC_EN)]⟩,
  ⟨"REG_PLAN", 0x582400, [(64, 0x8)], 0, .own, false, [(.rws, F.REG_PLAN_EN 0), (.rws, F.REG_PLAN_KIND 0), (.rws, F.REG_PLAN_SENSOR 0), (.rws, F.REG_PLAN_STATION 0)]⟩,
  ⟨"REG_PLAN_Y", 0x582404, [(64, 0x8)], 0, .own, false, [(.rws, F.REG_PLAN_Y_Y 0)]⟩]

/-- Beams, octets and the interlock latch (R212–R214). -/
def regTable07 : List RegDesc := [
  ⟨"ST_EXPO", 0x100800, [(8, 0x10000)], 0, .stExpo, false, [(.rws, F.ST_EXPO_PAIR_FRAC 0), (.rws, F.ST_EXPO_ALIGN 0)]⟩,
  ⟨"ST_WDOG", 0x100804, [(8, 0x10000)], 0, .stGeom, false, [(.rwf, F.ST_WDOG_MAX_ON 0)]⟩,
  ⟨"ST_SCANCTL", 0x100808, [(8, 0x10000)], 0, .own, false, [(.roh, F.ST_SCANCTL_NOSCAN 0), (.wo, F.ST_SCANCTL_NOSCAN_CLR 0), (.rwl, F.ST_SCANCTL_SCAN_EN 0)]⟩,
  ⟨"BM_BIAS", 0x200000, [(128, 0x100)], 0, .beam, false, [(.rws, F.BM_BIAS_BIAS 0)]⟩,
  ⟨"BM_MOD", 0x200004, [(128, 0x100)], 0, .beam, false, [(.roh, F.BM_MOD_MOD 0), (.rws, F.BM_MOD_MOD_INIT 0)]⟩,
  ⟨"BM_MOD_LIM", 0x200008, [(128, 0x100)], 0, .beam, false, [(.rws, F.BM_MOD_LIM_MOD_MAX 0), (.rws, F.BM_MOD_LIM_MOD_MIN 0)]⟩,
  ⟨"BM_APC", 0x20000c, [(128, 0x100)], 0, .beam, false, [(.rwl, F.BM_APC_APC_EN 0), (.rws, F.BM_APC_TGT 0)]⟩,
  ⟨"BM_MPD", 0x200010, [(128, 0x100)], 0, .own, false, [(.roh, F.BM_MPD_SAMPLES 0), (.roh, F.BM_MPD_LAST 0)]⟩,
  ⟨"BM_STAT", 0x200014, [(128, 0x100)], 0, .own, false, [(.w1c, F.BM_STAT_CUT_FAIL 0), (.roh, F.BM_STAT_APC_LIM 0), (.roh, F.BM_STAT_EXCLUDED 0), (.roh, F.BM_STAT_WD_CAUSE 0), (.w1c, F.BM_STAT_WD_CUT 0)]⟩,
  ⟨"BM_ONMAX", 0x200018, [(128, 0x100)], 0, .own, false, [(.wo, F.BM_ONMAX_CLR 0), (.roh, F.BM_ONMAX_ONMAX 0)]⟩,
  ⟨"OCT_TLIM", 0x200080, [(16, 0x800)], 0, .octTherm, false, [(.rws, F.OCT_TLIM_DERATE_PCT 0), (.rws, F.OCT_TLIM_T_WARN 0), (.rws, F.OCT_TLIM_T_DERATE 0), (.rws, F.OCT_TLIM_T_CUT 0)]⟩,
  ⟨"OCT_THERM", 0x200084, [(16, 0x800)], 0, .octTherm, false, [(.rws, F.OCT_THERM_BETA 0), (.rws, F.OCT_THERM_HYST 0)]⟩,
  ⟨"OCT_TEMP", 0x200088, [(16, 0x800)], 0, .own, false, [(.roh, F.OCT_TEMP_TEMP 0)]⟩,
  ⟨"OCT_VBS", 0x20008c, [(16, 0x800)], 0, .own, false, [(.roh, F.OCT_VBS_VBS 0)]⟩,
  ⟨"OCT_VBS_WIN", 0x200090, [(16, 0x800)], 0, .octTherm, false, [(.rws, F.OCT_VBS_WIN_VBS_MAX 0), (.rws, F.OCT_VBS_WIN_VBS_MIN 0)]⟩,
  ⟨"OCT_APC", 0x200094, [(16, 0x800)], 0, .own, false, [(.rwl, F.OCT_APC_K_APC 0), (.rwl, F.OCT_APC_APC_STEP 0), (.rwl, F.OCT_APC_APC_PULSE 0)]⟩,
  ⟨"OCT_SCALE", 0x200098, [(16, 0x800)], 0, .own, false, [(.roh, F.OCT_SCALE_K_DER 0), (.roh, F.OCT_SCALE_S 0)]⟩,
  ⟨"OCT_STAT", 0x20009c, [(16, 0x800)], 0, .own, false, [(.roh, F.OCT_STAT_VBS_OK 0), (.roh, F.OCT_STAT_WSAT 0), (.roh, F.OCT_STAT_CUT_HELD 0), (.roh, F.OCT_STAT_DERATED 0), (.roh, F.OCT_STAT_WARN 0)]⟩,
  ⟨"OCT_COUNT", 0x2000a0, [(16, 0x800)], 0, .own, false, [(.roh, F.OCT_COUNT_WSAT_LINES 0), (.roh, F.OCT_COUNT_APC_SKIP 0)]⟩,
  ⟨"OCT_CLR", 0x2000a4, [(16, 0x800)], 0, .own, false, [(.wo, F.OCT_CLR_CLR 0)]⟩,
  ⟨"OCT_ECT_AXES", 0x200180, [(16, 0x800)], 0, .octEct, false, [(.rws, F.OCT_ECT_AXES_T0 0), (.rws, F.OCT_ECT_AXES_TSTEP 0), (.rws, F.OCT_ECT_AXES_V0 0), (.rws, F.OCT_ECT_AXES_VSTEP 0)]⟩,
  ⟨"OCT_ECT", 0x200280, [(16, 0x800), (32, 0x4)], 0, .octEct, false, [(.rws, F.OCT_ECT_E_ODD 0 0), (.rws, F.OCT_ECT_E_EVEN 0 0)]⟩,
  ⟨"OCT_ECTB", 0x200380, [(16, 0x800), (8, 0x4)], 0, .octEct, false, [(.rws, F.OCT_ECTB_E_ODD 0 0), (.rws, F.OCT_ECTB_E_EVEN 0 0)]⟩,
  ⟨"OCT_ECT_40", 0x2003a0, [(16, 0x800)], 0, .octEct, false, [(.rws, F.OCT_ECTB_E_EVEN 0 8)]⟩,
  ⟨"VIG_LSAFE", 0x40800, [], 0, .own, false, [(.roh, F.VIG_LSAFE_DISAGREE), (.roh, F.VIG_LSAFE_B_LOW), (.roh, F.VIG_LSAFE_A_LOW), (.roh, F.VIG_LSAFE_SUPPLY_FAULT), (.roh, F.VIG_LSAFE_LATCHED), (.wo, F.VIG_LSAFE_CLR)]⟩,
  ⟨"VIG_LSAFE_TRIPS", 0x40804, [], 0, .own, false, [(.roh, F.VIG_LSAFE_TRIPS_TRIPS)]⟩]

/-- Roll call (R230, R231). -/
def regTable08 : List RegDesc := [
  ⟨"ST_ROLL_CTL", 0x100900, [(8, 0x10000)], 0, .stExpo, false, [(.rws, F.ST_ROLL_CTL_HEAL_PCT 0), (.rws, F.ST_ROLL_CTL_HEAL_MAX 0), (.rws, F.ST_ROLL_CTL_HEAL_EN 0), (.rws, F.ST_ROLL_CTL_ROLL_LEAD 0), (.rws, F.ST_ROLL_CTL_ROLL_W 0)]⟩,
  ⟨"ST_ROLL_STAT", 0x100904, [(8, 0x10000)], 0, .own, false, [(.roh, F.ST_ROLL_STAT_DROPS 0), (.roh, F.ST_ROLL_STAT_CROWDED 0), (.roh, F.ST_ROLL_STAT_PHASE 0)]⟩,
  ⟨"ST_DROP_MAP", 0x100908, [(8, 0x10000)], 0, .own, false, [(.roh, F.ST_DROP_MAP_DROPPED 0)]⟩,
  ⟨"ST_DROP_CLR", 0x10090c, [(8, 0x10000)], 0, .own, false, [(.wo, F.ST_DROP_CLR_CLR 0)]⟩,
  ⟨"ST_RESTORE_PEND", 0x100910, [(8, 0x10000)], 0, .own, false, [(.roh, F.ST_RESTORE_PEND_PEND 0)]⟩,
  ⟨"ST_ROLL_MISSES", 0x100914, [(8, 0x10000)], 0, .own, false, [(.roh, F.ST_ROLL_MISSES_MISSES 0)]⟩,
  ⟨"ST_HEAL_LINES", 0x100918, [(8, 0x10000)], 0, .own, false, [(.roh, F.ST_HEAL_LINES_HEALED 0)]⟩,
  ⟨"ST_HALF_LINES", 0x10091c, [(8, 0x10000)], 0, .own, false, [(.roh, F.ST_HALF_LINES_HALF 0)]⟩,
  ⟨"ST_HEAL_CLAMP", 0x100920, [(8, 0x10000)], 0, .own, false, [(.roh, F.ST_HEAL_CLAMP_CLAMP 0)]⟩,
  ⟨"ST_ROLL_CLR", 0x100924, [(8, 0x10000)], 0, .own, false, [(.wo, F.ST_ROLL_CLR_CLR 0)]⟩,
  ⟨"BM_ROLL", 0x200020, [(128, 0x100)], 0, .own, false, [(.roh, F.BM_ROLL_REJOINS 0), (.roh, F.BM_ROLL_MISS_RUN 0), (.roh, F.BM_ROLL_ADEV 0)]⟩]

/-- Rings, vectors, events and fence windows (R262, R263). -/
def regTable09 : List RegDesc := [
  ⟨"RING_BASE_LO", 0x10000, [(32, 0x40)], 0, .ring, false, [(.rwf, F.RING_BASE_LO_BASE_L 0)]⟩,
  ⟨"RING_BASE_HI", 0x10004, [(32, 0x40)], 0, .ring, false, [(.rwf, F.RING_BASE_HI_BASE_H 0)]⟩,
  ⟨"RING_WB_LO", 0x10008, [(32, 0x40)], 0, .ring, false, [(.rwf, F.RING_WB_LO_WB_L 0)]⟩,
  ⟨"RING_WB_HI", 0x1000c, [(32, 0x40)], 0, .ring, false, [(.rwf, F.RING_WB_HI_WB_H 0)]⟩,
  ⟨"RING_CFG", 0x10010, [(32, 0x40)], 0, .ring, false, [(.rwf, F.RING_CFG_LOG2_SIZE 0)]⟩,
  ⟨"RING_CTL", 0x10014, [(32, 0x40)], 0, .own, false, [(.rwl, F.RING_CTL_EN 0)]⟩,
  ⟨"RING_STAT", 0x10018, [(32, 0x40)], 0, .own, false, [(.roh, F.RING_STAT_STATE 0), (.roh, F.RING_STAT_ERR_CAUSE 0)]⟩,
  ⟨"RING_IDX", 0x1001c, [(32, 0x40)], 0, .own, false, [(.roh, F.RING_IDX_PI 0), (.roh, F.RING_IDX_CI 0)]⟩,
  ⟨"RING_TAKEN", 0x10020, [(32, 0x40)], 0, .own, false, [(.roh, F.RING_TAKEN_TAKEN 0)]⟩,
  ⟨"RING_REFUSED", 0x10024, [(32, 0x40)], 0, .own, false, [(.roh, F.RING_REFUSED_REFUSED 0)]⟩,
  ⟨"RING_DISCARD", 0x10028, [(32, 0x40)], 0, .own, false, [(.roh, F.RING_DISCARD_DISCARD 0)]⟩,
  ⟨"VEC_MOD", 0x10800, [(64, 0x4)], 0, .own, false, [(.rwl, F.VEC_MOD_MOD_TIME 0), (.rwl, F.VEC_MOD_MOD_COUNT 0)]⟩,
  ⟨"EVT_STAT", 0x10c00, [], 0, .own, false, [(.roh, F.EVT_STAT_HELD), (.roh, F.EVT_STAT_SEQ)]⟩,
  ⟨"EVT_DROPPED", 0x10c04, [], 0, .own, false, [(.roh, F.EVT_DROPPED_DROPPED)]⟩,
  ⟨"EVT_LAST", 0x10c20, [(8, 0x4)], 0, .own, false, [(.roh, F.EVT_LAST_REC 0)]⟩,
  ⟨"EVT_LAST_8", 0x10c40, [], 0, .own, false, [(.roh, F.EVT_LAST_8_SEQ), (.roh, F.EVT_LAST_8_BLOCK)]⟩,
  ⟨"FW_BASE_LO", 0x11000, [(64, 0x10)], 0, .fence, false, [(.rwf, F.FW_BASE_LO_BASE_L 0), (.rwf, F.FW_BASE_LO_WRITE 0), (.rwf, F.FW_BASE_LO_READ 0), (.rwf, F.FW_BASE_LO_VALID 0)]⟩,
  ⟨"FW_BASE_HI", 0x11004, [(64, 0x10)], 0, .fence, false, [(.rwf, F.FW_BASE_HI_BASE_H 0)]⟩,
  ⟨"FW_LIMIT_LO", 0x11008, [(64, 0x10)], 0, .fence, false, [(.rwf, F.FW_LIMIT_LO_LIMIT_L 0)]⟩,
  ⟨"FW_LIMIT_HI", 0x1100c, [(64, 0x10)], 0, .fence, false, [(.rwf, F.FW_LIMIT_HI_LIMIT_H 0)]⟩]

/-- Bezel control (R280). -/
def regTable10 : List RegDesc := [
  ⟨"BEZEL_STATUS", 0x20000, [], 0, .own, false, [(.roh, F.BEZEL_STATUS_REASON), (.roh, F.BEZEL_STATUS_SOURCE), (.roh, F.BEZEL_STATUS_BUSY), (.roh, F.BEZEL_STATUS_REFUSALS)]⟩,
  ⟨"BEZEL_FIELD", 0x20004, [], 0, .own, false, [(.roh, F.BEZEL_FIELD_FIELD_ID)]⟩,
  ⟨"BEZEL_GROUP", 0x20008, [], 0, .own, false, [(.roh, F.BEZEL_GROUP_GROUP_ID)]⟩,
  ⟨"BEZEL_COUNT", 0x2000c, [], 0, .own, false, [(.roh, F.BEZEL_COUNT_PENDING), (.roh, F.BEZEL_COUNT_WRITTEN)]⟩,
  ⟨"BEZEL_CMD", 0x20010, [], 0, .own, false, [(.wo, F.BEZEL_CMD_OP)]⟩,
  ⟨"BEZEL_CMD_FIELD", 0x20014, [], 0, .own, false, [(.rwl, F.BEZEL_CMD_FIELD_FIELD_ID)]⟩,
  ⟨"BEZEL_PEEK_ADDR", 0x20018, [], 0, .own, false, [(.rwl, F.BEZEL_PEEK_ADDR_OFFSET)]⟩,
  ⟨"BEZEL_PEEK_DATA", 0x2001c, [], 0, .own, false, [(.roh, F.BEZEL_PEEK_DATA_DATA)]⟩,
  ⟨"BEZEL_PEEK_WR", 0x20020, [], 0, .own, false, [(.roh, F.BEZEL_PEEK_WR_WR)]⟩]

/-- Clocks (R306–R308). -/
def regTable11a : List RegDesc := [
  ⟨"PLL_CTL", 0x30000, [(4, 0x400)], 0, .own, false, [(.rwl, F.PLL_CTL_SEARCH_EN 0), (.roh, F.PLL_CTL_EN 0)]⟩,
  ⟨"PLL_CTL", 0x31000, [(8, 0x400)], 4, .own, false, [(.rwl, F.PLL_CTL_SEARCH_EN 4), (.rwl, F.PLL_CTL_EN 4)]⟩,
  ⟨"PLL_FCW", 0x30004, [(1, 0x400)], 0, .pll, false, [(.roh, F.PLL_FCW_FCW 0)]⟩,
  ⟨"PLL_FCW", 0x30404, [(1, 0x400)], 1, .pll, false, [(.roh, F.PLL_FCW_FCW 1)]⟩,
  ⟨"PLL_FCW", 0x30804, [(1, 0x400)], 2, .pll, false, [(.roh, F.PLL_FCW_FCW 2)]⟩,
  ⟨"PLL_FCW", 0x30c04, [(1, 0x400)], 3, .pll, false, [(.roh, F.PLL_FCW_FCW 3)]⟩,
  ⟨"PLL_FCW", 0x31004, [(8, 0x400)], 4, .pll, false, [(.rwf, F.PLL_FCW_FCW 4)]⟩,
  ⟨"PLL_LOCKCFG", 0x30008, [(12, 0x400)], 0, .own, false, [(.rwl, F.PLL_LOCKCFG_LOCK_CNT 0), (.rwl, F.PLL_LOCKCFG_CWIN 0), (.rwl, F.PLL_LOCKCFG_LOCK_WIN 0)]⟩,
  ⟨"PLL_STAT", 0x3000c, [(12, 0x400)], 0, .own, false, [(.roh, F.PLL_STAT_CAP 0), (.roh, F.PLL_STAT_STATE 0), (.roh, F.PLL_STAT_SRC 0), (.roh, F.PLL_STAT_BAND 0), (.roh, F.PLL_STAT_HOPENT 0)]⟩,
  ⟨"PLL_PHERR", 0x30010, [(12, 0x400)], 0, .own, false, [(.roh, F.PLL_PHERR_PEAK 0), (.roh, F.PLL_PHERR_ERR 0)]⟩,
  ⟨"PLL_COUNT", 0x30014, [(12, 0x400)], 0, .own, false, [(.roh, F.PLL_COUNT_LOSSES 0), (.roh, F.PLL_COUNT_ACQS 0)]⟩,
  ⟨"PLL_CLR", 0x30018, [(12, 0x400)], 0, .own, false, [(.wo, F.PLL_CLR_CLR 0)]⟩,
  ⟨"PLL_HOP_CLR", 0x3001c, [(12, 0x400)], 0, .own, false, [(.wo, F.PLL_HOP_CLR_CLR 0)]⟩,
  ⟨"PLL_SSC", 0x30020, [(3, 0x400)], 0, .pll, false, [(.rws, F.PLL_SSC_SSC_EN 0), (.rws, F.PLL_SSC_MODE 0), (.rws, F.PLL_SSC_DEPTH 0), (.rws, F.PLL_SSC_RATE 0)]⟩,
  ⟨"PLL_RAMP_CTL", 0x31040, [(8, 0x400)], 4, .ramp, false, [(.rwf, F.PLL_RAMP_CTL_MODE 4), (.rwf, F.PLL_RAMP_CTL_NSEG 4)]⟩,
  ⟨"PLL_RAMP_STAT", 0x31044, [(8, 0x400)], 4, .own, false, [(.roh, F.PLL_RAMP_STAT_SEG 4), (.roh, F.PLL_RAMP_STAT_LIMITED 4), (.roh, F.PLL_RAMP_STAT_RUN 4)]⟩,
  ⟨"PLL_RAMP_FCW", 0x31048, [(8, 0x400)], 4, .own, false, [(.roh, F.PLL_RAMP_FCW_FCW_NOW 4)]⟩,
  ⟨"PLL_RAMP_X", 0x31080, [(8, 0x400), (32, 0x8)], 4, .ramp, false, [(.rwf, F.PLL_RAMP_X_X 4 0)]⟩,
  ⟨"PLL_RAMP_F", 0x31084, [(8, 0x400), (32, 0x8)], 4, .ramp, false, [(.rwf, F.PLL_RAMP_F_FCW 4 0)]⟩,
  ⟨"PLL_BAND_A", 0x30180, [(12, 0x400), (64, 0x8)], 0, .bandTbl, false, [(.rws, F.PLL_BAND_A_FMAX 0 0), (.rws, F.PLL_BAND_A_FMIN 0 0)]⟩,
  ⟨"PLL_BAND_B", 0x30184, [(12, 0x400), (64, 0x8)], 0, .bandTbl, false, [(.rws, F.PLL_BAND_B_VALID 0 0), (.rws, F.PLL_BAND_B_CAP 0 0), (.rws, F.PLL_BAND_B_KDCO 0 0)]⟩,
  ⟨"PLL_HOP_A", 0x30380, [(12, 0x400), (16, 0x8)], 0, .own, false, [(.roh, F.PLL_HOP_A_FCW 0 0)]⟩,
  ⟨"PLL_HOP_B", 0x30384, [(12, 0x400), (16, 0x8)], 0, .own, false, [(.roh, F.PLL_HOP_B_VALID 0 0), (.roh, F.PLL_HOP_B_CAP 0 0), (.roh, F.PLL_HOP_B_FINE 0 0)]⟩,
  ⟨"CLK_OUT_CFG", 0x33000, [(1, 0x20)], 0, .clkOut, false, [(.ro, F.CLK_OUT_CFG_SRC 0), (.rwf, F.CLK_OUT_CFG_DELAY 0), (.rwf, F.CLK_OUT_CFG_DIV 0)]⟩,
  ⟨"CLK_OUT_CFG", 0x33020, [(1, 0x20)], 1, .clkOut, false, [(.ro, F.CLK_OUT_CFG_SRC 1), (.rwf, F.CLK_OUT_CFG_DELAY 1), (.rwf, F.CLK_OUT_CFG_DIV 1)]⟩,
  ⟨"CLK_OUT_CFG", 0x33040, [(1, 0x20)], 2, .clkOut, false, [(.ro, F.CLK_OUT_CFG_SRC 2), (.rwf, F.CLK_OUT_CFG_DELAY 2), (.rwf, F.CLK_OUT_CFG_DIV 2)]⟩,
  ⟨"CLK_OUT_CFG", 0x33060, [(1, 0x20)], 3, .clkOut, false, [(.ro, F.CLK_OUT_CFG_SRC 3), (.rwf, F.CLK_OUT_CFG_DELAY 3), (.rwf, F.CLK_OUT_CFG_DIV 3)]⟩,
  ⟨"CLK_OUT_CFG", 0x33080, [(1, 0x20)], 4, .clkOut, false, [(.ro, F.CLK_OUT_CFG_SRC 4), (.rwf, F.CLK_OUT_CFG_DELAY 4), (.rwf, F.CLK_OUT_CFG_DIV 4)]⟩,
  ⟨"CLK_OUT_CFG", 0x330a0, [(1, 0x20)], 5, .clkOut, false, [(.ro, F.CLK_OUT_CFG_SRC 5), (.rwf, F.CLK_OUT_CFG_DELAY 5), (.rwf, F.CLK_OUT_CFG_DIV 5)]⟩,
  ⟨"CLK_OUT_CFG", 0x330c0, [(1, 0x20)], 6, .clkOut, false, [(.ro, F.CLK_OUT_CFG_SRC 6), (.rwf, F.CLK_OUT_CFG_DELAY 6), (.rwf, F.CLK_OUT_CFG_DIV 6)]⟩,
  ⟨"CLK_OUT_CFG", 0x330e0, [(1, 0x20)], 7, .clkOut, false, [(.ro, F.CLK_OUT_CFG_SRC 7), (.rwf, F.CLK_OUT_CFG_DELAY 7), (.rwf, F.CLK_OUT_CFG_DIV 7)]⟩,
  ⟨"CLK_OUT_CFG", 0x33100, [(1, 0x20)], 8, .clkOut, false, [(.ro, F.CLK_OUT_CFG_SRC 8), (.rwf, F.CLK_OUT_CFG_DELAY 8), (.ro, F.CLK_OUT_CFG_DIV 8)]⟩,
  ⟨"CLK_OUT_CFG", 0x33120, [(1, 0x20)], 9, .clkOut, false, [(.ro, F.CLK_OUT_CFG_SRC 9), (.rwf, F.CLK_OUT_CFG_DELAY 9), (.ro, F.CLK_OUT_CFG_DIV 9)]⟩,
  ⟨"CLK_OUT_CFG", 0x33140, [(1, 0x20)], 10, .clkOut, false, [(.ro, F.CLK_OUT_CFG_SRC 10), (.rwf, F.CLK_OUT_CFG_DELAY 10), (.ro, F.CLK_OUT_CFG_DIV 10)]⟩,
  ⟨"CLK_OUT_CFG", 0x33160, [(1, 0x20)], 11, .clkOut, false, [(.ro, F.CLK_OUT_CFG_SRC 11), (.rwf, F.CLK_OUT_CFG_DELAY 11), (.ro, F.CLK_OUT_CFG_DIV 11)]⟩,
  ⟨"CLK_OUT_CFG", 0x33180, [(1, 0x20)], 12, .clkOut, false, [(.ro, F.CLK_OUT_CFG_SRC 12), (.rwf, F.CLK_OUT_CFG_DELAY 12), (.rwf, F.CLK_OUT_CFG_DIV 12)]⟩,
  ⟨"CLK_OUT_CFG", 0x331a0, [(1, 0x20)], 13, .clkOut, false, [(.ro, F.CLK_OUT_CFG_SRC 13), (.rwf, F.CLK_OUT_CFG_DELAY 13), (.rwf, F.CLK_OUT_CFG_DIV 13)]⟩,
  ⟨"CLK_OUT_CFG", 0x331c0, [(1, 0x20)], 14, .clkOut, false, [(.ro, F.CLK_OUT_CFG_SRC 14), (.rwf, F.CLK_OUT_CFG_DELAY 14), (.rwf, F.CLK_OUT_CFG_DIV 14)]⟩,
  ⟨"CLK_OUT_CFG", 0x33280, [(1, 0x20)], 20, .clkOut, false, [(.rwf, F.CLK_OUT_CFG_SRC 20), (.rwf, F.CLK_OUT_CFG_DELAY 20), (.rwf, F.CLK_OUT_CFG_DIV 20)]⟩,
  ⟨"CLK_OUT_CFG", 0x332a0, [(1, 0x20)], 21, .clkOut, false, [(.rwf, F.CLK_OUT_CFG_SRC 21), (.rwf, F.CLK_OUT_CFG_DELAY 21), (.rwf, F.CLK_OUT_CFG_DIV 21)]⟩]

/-- Clocks (R306–R308). -/
def regTable11b : List RegDesc := [
  ⟨"CLK_OUT_CFG", 0x332c0, [(1, 0x20)], 22, .clkOut, false, [(.rwf, F.CLK_OUT_CFG_SRC 22), (.rwf, F.CLK_OUT_CFG_DELAY 22), (.rwf, F.CLK_OUT_CFG_DIV 22)]⟩,
  ⟨"CLK_OUT_CFG", 0x332e0, [(1, 0x20)], 23, .clkOut, false, [(.rwf, F.CLK_OUT_CFG_SRC 23), (.rwf, F.CLK_OUT_CFG_DELAY 23), (.rwf, F.CLK_OUT_CFG_DIV 23)]⟩,
  ⟨"CLK_OUT_CTL", 0x33004, [(8, 0x20)], 0, .clkOut, false, [(.rwf, F.CLK_OUT_CTL_EN 0)]⟩,
  ⟨"CLK_OUT_CTL", 0x33104, [(7, 0x20)], 8, .clkOut, false, [(.roh, F.CLK_OUT_CTL_EN 8)]⟩,
  ⟨"CLK_OUT_CTL", 0x33284, [(4, 0x20)], 20, .clkOut, false, [(.rwl, F.CLK_OUT_CTL_EN 20)]⟩,
  ⟨"CLK_OUT_CEIL", 0x33008, [(15, 0x20)], 0, .clkOut, false, [(.rws, F.CLK_OUT_CEIL_CEIL 0)]⟩,
  ⟨"CLK_OUT_CEIL", 0x33288, [(4, 0x20)], 20, .clkOut, false, [(.rws, F.CLK_OUT_CEIL_CEIL 20)]⟩,
  ⟨"CLK_OUT_STAT", 0x3300c, [(24, 0x20)], 0, .own, false, [(.roh, F.CLK_OUT_STAT_SWALLOWS 0), (.roh, F.CLK_OUT_STAT_RUNNING 0)]⟩,
  ⟨"CLK_REF", 0x33800, [], 0, .own, false, [(.roh, F.CLK_REF_REF_OK), (.ro, F.CLK_REF_SRC)]⟩,
  ⟨"CLK_CMD", 0x33804, [], 0, .own, false, [(.wo, F.CLK_CMD_OP), (.wo, F.CLK_CMD_PLL), (.wo, F.CLK_CMD_ARG), (.wo, F.CLK_CMD_SWEEP_ENT)]⟩,
  ⟨"CLK_CMD_FCW", 0x33808, [], 0, .own, false, [(.rwl, F.CLK_CMD_FCW_FCW)]⟩,
  ⟨"CLK_CMD_STAT", 0x3380c, [], 0, .own, false, [(.roh, F.CLK_CMD_STAT_BUSY), (.roh, F.CLK_CMD_STAT_STATUS)]⟩,
  ⟨"CLK_CMD_RES0", 0x33810, [], 0, .own, false, [(.roh, F.CLK_CMD_RES0_RES)]⟩,
  ⟨"CLK_CMD_RES1", 0x33814, [], 0, .own, false, [(.roh, F.CLK_CMD_RES1_RES)]⟩]

/-- Motors, command pins and external drives (R336, R337). -/
def regTable12 : List RegDesc := [
  ⟨"MOT_CFG", 0x400000, [(16, 0x1000)], 0, .motor, false, [(.rwf, F.MOT_CFG_PWM_KHZ 0), (.rwf, F.MOT_CFG_DEADTIME 0), (.rwf, F.MOT_CFG_POLE_PAIRS 0), (.rwf, F.MOT_CFG_POLY_EN 0), (.rwf, F.MOT_CFG_POLY_STATION 0), (.rws, F.MOT_CFG_STOP_MODE 0)]⟩,
  ⟨"MOT_RATED", 0x400004, [(16, 0x1000)], 0, .motor, false, [(.rwf, F.MOT_RATED_RATED_I 0), (.rwf, F.MOT_RATED_RATED_SPD 0)]⟩,
  ⟨"MOT_MODEL", 0x400008, [(16, 0x1000)], 0, .motor, false, [(.rws, F.MOT_MODEL_RS 0), (.rws, F.MOT_MODEL_KE 0)]⟩,
  ⟨"MOT_IND", 0x40000c, [(16, 0x1000)], 0, .motor, false, [(.rws, F.MOT_IND_LD 0), (.rws, F.MOT_IND_LQ 0)]⟩,
  ⟨"MOT_VBUS", 0x400010, [(16, 0x1000)], 0, .motor, false, [(.rws, F.MOT_VBUS_VBUS 0)]⟩,
  ⟨"MOT_ILOOP", 0x400014, [(16, 0x1000)], 0, .motor, false, [(.rws, F.MOT_ILOOP_KP_I 0), (.rws, F.MOT_ILOOP_KI_I 0)]⟩,
  ⟨"MOT_SLOOP", 0x400018, [(16, 0x1000)], 0, .motor, false, [(.rws, F.MOT_SLOOP_KP_S 0), (.rws, F.MOT_SLOOP_KI_S 0)]⟩,
  ⟨"MOT_LIM", 0x40001c, [(16, 0x1000)], 0, .motor, false, [(.rws, F.MOT_LIM_I_LIM 0), (.rws, F.MOT_LIM_ACC_LIM 0)]⟩,
  ⟨"MOT_PROT", 0x400020, [(16, 0x1000)], 0, .motor, false, [(.rws, F.MOT_PROT_OC_TRIP 0), (.rws, F.MOT_PROT_WIN_MIN 0)]⟩,
  ⟨"MOT_START", 0x400024, [(16, 0x1000)], 0, .motor, false, [(.rws, F.MOT_START_PULSE_T 0), (.rws, F.MOT_START_PULSE_REST 0), (.rws, F.MOT_START_CONTRAST 0), (.rws, F.MOT_START_CATCH 0)]⟩,
  ⟨"MOT_HFI", 0x400028, [(16, 0x1000)], 0, .motor, false, [(.rws, F.MOT_HFI_HANDOVER 0), (.rws, F.MOT_HFI_HYST 0), (.rws, F.MOT_HFI_HFI_FREQ 0), (.rws, F.MOT_HFI_HFI_AMP 0)]⟩,
  ⟨"MOT_OBS", 0x40002c, [(16, 0x1000)], 0, .motor, false, [(.rws, F.MOT_OBS_CONF_MIN 0), (.rws, F.MOT_OBS_COAST_PCT 0), (.rws, F.MOT_OBS_RES_TOL 0)]⟩,
  ⟨"MOT_AT", 0x400030, [(16, 0x1000)], 0, .motor, false, [(.rws, F.MOT_AT_AT_TIME 0), (.rws, F.MOT_AT_AT_WIN 0)]⟩,
  ⟨"MOT_STAT", 0x400080, [(16, 0x1000)], 0, .motor, false, [(.roh, F.MOT_STAT_STATE 0), (.roh, F.MOT_STAT_ASRC 0), (.roh, F.MOT_STAT_CONF 0), (.roh, F.MOT_STAT_PRED_RUN 0), (.roh, F.MOT_STAT_AT_SPEED 0), (.roh, F.MOT_STAT_FAULT 0), (.roh, F.MOT_STAT_ENABLE 0)]⟩,
  ⟨"MOT_SPEED", 0x400084, [(16, 0x1000)], 0, .motor, false, [(.roh, F.MOT_SPEED_SPEED 0)]⟩,
  ⟨"MOT_SETPT", 0x400088, [(16, 0x1000)], 0, .motor, false, [(.roh, F.MOT_SETPT_SRC 0), (.roh, F.MOT_SETPT_KIND 0), (.roh, F.MOT_SETPT_SETPT 0)]⟩,
  ⟨"MOT_IDQ", 0x40008c, [(16, 0x1000)], 0, .motor, false, [(.roh, F.MOT_IDQ_IQ 0), (.roh, F.MOT_IDQ_ID 0)]⟩,
  ⟨"MOT_ANGLE", 0x400090, [(16, 0x1000)], 0, .motor, false, [(.roh, F.MOT_ANGLE_ANGLE 0)]⟩,
  ⟨"MOT_FAULT", 0x400094, [(16, 0x1000)], 0, .motor, false, [(.roh, F.MOT_FAULT_FCAUSE 0)]⟩,
  ⟨"MOT_COUNT", 0x400098, [(16, 0x1000)], 0, .motor, false, [(.roh, F.MOT_COUNT_PREDICTS 0), (.roh, F.MOT_COUNT_COASTS 0), (.roh, F.MOT_COUNT_CATCHES 0), (.roh, F.MOT_COUNT_START_FAILS 0)]⟩,
  ⟨"MOT_CLR", 0x4000a0, [(16, 0x1000)], 0, .motor, false, [(.wo, F.MOT_CLR_CLR 0)]⟩,
  ⟨"MOT_PULSE", 0x400100, [(16, 0x1000), (12, 0x4)], 0, .motor, false, [(.roh, F.MOT_PULSE_PEAK 0 0)]⟩,
  ⟨"CMD_CFG", 0x400800, [(8, 0x1000)], 0, .cmdPin, false, [(.rwf, F.CMD_CFG_MODE 0), (.rwf, F.CMD_CFG_KIND 0), (.rwf, F.CMD_CFG_TARGET 0)]⟩,
  ⟨"CMD_IN_LO", 0x400804, [(8, 0x1000)], 0, .cmdPin, false, [(.rws, F.CMD_IN_LO_IN_LO 0)]⟩,
  ⟨"CMD_IN_HI", 0x400808, [(8, 0x1000)], 0, .cmdPin, false, [(.rws, F.CMD_IN_HI_IN_HI 0)]⟩,
  ⟨"CMD_OUT", 0x40080c, [(8, 0x1000)], 0, .cmdPin, false, [(.rws, F.CMD_OUT_OUT_HI 0), (.rws, F.CMD_OUT_OUT_LO 0)]⟩,
  ⟨"CMD_VAL", 0x400810, [(8, 0x1000)], 0, .own, false, [(.roh, F.CMD_VAL_VAL 0)]⟩,
  ⟨"CMD_STAT", 0x400814, [(8, 0x1000)], 0, .own, false, [(.roh, F.CMD_STAT_VALID 0)]⟩,
  ⟨"XD_CFG", 0x400c00, [(8, 0x1000)], 0, .xd, false, [(.rwf, F.XD_CFG_MODE 0), (.rwf, F.XD_CFG_POLY_EN 0), (.rwf, F.XD_CFG_STATION 0), (.rwf, F.XD_CFG_CARRIER 0)]⟩,
  ⟨"XD_RPR", 0x400c04, [(8, 0x1000)], 0, .xd, false, [(.rws, F.XD_RPR_REF_PER_REV 0)]⟩,
  ⟨"XD_VALUE", 0x400c08, [(8, 0x1000)], 0, .own, false, [(.roh, F.XD_VALUE_VALUE 0)]⟩,
  ⟨"XD_STAT", 0x400c0c, [(8, 0x1000)], 0, .own, false, [(.roh, F.XD_STAT_RUNNING 0), (.roh, F.XD_STAT_AT_SPEED 0)]⟩]

/-- Axes, encoders and web tracker (R360, R361). -/
def regTable13a : List RegDesc := [
  ⟨"AX_CFG", 0x500000, [(32, 0x400)], 0, .axis, false, [(.rws, F.AX_CFG_CRIT 0), (.rwf, F.AX_CFG_HOME_SRC 0), (.rwf, F.AX_CFG_HOME_DIR 0), (.rwf, F.AX_CFG_LIMIT_DIR 0), (.rwf, F.AX_CFG_HOME_POL 0), (.rwf, F.AX_CFG_LIMIT_POL 0), (.rwf, F.AX_CFG_DIR_INV 0), (.rwf, F.AX_CFG_EN_POL 0)]⟩,
  ⟨"AX_TIMING", 0x500004, [(32, 0x400)], 0, .axis, false, [(.rwf, F.AX_TIMING_DIR_SU 0), (.rwf, F.AX_TIMING_STEP_W 0)]⟩,
  ⟨"AX_DEB", 0x500008, [(32, 0x400)], 0, .axis, false, [(.rws, F.AX_DEB_HOME_DEB 0), (.rws, F.AX_DEB_LIMIT_DEB 0)]⟩,
  ⟨"AX_EMAX", 0x50000c, [(32, 0x400)], 0, .axis, false, [(.rws, F.AX_EMAX_EMAX 0)]⟩,
  ⟨"AX_HOME_A", 0x500010, [(32, 0x400)], 0, .axis, false, [(.rws, F.AX_HOME_A_HOME_A 0)]⟩,
  ⟨"AX_HOME_V", 0x500014, [(32, 0x400)], 0, .axis, false, [(.rws, F.AX_HOME_V_V_SEEK 0)]⟩,
  ⟨"AX_HOME_VL", 0x500018, [(32, 0x400)], 0, .axis, false, [(.rws, F.AX_HOME_VL_V_LATCH 0)]⟩,
  ⟨"AX_HOME_CFG", 0x50001c, [(32, 0x400)], 0, .axis, false, [(.rws, F.AX_HOME_CFG_PASSES 0), (.rws, F.AX_HOME_CFG_BACKOFF 0)]⟩,
  ⟨"AX_HOME_TRAV", 0x500020, [(32, 0x400)], 0, .axis, false, [(.rws, F.AX_HOME_TRAV_SEEK_MAX 0)]⟩,
  ⟨"AX_HOME_POS_LO", 0x500024, [(32, 0x400)], 0, .axis, false, [(.rws, F.AX_HOME_POS_LO_HOME_POS 0)]⟩,
  ⟨"AX_HOME_POS_HI", 0x500028, [(32, 0x400)], 0, .axis, false, [(.rws, F.AX_HOME_POS_HI_HOME_POS 0)]⟩,
  ⟨"AX_STAT", 0x500080, [(32, 0x400)], 0, .axis, false, [(.roh, F.AX_STAT_STATE 0), (.roh, F.AX_STAT_QUEUED 0), (.roh, F.AX_STAT_SEGS 0), (.roh, F.AX_STAT_SOLSTICE 0), (.roh, F.AX_STAT_HOMED 0), (.roh, F.AX_STAT_LIMIT_ACT 0), (.roh, F.AX_STAT_HOME_ACT 0), (.roh, F.AX_STAT_DIR 0), (.roh, F.AX_STAT_EN 0)]⟩,
  ⟨"AX_POS_LO", 0x500084, [(32, 0x400)], 0, .axis, true, [(.roh, F.AX_POS_LO_POS 0)]⟩,
  ⟨"AX_POS_HI", 0x500088, [(32, 0x400)], 0, .axis, false, [(.roh, F.AX_POS_HI_POS 0)]⟩,
  ⟨"AX_VEL", 0x50008c, [(32, 0x400)], 0, .axis, false, [(.roh, F.AX_VEL_VEL 0)]⟩,
  ⟨"AX_SOLSTICE_LO", 0x500090, [(32, 0x400)], 0, .axis, true, [(.roh, F.AX_SOLSTICE_LO_SOL 0)]⟩,
  ⟨"AX_SOLSTICE_HI", 0x500094, [(32, 0x400)], 0, .axis, false, [(.roh, F.AX_SOLSTICE_HI_SOL 0)]⟩,
  ⟨"AX_LATCH_POS_LO", 0x500098, [(32, 0x400)], 0, .axis, true, [(.roh, F.AX_LATCH_POS_LO_LPOS 0)]⟩,
  ⟨"AX_LATCH_POS_HI", 0x50009c, [(32, 0x400)], 0, .axis, false, [(.roh, F.AX_LATCH_POS_HI_LPOS 0)]⟩,
  ⟨"AX_LATCH_ETIME_LO", 0x5000a0, [(32, 0x400)], 0, .axis, true, [(.roh, F.AX_LATCH_ETIME_LO_LTIME 0)]⟩,
  ⟨"AX_LATCH_ETIME_HI", 0x5000a4, [(32, 0x400)], 0, .axis, false, [(.roh, F.AX_LATCH_ETIME_HI_LTIME 0)]⟩,
  ⟨"AX_LATCH_WPOS_LO", 0x5000a8, [(32, 0x400)], 0, .axis, true, [(.roh, F.AX_LATCH_WPOS_LO_LWPOS 0)]⟩,
  ⟨"AX_LATCH_WPOS_HI", 0x5000ac, [(32, 0x400)], 0, .axis, false, [(.roh, F.AX_LATCH_WPOS_HI_LWPOS 0)]⟩,
  ⟨"AX_LATCH_CLR", 0x5000b0, [(32, 0x400)], 0, .axis, false, [(.roh, F.AX_LATCH_CLR_SRC 0), (.wo, F.AX_LATCH_CLR_CLR 0)]⟩,
  ⟨"ENC_CFG", 0x580000, [(8, 0x40)], 0, .encoder, false, [(.rwf, F.ENC_CFG_EN 0), (.rwf, F.ENC_CFG_DIR_INV 0), (.rwf, F.ENC_CFG_Z_POL 0), (.rwf, F.ENC_CFG_FILT 0), (.rws, F.ENC_CFG_JW 0)]⟩,
  ⟨"ENC_SCALE", 0x580004, [(8, 0x40)], 0, .encoder, false, [(.rwf, F.ENC_SCALE_SCALE 0)]⟩,
  ⟨"ENC_RAW_LO", 0x580008, [(8, 0x40)], 0, .own, true, [(.roh, F.ENC_RAW_LO_RAW 0)]⟩,
  ⟨"ENC_RAW_HI", 0x58000c, [(8, 0x40)], 0, .own, false, [(.roh, F.ENC_RAW_HI_RAW 0)]⟩,
  ⟨"ENC_REP_LO", 0x580010, [(8, 0x40)], 0, .own, true, [(.roh, F.ENC_REP_LO_REP 0)]⟩,
  ⟨"ENC_REP_HI", 0x580014, [(8, 0x40)], 0, .own, false, [(.roh, F.ENC_REP_HI_REP 0)]⟩,
  ⟨"ENC_Z_LO", 0x580018, [(8, 0x40)], 0, .own, true, [(.roh, F.ENC_Z_LO_ZCNT 0)]⟩,
  ⟨"ENC_Z_HI", 0x58001c, [(8, 0x40)], 0, .own, false, [(.roh, F.ENC_Z_HI_ZCNT 0)]⟩,
  ⟨"ENC_Z_ETIME_LO", 0x580020, [(8, 0x40)], 0, .own, true, [(.roh, F.ENC_Z_ETIME_LO_ZTIME 0)]⟩,
  ⟨"ENC_Z_ETIME_HI", 0x580024, [(8, 0x40)], 0, .own, false, [(.roh, F.ENC_Z_ETIME_HI_ZTIME 0)]⟩,
  ⟨"ENC_STAT", 0x580028, [(8, 0x40)], 0, .own, false, [(.roh, F.ENC_STAT_ILLEGAL 0), (.roh, F.ENC_STAT_DIR 0), (.roh, F.ENC_STAT_Z_SEEN 0)]⟩,
  ⟨"WEB_CFG", 0x581000, [], 0, .web, false, [(.rwf, F.WEB_CFG_EN), (.rwf, F.WEB_CFG_MODE), (.rwf, F.WEB_CFG_SEC), (.rwf, F.WEB_CFG_PRI)]⟩,
  ⟨"WEB_FAIL", 0x581004, [], 0, .web, false, [(.rws, F.WEB_FAIL_FAIL_DIST)]⟩,
  ⟨"WEB_DISAGREE", 0x581008, [], 0, .web, false, [(.rws, F.WEB_DISAGREE_DISAGREE)]⟩,
  ⟨"WEB_STAT", 0x58100c, [], 0, .own, false, [(.roh, F.WEB_STAT_SRC_SEC), (.roh, F.WEB_STAT_REVERSED), (.roh, F.WEB_STAT_DIS), (.roh, F.WEB_STAT_RUN)]⟩,
  ⟨"WEB_VEL", 0x581010, [], 0, .own, false, [(.roh, F.WEB_VEL_VWEB)]⟩]

/-- Axes, encoders and web tracker (R360, R361). -/
def regTable13b : List RegDesc := [
  ⟨"WEB_REV_DEPTH", 0x581014, [], 0, .own, false, [(.roh, F.WEB_REV_DEPTH_DEPTH)]⟩,
  ⟨"WEB_REV_COUNT", 0x581018, [], 0, .own, false, [(.roh, F.WEB_REV_COUNT_REVS)]⟩]

/-- Loop slots, high voltage, fuser zones and thermistors (R390, R391). -/
def regTable14 : List RegDesc := [
  ⟨"LP_CFG", 0x600000, [(192, 0x80)], 0, .loop, false, [(.rwf, F.LP_CFG_RATE 0), (.rwf, F.LP_CFG_DECIM 0), (.rws, F.LP_CFG_ASSOC 0), (.rws, F.LP_CFG_SUP_ACT 0), (.rwf, F.LP_CFG_NSTEPS 0), (.rwf, F.LP_CFG_OUTREG 0)]⟩,
  ⟨"LP_IN01", 0x600004, [(192, 0x80)], 0, .loop, false, [(.rwf, F.LP_IN01_IN1 0), (.rwf, F.LP_IN01_IN0 0)]⟩,
  ⟨"LP_IN23", 0x600008, [(192, 0x80)], 0, .loop, false, [(.rwf, F.LP_IN23_IN3 0), (.rwf, F.LP_IN23_IN2 0)]⟩,
  ⟨"LP_SINK", 0x60000c, [(192, 0x80)], 0, .loop, false, [(.rwf, F.LP_SINK_SINK 0)]⟩,
  ⟨"LP_XSCALE", 0x600010, [(192, 0x80)], 0, .loop, false, [(.rws, F.LP_XSCALE_SCALE 0)]⟩,
  ⟨"LP_XOFS", 0x600014, [(192, 0x80)], 0, .loop, false, [(.rws, F.LP_XOFS_OFFSET 0)]⟩,
  ⟨"LP_SETPT", 0x600018, [(192, 0x80)], 0, .loop, false, [(.rwl, F.LP_SETPT_SETPT 0)]⟩,
  ⟨"LP_SUP", 0x60001c, [(192, 0x80)], 0, .loop, false, [(.rws, F.LP_SUP_PL_CNT 0), (.rws, F.LP_SUP_SAT_LIM 0)]⟩,
  ⟨"LP_PLAUS", 0x600020, [(192, 0x80)], 0, .loop, false, [(.rws, F.LP_PLAUS_PL_EN 0), (.rws, F.LP_PLAUS_PL_STEP 0), (.rws, F.LP_PLAUS_PL_FB 0), (.rws, F.LP_PLAUS_PL_THR 0)]⟩,
  ⟨"LP_STAT", 0x600040, [(192, 0x80)], 0, .loop, false, [(.roh, F.LP_STAT_MODE 0), (.roh, F.LP_STAT_SAT 0), (.roh, F.LP_STAT_SAT_TRIP 0), (.roh, F.LP_STAT_PL_TRIP 0), (.roh, F.LP_STAT_OUT 0)]⟩,
  ⟨"LP_SUPCNT", 0x600044, [(192, 0x80)], 0, .loop, false, [(.roh, F.LP_SUPCNT_PLCOUNT 0), (.roh, F.LP_SUPCNT_SATRUN 0)]⟩,
  ⟨"LP_MAN", 0x600048, [(192, 0x80)], 0, .loop, false, [(.roh, F.LP_MAN_MAN 0)]⟩,
  ⟨"LP_PROG_CRC", 0x60004c, [(192, 0x80)], 0, .loop, false, [(.roh, F.LP_PROG_CRC_CRC 0)]⟩,
  ⟨"LP_CLIPS", 0x600050, [(192, 0x80)], 0, .loop, false, [(.roh, F.LP_CLIPS_CLIPS 0)]⟩,
  ⟨"LP_W", 0x600060, [(192, 0x80), (8, 0x4)], 0, .loop, false, [(.roh, F.LP_W_W 0 0)]⟩,
  ⟨"HV_CFG", 0x700000, [(24, 0x20)], 0, .hv, false, [(.rwf, F.HV_CFG_PWM_KHZ 0), (.rws, F.HV_CFG_MAXDUTY 0), (.rws, F.HV_CFG_TRIP 0)]⟩,
  ⟨"HV_STAT", 0x700004, [(24, 0x20)], 0, .own, false, [(.roh, F.HV_STAT_SENSE 0), (.roh, F.HV_STAT_DUTY 0)]⟩,
  ⟨"HV_CTL", 0x700008, [(24, 0x20)], 0, .own, false, [(.roh, F.HV_CTL_TRIPPED 0), (.wo, F.HV_CTL_CLR 0)]⟩,
  ⟨"FZ_CFG", 0x700400, [(8, 0x20)], 0, .fz, false, [(.rwf, F.FZ_CFG_EN 0), (.rwf, F.FZ_CFG_LEVEL 0), (.rwf, F.FZ_CFG_FULLCYC 0), (.rwf, F.FZ_CFG_TSRC 0), (.rws, F.FZ_CFG_ZC_DLY 0), (.rws, F.FZ_CFG_FZ_PW 0)]⟩,
  ⟨"FZ_TMAX", 0x700404, [(8, 0x20)], 0, .fz, false, [(.rws, F.FZ_TMAX_T_MAX 0)]⟩,
  ⟨"FZ_STAT", 0x700408, [(8, 0x20)], 0, .own, false, [(.roh, F.FZ_STAT_RATIO 0), (.roh, F.FZ_STAT_OVERTEMP 0), (.roh, F.FZ_STAT_CONDUCTING 0), (.wo, F.FZ_STAT_CLR 0)]⟩,
  ⟨"FZ_HALVES", 0x70040c, [(8, 0x20)], 0, .own, false, [(.roh, F.FZ_HALVES_HALVES 0)]⟩,
  ⟨"TH_CFG", 0x700800, [(16, 0x10)], 0, .th, false, [(.rws, F.TH_CFG_BETA 0), (.rws, F.TH_CFG_EN 0)]⟩,
  ⟨"TH_STAT", 0x700804, [(16, 0x10)], 0, .own, false, [(.roh, F.TH_STAT_FAULT 0), (.roh, F.TH_STAT_TEMP 0)]⟩,
  ⟨"ZC_CFG", 0x700c00, [], 0, .own, false, [(.rws, F.ZC_CFG_ZC_FILT)]⟩,
  ⟨"ZC_STAT", 0x700c04, [], 0, .own, false, [(.roh, F.ZC_STAT_ZC_HALF), (.roh, F.ZC_STAT_ZC_OK)]⟩,
  ⟨"LOOP_CLASS", 0x70f000, [(1, 0x4)], 0, .loopClass, false, [(.rwf, F.LOOP_CLASS_PERIOD 0)]⟩,
  ⟨"LOOP_CLASS", 0x70f004, [(1, 0x4)], 1, .loopClass, false, [(.rwf, F.LOOP_CLASS_PERIOD 1)]⟩,
  ⟨"LOOP_CLASS", 0x70f008, [(1, 0x4)], 2, .loopClass, false, [(.rwf, F.LOOP_CLASS_PERIOD 2)]⟩,
  ⟨"LOOP_CLASS", 0x70f00c, [(1, 0x4)], 3, .loopClass, false, [(.rwf, F.LOOP_CLASS_PERIOD 3)]⟩,
  ⟨"LOOP_CLASS", 0x70f010, [(1, 0x4)], 4, .loopClass, false, [(.rwf, F.LOOP_CLASS_PERIOD 4)]⟩,
  ⟨"LOOP_CLASS", 0x70f014, [(1, 0x4)], 5, .loopClass, false, [(.rwf, F.LOOP_CLASS_PERIOD 5)]⟩,
  ⟨"LOOP_CLASS", 0x70f018, [(1, 0x4)], 6, .loopClass, false, [(.rwf, F.LOOP_CLASS_PERIOD 6)]⟩,
  ⟨"LOOP_CLASS", 0x70f01c, [(1, 0x4)], 7, .loopClass, false, [(.rwf, F.LOOP_CLASS_PERIOD 7)]⟩,
  ⟨"LOOP_LOAD", 0x70f020, [], 0, .own, false, [(.roh, F.LOOP_LOAD_LOAD)]⟩]

/-- Islands and Clasps (R417, R418). -/
def regTable15 : List RegDesc := [
  ⟨"ISL_STAT", 0x60000, [(1, 0x8000)], 0, .own, false, [(.roh, F.ISL_STAT_STATE 0), (.roh, F.ISL_STAT_READY 0), (.roh, F.ISL_STAT_HB_OK 0), (.roh, F.ISL_STAT_PATCHED 0), (.ro, F.ISL_STAT_UNIT 0), (.roh, F.ISL_STAT_FENCE_CAUSE 0)]⟩,
  ⟨"ISL_STAT", 0x68000, [(1, 0x8000)], 1, .own, false, [(.roh, F.ISL_STAT_STATE 1), (.roh, F.ISL_STAT_READY 1), (.roh, F.ISL_STAT_HB_OK 1), (.roh, F.ISL_STAT_PATCHED 1), (.ro, F.ISL_STAT_UNIT 1), (.roh, F.ISL_STAT_FENCE_CAUSE 1)]⟩,
  ⟨"ISL_SIGNET", 0x60004, [(2, 0x8000)], 0, .own, false, [(.roh, F.ISL_SIGNET_SIGNET 0)]⟩,
  ⟨"ISL_HEALTH", 0x60008, [(2, 0x8000)], 0, .own, false, [(.roh, F.ISL_HEALTH_HEALTH 0)]⟩,
  ⟨"ISL_LKSEQ", 0x6000c, [(2, 0x8000)], 0, .own, false, [(.roh, F.ISL_LKSEQ_LKSEQ 0)]⟩,
  ⟨"ISL_EVENTS", 0x60010, [(2, 0x8000)], 0, .own, false, [(.roh, F.ISL_EVENTS_TAKEOVERS 0), (.roh, F.ISL_EVENTS_FENCES 0)]⟩,
  ⟨"ISL_SCRUB", 0x60014, [(2, 0x8000)], 0, .own, false, [(.roh, F.ISL_SCRUB_UE 0), (.roh, F.ISL_SCRUB_CE 0)]⟩,
  ⟨"ISL_BIST", 0x60018, [(2, 0x8000)], 0, .own, false, [(.roh, F.ISL_BIST_FAILS 0), (.roh, F.ISL_BIST_PASSES 0)]⟩,
  ⟨"CLASP_CFG", 0x70000, [(104, 0x10)], 0, .clasp, false, [(.rws, F.CLASP_CFG_HOLD_LIM 0), (.rws, F.CLASP_CFG_TOL 0)]⟩,
  ⟨"CLASP_SAFE", 0x70504, [(8, 0x10)], 0, .clasp, false, [(.rws, F.CLASP_SAFE_SAFE 0)]⟩,
  ⟨"CLASP_ACK", 0x70008, [(104, 0x10)], 0, .own, false, [(.roh, F.CLASP_ACK_ACK 0)]⟩,
  ⟨"CLASP_STAT", 0x7000c, [(104, 0x10)], 0, .own, false, [(.roh, F.CLASP_STAT_STATE 0), (.roh, F.CLASP_STAT_MISMATCH 0), (.roh, F.CLASP_STAT_STALE 0), (.roh, F.CLASP_STAT_MM_RUN 0)]⟩,
  ⟨"CLASP_ACK_MAX", 0x70800, [], 0, .own, false, [(.roh, F.CLASP_ACK_MAX_ACK_MAX)]⟩,
  ⟨"CLASP_SUMMARY", 0x70804, [], 0, .own, false, [(.roh, F.CLASP_SUMMARY_SAFE_N), (.roh, F.CLASP_SUMMARY_MM_N)]⟩,
  ⟨"CLASP_MM_LIM", 0x70808, [], 0, .own, false, [(.rwl, F.CLASP_MM_LIM_MM_LIM)]⟩,
  ⟨"CLASP_CLR", 0x7080c, [], 0, .own, false, [(.wo, F.CLASP_CLR_CLR)]⟩,
  ⟨"CLASP_ISL_CMD", 0x70810, [], 0, .own, false, [(.wo, F.CLASP_ISL_CMD_OP)]⟩,
  ⟨"CLASP_ISL_STAT", 0x70814, [], 0, .own, false, [(.roh, F.CLASP_ISL_STAT_BUSY), (.roh, F.CLASP_ISL_STAT_STATUS)]⟩,
  ⟨"LOCKET_STAT", 0x70820, [], 0, .own, false, [(.roh, F.LOCKET_STAT_LKSEQ)]⟩]

/-- Power states (R436). -/
def regTable16 : List RegDesc := [
  ⟨"PWR_STAT", 0x40000, [], 0, .own, false, [(.roh, F.PWR_STAT_STATE), (.roh, F.PWR_STAT_TARGET), (.roh, F.PWR_STAT_BUSY), (.roh, F.PWR_STAT_ATTEMPT), (.roh, F.PWR_STAT_STEP), (.roh, F.PWR_STAT_DOMAIN)]⟩,
  ⟨"PWR_CMD", 0x40004, [], 0, .own, false, [(.wo, F.PWR_CMD_OP)]⟩,
  ⟨"PWR_CMD_STAT", 0x40008, [], 0, .own, false, [(.roh, F.PWR_CMD_STAT_BUSY), (.roh, F.PWR_CMD_STAT_STATUS)]⟩,
  ⟨"PWR_DOM", 0x40010, [(7, 0x4)], 0, .pwrDom, false, [(.roh, F.PWR_DOM_LEVEL 0), (.ro, F.PWR_DOM_REQ 0), (.rwf, F.PWR_DOM_RAIL_EN 0), (.rwf, F.PWR_DOM_RAIL 0)]⟩,
  ⟨"PWR_DOM", 0x4002c, [(25, 0x4)], 7, .pwrDom, false, [(.roh, F.PWR_DOM_LEVEL 7), (.rwl, F.PWR_DOM_REQ 7), (.rwf, F.PWR_DOM_RAIL_EN 7), (.rwf, F.PWR_DOM_RAIL 7)]⟩,
  ⟨"PWR_TMO", 0x40100, [], 0, .own, false, [(.rwl, F.PWR_TMO_REG_TMO), (.rwl, F.PWR_TMO_OSC_TMO), (.rwl, F.PWR_TMO_MEM_TMO), (.rwl, F.PWR_TMO_LOG_TMO)]⟩,
  ⟨"PWR_TMO_BAND", 0x40104, [], 0, .own, false, [(.rwl, F.PWR_TMO_BAND_MEM_TMO_BAND)]⟩,
  ⟨"VIG_WAKE_EN", 0x40110, [], 0, .own, false, [(.rwl, F.VIG_WAKE_EN_WAKE_TGT), (.rwl, F.VIG_WAKE_EN_DOZE_WAKE), (.rwl, F.VIG_WAKE_EN_WPOL), (.ro, F.VIG_WAKE_EN_PERST), (.rwl, F.VIG_WAKE_EN_WAKE_EN)]⟩,
  ⟨"VIG_WAKE_PEND", 0x40114, [], 0, .own, false, [(.w1c, F.VIG_WAKE_PEND_PEND)]⟩,
  ⟨"VIG_ALARM_LO", 0x40118, [], 0, .own, false, [(.rwl, F.VIG_ALARM_LO_ALARM)]⟩,
  ⟨"VIG_ALARM_HI", 0x4011c, [], 0, .own, false, [(.rwl, F.VIG_ALARM_HI_ALARM)]⟩,
  ⟨"PWR_CNT", 0x40120, [(4, 0x4)], 0, .own, false, [(.roh, F.PWR_CNT_REFUSED 0), (.roh, F.PWR_CNT_ABORTED 0)]⟩,
  ⟨"PWR_LOG_PTR", 0x40130, [], 0, .own, false, [(.roh, F.PWR_LOG_PTR_TOTAL), (.roh, F.PWR_LOG_PTR_NEXT)]⟩,
  ⟨"PWR_LOG_CLR", 0x40134, [], 0, .own, false, [(.wo, F.PWR_LOG_CLR_CLR)]⟩,
  ⟨"PWR_LOG", 0x40140, [(16, 0x10)], 0, .own, false, [(.roh, F.PWR_LOG_FROM 0), (.roh, F.PWR_LOG_TO 0), (.roh, F.PWR_LOG_RESULT 0), (.roh, F.PWR_LOG_ATTEMPT 0), (.roh, F.PWR_LOG_STEP 0), (.roh, F.PWR_LOG_DOMAIN 0), (.roh, F.PWR_LOG_BLOCK 0)]⟩,
  ⟨"PWR_LOG_INST", 0x40144, [(16, 0x10)], 0, .own, false, [(.roh, F.PWR_LOG_INST_INST 0)]⟩,
  ⟨"PWR_LOG_TIME", 0x40148, [(16, 0x10)], 0, .own, false, [(.roh, F.PWR_LOG_TIME_VTIME 0)]⟩,
  ⟨"VIG_EMBER_CFG", 0x40300, [], 0, .ember, false, [(.rws, F.VIG_EMBER_CFG_EMBER_EN), (.rws, F.VIG_EMBER_CFG_ZONE), (.rws, F.VIG_EMBER_CFG_TH), (.rws, F.VIG_EMBER_CFG_EMBER_TMAX), (.rws, F.VIG_EMBER_CFG_EMBER_SET), (.rws, F.VIG_EMBER_CFG_EMBER_RATIO)]⟩,
  ⟨"VIG_EMBER_STAT", 0x40304, [], 0, .own, false, [(.roh, F.VIG_EMBER_STAT_TEMP), (.roh, F.VIG_EMBER_STAT_CUT), (.roh, F.VIG_EMBER_STAT_ACTIVE), (.wo, F.VIG_EMBER_STAT_EMBER_CLR)]⟩]

/-- Sequencer (R455). -/
def regTable17 : List RegDesc := [
  ⟨"SEQ_CTL", 0x50000, [], 0, .seq, false, [(.rwf, F.SEQ_CTL_PF_EN), (.rwl, F.SEQ_CTL_AUTO_RESTART), (.rws, F.SEQ_CTL_CASC_IN), (.ro, F.SEQ_CTL_BOOT)]⟩,
  ⟨"SEQ_TIME", 0x50004, [], 0, .own, false, [(.rwl, F.SEQ_TIME_T_RESTART), (.rwl, F.SEQ_TIME_MIN_OFF)]⟩,
  ⟨"SEQ_CASC", 0x50008, [], 0, .seq, false, [(.rws, F.SEQ_CASC_OUT_DLY), (.rws, F.SEQ_CASC_CASC_WAIT)]⟩,
  ⟨"SEQ_STAT", 0x50010, [], 0, .own, false, [(.roh, F.SEQ_STAT_STATE), (.roh, F.SEQ_STAT_PEND_ON), (.roh, F.SEQ_STAT_PFI_GOOD), (.roh, F.SEQ_STAT_SEQ_IN), (.roh, F.SEQ_STAT_SEQ_OUT), (.roh, F.SEQ_STAT_RAIL)]⟩,
  ⟨"SEQ_EN_MAP", 0x50014, [], 0, .own, false, [(.roh, F.SEQ_EN_MAP_EN)]⟩,
  ⟨"SEQ_PG_MAP", 0x50018, [], 0, .own, false, [(.roh, F.SEQ_PG_MAP_PG)]⟩,
  ⟨"SEQ_FAULT_MAP", 0x5001c, [], 0, .own, false, [(.roh, F.SEQ_FAULT_MAP_FAULT)]⟩,
  ⟨"SEQ_COUNT", 0x50020, [], 0, .own, false, [(.roh, F.SEQ_COUNT_PF_TRIPS), (.roh, F.SEQ_COUNT_RAIL_FAULTS)]⟩,
  ⟨"SEQ_CMD", 0x50030, [], 0, .own, false, [(.wo, F.SEQ_CMD_OP), (.wo, F.SEQ_CMD_RAIL)]⟩,
  ⟨"SEQ_CMD_STAT", 0x50034, [], 0, .own, false, [(.roh, F.SEQ_CMD_STAT_BUSY), (.roh, F.SEQ_CMD_STAT_STATUS)]⟩,
  ⟨"SEQ_RAIL_CFG", 0x50100, [(8, 0x10)], 0, .rail, false, [(.rwf, F.SEQ_RAIL_CFG_SEQ 0), (.rwf, F.SEQ_RAIL_CFG_PMB 0), (.rwf, F.SEQ_RAIL_CFG_PG_SRC 0), (.rwf, F.SEQ_RAIL_CFG_PG_POL 0), (.rws, F.SEQ_RAIL_CFG_FAULT_ACT 0), (.rws, F.SEQ_RAIL_CFG_PG_TMO 0), (.rws, F.SEQ_RAIL_CFG_ON_DLY 0), (.rws, F.SEQ_RAIL_CFG_OFF_DLY 0)]⟩,
  ⟨"SEQ_RAIL_CFG", 0x50180, [(16, 0x10)], 8, .rail, false, [(.rwf, F.SEQ_RAIL_CFG_SEQ 8), (.rwf, F.SEQ_RAIL_CFG_PMB 8), (.rwf, F.SEQ_RAIL_CFG_PG_SRC 8), (.rwf, F.SEQ_RAIL_CFG_PG_POL 8), (.rws, F.SEQ_RAIL_CFG_FAULT_ACT 8), (.rws, F.SEQ_RAIL_CFG_PG_TMO 8), (.rws, F.SEQ_RAIL_CFG_ON_DLY 8), (.rws, F.SEQ_RAIL_CFG_OFF_DLY 8)]⟩,
  ⟨"SEQ_RAIL_PMB", 0x50104, [(24, 0x10)], 0, .rail, false, [(.rwf, F.SEQ_RAIL_PMB_ADDR 0), (.rwf, F.SEQ_RAIL_PMB_PAGE 0)]⟩,
  ⟨"SEQ_RAIL_STAT", 0x50108, [(24, 0x10)], 0, .own, false, [(.roh, F.SEQ_RAIL_STAT_RAMP_T 0), (.roh, F.SEQ_RAIL_STAT_OWNER 0), (.roh, F.SEQ_RAIL_STAT_STATE 0)]⟩,
  ⟨"PMB_CFG", 0x50800, [], 0, .pmb, false, [(.rwf, F.PMB_CFG_ROLE), (.rwf, F.PMB_CFG_SPEED), (.rwf, F.PMB_CFG_PEC), (.rwf, F.PMB_CFG_SLV_ADDR), (.rws, F.PMB_CFG_POLL), (.rws, F.PMB_CFG_RETRIES)]⟩,
  ⟨"PMB_STAT", 0x50804, [], 0, .own, false, [(.roh, F.PMB_STAT_ERRORS), (.roh, F.PMB_STAT_STATUS_BYTE), (.roh, F.PMB_STAT_BUSY)]⟩]

/-- Start-up, patches and tiers (R475). -/
def regTable18 : List RegDesc := [
  ⟨"BOOT_STAT", 0x3000, [], 0, .own, false, [(.roh, F.BOOT_STAT_STAGE), (.roh, F.BOOT_STAT_RESULT), (.roh, F.BOOT_STAT_XTAL_FAIL), (.roh, F.BOOT_STAT_BLOCK), (.roh, F.BOOT_STAT_INST)]⟩,
  ⟨"BOOT_TIME", 0x3004, [], 0, .own, false, [(.roh, F.BOOT_TIME_US)]⟩,
  ⟨"BOOT_FUSE", 0x3008, [], 0, .own, false, [(.ro, F.BOOT_FUSE_KEY_SET), (.ro, F.BOOT_FUSE_PATCH_REQ), (.ro, F.BOOT_FUSE_SVN_MIN)]⟩,
  ⟨"PATCH_STAT", 0x3010, [], 0, .own, false, [(.roh, F.PATCH_STAT_STATE), (.roh, F.PATCH_STAT_SRC), (.roh, F.PATCH_STAT_REJECT), (.roh, F.PATCH_STAT_SVN)]⟩,
  ⟨"PATCH_ADDR_LO", 0x3014, [], 0, .own, false, [(.rwl, F.PATCH_ADDR_LO_ADDR)]⟩,
  ⟨"PATCH_ADDR_HI", 0x3018, [], 0, .own, false, [(.rwl, F.PATCH_ADDR_HI_ADDR)]⟩,
  ⟨"PATCH_LEN", 0x301c, [], 0, .own, false, [(.rwl, F.PATCH_LEN_LEN)]⟩,
  ⟨"PATCH_CMD", 0x3020, [], 0, .own, false, [(.wo, F.PATCH_CMD_LOAD)]⟩,
  ⟨"TIER_CFG", 0x3100, [], 0, .own, false, [(.rws, F.TIER_CFG_VFULL), (.rwl, F.TIER_CFG_RISE_MS), (.rwl, F.TIER_CFG_REQ_STANDBY)]⟩,
  ⟨"TIER_COUNT", 0x3104, [], 0, .own, false, [(.roh, F.TIER_COUNT_F_LOSSES), (.roh, F.TIER_COUNT_P_LOSSES)]⟩,
  ⟨"TIER_BLOCK_P", 0x3108, [], 0, .own, false, [(.roh, F.TIER_BLOCK_P_STATION), (.roh, F.TIER_BLOCK_P_COND)]⟩,
  ⟨"TIER_BLOCK_F", 0x310c, [], 0, .own, false, [(.roh, F.TIER_BLOCK_F_STATION), (.roh, F.TIER_BLOCK_F_COND)]⟩]

/-- Faults (R492). -/
def regTable19 : List RegDesc := [
  ⟨"FAULT_STAT", 0x4000, [], 0, .own, false, [(.roh, F.FAULT_STAT_FS_CAUSE), (.roh, F.FAULT_STAT_SAFE_SRC), (.roh, F.FAULT_STAT_FLUSHABLE), (.roh, F.FAULT_STAT_WSTOP), (.roh, F.FAULT_STAT_SAFE), (.roh, F.FAULT_STAT_FRAME_STOP)]⟩,
  ⟨"FAULT_CTL", 0x4004, [], 0, .own, false, [(.wo, F.FAULT_CTL_FLUSH), (.wo, F.FAULT_CTL_FS_CLR)]⟩,
  ⟨"FAULT_HOLD", 0x4008, [], 0, .own, false, [(.roh, F.FAULT_HOLD_HOLD)]⟩,
  ⟨"FAULT_COUNT", 0x400c, [], 0, .own, false, [(.roh, F.FAULT_COUNT_SAFES), (.roh, F.FAULT_COUNT_FRAME_STOPS)]⟩,
  ⟨"TEL_CFG", 0x4010, [], 0, .own, false, [(.rwl, F.TEL_CFG_PERIOD), (.rwl, F.TEL_CFG_EN)]⟩,
  ⟨"TRACE_CFG", 0x4014, [], 0, .own, false, [(.rwl, F.TRACE_CFG_DONE_EN), (.rwl, F.TRACE_CFG_EN)]⟩]

/-- Compatibility and link (R518). -/
def regTable20 : List RegDesc := [
  ⟨"COMPAT_CFG", 0x5000, [], 0, .compat, false, [(.rwf, F.COMPAT_CFG_NCOM)]⟩,
  ⟨"LVT_CFG", 0x5010, [], 0, .lvt, false, [(.rwf, F.LVT_CFG_EN), (.rwf, F.LVT_CFG_BPP2), (.rwf, F.LVT_CFG_STATIONS), (.rwf, F.LVT_CFG_RATE)]⟩,
  ⟨"LVT_TH", 0x5014, [], 0, .lvt, false, [(.rwf, F.LVT_TH_FMAX), (.rws, F.LVT_TH_T3), (.rws, F.LVT_TH_T2), (.rws, F.LVT_TH_T1)]⟩,
  ⟨"LVT_STAT", 0x5018, [], 0, .own, false, [(.roh, F.LVT_STAT_BLANK_PKTS), (.roh, F.LVT_STAT_RDY), (.roh, F.LVT_STAT_TRAINED)]⟩,
  ⟨"LVR_STAT", 0x501c, [], 0, .own, false, [(.roh, F.LVR_STAT_UNDERRUN), (.roh, F.LVR_STAT_BAD)]⟩,
  ⟨"LINK_LOOP", 0x5020, [], 0, .own, false, [(.rwl, F.LINK_LOOP_EN), (.rwl, F.LINK_LOOP_EXT), (.wo, F.LINK_LOOP_START), (.rwl, F.LINK_LOOP_BPP2), (.rwl, F.LINK_LOOP_PACKETS)]⟩,
  ⟨"LINK_LOOP_STAT", 0x5024, [], 0, .own, false, [(.roh, F.LINK_LOOP_STAT_DONE), (.roh, F.LINK_LOOP_STAT_PASS), (.roh, F.LINK_LOOP_STAT_ERRORS)]⟩]

/-- Motor scales and junction temperature (R534, R536). -/
def regTable21 : List RegDesc := [
  ⟨"MOT_ISCALE", 0x400034, [(16, 0x1000)], 0, .motor, false, [(.rwf, F.MOT_ISCALE_ISCALE 0)]⟩,
  ⟨"MOT_VSCALE", 0x400038, [(16, 0x1000)], 0, .motor, false, [(.rwf, F.MOT_VSCALE_VSCALE 0)]⟩,
  ⟨"VIG_TJ", 0x40900, [], 0, .own, false, [(.rwl, F.VIG_TJ_TJ_WARN), (.roh, F.VIG_TJ_TJ)]⟩,
  ⟨"VIG_TJ_PEAK", 0x40904, [], 0, .own, false, [(.wo, F.VIG_TJ_PEAK_CLR), (.roh, F.VIG_TJ_PEAK_PEAK)]⟩]

/-- Every register of BAR0. -/
def regTable : List RegDesc :=
  regTable01 ++ regTable02 ++ regTable03 ++ regTable04 ++ regTable05 ++ regTable06a ++ regTable06b ++ regTable07 ++ regTable08 ++ regTable09 ++ regTable10 ++ regTable11a ++ regTable11b ++ regTable12 ++ regTable13a ++ regTable13b ++ regTable14 ++ regTable15 ++ regTable16 ++ regTable17 ++ regTable18 ++ regTable19 ++ regTable20 ++ regTable21
/-! ### Looking an offset up -/

/-- The instance indices at which a displacement falls. -/
def matchDims : List (Nat × Nat) → Nat → Option (List Nat)
  | [], d => if d = 0 then some [] else none
  | (c, st) :: t, d => if d / st < c then (matchDims t (d % st)).map (d / st :: ·) else none

/-- A register found: its row, its displacement from the row's first offset, its instance indices. -/
structure RegHit where
  desc : RegDesc
  disp : Nat
  ix : List Nat
  deriving DecidableEq, Repr

def findIn : List RegDesc → Nat → Option RegHit
  | [], _ => none
  | r :: t, off =>
    if off < r.base then findIn t off
    else match matchDims r.dims (off - r.base) with
      | some ix => some ⟨r, off - r.base, ix⟩
      | none => findIn t off

/-- The register at a BAR0 offset (R36), if one is implemented there. -/
def findReg (off : Nat) : Option RegHit := findIn regTable off

/-- The register's fields, at its own offset. -/
def RegHit.fields (h : RegHit) : List (Acc × Fld) :=
  h.desc.fields.map (fun (a, f) => (a, { f with off := f.off + h.disp }))

/-- The register's first instance index, counted as the spec counts the instances. -/
def RegHit.inst (h : RegHit) : Nat := h.desc.first + h.ix.headD 0

/-- R17: the block ID of a BAR0 offset (R36 and the chapters that place registers in the global block). -/
def blockOf (off : Nat) : Nat :=
  if off < 0x1000 then 1 else if off < 0x2000 then 3 else if off < 0x3000 then 16 else if off < 0x5000 then 1
  else if off < 0x10000 then 17 else if off < 0x10800 then 2 else if off < 0x30000 then 1
  else if off < 0x40000 then 7 else if off < 0x50000 then 15 else if off < 0x60000 then 14
  else if off < 0x68000 then 11 else if off < 0x70000 then 12 else if off < 0x100000 then 13
  else if off < 0x200000 then 4 else if off < 0x300000 then 6 else if off < 0x400000 then 5
  else if off < 0x500000 then 8 else if off < 0x600000 then 9 else 10

/-- R266, R267 and the later group tables: block ID, instance and group index of a named group. -/
def groupParts (g : GrpKind) (i j : Nat) : Nat × Nat × Nat :=
  match g with
  | .own => (0, 0, 0)
  | .band => (16, 0xFFFF, 0)
  | .ring => (2, i, 0)
  | .fence => (1, 0, 0x40 + i)
  | .almanac => (3, 0xFFFF, 0)
  | .stGeom => (4, i, 0)
  | .stPlace => (4, i, 1)
  | .stExpo => (4, i, 2)
  | .slice => (4, i, 0x40 + j)
  | .beam => (6, i, 0)
  | .octTherm => (6, 0x100 + i, 0)
  | .octEct => (6, 0x100 + i, 1)
  | .loop => (10, i, 0)
  | .loopClass => (10, 0xFFFF, 1)
  | .pll => (7, i, 0)
  | .ramp => (7, i, 1)
  | .bandTbl => (7, i, 2)
  | .clkOut => (7, 0x100 + i, 0)
  | .motor => (8, i, 0)
  | .cmdPin => (8, 0x200 + i, 0)
  | .xd => (8, 0x100 + i, 0)
  | .axis => (9, i, 0)
  | .encoder => (9, 0x100 + i, 0)
  | .web => (9, 0x300, 0)
  | .hv => (10, 0x100 + i, 0)
  | .fz => (10, 0x200 + i, 0)
  | .th => (10, 0x300 + i, 0)
  | .clasp => (13, i, 0)
  | .pwrDom => (15, i, 0)
  | .ember => (15, 0x300, 0)
  | .seq => (14, 0xFFFF, 0)
  | .rail => (14, i, 0)
  | .pmb => (14, 0x100, 0)
  | .compat => (17, 0, 0)
  | .lvt => (17, 2, 0)

/-- The Clasp of a register of the Clasp monitor: CLASP_SAFE is listed from CL80 on. -/
def RegHit.gInst (h : RegHit) : Nat := if h.desc.base = 0x70504 then 80 + h.inst else h.inst

/-- The instance number of a group of one register: that of its unit, or 0xFFFF for the block as a whole (log 14). -/
def ownInst (h : RegHit) : Nat :=
  if h.desc.dims = [] then 0xFFFF
  else if 0x582000 ≤ h.desc.base ∧ h.desc.base < 0x582100 then 0x200 + h.inst else h.inst

/-- The key of a register's commit group: its GROUP_ID, or for a group of one register 2^32 + its offset. -/
def RegHit.group (h : RegHit) : Nat :=
  if h.desc.grp = .own then 0x100000000 + h.desc.base + h.disp
  else let (b, i, g) := groupParts h.desc.grp h.gInst (h.ix.getD 1 0)
    b * 0x1000000 + i * 0x100 + g

/-- R266: the GROUP_ID that reports carry for a group key. -/
def groupId (key : Nat) : Nat :=
  if key < 0x100000000 then key
  else let off := key - 0x100000000
    match findReg off with
    | some h => blockOf off * 0x1000000 + ownInst h * 0x100 + 0xFF
    | none => 0

/-- R364: word `j` of program entry `k` of loop slot `l`, held in island memory: no BAR0 offset is odd, so its key is free. -/
def progFld (l k j : Nat) : Fld := ⟨0x600000 + l * 0x80 + 4 * k + 1, j, 32, 0⟩

/-- The slot and entry of a program word's key. -/
def progOf (key : Nat) : Option (Nat × Nat) :=
  let off := key / 32
  if off % 4 = 1 ∧ 0x600000 ≤ off ∧ off < 0x606000 then some ((off - 0x600000) / 0x80, off % 0x80 / 4) else none

/-- R266, R364: the FIELD_ID of a field's key: lowest bit and offset, or a program entry's. -/
def fieldId (key : Nat) : Nat :=
  match progOf key with
  | some (l, k) => (0x40 + k) * 0x1000000 + 0x600000 + l * 0x80
  | none => key % 32 * 0x1000000 + key / 32

/-- The field a key names, with its type, if the register has one at that bit. -/
def fieldAt (key : Nat) : Option (RegHit × Acc × Fld) :=
  match progOf key with
  | some (l, k) => (findReg (0x600000 + l * 0x80)).map (fun h => (h, .rws, progFld l k (key % 32)))
  | none =>
    match findReg (key / 32) with
    | none => none
    | some h => (h.fields.find? (fun (_, f) => f.lo = key % 32)).map (fun (a, f) => (h, a, f))

/-- The commit group of a staged field's key. -/
def groupOfKey (key : Nat) : Nat :=
  match progOf key with
  | some (l, _) => 0x0A000000 + l * 0x100
  | none =>
    match findReg (key / 32) with
    | none => 0
    | some h => h.group

end Sys2Proof.Machine
end

