-- ==== Sys2Proof/Machine/LegRegs.lean ====
section
/-! DEFINITION. The fields of the legacy registers that hold a value of their own (R502, R503, R505), at the BAR0 offsets
of R497, and their table. The other fields show native state. -/

namespace Sys2Proof.Machine

/-- R497: the BAR0 offset of a legacy address. -/
def legOff (n : Nat) : Nat := 0x800000 + 4 * n

def L.ID_ID : Fld := ⟨legOff 0x0, 0, 16, 16392⟩
def L.CTRL_RUN : Fld := ⟨legOff 0x1, 15, 1, 0⟩
def L.CTRL_RES : Fld := ⟨legOff 0x1, 0, 2, 1⟩
def L.MODE_PORT : Fld := ⟨legOff 0x2, 2, 1, 0⟩
def L.PITCH_PITCH : Fld := ⟨legOff 0x3, 0, 16, 3070⟩
def L.LINES_LINES : Fld := ⟨legOff 0x4, 0, 16, 14031⟩
def L.VMAP_V : Fld := ⟨legOff 0x5, 0, 16, 0xFA50⟩
def L.LINK_RATE : Fld := ⟨legOff 0x6, 0, 16, 400⟩
def L.WEB_EN : Fld := ⟨legOff 0x7, 15, 1, 0⟩
def L.WEB_PRI : Fld := ⟨legOff 0x7, 12, 3, 0⟩
def L.WEB_JW : Fld := ⟨legOff 0x7, 8, 4, 2⟩
def L.WEB_SCALE_HI_SCALE : Fld := ⟨legOff 0x8, 0, 16, 0x0100⟩
def L.WEB_SCALE_LO_SCALE : Fld := ⟨legOff 0x9, 0, 16, 0⟩
def L.AX_SEL_AXIS : Fld := ⟨legOff 0xa, 0, 4, 0⟩
def L.AX_TGT_HI_TGT : Fld := ⟨legOff 0xc, 0, 16, 0⟩
def L.AX_TGT_LO_TGT : Fld := ⟨legOff 0xd, 0, 16, 0⟩
def L.AX_VMAX_VMAX : Fld := ⟨legOff 0xe, 0, 16, 0⟩
def L.SC_CTL_EN (i : Nat) : Fld := ⟨legOff (0x10 + 8 * i), 15, 1, 0⟩
def L.SC_CTL_BPP2 (i : Nat) : Fld := ⟨legOff (0x10 + 8 * i), 14, 1, 1⟩
def L.SC_CTL_REVERSE (i : Nat) : Fld := ⟨legOff (0x10 + 8 * i), 13, 1, 0⟩
def L.SC_CTL_HEAL_EN (i : Nat) : Fld := ⟨legOff (0x10 + 8 * i), 12, 1, 1⟩
def L.SC_CTL_FACETS (i : Nat) : Fld := ⟨legOff (0x10 + 8 * i), 8, 4, 12⟩
def L.SC_PIXELS_PIXELS (i : Nat) : Fld := ⟨legOff (0x11 + 8 * i), 0, 16, 12288⟩
def L.SC_FREQ_HI_FREQ (i : Nat) : Fld := ⟨legOff (0x12 + 8 * i), 0, 12, 0⟩
def L.SC_FREQ_LO_FREQ (i : Nat) : Fld := ⟨legOff (0x13 + 8 * i), 0, 16, 0⟩
def L.SC_SOS_SOS (i : Nat) : Fld := ⟨legOff (0x14 + 8 * i), 0, 16, 726⟩
def L.SC_DS_DS (i : Nat) : Fld := ⟨legOff (0x15 + 8 * i), 0, 16, 0⟩
def L.SC_XOFF_XOFF (i : Nat) : Fld := ⟨legOff (0x16 + 8 * i), 0, 16, 0⟩
def L.SC_FACET_PERIOD (i : Nat) : Fld := ⟨legOff (0x17 + 8 * i), 0, 16, 0⟩
def L.BP_BIAS_APC_EN (i : Nat) : Fld := ⟨legOff (0x30 + 2 * i), 15, 1, 0⟩
def L.BP_BIAS_BIAS (i : Nat) : Fld := ⟨legOff (0x30 + 2 * i), 0, 10, 0⟩
def L.BP_PWR_PWR (i : Nat) : Fld := ⟨legOff (0x31 + 2 * i), 0, 12, 0⟩
def L.PG_CTL_RUN (i : Nat) : Fld := ⟨legOff (0x70 + 4 * i), 15, 1, 0⟩
def L.PG_CTL_RPR (i : Nat) : Fld := ⟨legOff (0x70 + 4 * i), 0, 8, 1⟩
def L.PG_FREQ_HI_FREQ (i : Nat) : Fld := ⟨legOff (0x71 + 4 * i), 0, 16, 0⟩
def L.PG_FREQ_LO_FREQ (i : Nat) : Fld := ⟨legOff (0x72 + 4 * i), 0, 16, 0⟩
def L.HV_SET_SET (i : Nat) : Fld := ⟨legOff (0x80 + 4 * i), 0, 12, 0⟩
def L.HV_CTL_EN (i : Nat) : Fld := ⟨legOff (0x81 + 4 * i), 15, 1, 0⟩
def L.HV_CTL_AUTO (i : Nat) : Fld := ⟨legOff (0x81 + 4 * i), 14, 1, 0⟩
def L.HV_CTL_MAXDUTY (i : Nat) : Fld := ⟨legOff (0x81 + 4 * i), 0, 8, 128⟩
def L.HV_GAIN_KP (i : Nat) : Fld := ⟨legOff (0x82 + 4 * i), 8, 8, 32⟩
def L.HV_GAIN_KI (i : Nat) : Fld := ⟨legOff (0x82 + 4 * i), 0, 8, 8⟩
def L.FZ_SET_SET (i : Nat) : Fld := ⟨legOff (0xc0 + 4 * i), 0, 10, 0⟩
def L.FZ_CTL_EN (i : Nat) : Fld := ⟨legOff (0xc1 + 4 * i), 15, 1, 0⟩
def L.FZ_CTL_AUTO (i : Nat) : Fld := ⟨legOff (0xc1 + 4 * i), 14, 1, 0⟩
def L.FZ_CTL_T_MAX (i : Nat) : Fld := ⟨legOff (0xc1 + 4 * i), 0, 9, 230⟩
def L.FZ_GAIN_KP (i : Nat) : Fld := ⟨legOff (0xc2 + 4 * i), 8, 8, 16⟩
def L.FZ_GAIN_KI (i : Nat) : Fld := ⟨legOff (0xc2 + 4 * i), 0, 8, 2⟩
def L.STAT_TAKEOVER : Fld := ⟨legOff 0xe0, 11, 1, 0⟩
def L.STAT_CFG_FAULT : Fld := ⟨legOff 0xe0, 10, 1, 0⟩
def L.STAT_LINK_OK : Fld := ⟨legOff 0xe0, 8, 1, 0⟩
def L.SSTAT_UNDERRUN (i : Nat) : Fld := ⟨legOff (0xe1 + 1 * i), 12, 1, 0⟩
def L.SSTAT_PARERR (i : Nat) : Fld := ⟨legOff (0xe1 + 1 * i), 11, 1, 0⟩
def L.SSTAT_LPARERR (i : Nat) : Fld := ⟨legOff (0xe1 + 1 * i), 10, 1, 0⟩
def L.SSTAT_SLIP (i : Nat) : Fld := ⟨legOff (0xe1 + 1 * i), 9, 1, 0⟩
def L.SSTAT_SKIP (i : Nat) : Fld := ⟨legOff (0xe1 + 1 * i), 8, 1, 0⟩
def L.SSTAT_HEAL (i : Nat) : Fld := ⟨legOff (0xe1 + 1 * i), 4, 1, 0⟩
def L.IRQ_STAT_CAUSE : Fld := ⟨legOff 0xeb, 4, 12, 0⟩
def L.IRQ_EN_EN : Fld := ⟨legOff 0xec, 4, 12, 0⟩
def L.LASTCODE_CODE : Fld := ⟨legOff 0xed, 0, 16, 0⟩

/-- The legacy registers. -/
def legTable : List RegDesc := [
  ⟨"L_ID", legOff 0x0, [], 0, .own, false, [(.ro, L.ID_ID)]⟩,
  ⟨"L_CTRL", legOff 0x1, [], 0, .own, false, [(.rwl, L.CTRL_RUN), (.rwl, L.CTRL_RES)]⟩,
  ⟨"L_MODE", legOff 0x2, [], 0, .own, false, [(.ro, L.MODE_PORT)]⟩,
  ⟨"L_PITCH", legOff 0x3, [], 0, .own, false, [(.rwl, L.PITCH_PITCH)]⟩,
  ⟨"L_LINES", legOff 0x4, [], 0, .own, false, [(.rwl, L.LINES_LINES)]⟩,
  ⟨"L_VMAP", legOff 0x5, [], 0, .own, false, [(.rwl, L.VMAP_V)]⟩,
  ⟨"L_LINK", legOff 0x6, [], 0, .own, false, [(.rwl, L.LINK_RATE)]⟩,
  ⟨"L_WEB", legOff 0x7, [], 0, .own, false, [(.rwl, L.WEB_EN), (.rwl, L.WEB_PRI), (.rwl, L.WEB_JW)]⟩,
  ⟨"L_WEB_SCALE_HI", legOff 0x8, [], 0, .own, false, [(.rwl, L.WEB_SCALE_HI_SCALE)]⟩,
  ⟨"L_WEB_SCALE_LO", legOff 0x9, [], 0, .own, false, [(.rwl, L.WEB_SCALE_LO_SCALE)]⟩,
  ⟨"L_AX_SEL", legOff 0xa, [], 0, .own, false, [(.rwl, L.AX_SEL_AXIS)]⟩,
  ⟨"L_AX_TGT_HI", legOff 0xc, [], 0, .own, false, [(.rwl, L.AX_TGT_HI_TGT)]⟩,
  ⟨"L_AX_TGT_LO", legOff 0xd, [], 0, .own, false, [(.rwl, L.AX_TGT_LO_TGT)]⟩,
  ⟨"L_AX_VMAX", legOff 0xe, [], 0, .own, false, [(.rwl, L.AX_VMAX_VMAX)]⟩,
  ⟨"L_SC_CTL", legOff 0x10, [(4, 32)], 0, .own, false, [(.rwl, L.SC_CTL_EN 0), (.rwl, L.SC_CTL_BPP2 0), (.rwl, L.SC_CTL_REVERSE 0), (.rwl, L.SC_CTL_HEAL_EN 0), (.rwl, L.SC_CTL_FACETS 0)]⟩,
  ⟨"L_SC_PIXELS", legOff 0x11, [(4, 32)], 0, .own, false, [(.rwl, L.SC_PIXELS_PIXELS 0)]⟩,
  ⟨"L_SC_FREQ_HI", legOff 0x12, [(4, 32)], 0, .own, false, [(.rwl, L.SC_FREQ_HI_FREQ 0)]⟩,
  ⟨"L_SC_FREQ_LO", legOff 0x13, [(4, 32)], 0, .own, false, [(.rwl, L.SC_FREQ_LO_FREQ 0)]⟩,
  ⟨"L_SC_SOS", legOff 0x14, [(4, 32)], 0, .own, false, [(.rwl, L.SC_SOS_SOS 0)]⟩,
  ⟨"L_SC_DS", legOff 0x15, [(4, 32)], 0, .own, false, [(.rwl, L.SC_DS_DS 0)]⟩,
  ⟨"L_SC_XOFF", legOff 0x16, [(4, 32)], 0, .own, false, [(.rwl, L.SC_XOFF_XOFF 0)]⟩,
  ⟨"L_SC_FACET", legOff 0x17, [(4, 32)], 0, .own, false, [(.roh, L.SC_FACET_PERIOD 0)]⟩,
  ⟨"L_BP_BIAS", legOff 0x30, [(32, 8)], 0, .own, false, [(.rwl, L.BP_BIAS_APC_EN 0), (.rwl, L.BP_BIAS_BIAS 0)]⟩,
  ⟨"L_BP_PWR", legOff 0x31, [(32, 8)], 0, .own, false, [(.rwl, L.BP_PWR_PWR 0)]⟩,
  ⟨"L_PG_CTL", legOff 0x70, [(4, 16)], 0, .own, false, [(.rwl, L.PG_CTL_RUN 0), (.rwl, L.PG_CTL_RPR 0)]⟩,
  ⟨"L_PG_FREQ_HI", legOff 0x71, [(4, 16)], 0, .own, false, [(.rwl, L.PG_FREQ_HI_FREQ 0)]⟩,
  ⟨"L_PG_FREQ_LO", legOff 0x72, [(4, 16)], 0, .own, false, [(.rwl, L.PG_FREQ_LO_FREQ 0)]⟩,
  ⟨"L_HV_SET", legOff 0x80, [(16, 16)], 0, .own, false, [(.rwl, L.HV_SET_SET 0)]⟩,
  ⟨"L_HV_CTL", legOff 0x81, [(16, 16)], 0, .own, false, [(.rwl, L.HV_CTL_EN 0), (.rwl, L.HV_CTL_AUTO 0), (.rwl, L.HV_CTL_MAXDUTY 0)]⟩,
  ⟨"L_HV_GAIN", legOff 0x82, [(16, 16)], 0, .own, false, [(.rwl, L.HV_GAIN_KP 0), (.rwl, L.HV_GAIN_KI 0)]⟩,
  ⟨"L_FZ_SET", legOff 0xc0, [(8, 16)], 0, .own, false, [(.rwl, L.FZ_SET_SET 0)]⟩,
  ⟨"L_FZ_CTL", legOff 0xc1, [(8, 16)], 0, .own, false, [(.rwl, L.FZ_CTL_EN 0), (.rwl, L.FZ_CTL_AUTO 0), (.rwl, L.FZ_CTL_T_MAX 0)]⟩,
  ⟨"L_FZ_GAIN", legOff 0xc2, [(8, 16)], 0, .own, false, [(.rwl, L.FZ_GAIN_KP 0), (.rwl, L.FZ_GAIN_KI 0)]⟩,
  ⟨"L_STAT", legOff 0xe0, [], 0, .own, false, [(.w1c, L.STAT_TAKEOVER), (.w1c, L.STAT_CFG_FAULT), (.roh, L.STAT_LINK_OK)]⟩,
  ⟨"L_SSTAT", legOff 0xe1, [(4, 4)], 0, .own, false, [(.w1c, L.SSTAT_UNDERRUN 0), (.w1c, L.SSTAT_PARERR 0), (.w1c, L.SSTAT_LPARERR 0), (.w1c, L.SSTAT_SLIP 0), (.w1c, L.SSTAT_SKIP 0), (.w1c, L.SSTAT_HEAL 0)]⟩,
  ⟨"L_IRQ_STAT", legOff 0xeb, [], 0, .own, false, [(.w1c, L.IRQ_STAT_CAUSE)]⟩,
  ⟨"L_IRQ_EN", legOff 0xec, [], 0, .own, false, [(.rwl, L.IRQ_EN_EN)]⟩,
  ⟨"L_LASTCODE", legOff 0xed, [], 0, .own, false, [(.roh, L.LASTCODE_CODE)]⟩]

/-- The register at a legacy address, if one is implemented there. -/
def findLeg (n : Nat) : Option RegHit := findIn legTable (legOff n)

end Sys2Proof.Machine
end

