-- ==== Sys2Proof/Machine/Ops.lean ====
section
/-! DEFINITION. The named operations every family uses: register fields, positions and times, page slots and their
outcomes, events with their severities' actions, records to the host's rings, MSI-X vectors, transactions. -/

namespace Sys2Proof.Machine

open Sys2Proof

/-! ### Register fields -/

/-- The ACTIVE value of a field. -/
def State.rd (s : State) (f : Fld) : Nat := (amGet (BitVec.ofNat 32 f.rst) s.regs f.key).toNat

/-- A field read as two's complement. -/
def State.rdS (s : State) (f : Fld) : Int := sInt f.w (s.rd f)

/-- Whether a one-bit field is 1. -/
def State.on (s : State) (f : Fld) : Bool := s.rd f != 0

/-- The state with a field's ACTIVE value replaced. -/
def State.wr (s : State) (f : Fld) (v : Nat) : State :=
  { s with regs := amSet (BitVec.ofNat 32 f.rst) s.regs f.key (BitVec.ofNat 32 (v % 2 ^ f.w)) }

/-- The state with a signed value in a field. -/
def State.wrS (s : State) (f : Fld) (v : Int) : State := s.wr f (uBits f.w v)

/-- A saturating counter field increased. -/
def State.inc (s : State) (f : Fld) (k : Nat := 1) : State := s.wr f (satAdd f.w (s.rd f) k)

/-- R13: hardware sets bits of a W1C field; a host write in the same clock cycle does not clear them. -/
def State.setW1c (s : State) (f : Fld) (bits : Nat) : State :=
  { s.wr f (s.rd f ||| bits) with
    justSet := s.justSet.filter (fun e => e.2.2 / 10 == s.time.now / 10) ++ [(f.key, bits, s.time.now)] }

/-- R12, R13: a write of 1 clears a W1C bit, but one that hardware has set in this clock cycle of 10 ns. -/
def State.clrW1c (s : State) (f : Fld) (v : Nat) : State :=
  let kept := ((s.justSet.filter (fun e => e.1 == f.key && e.2.2 / 10 == s.time.now / 10)).map (fun e => e.2.1)).foldl (· ||| ·) 0
  s.wr f (s.rd f - (s.rd f &&& (v - (v &&& kept))))

/-- A 64-bit RO-H value in its two registers, low word and high word (R14). -/
def State.wr64 (s : State) (lo hi : Fld) (v : Int) : State :=
  (s.wr lo (uBits 32 v)).wr hi (uBits 32 (v / 4294967296))

/-- A field of a RO-H pair read as one signed 64-bit value. -/
def State.rd64 (s : State) (lo hi : Fld) : Int := sInt 64 (s.rd lo + s.rd hi * 4294967296)

/-- R376: a write of a slot's SETPT is noted, so that a tick in the same cycle uses the value before it. -/
def State.noteSetpt (s : State) (l : Nat) : State :=
  let t := s.time.etime / 10 * 10
  match (s.loops.getD l {}).setOld with
  | some (t', _) => if t' = t then s else { s with loops := s.loops.modify l (fun x => { x with setOld := some (t, s.rd (F.LP_SETPT_SETPT l)) }) }
  | none => { s with loops := s.loops.modify l (fun x => { x with setOld := some (t, s.rd (F.LP_SETPT_SETPT l)) }) }

/-- A slot's SETPT takes a value. -/
def State.putSetpt (s : State) (l v : Nat) : State := (s.noteSetpt l).wr (F.LP_SETPT_SETPT l) v

/-- A live field takes a value written. -/
def State.putLive (s : State) (f : Fld) (v : Nat) : State :=
  let l := (f.off - 0x600000) / 0x80
  if f = F.LP_SETPT_SETPT l ∧ l < 192 then s.putSetpt l v else s.wr f v

/-! ### The islands' copies of the loop slots (R37, R414) -/

/-- The keys of the registers of a loop slot, 0–191. -/
def inSlot (l key : Nat) : Bool := decide (l < 192 ∧ 0x600000 + l * 0x80 ≤ key / 32 ∧ key / 32 < 0x600080 + l * 0x80)

/-- A slot as it stands in the active island. -/
def State.slotNow (s : State) (l : Nat) : SlotCopy := ⟨l, s.regs.filter (fun e => inSlot l e.1), s.loops.getD l {}⟩

/-- The state with a copy in the place of the active island's slot. -/
def State.putSlot (s : State) (c : SlotCopy) : State :=
  { s with
    regs := (c.regs.filter (fun e => inSlot c.slot e.1)).foldl (fun m e => amPut m e.1 e.2) (s.regs.filter (fun e => !inSlot c.slot e.1))
    loops := s.loops.set c.slot c.run }

/-- The copies of the slots an island holds as they are now, beside those it holds already. -/
def State.heldSlots (s : State) (u : Nat) : List SlotCopy :=
  let cs := (s.isl.isls.getD u {}).slots
  cs ++ ((List.range 192).filter (fun l => !cs.any (fun c => c.slot == l))).map s.slotNow

/-- An island stops running the slots: its copies stay as they are (R400, R401). -/
def State.freezeSlots (s : State) (u : Nat) : State :=
  let cs := s.heldSlots u
  { s with isl := { s.isl with isls := s.isl.isls.modify u (fun x => { x with slots := cs }) } }

/-- R37: an island that becomes active brings its own copies; the other one keeps what it had. -/
def State.swapSlots (s : State) (u : Nat) : State :=
  let cs := (s.isl.isls.getD u {}).slots
  let ds := (s.isl.isls.getD (1 - u) {}).slots
  let old := (cs.filter (fun c => !ds.any (fun d => d.slot == c.slot))).map (fun c => s.slotNow c.slot)
  let isls := (s.isl.isls.modify u (fun x => { x with slots := [] })).modify (1 - u) (fun x => { x with slots := ds ++ old })
  cs.foldl State.putSlot { s with isl := { s.isl with isls := isls } }

/-- R37: a host write to a slot reaches the slot in both islands: the copies of an island whose domain is up take the active
values of the keys. -/
def State.slotsTake (s : State) (keys : List Nat) : State :=
  let put (m : FieldMap) (k : Nat) : FieldMap := match amFind s.regs k with | some v => amPut m k v | none => amDel m k
  let isls := s.isl.isls.map (fun x => { x with slots := x.slots.map (fun c =>
    { c with regs := (keys.filter (inSlot c.slot)).foldl put c.regs }) })
  { s with isl := { s.isl with isls := isls } }

/-- R414: a rejoining island takes a slot from the active island on a tick of it. -/
def State.takeSlot (s : State) (l : Nat) : State :=
  { s with isl := { s.isl with isls := s.isl.isls.map (fun x =>
    if x.rejoining then { x with slots := x.slots.filter (fun c => c.slot != l) } else x) } }

/-- R37: what an island's own block shows: the state with its copy of the slot at an offset. -/
def State.slotSeen (s : State) (u off : Nat) : State :=
  match (s.isl.isls.getD u {}).slots.find? (fun c => inSlot c.slot (off * 32)) with
  | some c => s.putSlot c
  | none => s

/-- R432: WAKE_N is driven low until PD_HOST's logic step is ready and PERST_N is high. -/
def State.freeWakeN (s : State) : State :=
  if s.rd (F.PWR_DOM_LEVEL 1) = 2 && !s.host.perst then { s with pwr := { s.pwr with wakeN := false } } else s

/-! ### Power-on reset (R527) -/

/-- R527: while the device holds itself in power-on reset no command acts. -/
def State.live (s t : State) : State := if s.boot.porst then s else t

/-! ### Time and position -/

/-- R25: WPOS, rounded towards minus infinity from the tracker's eighths-bit fraction. -/
def State.wpos (s : State) : Int := (s.web.g + s.web.o) / 256

/-- The model's own clock, in ns since PORST_N released. -/
def State.now (s : State) : Nat := s.time.now

/-- R26: ETIME as records sample it, on the 10 ns tick whose WPOS is the one published; `State.time` holds the running value. -/
def State.etime (s : State) : Nat := if s.time.sysStopped then s.time.etime else s.time.etime - s.time.now % 10

/-- A free value and the counter's advance (log 3). -/
def State.free (s : State) : Nat × State :=
  ((Config.freeValue s.freeCtr).toNat, { s with freeCtr := s.freeCtr + 1 })

/-- An island is ACTIVE (R400): ISL_STAT.STATE 4. -/
def State.islandActive (s : State) : Bool := [0, 1].any (fun i => s.rd (F.ISL_STAT_STATE i) == 4)

/-- The island that is ACTIVE serves: its cores advance (R399) and its domain is ON. -/
def State.islandServes (s : State) : Bool :=
  [0, 1].any (fun u => s.rd (F.ISL_STAT_STATE u) == 4 && (s.isl.isls.getD u {}).alive && s.rd (F.PWR_DOM_LEVEL (3 + u)) == 2)

/-! ### Page slots -/

/-- The slot byte of an event: 0xFF for a frame of compatibility mode. -/
def slotNo (p : Nat) : Nat := if p < 160 then p else 255

/-- Slots 160–163 hold the frames of compatibility mode, which has no Almanac (R498, R501). -/
def State.slot (s : State) (p : Nat) : Slot :=
  if p < 160 then s.alm.slots.getD p {} else s.leg.frames.getD (p - 160) {}

/-- One slot changed. -/
def State.modSlot (s : State) (p : Nat) (f : Slot → Slot) : State :=
  if p < 160 then { s with alm := { s.alm with slots := s.alm.slots.modify p f } }
  else { s with leg := { s.leg with frames := s.leg.frames.modify (p - 160) f } }

/-- R66: ADMITTED, IMAGING or TRANSIT. -/
def SlotState.inFlight : SlotState → Bool
  | .admitted | .imaging | .transit => true
  | _ => false

/-- R66: waiting for its eve. -/
def SlotState.waiting : SlotState → Bool
  | .loaded | .staging | .staged => true
  | _ => false

/-- R67. -/
def SlotState.code : SlotState → Nat
  | .free => 0 | .loaded => 1 | .staging => 2 | .staged => 3 | .admitted => 4
  | .imaging => 5 | .transit => 6 | .delivered => 7 | .retired => 8

/-- The numbers of the slots whose content meets a test, ascending. -/
def State.slotsWhere (s : State) (t : Slot → Bool) : List Nat :=
  (List.range s.alm.slots.length).filter (fun p => t (s.slot p))

/-- ALM_COUNT.IN_FLIGHT (R66). -/
def State.inFlight (s : State) : Nat := (s.alm.slots.filter (fun x => x.st.inFlight)).length

def State.freeSlots (s : State) : Nat := (s.alm.slots.filter (fun x => x.st = .free)).length

/-- R57: the outcome only worsens, and CAUSE is the first event that brought it to its final value. -/
def Slot.worsen (x : Slot) (outcome cause : Nat) : Slot :=
  if x.outcome < outcome then { x with outcome := outcome, cause := cause } else x

/-- ST_FLAGS bits of one station set (R64). -/
def Slot.flagSt (x : Slot) (st bits : Nat) : Slot :=
  { x with stFlags := x.stFlags.modify st (fun v => v ||| bits) }

/-- ST_FLAGS bits set for every station of the mask. -/
def Slot.flagAll (x : Slot) (bits : Nat) : Slot :=
  (bitsOf 8 x.mask).foldl (fun y st => y.flagSt st bits) x

/-- PAGE_FLAGS bits of the record set (R64). -/
def Slot.flagRec (x : Slot) (bits : Nat) : Slot := { x with recFlags := x.recFlags ||| bits }

/-- Lines left blank, saturating (R64). -/
def Slot.blank (x : Slot) (n : Nat) : Slot := { x with blanked := satAdd 32 x.blanked n }

/-! ST_FLAGS bits (R64): HEAL 1, DERATE 2, CHECK_MISMATCH 4, PROOF 8, EMITTER_DROP 16, BLANK_LINES 32,
PAIRED_STRIKE 64, CUT 128. PAGE_FLAGS bits: PROOF 1, TAKEOVER 2, DELIV_UNCONF 4, CAPTURED 8, FRAME_STOP 16, ABORTED 32. -/

/-- R58: TIER has fallen to `tier`: a page ADMITTED or IMAGING with a higher MIN_TIER is FLAGGED with PROOF, or SPOILED. -/
def Slot.tierFell (x : Slot) (tier : Nat) : Slot :=
  if !(x.st = .admitted || x.st = .imaging) || x.minTier ≤ tier then x
  else if x.minTier = 2 then ((x.worsen 1 0x1040).flagRec 1).flagAll 8
  else x.worsen 2 0x1040

/-- A station's frame of a slot is under way. -/
def Slot.runsOn (x : Slot) (st : Nat) : Bool :=
  x.st = .imaging && x.mask.testBit st && x.started.testBit st && !x.ended.testBit st

/-- The slot whose frame a station is imaging (R41): IMAGING, started there and not ended there. -/
def State.slotOn (s : State) (st : Nat) : Option Nat :=
  match (s.slotsWhere (fun x => x.runsOn st)).head? with
  | some p => some p
  | none => if st < 4 && (s.slot (160 + st)).runsOn st then some (160 + st) else none

/-- Slots ADMITTED or IMAGING whose frame on a station has not ended. -/
def State.slotsAhead (s : State) (st : Nat) : List Nat :=
  s.slotsWhere (fun x => (x.st = .admitted || x.st = .imaging) && x.mask.testBit st && !x.ended.testBit st)
    ++ (if st < 4 && (s.slot (160 + st)).runsOn st then [160 + st] else [])

/-- A change to every slot in flight. -/
def State.modInFlight (s : State) (f : Slot → Slot) : State :=
  { s with alm := { s.alm with slots := s.alm.slots.map (fun x => if x.st.inFlight then f x else x) } }

/-- R53: a change to every slot whose eve fired on the present 10 ns tick and is undecided. -/
def State.modEveTick (s : State) (f : Slot → Slot) : State :=
  { s with alm := { s.alm with slots := s.alm.slots.map (fun x =>
    if x.st.waiting && x.eveFired && x.eveAt / 10 == s.now / 10 then f x else x) } }

/-! ### MSI-X (R260, R261) -/

/-- The vector sends its message, or sets its pending bit while masked. -/
def Vec.send (v : Vec) : Vec :=
  if v.masked then { v with count := 0, firstAt := none, pendingBit := true }
  else { v with count := 0, firstAt := none, sent := v.sent + 1 }

/-- R261, R516: one cause of a vector; `imm` sends whatever the moderation registers hold. In compatibility mode no
vector but 0 sends. -/
def State.vecCause (s : State) (n : Nat) (imm : Bool) : State :=
  if s.rd F.GLB_MODE_MODE = 1 && n != 0 then s else
  let lim := max 1 (s.rd (F.VEC_MOD_MOD_COUNT n))
  { s with host := { s.host with vecs := s.host.vecs.modify n (fun v =>
      let v := { v with count := v.count + 1, firstAt := (match v.firstAt with | none => some s.now | x => x) }
      if imm || lim ≤ v.count then v.send else v) } }

/-! ### Legacy status (R505, R516) -/

/-- R516: LP_INT_N is low while L_IRQ_STAT & L_IRQ_EN ≠ 0; vector 0 is sent as that becomes true. -/
def State.legInt (s : State) : State :=
  let now := s.rd L.IRQ_STAT_CAUSE &&& s.rd L.IRQ_EN_EN != 0
  let s' := { s with leg := { s.leg with int := now } }
  if now && !s.leg.int then s'.vecCause 0 true else s'

/-- R505: a cause of L_IRQ_STAT, by its bit in the register. -/
def State.legIrq (s : State) (bit : Nat) : State :=
  if s.rd F.GLB_MODE_MODE = 1 then (s.setW1c L.IRQ_STAT_CAUSE (2 ^ (bit - 4))).legInt else s

/-- A W1C bit of L_SSTAT is set (R505). -/
def State.legSst (s : State) (st : Nat) (f : Nat → Fld) : State :=
  if s.rd F.GLB_MODE_MODE = 1 && st < 4 then (s.setW1c (f st) 1).legIrq (8 + st) else s

/-- What an event shows in the legacy registers: L_LASTCODE, TAKEOVER, CFG_FAULT, and the causes of L_IRQ_STAT. -/
def State.legEvent (s : State) (sev code inst : Nat) : State :=
  if s.rd F.GLB_MODE_MODE != 1 then s else
  let s := if 1 ≤ sev then s.wr L.LASTCODE_CODE code else s
  if code = 0x7001 then (s.setW1c L.STAT_TAKEOVER 1).legIrq 13
  else if code = 0xA010 then (s.setW1c L.STAT_CFG_FAULT 1).legIrq 12
  else if code = 0xA001 ∨ code = 0xA002 then s.legIrq 4
  else if code = 0x6020 ∨ ((code = 0x6010 ∨ code = 0x6011) ∧ inst < 16) then s.legIrq 7
  else if code = 0x6031 ∨ ((code = 0x6010 ∨ code = 0x6011) ∧ inst < 24) then s.legIrq 6
  else s

/-! ### Records to device → host rings (R249, R250) -/

def State.ring (s : State) (q : Nat) : Ring := s.rings.getD q {}

def State.modRing (s : State) (q : Nat) (f : Ring → Ring) : State := { s with rings := s.rings.modify q f }

def State.ringSize (s : State) (q : Nat) : Nat := 2 ^ s.rd (F.RING_CFG_LOG2_SIZE q)

/-- R237: 0 DISABLED, 1 RUN, 2 STOPPED, 3 ERROR. -/
def State.ringState (s : State) (q : Nat) : Nat := s.rd (F.RING_STAT_STATE q)

/-- R249: free entries of a device → host ring. -/
def State.ringFree (s : State) (q : Nat) : Nat :=
  let n := s.ringSize q
  n - 1 - ((s.rd (F.RING_IDX_PI q) + n - s.rd (F.RING_IDX_CI q)) % n)

/-- Room for a record: the ring runs and enough entries are free. -/
def State.roomFor (s : State) (q : Nat) (r : Rec) : Bool :=
  s.ringState q == 1 && r.entries.length ≤ s.ringFree q

/-- R249: the entries as written, each with the PHASE of its lap (1 in even laps) and CHAIN on all but the last. -/
def phased (size : Nat) : Nat → Nat → List Desc → List Desc
  | _, _, [] => []
  | pi, lap, d :: t =>
    withPhase d (if lap % 2 = 0 then 1 else 0) ::
      (if pi + 1 = size then phased size 0 (lap + 1) t else phased size (pi + 1) lap t)

/-- R246: a transaction of a ring has completed: its last completion record has been written. -/
def State.closeTxn (s : State) (q : Option Nat) : State :=
  match q with
  | some q' => s.modRing q' (fun g => { g with outstanding := g.outstanding - 1 })
  | none => s

/-- R249: a record is written into its ring. PI and the lap move, RING_TAKEN counts it, vector q has a cause, and
the transaction it finishes is complete (R246). Ring 25's vector follows its occupancy (R260). -/
def State.putRec (s : State) (q : Nat) (r : Rec) : State :=
  let n := s.ringSize q
  let pi := s.rd (F.RING_IDX_PI q)
  let k := r.entries.length
  let occ0 := (pi + n - s.rd (F.RING_IDX_CI q)) % n
  let s := s.modRing q (fun g => { g with
    entries := g.entries ++ phased n pi g.lap r.entries, lap := g.lap + (pi + k) / n })
  let s := (s.wr (F.RING_IDX_PI q) ((pi + k) % n)).inc (F.RING_TAKEN_TAKEN q)
  let s := s.closeTxn r.closes
  if q = 25 then
    (if occ0 * 4 < 3 * n && 3 * n ≤ (occ0 + k) * 4 then s.vecCause 25 false else s)
  else s.vecCause q r.irq

/-- R250: a record for Q21, Q26, Q27 or Q30 is written, or discarded and counted. -/
def State.putOrDrop (s : State) (q : Nat) (r : Rec) : State :=
  if s.roomFor q r then s.putRec q r else s.inc (F.RING_DISCARD_DISCARD q)

/-- Whether a waiting record of some ring lacks room. -/
def State.someWaits (s : State) : Bool :=
  [20, 22, 23, 24, 29].any (fun q => match (s.ring q).waiting with | [] => false | r :: _ => !s.roomFor q r)

/-- R250, R260: `t` is what `s` has become: vector 63 has a cause where records wait for room in `t` and none did in `s`. -/
def State.begunWait (s t : State) : State := if !s.someWaits && t.someWaits then t.vecCause 63 true else t

/-- R250, R260: a record joins those of its ring that wait to be written; vector 63 has a cause when records begin
to wait for room after a time in which none did. -/
def State.queueRec (s : State) (q : Nat) (r : Rec) : State :=
  s.begunWait (s.modRing q (fun g => { g with waiting := g.waiting ++ [r] }))

/-- The oldest waiting record of a ring is written if it has room. -/
def State.writeWaiting (s : State) (q : Nat) : State :=
  match (s.ring q).waiting with
  | [] => s
  | r :: t => if s.roomFor q r then s.begunWait ((s.modRing q (fun g => { g with waiting := t })).putRec q r) else s

/-! ### Events (R251, R252, R477–R480) -/

/-- DETAIL bytes 0–9, from (offset, length, value) parts. -/
def detail (fs : List (Nat × Nat × Nat)) : BitVec 80 := BitVec.ofNat 80 (packBytes fs)

/-- R477: the order of events of one tick. -/
def Ev.before (a b : Ev) : Bool :=
  a.block < b.block || (a.block = b.block && (a.inst < b.inst || (a.inst = b.inst && a.code < b.code)))

/-- The later of the events already queued on the same tick take the following sequence numbers (R477). -/
def evInsert (e : Ev) : List Ev → List Ev
  | [] => [e]
  | x :: t =>
    if x.etime = e.etime && e.before x
    then e :: (x :: t).map (fun y => { y with seq := (y.seq + 1) % 65536 })
    else x :: evInsert e t

/-- The queue without its oldest NOTE or WARN event, if it holds one (R251). -/
def dropMinor : List Ev → Option (List Ev)
  | [] => none
  | x :: t => if x.sev ≤ 1 then some t else (dropMinor t).map (x :: ·)

/-- R251: an event enters the queue of 256, or is discarded, or displaces the oldest NOTE or WARN; EVT_LAST keeps
the latest HARD or SAFE event (R263). -/
def State.postRaw (s : State) (sev code block inst : Nat) (d : BitVec 80) (src tag : Nat) : State :=
  let s := s.legEvent sev code inst
  let e0 : Ev := ⟨s.etime, s.wpos, code, sev, src, inst, d, block, s.host.seq, tag⟩
  let after := (s.host.evq.filter (fun x => x.etime = s.etime && e0.before x)).length
  let e := { e0 with seq := (s.host.seq + 65536 - after) % 65536 }
  let last := match s.host.evLast with
    | some l =>
      if l.etime = e.etime && e.before l then some { l with seq := (l.seq + 1) % 65536 }
      else if 3 ≤ sev then some e else some l
    | none => if 3 ≤ sev then some e else none
  let s := { s with host := { s.host with seq := (s.host.seq + 1) % 65536, evLast := last } }
  let lost (s : State) : State := (s.inc F.EVT_DROPPED_DROPPED).vecCause 62 true
  if s.host.evq.length < 256 then { s with host := { s.host with evq := evInsert e s.host.evq } }
  else if sev ≤ 1 then lost s
  else match dropMinor s.host.evq with
    | some q => lost { s with host := { s.host with evq := evInsert e q } }
    | none => lost s

/-- R481: an FS_CLR was accepted in this cycle. -/
def State.clrUndone (s : State) : Bool := match s.flt.clr with | some (t, _) => t / 10 == s.now / 10 | none => false

/-- R481: a HARD event in the cycle of an FS_CLR: the clear is refused after all, and 0x9071 stands in the place of 0x9070. -/
def State.undoClr (s : State) : State :=
  match s.flt.clr with
  | some (t, c, fl, at_) =>
    if t / 10 = s.now / 10 && !s.on F.FAULT_STAT_FRAME_STOP then
      { ((s.wr F.FAULT_STAT_FRAME_STOP 1).wr F.FAULT_STAT_FS_CAUSE c).wr F.FAULT_STAT_FLUSHABLE fl with
        flt := { s.flt with stopAt := at_, clr := none }
        host := { s.host with evq := s.host.evq.map (fun (e : Ev) =>
          if e.code = 0x9070 && e.etime = s.etime then { e with code := 0x9071, detail := detail [(2, 1, 2)] } else e) } }
    else s
  | none => s

/-- R59, R480: a HARD event starts a frame stop or continues it: every page in flight is SPOILED with FRAME_STOP,
WSTOP_N goes low, FS_CAUSE keeps the first cause. A HARD event on the tick of a page's eve counts at that eve (R53). -/
def State.frameStop (s : State) (code : Nat) : State :=
  let s := if s.on F.FAULT_STAT_FRAME_STOP || s.clrUndone then s.undoClr else
    let s := s.legIrq 15
    { ((((s.wr F.FAULT_STAT_FRAME_STOP 1).wr F.FAULT_STAT_FS_CAUSE code).inc F.FAULT_COUNT_FRAME_STOPS)) with
      flt := { s.flt with stopAt := s.now } }
  let s := { s.wr F.FAULT_STAT_WSTOP 1 with flt := { s.flt with hardAt := some s.now } }
  let cause := s.rd F.FAULT_STAT_FS_CAUSE
  let s := s.modEveTick (fun x => { x with eveCause := 0x1024, eveDetail := cause })
  s.modInFlight (fun x => (x.worsen 2 code).flagRec 16)

/-- An event with the fixed action of its severity (R479): 0 NOTE, 1 WARN, 2 SOFT, 3 HARD, 4 SAFE. -/
def State.postBy (s : State) (src sev code block inst : Nat) (d : BitVec 80) (tag : Nat := 0) : State :=
  let s := s.postRaw sev code block inst d src tag
  if sev = 3 then s.frameStop code else s

/-- An event posted by hardware, SOURCE 0x00. -/
def State.post (s : State) (sev code block inst : Nat) (d : List (Nat × Nat × Nat)) (tag : Nat := 0) : State :=
  s.postBy 0 sev code block inst (detail d) tag

/-- R190, R208: every beam is OFF and every BSEN released. -/
def State.beamsOff (s : State) : State :=
  let s := { s with
    beams := s.beams.map (fun b => { b with pulses := [] })
    octs := s.octs.map (fun o => { o with bsenAt := none }) }
  (List.range 16).foldl (fun s n => s.wr (F.OCT_STAT_VBS_OK n) 0) s

/-- R208, R483: the safety latch is set: SAFE is in force, beams are OFF, WSTOP_N is low, every page in flight is
SPOILED; TRIPS counts the setting (R214). -/
def State.safeStart (s : State) (src code : Nat) : State :=
  let s := if s.on F.VIG_LSAFE_LATCHED then s else
    ((((s.legIrq 14).wr F.VIG_LSAFE_LATCHED 1).wr F.FAULT_STAT_SAFE_SRC src).inc F.FAULT_COUNT_SAFES).inc F.VIG_LSAFE_TRIPS_TRIPS
  let s := ((s.wr F.FAULT_STAT_SAFE 1).wr F.FAULT_STAT_WSTOP 1).beamsOff
  s.modInFlight (fun x => x.worsen 2 code)

/-- R528: VDD_CORE, VDD_IO18 or VDD_VIG is below 90 % of its nominal value. -/
def State.undervolt (s : State) : Bool := s.pwr.low % 8 != 0

/-- R434: Vigil drives the ember zone: until the first zero-cross after PD_MOT's logic step. -/
def State.emberOn (s : State) : Bool :=
  s.on F.VIG_EMBER_CFG_EMBER_EN && (s.rd (F.PWR_DOM_LEVEL 5) != 2 || s.pwr.emberTail)

/-- The zone that Vigil drives. -/
def State.emberZone (s : State) (n : Nat) : Bool := s.emberOn && s.rd F.VIG_EMBER_CFG_ZONE == n

/-- R528: the pins that the ember loop uses work while VDD_IO33 and VDD_IO18 are present. -/
def State.emberBarred (s : State) : Bool := s.pwr.low.testBit 1 || s.pwr.low.testBit 3

/-- R208, R451, R528: every beam is held OFF: the safety latch, the power-fail shutdown, or a low supply. -/
def State.beamsBarred (s : State) : Bool :=
  s.on F.VIG_LSAFE_LATCHED || s.rd F.SEQ_STAT_STATE == 5 || s.undervolt

/-- The page on a station is worsened, with ST_FLAGS bits of that station. -/
def State.hurtOn (s : State) (st outcome cause bits : Nat) : State :=
  match s.slotOn st with
  | some p => s.modSlot p (fun x => (x.worsen outcome cause).flagSt st bits)
  | none => s

/-- Every page ADMITTED or IMAGING on a station is worsened. -/
def State.hurtAhead (s : State) (st outcome cause bits : Nat) : State :=
  (s.slotsAhead st).foldl (fun s p => s.modSlot p (fun x => (x.worsen outcome cause).flagSt st bits)) s

/-- R201, R205: a page newly admitted in a slot is none of those that a past cut holds beams OFF for. -/
def State.dropHolds (s : State) (p : Nat) : State :=
  { s with
    octs := s.octs.map (fun o => { o with cutSlots := o.cutSlots.filter (· != p), dueSlots := o.dueSlots.filter (· != p) })
    beams := s.beams.map (fun x => { x with cutSlots := x.cutSlots.filter (· != p) }) }

/-- An event posted once per page and key. -/
def State.postOnce (s : State) (p key sev code block inst : Nat) (d : List (Nat × Nat × Nat)) : State :=
  if (s.slot p).once.contains (code, key) then s
  else (s.modSlot p (fun x => { x with once := x.once ++ [(code, key)] })).post sev code block inst d

end Sys2Proof.Machine
end

