-- ==== Sys2Proof/Machine/RingOps.lean ====
section
/-! DEFINITION. What every class of transaction shares: fence windows, splitting a ring's descriptors into
transactions, the generic checks, the order of taking, CI, TRACE records, MACH_DONE (R237–R259, R406, R485). -/

namespace Sys2Proof.Machine

open Sys2Proof

/-- R236: host → device rings. -/
def isH2D (q : Nat) : Bool := q < 20 || q = 28 || q = 31

/-- R4: compatibility mode is in force. -/
def State.compat (s : State) : Bool := s.rd F.GLB_MODE_MODE == 1

/-! ### Fence windows (R248) -/

def State.fwBase (s : State) (w : Nat) : Nat :=
  s.rd (F.FW_BASE_LO_BASE_L w) * 4096 + s.rd (F.FW_BASE_HI_BASE_H w) * 4294967296

def State.fwLimit (s : State) (w : Nat) : Nat :=
  s.rd (F.FW_LIMIT_LO_LIMIT_L w) * 4096 + 4095 + s.rd (F.FW_LIMIT_HI_LIMIT_H w) * 4294967296

/-- R112: the first address of the band store aperture. -/
def apertureBase : Nat := 0xFFFFF00000000000

/-- R248: a transfer of `n` bytes at `a` lies in one valid window granting its direction; an aperture address at or
beyond the scratch region fails as outside the windows (R112). -/
def State.inWin (s : State) (ws : List Win) (write : Bool) (a n : Nat) : Bool :=
  (a < apertureBase || a + n ≤ apertureBase + s.rd F.BAND_SCR_GRAN_SCR_GRAN * 65536) &&
  ws.any (fun w => (if write then w.write else w.read) && w.base ≤ a && a + n ≤ w.limit + 1)

/-- The valid windows in force (R248). -/
def State.windows (s : State) : List Win :=
  ((List.range 64).filter (fun w => s.on (F.FW_BASE_LO_VALID w))).map (fun w =>
    ⟨s.fwBase w, s.fwLimit w, s.on (F.FW_BASE_LO_READ w), s.on (F.FW_BASE_LO_WRITE w)⟩)

/-- R248: a transfer of `n` bytes at `a` is allowed under the windows in force. -/
def State.inWindow (s : State) (write : Bool) (a n : Nat) : Bool := s.inWin s.windows write a n

/-- R248, R259: the check of a transfer: under the windows `ws` in force as its work began where it was made before they last
changed, else under those in force now (log 147). -/
def State.checkWin (s : State) (ws : List Win) (early write : Bool) (a n : Nat) : Bool :=
  s.inWin (if early then ws else s.windows) write a n

/-- R80, R248: every fragment of a list passes, the first `early` of them checked before the windows last changed. -/
def State.fragsPass (s : State) (ws : List Win) (early : Nat) (frags : List (Nat × Nat)) : Bool :=
  frags.zipIdx.all (fun (f, i) => s.checkWin ws (decide (i < early)) false f.1 f.2)

/-- `n` bytes read from an address of the band store on. -/
def getMem (m : List Host.Cell) (a n : Nat) : List Byte := (List.range n).map (fun i => amGet 0#8 m (a + i))

/-- `n` free values of one byte. -/
def State.freeBytes : Nat → State → List Byte × State
  | 0, s => ([], s)
  | n + 1, s =>
    let (v, s) := s.free
    let (l, s) := State.freeBytes n s
    (BitVec.ofNat 8 v :: l, s)

/-- R69, R112: the band store's byte that an aperture address names. -/
def State.scratchAddr (s : State) (a : Nat) : Nat := s.rd F.BAND_RPR_GRAN_RPR_GRAN * 65536 + (a - apertureBase)

/-- R80, R112: the source that fragments make: aperture fragments from the band store, the others from the bytes that
host reads bring. -/
def State.gather (s : State) : List (Nat × Nat) → List Byte → List Byte
  | [], _ => []
  | (a, n) :: t, bs =>
    if apertureBase ≤ a then getMem s.band.mem (s.scratchAddr a) n ++ State.gather s t bs
    else (bs.take n ++ List.replicate (n - bs.length) 0#8) ++ State.gather s t (bs.drop n)

/-- R80, R112: the fragments of a scatter list of `n` entries at `a`: from the band store where it lies in the aperture, else
as host memory gave them. An entry of LEN 0 gives no bytes and bytes 12 to 15 are not tested (the model's choice, log 139). -/
def State.sgList (s : State) (a n : Nat) (host : List (Nat × Nat)) : List (Nat × Nat) :=
  if apertureBase ≤ a then (List.range n).map (fun i =>
    let e := getMem s.band.mem (s.scratchAddr (a + 16 * i)) 16
    (bField e 0 8, bField e 8 4))
  else host.take n

def State.ringBase (s : State) (q : Nat) : Nat :=
  s.rd (F.RING_BASE_LO_BASE_L q) * 64 + s.rd (F.RING_BASE_HI_BASE_H q) * 4294967296

def State.ringWb (s : State) (q : Nat) : Nat :=
  s.rd (F.RING_WB_LO_WB_L q) * 4 + s.rd (F.RING_WB_HI_WB_H q) * 4294967296

/-- R237: what keeps a ring from being enabled: 0 LOG2_SIZE, 1 base outside windows, 2 WB outside windows (R265). -/
def State.ringBad (s : State) (q : Nat) : Option Nat :=
  let lg := s.rd (F.RING_CFG_LOG2_SIZE q)
  if lg < 3 ∨ 16 < lg then some 0
  else if !s.inWindow (!isH2D q) (s.ringBase q) (64 * 2 ^ lg) then some 1
  else if isH2D q && s.ringWb q != 0 && !s.inWindow true (s.ringWb q) 4 then some 2
  else none

/-- R259: every ring that is not DISABLED meets the window rule. -/
def State.windowsHold (s : State) : Bool :=
  (List.range 32).all (fun q => s.ringState q == 0 || (s.ringBad q).isNone)

/-! ### Transactions (R244–R247) -/

/-- R244: the first run of descriptors that ends with CHAIN = 0, and what follows it. -/
def splitTxn : List Desc → Option (List Desc × List Desc)
  | [] => none
  | d :: t => if dChain d then (splitTxn t).map (fun (a, b) => (d :: a, b)) else some ([d], t)

/-- The transaction at the head of a ring, when every descriptor of it has been read. -/
def State.headTxn (s : State) (q : Nat) : Option (List Desc) := ((splitTxn (s.ring q).fetched).map (·.1))

/-- R236: the opcodes a ring accepts. -/
def accepts (q op : Nat) : Bool :=
  if q < 8 then 1 ≤ op && op ≤ 4
  else if q < 12 then 0x10 ≤ op && op ≤ 0x11
  else if q < 16 then 0x20 ≤ op && op ≤ 0x22
  else if q < 20 then 0x30 ≤ op && op ≤ 0x5F
  else if q = 28 then 0x60 ≤ op && op ≤ 0x63
  else if q = 31 then 0x70 ≤ op && op ≤ 0x75
  else false

/-- R245: the number of the first generic check a transaction fails. -/
def genericFail (q : Nat) (ds : List Desc) : Option Nat :=
  if 16 < ds.length ∨ ((q = 28 ∨ (12 ≤ q ∧ q < 16)) ∧ ds.length ≠ 1) then some 1
  else if !ds.all (fun d => accepts q (dOpcode d)) then some 2
  else if !ds.all (fun d => dFlags d / 16 == 0) || (ds.drop 1).any dFence then some 3
  else none

/-- The class of a ring: 0 page, 1 table, 2 codec, 3 machine, 4 priority, 5 administration (R247). -/
def classOf (q : Nat) : Nat :=
  if q < 8 then 0 else if q < 12 then 1 else if q < 16 then 2 else if q < 20 then 3 else if q = 28 then 4 else 5

/-- The rings of a class, lowest and count. -/
def classRings (c : Nat) : List Nat :=
  match c with
  | 0 => [0, 1, 2, 3, 4, 5, 6, 7]
  | 1 => [8, 9, 10, 11]
  | 2 => [12, 13, 14, 15]
  | 3 => [16, 17, 18, 19]
  | 4 => [28]
  | _ => [31]

/-- R250, R63, R406: the class takes nothing while 64 of its records wait (16 refused-submission records for the
page class), or, for the page and machine classes, while 16 transactions are kept. -/
def State.classFull (s : State) (c : Nat) : Bool :=
  match c with
  | 0 => 16 ≤ ((s.ring 20).waiting.filter (fun r => r.slot = some 160)).length || 16 ≤ s.host.kept.length
  | 1 => 64 ≤ (s.ring 22).waiting.length
  | 2 => 64 ≤ (s.ring 23).waiting.length || 64 ≤ (s.ring 29).waiting.length
  | 4 => false
  | 3 => 64 ≤ (s.ring 24).waiting.length || 16 ≤ s.host.kept.length
  | _ => 64 ≤ (s.ring 24).waiting.length

/-- R246: FENCE on the first descriptor waits for every earlier transaction of the ring. -/
def State.fenceHeld (s : State) (q : Nat) (ds : List Desc) : Bool :=
  (match ds with | d :: _ => dFence d | [] => false) && (s.ring q).outstanding != 0

/-- R46: a page transaction is held while no slot is FREE but those that pages taken and not yet applied may need; a cancel needs
none. -/
def State.slotHeld (s : State) (ds : List Desc) : Bool :=
  (match ds with | d :: _ => dOpcode d == 1 | [] => false)
    && decide (s.freeSlots ≤ (s.host.unserved.filter (fun x => dOpcode (x.2.1.headD 0) == 1)).length)

/-- R147: a table ring is held while a transaction taken from it waits for a pending switch. -/
def State.tblHeld (s : State) (q : Nat) : Bool := s.tbl.txns.any (fun t => t.ring = q && !t.started)

/-- R111: the device takes from the codec rings while its queue of 16 is not full; HOLD and FREE need no queue entry. -/
def State.jobHeld (s : State) (ds : List Desc) : Bool :=
  (match ds with | d :: _ => dOpcode d == 0x20 | [] => false) &&
    16 ≤ (s.codec.jobs.filter (fun j => !j.started)).length

/-- R61, R335, R405, R406: the active island applies page submissions and the commands of motors, drives, axes and loop slots. While
none serves, and until those kept have been applied, such a transaction is taken and kept only. -/
def State.islandLacks (s : State) (q : Nat) (ds : List Desc) : Bool :=
  let op := dOpcode (ds.headD 0)
  (!s.islandServes || !s.host.unserved.isEmpty) && (classOf q == 0 || (classOf q == 3 && decide (0x30 ≤ op ∧ op ≤ 0x36)))

/-- R406, R407: a transaction taken waits for an island to apply it. -/
def State.unserve (s : State) (q : Nat) (ds : List Desc) (tseq : Nat) : State :=
  { s with host := { s.host with unserved := s.host.unserved ++ [(q, ds, tseq)] } }

/-- The transaction a ring offers to its class: complete, in RUN and not held (R247). -/
def State.offer (s : State) (q : Nat) : Option (List Desc) :=
  if s.ringState q != 1 then none else
  match s.headTxn q with
  | none => none
  | some ds =>
    if s.classFull (classOf q) || s.fenceHeld q ds then none
    else if classOf q = 0 && s.slotHeld ds then none
    else if classOf q = 1 && s.tblHeld q then none
    else if classOf q = 2 && s.jobHeld ds then none
    else some ds

/-- R247: the ring after the one served last, in ascending order and wrapping, among those that offer. -/
def State.nextRing (s : State) (c : Nat) : Option Nat :=
  let last := s.host.lastServed.getD c 0
  let rs := (classRings c).filter (fun q => (s.offer q).isSome)
  match rs.filter (fun q => last < q) with
  | q :: _ => some q
  | [] => rs.head?

/-- R247: the transaction that may be taken now from ring `q`; Q28 and Q31 go ahead of every other ring. -/
def State.takeable (s : State) (q : Nat) : Option (List Desc) :=
  if s.nextRing (classOf q) != some q then none
  else if q != 28 && (s.offer 28).isSome then none
  else if q != 28 && q != 31 && (s.offer 31).isSome then none
  else s.offer q

/-- R237: untaken descriptors are discarded. -/
def Ring.discard (g : Ring) : Ring := { g with fetched := [], found := [], rereadAt := none, retry := false, errAt := none }

/-- R242: the ring stops at the last transaction boundary in ERROR; its vector has a cause (R260). -/
def State.ringError (s : State) (q cause phase : Nat) : State :=
  let s := s.post 1 0x9021 2 q [(0, 1, cause), (1, 2, s.rd (F.RING_IDX_CI q)), (3, 1, phase)]
  (((s.modRing q Ring.discard).wr (F.RING_STAT_STATE q) 3).wr (F.RING_STAT_ERR_CAUSE q) cause).vecCause q false

/-- R242: the read of the entry after those read has failed for good: the ring enters ERROR now, or once the
transactions before it have been taken. -/
def State.readFailed (s : State) (q cause phase : Nat) : State :=
  if (s.headTxn q).isNone then s.ringError q cause phase
  else s.modRing q (fun g => { g with rereadAt := none, retry := false, errAt := some (cause, phase) })

/-- R237, R242: CI has reached the transaction whose entry could not be read. -/
def State.errorDue (s : State) (q : Nat) : State :=
  match (s.ring q).errAt with
  | some (c, p) => if (s.headTxn q).isNone then s.ringError q c p else s
  | none => s

/-- R244: CI passes a transaction of `n` descriptors in one step; RING_TAKEN counts, vector q has a cause and a
writeback is due (R249, R260); a doorbelled PI that CI has passed lies at CI (R243). -/
def State.passTxn (s : State) (q n : Nat) : State :=
  let size := s.ringSize q
  let ci := s.rd (F.RING_IDX_CI q)
  let s := s.modRing q (fun g => { g with
    bell := if (g.bell + size - ci) % size < n then (ci + n) % size else g.bell
    fetched := g.fetched.drop n, found := g.found.drop n, lap := g.lap + (ci + n) / size, outstanding := g.outstanding + 1, wbDue := true })
  let s := (s.wr (F.RING_IDX_CI q) ((ci + n) % size)).inc (F.RING_TAKEN_TAKEN q)
  let s := { s with host := { s.host with lastServed := s.host.lastServed.set (classOf q) q } }
  (s.vecCause q false).errorDue q

/-- R406: the transaction is given a TSEQ and a copy is kept. -/
def State.keep (s : State) (ds : List Desc) : Nat × State :=
  (s.host.tseq, { s with host := { s.host with
    tseq := (s.host.tseq + 1) % 4294967296, kept := s.host.kept ++ [(s.host.tseq, ds)] } })

/-! ### TRACE (R485) -/

/-- A TRACE record's entry, without ETIME and WPOS. -/
def traceEntry (tag kind ring op descs tseq status : Nat) : Desc :=
  mkEntry [(0, 1, 0xD0), (4, 4, tag), (8, 1, kind), (9, 1, ring), (10, 1, op), (11, 1, descs), (12, 4, tseq), (16, 2, status)]

/-- A TRACE record is written to Q30 with the tick's ETIME and WPOS. -/
def State.putTrace (s : State) (d : Desc) : State :=
  s.putOrDrop 30 ⟨[d ||| mkEntry [(24, 8, s.etime), (32, 8, uBits 64 s.wpos)]], false, none, none, none⟩

/-- R485: the record of a transaction taken (0) or refused (2). -/
def State.trace (s : State) (kind ring : Nat) (ds : List Desc) (tseq : Nat) : State :=
  if s.on F.TRACE_CFG_EN then
    match ds with
    | d :: _ => s.putTrace (traceEntry (dTag d) kind ring (dOpcode d) ds.length tseq 0)
    | [] => s
  else s

/-- R485: the TRACE record due when a completion record is written, with EN and DONE_EN set. -/
def State.doneTrace (s : State) (r : Option Desc) : State :=
  if s.on F.TRACE_CFG_EN && s.on F.TRACE_CFG_DONE_EN then
    match r with | some d => s.putTrace d | none => s
  else s

/-- The oldest waiting completion record of a ring is written if it has room, with its TRACE record. -/
def State.writeDone (s : State) (q : Nat) : State :=
  match (s.ring q).waiting with
  | [] => s
  | r :: _ => if s.roomFor q r then (s.writeWaiting q).doneTrace r.trace else s

/-! ### MACH_DONE (R250, R253) -/

/-- The MACH_DONE entry of a machine transaction. -/
def machEntry (m : MTxn) (etime : Nat) (wpos : Int) : Desc :=
  let d := m.descs.headD 0
  mkEntry [(0, 1, 0x98), (1, 1, if m.irq then 4 else 0), (4, 4, dTag d), (8, 1, m.ring), (9, 1, m.status),
    (10, 1, m.descs.length), (11, 1, m.failIndex), (12, 1, dOpcode d), (13, 1, m.failOp), (14, 2, m.detail),
    (16, 8, m.taken), (24, 8, etime), (32, 8, uBits 64 wpos), (40, 16, m.result.toNat)]

/-- R253: a machine transaction has completed: its MACH_DONE record is queued for Q24, or, for Q28 with its extra
room full, discarded and counted (R250). -/
def State.finishTxn (s : State) (m : MTxn) : State :=
  let d := m.descs.headD 0
  let r : Rec := ⟨[machEntry m s.etime s.wpos], m.irq, some m.ring, none,
    some (traceEntry (dTag d) 1 m.ring (dOpcode d) m.descs.length m.tseq m.status)⟩
  let s := { s with host := { s.host with mach := s.host.mach.filter (fun x => x.id != m.id) } }
  let extra := (((s.ring 24).waiting.drop 64).filter (fun r => r.closes == some 28)).length
  if m.ring = 28 && 64 ≤ (s.ring 24).waiting.length && 16 ≤ extra then
    (s.inc (F.RING_DISCARD_DISCARD 24)).closeTxn (some 28)
  else s.queueRec 24 r

/-- The machine transaction with an identifier. -/
def State.mtxn (s : State) (id : Nat) : Option MTxn := s.host.mach.find? (fun m => m.id = id)

def State.modTxn (s : State) (id : Nat) (f : MTxn → MTxn) : State :=
  { s with host := { s.host with mach := s.host.mach.map (fun m => if m.id = id then f m else m) } }

/-- The transaction completes once no part of it still runs and no transfer it waits for is open. -/
def State.settleTxn (s : State) (id : Nat) : State :=
  match s.mtxn id with
  | some m => if m.waits = 0 && m.holds.isEmpty then s.finishTxn m else s
  | none => s

/-- One part of a machine transaction has ended, with a status (R254), a DETAIL and a RESULT; the first failure
stands. A part is named by its transaction's identifier × 16 + its position. -/
def State.partDone (s : State) (ref : Nat) (status det : Nat) (result : Nat := 0) : State :=
  let s := s.modTxn (ref / 16) (fun m =>
    let m := { m with waits := m.waits - 1, result := m.result ||| BitVec.ofNat 128 result }
    if status != 0 && m.status == 0 then
      { m with
        status := status, detail := det, failIndex := ref % 16, failOp := dOpcode (m.descs.getD (ref % 16) 0) }
    else m)
  s.settleTxn (ref / 16)

/-- As `partDone`, where the part may belong to no ring transaction. -/
def State.partEnd (s : State) (ref : Option Nat) (status det : Nat) (result : Nat := 0) : State :=
  match ref with
  | some i => s.partDone i status det result
  | none => s

/-- R259: what names an open transfer: the staging of a slot, a codec job, a table transaction, a patch load. -/
def slotTransfer (p : Nat) : Nat := 4 * p
def jobTransfer (id : Nat) : Nat := 4 * id + 1
def tableTransfer (id : Nat) : Nat := 4 * id + 2
def patchTransfer : Nat := 3

/-- R259: a transfer checked earlier has ended; transactions that narrowed its window may complete. -/
def State.endTransfer (s : State) (t : Nat) : State :=
  let ids := (s.host.mach.filter (fun m => m.holds.contains t)).map (·.id)
  let s := { s with host := { s.host with mach := s.host.mach.map (fun m => { m with holds := m.holds.filter (· != t) }) } }
  ids.foldl (fun s i => s.settleTxn i) s

/-- What a ring transaction's application gives: the state with parts still running, or the failing position, its
STATUS, DETAIL and RESULT, and what a refusal records (R244, R253). -/
inductive Applied where
  | done (s : State) (waits : Nat) (result : Nat)
  | fail (index status detail result : Nat) (note : State → State)

end Sys2Proof.Machine
end

