-- ==== Sys2Proof/Machine/Geometry.lean ====
section
/-! DEFINITION. Station geometry (chapters 06 and 07): emitters and octets, line mapping, pixel clock and facet period,
power domain levels, Clasp outputs, thermistor conversion. -/

namespace Sys2Proof.Machine

open Sys2Proof

/-! ### Emitters (R153, R154) -/

/-- The octets of a station, ascending. -/
def State.octetsOf (s : State) (st : Nat) : List Nat := bitsOf 16 (s.rd (F.ST_OCTETS_OCT_MASK st))

/-- R153: the beam count B. -/
def State.beamCount (s : State) (st : Nat) : Nat := 8 * (s.octetsOf st).length

/-- R154: the beam that is emitter `e` of a station. -/
def State.beamOf (s : State) (st e : Nat) : Nat :=
  let k := if s.on (F.ST_LMAP_REVERSE st) then s.beamCount st - 1 - e else e
  8 * (s.octetsOf st).getD (k / 8) 0 + k % 8

/-- The emitters of a station, ascending. -/
def State.emitters (s : State) (st : Nat) : List Nat := List.range (s.beamCount st)

/-- The station an octet belongs to. -/
def State.stationOf (s : State) (n : Nat) : Option Nat :=
  (List.range 8).find? (fun st => (s.rd (F.ST_OCTETS_OCT_MASK st)).testBit n)

/-- The emitter number of a beam in its station. -/
def State.emitterOf (s : State) (st b : Nat) : Nat := ((s.emitters st).find? (fun e => s.beamOf st e = b)).getD 0

/-! ### Line mapping (R165–R168) -/

def State.pitch (s : State) (st : Nat) : Nat := s.rd (F.ST_LMAP_PITCH st)

def State.paired (s : State) (st : Nat) : Bool := s.on (F.ST_LMAP_PAIRED st)

/-- R165: N_adv. -/
def State.nAdv (s : State) (st : Nat) : Nat := if s.paired st then s.beamCount st / 2 else s.beamCount st

/-- P_LINE, in 1/65,536 unit. -/
def State.pLine (s : State) (st : Nat) : Nat := s.rd (F.ST_PLINE_P_LINE st)

/-- R168: TAIL_s. -/
def State.tail (s : State) (st : Nat) : Nat := ceilDiv (((s.beamCount st - 1) * s.pitch st + 2) * s.pLine st) 65536

/-! ### Pixel clock and polygon (R169, R284, R292, R333, R334) -/

/-- The FCW in use of a station's PLL. -/
def State.fcwNow (s : State) (st : Nat) : Nat := s.rd (F.PLL_RAMP_FCW_FCW_NOW (4 + st))

/-- SDIV of a station's pixel clock. -/
def State.sdiv (s : State) (st : Nat) : Nat := max 1 (s.rd (F.CLK_OUT_CFG_DIV st))

/-- 4 ps units per 1/256 pixel are `tickDen / fcwNow` (f_pix = 25 MHz × FCW / (16 × SDIV), FCW in U9.23). -/
def State.tickDen (s : State) (st : Nat) : Nat := 10000 * 524288 * s.sdiv st

/-- A time in 4 ps units for a length in 1/256 pixel. -/
def State.pixTime (s : State) (st : Nat) (q : Int) : Int := q * s.tickDen st / (max 1 (s.fcwNow st) : Nat)

/-- f_pix in Hz, whole part. -/
def State.fPix (s : State) (st : Nat) : Nat := 25000000 * s.fcwNow st / (8388608 * 16 * s.sdiv st)

/-- R171, R206, R334: the facet period that follows from the polygon's set-point, in 4 ps units, as a fraction. -/
def State.setPeriodQ (s : State) (st : Nat) : Option (Nat × Nat) :=
  let facets := s.rd (F.ST_GEOM_FACETS st)
  match (List.range 16).find? (fun m => s.on (F.MOT_CFG_POLY_EN m) && s.rd (F.MOT_CFG_POLY_STATION m) = st) with
  | some m =>
    let v := s.rd (F.MOT_SETPT_SETPT m) * s.rd (F.MOT_RATED_RATED_SPD m) * facets
    if v = 0 ∨ 32768 ≤ s.rd (F.MOT_SETPT_SETPT m) then none else some (250000000000 * 327680, v)
  | none =>
    match (List.range 8).find? (fun n => s.on (F.XD_CFG_POLY_EN n) && s.rd (F.XD_CFG_STATION n) = st) with
    | some n =>
      let v := s.rd (F.XD_VALUE_VALUE n) * facets * 65536
      if v = 0 ∨ s.rd (F.XD_CFG_MODE n) ≠ 1 then none else some (250000000000 * 1024 * s.rd (F.XD_RPR_REF_PER_REV n), v)
    | none => none

/-- The same in whole units of 4 ps. -/
def State.setPeriod (s : State) (st : Nat) : Option Nat := (s.setPeriodQ st).map (fun q => q.1 / q.2)

/-! ### Domains and Clasps (R278, R396, R422) -/

/-- A power domain is ON. -/
def State.domOn (s : State) (d : Nat) : Bool := s.rd (F.PWR_DOM_LEVEL d) == 2

/-- R395, R396: what a Clasp passes: its safe value under HOLD or in SAFE, else the last value accepted. -/
def State.claspOut (s : State) (n : Nat) : Nat :=
  if s.on F.GLB_STATE_HOLD || s.rd F.GLB_MODE_MODE == 3 || s.rd (F.CLASP_STAT_STATE n) == 2 then
    (if 80 ≤ n && n < 88 then s.rd (F.CLASP_SAFE_SAFE (n - 80)) else 0)
  else (s.clasps.getD n {}).value

/-- R286, R297: a station PLL counts as locked: fine-locked, or coarse-locked in tier P. -/
def State.pllLocked (s : State) (st : Nat) : Bool :=
  let x := s.rd (F.PLL_STAT_STATE (4 + st))
  x == 4 || (x == 3 && s.rd F.GLB_STATE_TIER == 2)

/-- R298: a station PLL is coarse-locked and has been locked under R297 since it last lost lock. -/
def State.pllKept (s : State) (st : Nat) : Bool :=
  let x := s.rd (F.PLL_STAT_STATE (4 + st))
  s.pllLocked st || (x == 3 && !(s.clk.plls.getD (4 + st) {}).unlocked)

/-! ### Thermistors (R199, R388) -/

/-- The sum of the first `n` terms of the series of artanh(u / 2^40), times 2^40. -/
def artanhSum : Nat → Nat → Int → Int → Int
  | 0, _, _, _ => 0
  | n + 1, k, u, p => p / (2 * k + 1 : Nat) + artanhSum n (k + 1) u (p * u / 1099511627776 * u / 1099511627776)

/-- x scaled by a power of two into [2^40, 2^41), with the power taken out. -/
def lnScale : Nat → Nat → Int → Nat × Int
  | 0, x, k => (x, k)
  | n + 1, x, k =>
    if x < 1099511627776 then lnScale n (x * 2) (k - 1)
    else if 2199023255552 ≤ x then lnScale n (x / 2) (k + 1) else (x, k)

/-- ln(a / b) × 2^40, to well below the resolution of the temperatures it serves. -/
def lnRatio (a b : Nat) : Int :=
  let (x, k) := lnScale 64 (a * 1099511627776 / max 1 b) 0
  let u : Int := ((x : Int) - 1099511627776) * 1099511627776 / ((x : Int) + 1099511627776)
  k * 762123384786 + 2 * artanhSum 24 0 u u

/-- R199: the β model, in 1/16 °C, of a ratio r = n / 65,536 of the pin voltage to its supply (log 30). -/
def betaTemp (beta n : Nat) : Int :=
  let inv : Int := 1099511627776 * 100 / 29815 + lnRatio n (65536 - n) / (max 1 beta : Nat)
  roundHalf (160 * 1099511627776 - 43704 * max 1 inv) (10 * max 1 inv).toNat

/-- R199: a ratio outside 0.02 to 0.98 is an open or shorted sensor. -/
def sensorBad (n : Nat) : Bool := n * 100 < 2 * 65536 || 98 * 65536 < n * 100

/-! ### The legacy link (R498, R507, R509, R511, R512) -/

/-- R507: words of a packet, header and parity with it. -/
def packetWords (pixels bpp : Nat) : Nat := ceilDiv (pixels * bpp) 16 + 2

/-- The LVT stations (R511). -/
def State.lvtStations (s : State) : List Nat := if s.on F.LVT_CFG_EN && !s.compat then bitsOf 8 (s.rd F.LVT_CFG_STATIONS) else []

/-- R513: a mask of LVT stations alone. -/
def State.lvtMask (s : State) (mask : Nat) : Bool :=
  s.lvtStations != [] && (bitsOf 8 mask).all (fun st => s.lvtStations.contains st)

/-- R509: the codes of a payload of 16-bit words, first pixel in the most significant bits. -/
def unpackCodes (bpp : Nat) (ws : List Nat) : List Nat :=
  ws.flatMap (fun w => (List.range (16 / bpp)).map (fun i => w / 2 ^ (16 - bpp * (i + 1)) % 2 ^ bpp))

/-- R509: one payload word from its codes. -/
def packWord (bpp : Nat) (cs : List Nat) : Nat :=
  (List.range (16 / bpp)).foldl (fun a i => a * 2 ^ bpp + cs.getD i 0 % 2 ^ bpp) 0

/-- R509: the payload of a line of codes, in `n` words. -/
def packCodes (bpp : Nat) : Nat → List Nat → List Nat
  | 0, _ => []
  | n + 1, cs => packWord bpp (cs.take (16 / bpp)) :: packCodes bpp n (cs.drop (16 / bpp))

/-- R509: the header of a packet of a beam, with LPAR. -/
def packetHeader (beam lpar : Nat) : Nat := beam % 32 * 1024 + lpar % 2 * 512

/-- R509: the parity word of a packet. -/
def packetParity (ws : List Nat) : Nat := ws.foldl (fun a w => a ^^^ w) 0

/-- R512: the code of a level. -/
def State.lvtCode (s : State) (level : Nat) : Nat :=
  if s.on F.LVT_CFG_BPP2 then
    b2n (decide (s.rd F.LVT_TH_T1 ≤ level)) + b2n (decide (s.rd F.LVT_TH_T2 ≤ level)) + b2n (decide (s.rd F.LVT_TH_T3 ≤ level))
  else b2n (decide (s.rd F.LVT_TH_T2 ≤ level))

/-- R502: the level of a legacy code; with 1 bpp, 0 takes V0 and 1 takes V3. -/
def State.legacyLevel (s : State) (bpp c : Nat) : Nat :=
  let k := if bpp = 1 then 3 * (c % 2) else c % 4
  s.rd L.VMAP_V / 16 ^ k % 16

/-- SC_CTL.BPP2. -/
def State.legBpp (s : State) (st : Nat) : Nat := if s.on (L.SC_CTL_BPP2 st) then 2 else 1

def State.legSt (s : State) (st : Nat) : LegStation := s.leg.st.getD st {}

def State.modLeg (s : State) (st : Nat) (f : LegStation → LegStation) : State :=
  { s with leg := { s.leg with st := s.leg.st.modify st f } }

/-- R510: the packet held for an emitter on a facet. -/
def State.legPacket (s : State) (st e f : Nat) : Option (List Nat) :=
  ((s.legSt st).packets.find? (fun p => p.1 = e && p.2.1 = f)).map (fun p => p.2.2)

end Sys2Proof.Machine
end

