-- ==== Sys2Proof/Machine/Tables.lean ====
section
/-! DEFINITION. Screening, tone curves and cross-web uniformity (chapter 05): from contone code to level, table banks,
table loads and bank switches. -/

namespace Sys2Proof.Machine

open Sys2Proof

/-! ### From contone code to level (R127–R136) -/

/-- R131: the cell that serves pixel (x, y). -/
def Screen.cell (sc : Screen) (x y : Nat) : Nat :=
  let r := (y + sc.yph) / sc.h
  sc.base + (y + sc.yph) % sc.h * sc.w + (x + sc.xph + r * sc.shift) % sc.w

/-- Threshold T_k of a cell, k from 1 to 15 (R132, R139). -/
def threshold (cell : BitVec 128) (k : Nat) : Nat := (cell.toNat >>> (8 * (k - 1))) % 256

/-- R127: how many thresholds of a cell a value exceeds. -/
def levelIn (cell : BitVec 128) (v : Nat) : Nat :=
  ((List.range 15).filter (fun k => threshold cell (k + 1) < v)).length

/-- R127: v2, the code after tone curve and gain. -/
def toned (b : TBank) (c t x : Nat) : Nat :=
  let v1 := (b.trc.getD (b.tagMap.getD t 0 / 16 % 4) []).getD c 0
  min 255 ((v1 * b.gain.getD (x / 16) 0 + 16384) / 32768)

/-- R127: the level of a contone pixel. -/
def contoneLevel (b : TBank) (c t x y : Nat) : Nat :=
  let sc := b.screens.getD (b.tagMap.getD t 0 % 4) {}
  levelIn (amGet 0 b.cells (sc.cell x y)) (toned b c t x)

/-- R133, R134: the level of line pixel `x` of a plane that starts at `xo` and is `w` pixels wide. -/
def pixelLevel (b : TBank) (prescreened : Bool) (xo w : Nat) (codes tags : List Nat) (x y : Nat) : Nat :=
  if x < xo ∨ xo + w ≤ x then 0
  else if prescreened then codes.getD (x - xo) 0
  else contoneLevel b (codes.getD (x - xo) 0) (tags.getD (x - xo) 0) x y

/-- R135: the slices of a level. -/
def levelSlices (b : TBank) (l : Nat) : Nat := b.levelMap.getD l 0

/-! ### Banks (R138, R151) -/

def State.tblSt (s : State) (st : Nat) : TblStation := s.tbl.st.getD st {}

def State.modTbl (s : State) (st : Nat) (f : TblStation → TblStation) : State :=
  { s with tbl := { s.tbl with st := s.tbl.st.modify st f } }

/-- The active bank of a station; a number that names no station has none. -/
def State.activeBank (s : State) (st : Nat) : Nat := if st < 8 then s.rd (F.ST_TBL_STAT_ACTIVE_BANK st) else 0

def State.bank (s : State) (st b : Nat) : TBank := (s.tblSt st).banks.getD b {}

/-- R135: the default LEVEL_MAP, round(16 L / 15). -/
def defaultLevelMap : List Nat := (List.range 16).map (fun l => (32 * l + 15) / 30)

/-- The bank in use (R138); in compatibility mode the default LEVEL_MAP (R498). -/
def State.tables (s : State) (st : Nat) : TBank :=
  let b := s.bank st (s.activeBank st)
  if s.compat then { b with levelMap := defaultLevelMap } else b

/-- The shadow bank of a station changed. -/
def State.modShadow (s : State) (st : Nat) (f : TBank → TBank) : State :=
  let b := 1 - s.activeBank st
  s.modTbl st (fun t => { t with banks := t.banks.modify b f })

def loadStation (d : Desc) : Nat := dField d 8 1
def loadType (d : Desc) : Nat := dField d 9 1
def loadIndex (d : Desc) : Nat := dField d 10 1

/-- The VALID bit of a table (R151). -/
def tableBit (ttype index : Nat) : Nat :=
  match ttype with
  | 0 => index
  | 1 => 4 + index
  | 2 => 8
  | 3 => 9
  | _ => 10

/-- The stations a table transaction loads or switches (R147). -/
def txnStations (ds : List Desc) : List Nat :=
  ds.flatMap (fun d => if dOpcode d = 0x10 then [loadStation d] else bitsOf 8 (dField d 8 1))

/-- R151: the status fields of a station follow its banks and its pending switch. -/
def State.syncTbl (s : State) (st : Nat) : State :=
  if 8 ≤ st then s else
  let t := s.tblSt st
  let running := s.tbl.txns.any (fun x => x.started && x.left = 0 && (txnStations x.descs).contains st)
  let s := (s.wr (F.ST_TBL_STAT_SHADOW_VALID st) (s.bank st (1 - s.activeBank st)).valid).wr
    (F.ST_TBL_STAT_BUSY st) (b2n running)
  match t.pend with
  | none => ((s.wr (F.ST_TBL_STAT_PENDING st) 0).wr (F.ST_TBL_STAT_PEND_PAGE st) 0)
  | some p =>
    let at_ := dField p.desc 9 1
    let s := (s.wr (F.ST_TBL_STAT_PENDING st) 1).wr (F.ST_TBL_STAT_PEND_PAGE st) at_
    s.wr64 (F.ST_TBL_PEND_ID_LO_PEND_ID st) (F.ST_TBL_PEND_ID_HI_PEND_ID st) (if at_ = 1 then dField p.desc 16 8 else 0)

/-! ### TABLE_DONE (R148, R149) -/

/-- R148, R246: one TABLE_DONE record joins those for Q22; IRQ on the first descriptor marks every record of the transaction. -/
def State.tableDone (s : State) (t : TblTxn) (d : Desc) (status station index bank crc pageId : Nat) (fp : Int)
    (last : Bool) : State :=
  let irq := dIrq (t.descs.headD 0)
  s.queueRec 22 ⟨[mkEntry [(0, 1, 0x88), (1, 1, if irq then 4 else 0), (4, 4, dTag d), (8, 1, dOpcode d),
    (9, 1, status), (10, 1, station), (11, 1, dField d 9 1), (12, 1, index), (13, 1, bank), (16, 4, crc),
    (24, 8, pageId), (32, 8, uBits 64 fp), (40, 8, s.etime), (48, 8, uBits 64 s.wpos)]], irq,
    if last then some t.ring else none, none,
    if last then some (traceEntry (dTag (t.descs.headD 0)) 1 t.ring (dOpcode (t.descs.headD 0)) t.descs.length 0 status)
    else none⟩

/-- A load's record, with its event where it is not OK (R149, R152). -/
def State.loadDone (s : State) (t : TblTxn) (d : Desc) (status bank crc : Nat) (last : Bool) : State :=
  let s := if status = 0 then s else
    s.post 0 0x2070 4 (loadStation d) [(0, 4, dTag d), (4, 1, status), (5, 1, loadType d), (6, 1, loadIndex d)] (dTag d)
  s.tableDone t d status (loadStation d) (loadIndex d) bank (if status = 0 then crc else 0) 0 0 last

/-- A switch's record for one station, with counters and event (R149–R152). BANK of one not made is the bank that stays active
(the model's choice, log 144). -/
def State.switchDone (s : State) (t : TblTxn) (d : Desc) (status st bank : Nat) (fp : Int) (last : Bool) : State :=
  let v := (s.bank st (1 - s.activeBank st)).valid
  let bank := if status = 0 then bank else s.activeBank st
  let s := if status = 0 then (s.inc (F.ST_TBL_SWITCHES_SWITCHES st)).wr (F.ST_TBL_STAT_ACTIVE_OK st) 1
    else (s.inc (F.ST_TBL_REFUSED_REFUSED st)).post 1 0x2071 4 st
      [(0, 4, dTag d), (4, 1, status), (5, 1, dField d 9 1), (6, 1, v / 256), (7, 2, v % 256)] (dTag d)
  s.tableDone t d status st 0 bank 0 (if dField d 9 1 = 1 then dField d 16 8 else 0) fp last

/-! ### Switching (R143–R146) -/

def State.tblTxn (s : State) (id : Nat) : Option TblTxn := s.tbl.txns.find? (fun t => t.id = id)

def State.modTblTxn (s : State) (id : Nat) (f : TblTxn → TblTxn) : State :=
  { s with tbl := { s.tbl with txns := s.tbl.txns.map (fun t => if t.id = id then f t else t) } }

/-- One switch record of a transaction is given; the transaction leaves the class after its last. -/
def State.oneSwitch (s : State) (id status st bank : Nat) (d : Desc) (fp : Int) : State :=
  match s.tblTxn id with
  | none => s
  | some t =>
    let s := s.switchDone t d status st bank fp (t.left ≤ 1)
    if t.left ≤ 1 then { s with tbl := { s.tbl with txns := s.tbl.txns.filter (fun x => x.id != id) } }
    else s.modTblTxn id (fun x => { x with left := x.left - 1 })

/-- R144: the shadow bank may become active. -/
def TBank.switchable (b : TBank) : Bool :=
  b.valid.testBit 10 && b.valid.testBit 9 && b.valid.testBit 8 &&
    (List.range 4).all (fun t => b.valid.testBit (b.tagMap.getD t 0 / 16 % 4) && b.valid.testBit (4 + b.tagMap.getD t 0 % 4))

/-- R145: the shadow bank becomes active on a station. -/
def State.flipBank (s : State) (st : Nat) : State := s.wr (F.ST_TBL_STAT_ACTIVE_BANK st) (1 - s.activeBank st)

/-- R143: the fields of a TABLE_SWITCH are in range. -/
def switchFormat (d : Desc) : Bool :=
  dCount d == 0 && dField d 8 1 != 0 && dField d 9 1 ≤ 1 && dZero d 10 15 && dZero d 24 63
    && (dField d 9 1 == 1 || dZero d 16 23)

/-- What a record gives as F_P for a switch made outside a frame (R148). -/
def outsideFrame : Int := 0x7FFFFFFFFFFFFFFF

/-- R144–R146: a switch resolved on one station: done at once, at the frame start of this very tick, refused, or
pending. Of several slots with the PAGE_ID the one with the earliest F_p counts, whatever its stations and its state (the
model's choice, log 144). -/
def State.switchOn (s : State) (id : Nat) (d : Desc) (st : Nat) : State :=
  let done (status : Nat) (s : State) : State :=
    s.oneSwitch id status st (if status = 0 then s.activeBank st else 0) d (if status = 0 then outsideFrame else 0)
  let here (p : Nat) : Bool := (s.tblSt st).started == some (s.now, p)
  let now (p : Nat) : State :=
    let s := s.flipBank st
    (s.oneSwitch id 0 st (s.activeBank st) d (s.slot p).fp).syncTbl st
  let pend (p : Option Nat) : State := (s.modTbl st (fun t => { t with pend := some ⟨id, d, p⟩ })).syncTbl st
  if !switchFormat d then done 2 s
  else if !(s.bank st (1 - s.activeBank st)).switchable then done 7 s
  else if dField d 9 1 = 0 then
    match s.slotOn st with
    | some p => if here p then now p else pend none
    | none => (done 0 (s.flipBank st)).syncTbl st
  else
    let ps := s.slotsWhere (fun x => x.st != .free && x.pageId == dField d 16 8)
    match sortBy (fun a b => decide ((s.slot a).fp ≤ (s.slot b).fp)) ps with
    | [] => done 8 s
    | p :: _ =>
      let x := s.slot p
      if !x.mask.testBit st then done 2 s
      else if here p then now p
      else if x.started.testBit st then done 9 s
      else if x.st = .retired then done 10 s
      else pend (some p)

/-- A TABLE_SWITCH is made on every station it names; one record each (R143, R148). One that names none has one record, of
station 0, as have the failures below (the model's choice, log 144). -/
def State.makeSwitch (s : State) (id : Nat) (d : Desc) : State :=
  let sts := if dField d 8 1 = 0 then [0] else bitsOf 8 (dField d 8 1)
  let s := s.modTblTxn id (fun t => { t with left := sts.length })
  sts.foldl (fun s st => s.switchOn id d st) s

/-- R145: a frame starts on a station, of slot `p`: a pending switch that names this frame start takes effect. -/
def State.switchAtFrame (s : State) (st p : Nat) : State :=
  let s := s.modTbl st (fun t => { t with started := some (s.now, p) })
  match (s.tblSt st).pend with
  | none => s
  | some w =>
    if w.page = none ∨ w.page = some p then
      let s := (s.modTbl st (fun t => { t with pend := none })).flipBank st
      (s.oneSwitch w.txn 0 st (s.activeBank st) w.desc (s.slot p).fp).syncTbl st
    else s

/-- R146: a page retires without its frame starting on a station: its AT_PAGE switch ends with PAGE_GONE. -/
def State.pageGone (s : State) (p : Nat) : State :=
  (List.range 8).foldl (fun s st =>
    match (s.tblSt st).pend with
    | some w =>
      if w.page = some p && !(s.slot p).started.testBit st then
        ((s.modTbl st (fun t => { t with pend := none })).oneSwitch w.txn 10 st 0 w.desc 0).syncTbl st
      else s
    | none => s) s

/-! ### Loading (R139–R142) -/

/-- R4, R45: a station has octets assigned in the committed configuration. -/
def State.configured (s : State) (st : Nat) : Bool := s.rd (F.ST_OCTETS_OCT_MASK st) != 0

/-- R139: the source length a table may have. -/
def loadLenOk (d : Desc) : Bool :=
  let n := dField d 32 4
  match loadType d with
  | 0 => n == 256 || n == 0
  | 1 => n == dField d 12 2 * dField d 14 2 * 16
  | 2 => n == 3072 || n == 0
  | 3 => n == 16 || n == 0
  | 4 => n == 4 || n == 0
  | _ => false

/-- R140, R141 order 1: the fields of a TABLE_LOAD. -/
def State.loadFormat (s : State) (d : Desc) : Bool :=
  let w := dField d 12 2
  let h := dField d 14 2
  dCount d == 0 && loadStation d < 8 && s.configured (loadStation d) && loadType d ≤ 4 && loadIndex d < 4
    && (loadType d ≤ 1 || loadIndex d == 0) && dZero d 11 11 && dZero d 40 63 && dField d 24 8 % 16 == 0
    && (if loadType d = 1 then
          1 ≤ w && w ≤ 256 && 1 ≤ h && h ≤ 256 && dField d 16 2 + w * h ≤ 65536 && dField d 18 2 < w
            && dField d 20 2 < w && dField d 22 2 < h
        else dZero d 12 23)
    && loadLenOk d && (dField d 32 4 != 0 || dField d 36 4 == 0)

/-- The cells of a screen source, from its base on. -/
def srcCells : Nat → Nat → List Byte → List (Nat × BitVec 128)
  | 0, _, _ => []
  | n + 1, base, bs => (base, BitVec.ofNat 128 (leNat (bs.take 16))) :: srcCells n (base + 1) (bs.drop 16)

/-- Whether numbers are non-decreasing. -/
def nonDecreasing : List Nat → Bool
  | a :: b :: t => a ≤ b && nonDecreasing (b :: t)
  | _ => true

/-- R141, orders 5 and 6: what the content of a source breaks. -/
def contentFail (d : Desc) (src : List Byte) : Nat :=
  if src = [] then 0 else
  match loadType d with
  | 1 =>
    let cs := (srcCells (src.length / 16) 0 src).map (·.2)
    if cs.any (fun c => c.toNat / 2 ^ 120 != 0) then 2
    else if cs.all (fun c => nonDecreasing ((List.range 15).map (fun k => threshold c (k + 1)))) then 0 else 5
  | 3 =>
    let v := src.map (·.toNat)
    if v.headD 1 = 0 && v.all (· ≤ 16) && nonDecreasing v then 0 else 5
  | _ => 0

/-- R136, R141: reserved bits of a TAG_MAP source are 0 (log 22: tested with order 5). -/
def tagMapFail (d : Desc) (src : List Byte) : Bool :=
  loadType d == 4 && src.any (fun b => b.toNat / 4 % 4 != 0 || b.toNat / 64 != 0)

/-- R141: orders 1 and 2 of a load, tested before it reads (R248): 0 where both pass. -/
def State.loadEarly (s : State) (d : Desc) : Nat :=
  if !s.loadFormat d then 2
  else if dField d 32 4 != 0 && !s.inWindow false (dField d 24 8) (dField d 32 4) then 3
  else 0

/-- R141: the status of one load, given what orders 1 and 2 gave it and the bytes its reads brought, none where a read
failed. -/
def loadStatus (early : Nat) (d : Desc) (src : Option (List Byte)) : Nat :=
  if early ≠ 0 then early
  else match src with
    | none => if dField d 32 4 = 0 then contentFail d [] else 4
    | some bs =>
      let bs := bs.take (dField d 32 4)
      if dField d 32 4 != 0 && crc32c bs != dField d 36 4 then 1
      else if tagMapFail d bs then 2
      else contentFail d bs

/-- R112, R141: what a load's reads brought; a source in the band store aperture is read there. -/
def State.loadSource (s : State) (d : Desc) (src : Option (List Byte)) : Option (List Byte) :=
  if dField d 24 8 < apertureBase ∨ dField d 32 4 = 0 then src
  else some (getMem s.band.mem (s.scratchAddr (dField d 24 8)) (dField d 32 4))

/-- The table as stored, with the content of a zero-length load (R139). -/
def tableBytes (d : Desc) (src : List Byte) : List Byte :=
  if dField d 32 4 != 0 then src.take (dField d 32 4) else
  match loadType d with
  | 0 => (List.range 256).map (BitVec.ofNat 8)
  | 2 => (List.range 1536).flatMap (fun _ => [0#8, 0x80#8])
  | 3 => (List.range 16).map (fun l => BitVec.ofNat 8 ((32 * l + 15) / 30))
  | 4 => (List.range 4).map (fun t => BitVec.ofNat 8 (t + 16 * t))
  | _ => []

/-- 16-bit little-endian entries. -/
def halves : List Byte → List Nat
  | a :: b :: t => (a.toNat + 256 * b.toNat) :: halves t
  | _ => []

/-- A table put into a bank (R139). -/
def storeTable (d : Desc) (bs : List Byte) (b : TBank) : TBank :=
  match loadType d with
  | 0 => { b with trc := b.trc.set (loadIndex d) (bs.map (·.toNat)) }
  | 1 => { b with
      screens := b.screens.set (loadIndex d)
        ⟨dField d 12 2, dField d 14 2, dField d 16 2, dField d 18 2, dField d 20 2, dField d 22 2⟩
      cells := (srcCells (bs.length / 16) (dField d 16 2) bs).foldl (fun m (k, v) => amSet 0 m k v) b.cells }
  | 2 => { b with gain := halves bs }
  | 3 => { b with levelMap := bs.map (·.toNat) }
  | _ => { b with tagMap := bs.map (·.toNat) }

/-- The load names a table that exists: a station, a type and an index (R140). -/
def namesTable (d : Desc) : Bool :=
  loadStation d < 8 && loadType d ≤ 4 && loadIndex d ≤ (if loadType d ≤ 1 then 3 else 0)

/-- R142: the cells of a SCREEN load, [lo, hi); none for another type. -/
def loadCells (d : Desc) : Nat × Nat :=
  if loadType d = 1 then (dField d 16 2, dField d 16 2 + dField d 12 2 * dField d 14 2) else (0, 0)

/-- R141, R142: a load starts: its table is not VALID, nor another screen whose cells it overlaps, whatever its checks
give later. -/
def State.startLoad (s : State) (d : Desc) : State :=
  if !namesTable d then s else
  let clr (b : TBank) : TBank :=
    let v := clrBit b.valid (tableBit (loadType d) (loadIndex d))
    let c := loadCells d
    let v := (List.range 4).foldl (fun v i =>
        let o := b.screens.getD i {}
        if loadType d = 1 && i != loadIndex d && o.base < c.2 && c.1 < o.base + o.w * o.h then clrBit v (4 + i) else v) v
    { b with valid := v }
  s.modShadow (loadStation d) clr

/-- R142: load `d` of a transaction is a screen whose cells a later load of the transaction, into the same bank,
overlaps: that load made it not VALID. DEDUCED (log 121): R141 lets all tables become VALID together, R142 makes the
overlapped screen not VALID; the loads start in the order of their descriptors. -/
def overwritten (d : Desc) (later : List Desc) : Bool :=
  loadType d == 1 && later.any (fun e => loadStation e == loadStation d && loadType e == 1 &&
    (loadIndex e != loadIndex d && (loadCells e).1 < (loadCells d).2 && (loadCells d).1 < (loadCells e).2))

/-- The loads of a table transaction, and its switch if it ends with one. -/
def txnLoads (ds : List Desc) : List Desc := ds.filter (fun d => dOpcode d = 0x10)
def txnSwitch (ds : List Desc) : Option Desc := ds.find? (fun d => dOpcode d = 0x11)

/-- R141: up to 16 loads, or up to 15 followed by one switch as the last descriptor. -/
def txnShape (ds : List Desc) : Bool :=
  (ds.dropLast).all (fun d => dOpcode d = 0x10) && ds.length ≤ 16

/-- R147: no pending switch on its stations and no earlier transaction of one of its stations still waiting or
loading; one that only waits for other stations' switches holds back none. -/
def State.tblMayStart (s : State) (t : TblTxn) : Bool :=
  (txnStations t.descs).all (fun st => (s.tblSt st).pend.isNone &&
    (s.tbl.txns.takeWhile (fun x => x.id != t.id)).all (fun x =>
      (x.started && x.left != 0) || !(txnStations x.descs).contains st))

/-- Every descriptor of a transaction is answered with the status `stat` gives its position. -/
def State.failTable (s : State) (t : TblTxn) (stat : Nat → Nat) : State :=
  let s := { s with tbl := { s.tbl with txns := s.tbl.txns.filter (fun x => x.id != t.id) } }
  (List.range t.descs.length).foldl (fun s i =>
    let d := t.descs.getD i 0
    let last := i + 1 = t.descs.length
    if dOpcode d = 0x11 then
      let sts := if dField d 8 1 = 0 then [0] else bitsOf 8 (dField d 8 1)
      (List.range sts.length).foldl (fun s k =>
        s.switchDone t d (stat i) (sts.getD k 0) 0 0 (last && k + 1 = sts.length)) s
    else s.loadDone t d (stat i) (1 - s.activeBank (loadStation d)) 0 last) s

/-- R147: a transaction starts: its loads start, or, with no load, its switch is made. -/
def State.startTable (s : State) (t : TblTxn) : State :=
  let s := s.modTblTxn t.id (fun x => { x with started := true, early := (txnLoads t.descs).map s.loadEarly })
  if !txnShape t.descs then
    s.failTable t (fun i => if t.descs.findIdx? (fun d => dOpcode d = 0x11) = some i then 2 else 6)
  else match txnLoads t.descs with
    | [] => (match txnSwitch t.descs with | some d => s.makeSwitch t.id d | none => s)
    | ls => (txnStations t.descs).foldl (fun s st => s.syncTbl st) (ls.foldl (fun s d => s.startLoad d) s)

/-- R141: the content of a table whose load failed is undefined: free values (log 121), the place and shape of a screen whose
fields are out of range among them. -/
def State.spoilTable (s : State) (d : Desc) : State :=
  if !namesTable d then s else
  let cells := min (dField d 12 2 * dField d 14 2) (65536 - dField d 16 2)
  let n := match loadType d with
    | 0 => 256
    | 1 => 16 * cells
    | 2 => 3072
    | 3 => 16
    | _ => 4
  let (bs, s) := State.freeBytes n s
  let s := s.modShadow (loadStation d) (storeTable d bs)
  if loadType d != 1 || s.loadFormat d then s else
  let (v, s) := s.free
  let (w, s) := s.free
  s.modShadow (loadStation d) (fun b => { b with
    screens := b.screens.set (loadIndex d)
      ⟨v % 65536, v / 2 ^ 16 % 65536, v / 2 ^ 32 % 65536, v / 2 ^ 48, w % 65536, w / 2 ^ 16 % 65536⟩ })

/-- R141: every read of a load transaction has ended: all its tables become VALID together, or none does. `srcs`
holds what each load's reads brought, none where one failed. A malformed switch of the transaction fails its loads (R244,
log 18). -/
def State.endLoads (s : State) (t : TblTxn) (srcs : List (Option (List Byte))) : State :=
  let ls := txnLoads t.descs
  let src (i : Nat) : Option (List Byte) := s.loadSource (ls.getD i 0) (srcs.getD i none)
  let stat (i : Nat) : Nat := loadStatus (t.early.getD i 0) (ls.getD i 0) (src i)
  let idx := List.range ls.length
  let swBad := match txnSwitch t.descs with | some d => !switchFormat d | none => false
  if !swBad && idx.all (fun i => stat i = 0) then
    let content (i : Nat) : List Byte := tableBytes (ls.getD i 0) ((src i).getD [])
    let s := idx.foldl (fun s i =>
      let d := ls.getD i 0
      (s.modShadow (loadStation d) (fun b =>
        let b := storeTable d (content i) b
        if overwritten d (ls.drop (i + 1)) then b
        else { b with valid := setBit b.valid (tableBit (loadType d) (loadIndex d)) }))) s
    let sw := txnSwitch t.descs
    let s := idx.foldl (fun s i =>
      let d := ls.getD i 0
      s.loadDone t d 0 (1 - s.activeBank (loadStation d)) (crc32c (content i))
        (sw.isNone && i + 1 = ls.length)) s
    let s := match sw with
      | some d => s.makeSwitch t.id d
      | none => { s with tbl := { s.tbl with txns := s.tbl.txns.filter (fun x => x.id != t.id) } }
    (txnStations t.descs).foldl (fun s st => s.syncTbl st) s
  else
    let s := ls.foldl (fun s d => s.spoilTable d) s
    let s := idx.foldl (fun s i =>
      let d := ls.getD i 0
      s.loadDone t d (if stat i = 0 then 6 else stat i) (1 - s.activeBank (loadStation d)) 0
        ((txnSwitch t.descs).isNone && i + 1 = ls.length)) s
    let s := { s with tbl := { s.tbl with txns := s.tbl.txns.filter (fun x => x.id != t.id) } }
    let s := match txnSwitch t.descs with
      | some d =>
        let sts := if dField d 8 1 = 0 then [0] else bitsOf 8 (dField d 8 1)
        (List.range sts.length).foldl (fun s k =>
          s.switchDone t d (if swBad then 2 else 6) (sts.getD k 0) 0 0 (k + 1 = sts.length)) s
      | none => s
    (txnStations t.descs).foldl (fun s st => s.syncTbl st) s

/-- A table transaction is taken from its ring; it starts at once where R147 lets it. -/
def State.takeTable (s : State) (q op : Nat) : State :=
  match s.takeable q with
  | none => s
  | some ds =>
    if dOpcode (ds.headD 0) != op then s else
    let t : TblTxn := { id := s.tbl.nextTxn, ring := q, descs := ds }
    let s := (s.passTxn q ds.length).trace 0 q ds 0
    let s := { s with tbl := { s.tbl with txns := s.tbl.txns ++ [t], nextTxn := s.tbl.nextTxn + 1 } }
    if s.tblMayStart t then s.startTable t else s

end Sys2Proof.Machine
end

