-- ==== Sys2Proof/Machine/Pages.lean ====
section
/-! DEFINITION. Page slots and the Almanac (chapter 02): submission, placement, granules, the eve, admission, delivery
and the page record. -/

namespace Sys2Proof.Machine

open Sys2Proof

/-! ### Granules (R70, R81, R90) -/

/-- R70: the first granule of the plane pool. -/
def State.poolBase (s : State) : Nat := s.rd F.BAND_RPR_GRAN_RPR_GRAN + s.rd F.BAND_SCR_GRAN_SCR_GRAN

def Plane.allGrans (p : Plane) : List Nat := p.grans ++ p.tagGrans

def Slot.allGrans (x : Slot) : List Nat := x.planes.flatMap Plane.allGrans

/-- Granules allocated to slots. -/
def State.slotGrans (s : State) : List Nat := s.alm.slots.flatMap Slot.allGrans

/-- BAND_POOL.POOL_GRAN (R71). -/
def State.poolGran (s : State) : Nat :=
  786432 - s.poolBase - (s.band.retired.filter (fun g => s.poolBase ≤ g)).length

/-- BAND_POOL_FREE.POOL_FREE (R71). -/
def State.poolFree (s : State) : Nat := s.poolGran - (s.slotGrans.filter (fun g => s.poolBase ≤ g)).length

/-- R70: the `n` lowest-numbered granules from `g` on that are not in `used`; `fuel` bounds the search. -/
def lowestFree : Nat → Nat → Nat → List Nat → List Nat
  | 0, _, _, _ => []
  | _ + 1, 0, _, _ => []
  | fuel + 1, n + 1, g, used =>
    if used.contains g then lowestFree fuel (n + 1) (g + 1) used else g :: lowestFree fuel n (g + 1) used

/-- R90: granules are released; one that gave an uncorrectable error is retired. -/
def State.releaseGrans (s : State) (gs : List Nat) : State :=
  gs.foldl (fun s g =>
    if s.band.faulty.contains g then
      let s := { s with band := { s.band with
        faulty := s.band.faulty.filter (fun x => x != g), retired := s.band.retired ++ [g] } }
      (s.inc F.BAND_RETIRED_RETIRED).post 1 0x2032 16 0 [(0, 4, g)]
    else s) s

/-- R90: corrected errors of one read, by their stacks, are counted; 0x2031 at most once per second, for the stack of the
first (R17, log 119). -/
def State.bandCe (s : State) (ofStack : List Nat) : State :=
  let n := ofStack.length
  if n = 0 then s else
  let s := { s.inc F.BAND_CE_COUNT_CE n with band := { s.band with ceSince := s.band.ceSince + n } }
  let due := match s.band.ceAt with
    | some t => decide (t + 1000000000 ≤ s.now)
    | none => true
  if due then { s.post 0 0x2031 16 (ofStack.headD 0) [(0, 4, s.band.ceSince)] with
    band := { s.band with ceSince := 0, ceAt := some s.now } }
  else s

/-- R70: the stack a sector of a granule lies on. -/
def sectorStack (sec : Nat) : Nat := sec / 8 % 2

/-- R90: an uncorrectable sector: counted, posted with its place, its granule retired when it is released. `p` is the
slot, or 0xFF. -/
def State.sectorUe (s : State) (g sec p tag : Nat) : State :=
  let s := s.inc F.BAND_UE_COUNT_UE
  let s := if s.band.faulty.contains g then s else { s with band := { s.band with faulty := s.band.faulty ++ [g] } }
  s.post 2 0x2030 16 (sectorStack sec) [(0, 4, g), (4, 4, sec), (8, 1, p)] tag

/-- Staged bytes of a plane's image, and of its tag plane (R72, R81). -/
def Plane.imageBytes (p : Plane) (lines : Nat) : Nat := stagedLen (p.coding % 16) p.width lines
def Plane.tagBytes (p : Plane) (lines : Nat) : Nat := if p.tagCoding % 16 = 4 then stagedLen 4 p.width lines else 0

/-- R81: the granules a page needs. -/
def needOf (planes : List Plane) (lines : Nat) : Nat :=
  (planes.map (fun p => ceilDiv (p.imageBytes lines) 65536 + ceilDiv (p.tagBytes lines) 65536)).sum

/-- R81: waiting slots in the order they are served. -/
def State.poolOrder (s : State) : List Nat :=
  sortBy (fun a b => decide ((s.slot a).eve ≤ (s.slot b).eve)) (s.slotsWhere (fun x => x.st = .loaded))

/-- R81: slots of the order that must wait post 0x2040 once each. -/
def State.poolWaits (s : State) : State :=
  let step (acc : State × Nat × Bool) (p : Nat) : State × Nat × Bool :=
    let (s, free, waits) := acc
    let x := s.slot p
    let need := needOf x.planes x.lines
    if waits || free < need then
      let s := if x.poolWaited then s else
        (s.modSlot p (fun x => { x with poolWaited := true })).post 0 0x2040 3 p [(0, 4, need), (4, 4, s.poolFree)] x.tag
      (s, free, true)
    else (s, free - need, false)
  (s.poolOrder.foldl step (s, s.poolFree, false)).1

/-! ### Engines (R82, R111, R125) -/

/-- CODEC instances at work: for ring jobs and for staging. -/
def State.busyEngines (s : State) : List Nat :=
  s.codec.jobs.flatMap (fun j => j.engines) ++ s.alm.slots.flatMap (fun x => x.engines)

/-- R125: CODEC_STAT follows the engines. -/
def State.syncCodec (s : State) : State :=
  let busy := s.busyEngines
  let m (lo n : Nat) : Nat := (List.range n).foldl (fun a i => if busy.contains (lo + i) then a + 2 ^ i else a) 0
  let susp := s.codec.jobs.foldl (fun a j => if j.suspendedAt.isSome then
    (j.engines.filter (fun e => e < 4)).foldl (fun a e => a ||| 2 ^ e) a else a) 0
  ((((s.wr F.CODEC_STAT_QUEUED (s.codec.jobs.filter (fun j => !j.started)).length).wr F.CODEC_STAT_SUSPENDED susp).wr
    F.CODEC_STAT_REPLAY_BUSY (m 6 1)).wr F.CODEC_STAT_FRC_BUSY (m 4 2)).wr F.CODEC_STAT_LZ_BUSY (m 0 4)

/-- R77: a coding whose staging decompresses, and one whose staging FRC-encodes. -/
def stagesLz (coding : Nat) : Bool := coding / 16 % 4 == 2
def stagesFrc (coding : Nat) : Bool := coding / 16 % 4 != 0 && (coding % 16 == 2 || coding % 16 == 3)

/-- The engine types that staging of a slot uses: an LZ engine (0 to 3), an FRC encoder (4, 5). -/
def Slot.engineNeeds (x : Slot) : List (List Nat) :=
  (if x.planes.any (fun p => stagesLz p.coding || (p.tagCoding % 16 == 4 && stagesLz p.tagCoding)) then [[0, 1, 2, 3]] else [])
    ++ (if x.planes.any (fun p => stagesFrc p.coding) then [[4, 5]] else [])

/-- R82: slots in STAGING, earliest eve first, take the engines they use, ahead of ring jobs that have not started. A slot
holds an engine of each type it uses until its staging ends (log 119). -/
def State.stageEngines (s : State) : State :=
  let ps := sortBy (fun a b => decide ((s.slot a).eve ≤ (s.slot b).eve)) (s.slotsWhere (fun x => x.st = .staging))
  let s := ps.foldl (fun (s : State) p => (s.slot p).engineNeeds.foldl (fun (s : State) kind =>
    if (s.slot p).engines.any kind.contains then s else
    match kind.find? (fun e => !s.busyEngines.contains e) with
    | some e => s.modSlot p (fun x => { x with engines := x.engines ++ [e] })
    | none => s) s) s
  s.syncCodec

/-- R82: staging of a slot holds every engine it uses. -/
def Slot.staffed (x : Slot) : Bool := x.engineNeeds.all (fun kind => x.engines.any kind.contains)

/-! ### Submission checks (R42–R45, R76–R79) -/

/-- The planes' stations in ascending order (R42). -/
def planeStations (hdr : Desc) : List Nat := bitsOf 8 (dField hdr 16 1)

/-- R42, R43: the PAGE_HDR is in form. -/
def hdrFormat (ds : List Desc) (h : Desc) : Bool :=
  dOpcode h == 1 && dChain h && dCount h == ds.length - 1 && dField h 16 1 != 0
    && (dField h 17 1 == 2 || dField h 17 1 == 3) && dField h 18 1 < 8
    && (dField h 19 1 &&& dField h 16 1) == dField h 19 1
    && 40000 ≤ dField h 20 4 && dField h 20 4 ≤ 16000000 && 1 ≤ dField h 24 4 && dZero h 28 63

/-- R77: the source length a FORM 0x0 or 0x1 plane must have. -/
def srcLenOk (coding w lines srcLen : Nat) : Bool :=
  match coding / 16 % 4 with
  | 0 => srcLen == stagedLen (coding % 16) w lines
  | 1 => srcLen == packedLen (coding % 16) w lines
  | _ => true

/-- R77: LZ_FMT and FORM are not reserved, and LZ_FMT is used with FORM 0x2 only. -/
def formOk (coding : Nat) : Bool :=
  coding / 16 % 4 != 3 && coding / 64 != 3 && (coding / 16 % 4 == 2 || coding / 64 == 0)

/-- R76–R78: one PAGE_PLANE is in form, as the plane of station `st`. -/
def planeFormat (h d : Desc) (st : Nat) : Bool :=
  let c := dField d 9 1
  let t := dField d 10 1
  let w := dField d 14 2
  let lines := dField h 24 4
  let pre := (dField h 18 1).testBit 1
  let tag := (dField h 18 1).testBit 2
  dOpcode d == 2 && dChain d && dCount d == 0 && dTag d == dTag h && dField d 8 1 == st && dZero d 11 11
    && formOk c && (if pre then c % 16 == 1 && t == 0 else c % 16 == 0 || c % 16 == 2 || c % 16 == 3)
    && 8 ≤ w && w ≤ 24576 && w % 8 == 0 && dField d 16 8 % 16 == 0 && 1 ≤ dField d 24 2
    && srcLenOk c w lines (dField d 32 8)
    && (if tag then t % 16 == 4 && formOk t && 1 ≤ dField d 26 2 && dField d 40 8 % 16 == 0
          && srcLenOk t w lines (dField d 48 8)
        else t == 0 && dField d 26 2 == 0 && dField d 48 8 == 0 && dField d 56 4 == 0)
    && dZero d 60 63

/-- R44: the PAGE_PLACE is in form. -/
def placeFormat (h d : Desc) : Bool :=
  dOpcode d == 3 && !dChain d && dCount d == 0 && dTag d == dTag h && dField d 8 1 ≤ 1 && dZero d 9 11
    && (if dField d 8 1 = 0 then dZero d 12 15 else dZero d 16 23) && dZero d 24 63

/-- The position of the first descriptor of a page transaction that is out of form (check 2 of R45). -/
def pageFormatFail (ds : List Desc) : Option Nat :=
  let h := ds.headD 0
  let sts := planeStations h
  let ok (i : Nat) : Bool :=
    let d := ds.getD i 0
    if i = 0 then hdrFormat ds d
    else if i ≤ sts.length then planeFormat h d (sts.getD (i - 1) 8)
    else i = sts.length + 1 && placeFormat h d
  match (List.range ds.length).find? (fun i => !ok i) with
  | some i => some i
  | none => if ds.length = sts.length + 2 then none else some (ds.length - 1)

/-- Check 2 of R45; an LVT page must have PLACE_MODE 0x1 (R513). -/
def State.pageFormFail (s : State) (ds : List Desc) : Option Nat :=
  match pageFormatFail ds with
  | some i => some i
  | none => if s.lvtMask (dField (ds.headD 0) 16 1) && dField (ds.getLastD 0) 8 1 != 1 then some (ds.length - 1) else none

/-- The position of the first descriptor whose scatter lists lie outside the windows (check 1 of R45, R80). -/
def State.pageFenceFail (s : State) (ds : List Desc) : Option Nat :=
  (List.range ds.length).find? (fun i =>
    let d := ds.getD i 0
    dOpcode d == 2 && (!s.inWindow false (dField d 16 8) (16 * dField d 24 2) ||
      (dField d 26 2 != 0 && !s.inWindow false (dField d 40 8) (16 * dField d 26 2))))

def planeOf (d : Desc) : Plane :=
  { station := dField d 8 1, coding := dField d 9 1, tagCoding := dField d 10 1, xOffset := dField d 12 2,
    width := dField d 14 2, sgAddr := dField d 16 8, sgCount := dField d 24 2, tagSgCount := dField d 26 2,
    check := dField d 28 4, srcLen := dField d 32 8, tagSgAddr := dField d 40 8, tagSrcLen := dField d 48 8,
    tagCheck := dField d 56 4 }

/-- DS_NOM of a station, in WPOS units (R30; 0 on s0, R31). -/
def State.dsNom (s : State) (st : Nat) : Int := s.rd (F.ST_DS_NOM_DS_NOM st)

/-- R49: the smallest DS_NOM in a mask. -/
def State.dFirst (s : State) (mask : Nat) : Int := minI 0 ((bitsOf 8 mask).map s.dsNom)

/-- R49: ALM_TAIL. -/
def State.almTail (s : State) : Int :=
  maxI s.alm.lastEnd ((s.alm.slots.filter (fun x => x.st != .free)).map (fun x => x.fp + x.frameLen))

/-- ALM_NEXT_EVE: the earliest eve of a slot LOADED, STAGING or STAGED (R66); an LVT page has none (R513). -/
def State.nextEve (s : State) : Option Int :=
  match (s.alm.slots.filter (fun x => x.st.waiting && !x.lvt)).map (fun x => x.eve) with
  | [] => none
  | e :: t => some (minI e (e :: t))

/-- The lowest station that fails check 4 of R45 (R79), or 0xFF for the granule need. -/
def State.lengthFail (s : State) (h : Desc) (planes : List Plane) : Option Nat :=
  let lines := dField h 24 4
  let len := dField h 20 4
  let bad (p : Plane) : Bool :=
    len * 65536 < lines * s.rd (F.ST_PLINE_P_LINE p.station)
      || s.rd (F.ST_GEOM_PIXELS p.station) < p.xOffset + p.width
      || (!s.lvtMask (dField h 16 1) && (s.rd F.ALM_DELIV_POS_DELIV_POS : Int) < s.dsNom p.station + len)
  match planes.find? bad with
  | some p => some p.station
  | none => if s.poolGran < needOf planes lines then some 255 else none

/-- The largest TAIL_s of a mask (R168). -/
def State.maxTail (s : State) (mask : Nat) : Nat := (bitsOf 8 mask).foldl (fun a st => max a (s.tail st)) 0

/-- R48, R168: two frames that share a station overlap, or lie closer than a shared station's TAIL_s. -/
def State.overlaps (s : State) (m1 : Nat) (f1 : Int) (l1 : Nat) (x : Slot) : Bool :=
  x.st != .free && (m1 &&& x.mask) != 0 &&
    (let g := s.maxTail (m1 &&& x.mask)
     f1 < x.fp + x.frameLen + g && x.fp < f1 + l1 + g)

/-- R49, R50, R168: where the frame lies. -/
def State.placeFrame (s : State) (h p : Desc) : Int :=
  if dField p 8 1 = 0 then sInt 64 (dField p 16 8) else
    let gap : Nat := max (if dField p 12 4 = 0 then s.rd F.ALM_GAP_GAP else dField p 12 4) (s.maxTail (dField h 16 1))
    let a := s.almTail + gap
    let b := s.wpos + s.rd F.ALM_LEAD_LEAD + s.rd F.ALM_EVE_MARGIN_EVE_MARGIN - s.dFirst (dField h 16 1)
    if a < b then b else a

/-- R45, R513: the lowest station that fails check 3: not configured, or of a mask that mixes LVT and other stations. -/
def State.maskFail (s : State) (mask : Nat) : Option Nat :=
  if s.lvtMask mask then none
  else (bitsOf 8 mask).find? (fun st => s.lvtStations.contains st || !s.configured st)

/-- R45, R49, R513: the first check a page transaction fails (a place the device computes passes checks 5 to 7), as its cause and detail bytes from byte 4 on. -/
def State.pageRefusal (s : State) (ring : Nat) (ds : List Desc) : Option (Nat × List (Nat × Nat × Nat)) :=
  let h := ds.headD 0
  let place := ds.getLastD 0
  let planes := ((ds.drop 1).dropLast).map planeOf
  match s.pageFenceFail ds with
  | some i => some (0x1009, [(4, 1, i)])
  | none =>
  match s.pageFormFail ds with
  | some i => some (0x1001, [(4, 1, i), (5, 1, dOpcode (ds.getD i 0))])
  | none =>
  match s.maskFail (dField h 16 1) with
  | some st => some (0x1003, [(4, 1, st)])
  | none =>
  match s.lengthFail h planes with
  | some st => some (0x1007, [(4, 1, st)])
  | none =>
    if s.lvtMask (dField h 16 1) || dField place 8 1 == 1 then none else
    let fp := s.placeFrame h place
    let eve := fp + s.dFirst (dField h 16 1) - s.rd F.ALM_EVE_MARGIN_EVE_MARGIN
    if eve ≤ s.wpos then some (0x1006, [])
    else match s.alm.lastFp.getD ring none with
      | some f =>
        if fp ≤ f then some (0x1005, [(4, 6, uBits 48 f)])
        else (s.slotsWhere (s.overlaps (dField h 16 1) fp (dField h 20 4))).head?.map (fun p => (0x1004, [(4, 2, p)]))
      | none => (s.slotsWhere (s.overlaps (dField h 16 1) fp (dField h 20 4))).head?.map (fun p => (0x1004, [(4, 2, p)]))

/-! ### Records (R63–R65, R255) -/

/-- R255: a PAGE_PROGRESS record to Q21. -/
def State.progress (s : State) (irq : Bool) (tag pageId slot kind value ring : Nat) (fp : Int) : State :=
  s.putOrDrop 21 ⟨[mkEntry [(0, 1, 0x82), (1, 1, if irq then 4 else 0), (4, 4, tag), (8, 8, pageId), (16, 2, slot),
    (18, 1, kind), (19, 1, value), (20, 1, ring), (24, 8, uBits 64 fp), (32, 8, s.etime), (40, 8, uBits 64 s.wpos)]],
    irq, none, none, none⟩

/-- R255: a slot's progress record where PAGE_FLAGS.PROGRESS asks for one. -/
def State.slotProgress (s : State) (p : Nat) : State :=
  let x := s.slot p
  if x.flags.testBit 0 then s.progress x.irq x.tag x.pageId p 0 x.st.code x.ring x.fp else s

/-- R65: REG_STATS bytes of a station in one direction: mean and 3σ spread in 0.25 µm of its errors in 1/262,144 unit;
both are rounded to nearest, halves up, and σ is taken of the population (the model's choice, log 23). -/
def regStat (es : List Int) : Nat × Nat :=
  let n := es.length
  if n = 0 then (0x80, 0xFF) else
    let sum := es.foldl (· + ·) 0
    let mean := clampI (-127) 127 (roundHalf sum (n * 262144))
    let var9 : Int := 9 * ((n : Int) * (es.map (fun e => e * e)).foldl (· + ·) 0 - sum * sum)
    (uBits 8 mean, min 254 ((Nat.sqrt (4 * var9.toNat / (n * 262144) ^ 2) + 1) / 2))

/-- REG_STATS of the record: four bytes per station of the mask, 0 for its lowest station (R65). -/
def regStats (x : Slot) : Nat :=
  let low := (bitsOf 8 x.mask).headD 8
  packBytes ((bitsOf 8 x.mask).flatMap (fun st =>
    if st = low then [] else
      let (mi, si) := regStat ((x.regs.filter (fun r => r.1 = st && !r.2.1)).map (fun r => r.2.2))
      let (mx, sx) := regStat ((x.regs.filter (fun r => r.1 = st && r.2.1)).map (fun r => r.2.2))
      [(4 * st, 1, mi), (4 * st + 1, 1, si), (4 * st + 2, 1, mx), (4 * st + 3, 1, sx)]))

/-- R64: the two entries of a page record. -/
def pageRecord (p : Nat) (x : Slot) : List Desc :=
  let np := x.outcome = 3
  let irq := if x.irq then 4 else 0
  [mkEntry [(0, 1, 0x80), (1, 1, 2 + irq), (2, 2, 1), (4, 4, x.tag), (8, 8, x.pageId), (16, 2, p), (18, 1, x.outcome),
      (19, 1, x.ring), (20, 2, x.cause), (22, 1, x.mask), (23, 1, x.recFlags), (24, 8, uBits 64 x.fp),
      (32, 8, x.etimeEve), (40, 8, x.etimeEnd), (48, 8, uBits 64 x.wposEnd), (56, 4, if np then 0 else x.blanked)],
    mkEntry [(0, 1, 0x81), (1, 1, irq), (4, 4, x.tag),
      (8, 8, if np then 0 else packBytes ((List.range 8).map (fun i => (i, 1, x.stFlags.getD i 0)))),
      (16, 32, if np then 0 else regStats x), (48, 2, if np then 0 else min x.marks 65535),
      (50, 2, if np then 0 else min x.drops 65535)]]

/-- R63: a slot's record is composed: it takes its place in the single order of records for Q20. The entries are
built from the slot when they are written. -/
def State.composePage (s : State) (p : Nat) : State :=
  s.queueRec 20 ⟨[0, 0], (s.slot p).irq, some (s.slot p).ring, some p, none⟩

/-- R41, R45, R55, R69: a slot retires NOT_PRINTED: granules released, cause posted, record composed; a pending
AT_PAGE switch ends. ETIME_EVE of a slot that retires before its eve is 0 (the model's choice, log 118). -/
def State.retire (s : State) (p cause sev : Nat) (d : List (Nat × Nat × Nat)) (tag : Nat) : State :=
  let gs := (s.slot p).allGrans
  let s := s.modSlot p (fun x => { x with
    st := .retired
    outcome := 3
    cause := cause
    etimeEnd := s.etime
    wposEnd := s.wpos
    engines := []
    planes := x.planes.map (fun q => { q with grans := [], tagGrans := [] }) })
  let s := s.stageEngines
  let s := { s with alm := { s.alm with lastEnd := (s.slot p).fp + (s.slot p).frameLen } }
  let s := ((s.releaseGrans gs).post sev cause 3 p ((0, 4, tag) :: d) tag).endTransfer (slotTransfer p)
  (s.pageGone p).composePage p

/-- R55: the frame is made vacant. -/
def State.vacate (s : State) (p cause : Nat) (d : List (Nat × Nat × Nat)) : State :=
  (s.inc F.ALM_VACANT_VACANT).retire p cause 1 d (s.slot p).tag

/-! ### Taking page transactions -/

/-- R45: a refused transaction: event, record with slot 0xFFFF in the queue of 16, TRACE. F_P is the place where the checks
reached it or the transaction names it; else, and PAGE_ID and STATION_MASK without a PAGE_HDR, a free value (log 16). HOST_TAG is bytes 4 to 7 of the first descriptor, a
PAGE_HDR or not (the model's choice, log 139). -/
def State.refusePage (s : State) (ring cause : Nat) (det : List (Nat × Nat × Nat)) (ds : List Desc) (tseq : Nat) : State :=
  let h := ds.headD 0
  let place := ds.getLastD 0
  let hdr := dOpcode h = 1
  let (v, s) := s.free
  let (w, s) := s.free
  let fp : Int :=
    if cause = 0x1006 ∨ cause = 0x1005 ∨ cause = 0x1004 then s.placeFrame h place
    else if dOpcode place = 3 && dField place 8 1 == 0 then sInt 64 (dField place 16 8) else sInt 64 v
  let x : Slot :=
    { ring := ring, tag := dTag h, pageId := if hdr then dField h 8 8 else w,
      mask := if hdr then dField h 16 1 else w % 256, irq := dIrq h, fp := fp, outcome := 3, cause := cause,
      etimeEnd := s.etime, wposEnd := s.wpos }
  let s := s.post 1 cause 3 (0x100 + ring) ((0, 4, dTag h) :: det) (dTag h)
  let s := s.queueRec 20 ⟨pageRecord 0xFFFF x, dIrq h, some ring, some 160,
    some (traceEntry (dTag h) 1 ring (dOpcode h) ds.length tseq cause)⟩
  s.trace 2 ring ds tseq

/-- The slot of an accepted page (R40, R41, R51). -/
def State.newSlot (s : State) (ring : Nat) (ds : List Desc) (tseq : Nat) : Slot :=
  let h := ds.headD 0
  let fp := s.placeFrame h (ds.getLastD 0)
  { st := .loaded, ring := ring, tag := dTag h, pageId := dField h 8 8, mask := dField h 16 1, minTier := dField h 17 1,
    flags := dField h 18 1, capMask := dField h 19 1, frameLen := dField h 20 4, lines := dField h 24 4,
    planes := ((ds.drop 1).dropLast).map planeOf, fp := fp, dFirst := s.dFirst (dField h 16 1),
    eve := fp + s.dFirst (dField h 16 1) - s.rd F.ALM_EVE_MARGIN_EVE_MARGIN,
    delivPos := s.rd F.ALM_DELIV_POS_DELIV_POS, irq := dIrq h, tseq := tseq, lvt := s.lvtMask (dField h 16 1) }

/-- R41, R45: an accepted page takes the lowest FREE slot as LOADED. -/
def State.acceptPage (s : State) (ring : Nat) (ds : List Desc) (tseq : Nat) : State :=
  match (s.slotsWhere (fun x => x.st = .free)).head? with
  | none => s
  | some p =>
    let x := s.newSlot ring ds tseq
    let s := s.modSlot p (fun _ => x)
    let s := if x.lvt then { s with leg := { s.leg with lvtWait := s.leg.lvtWait.filter (· != p) ++ [p] } }
      else { s with alm := { s.alm with lastFp := s.alm.lastFp.set ring (some x.fp) } }
    (s.slotProgress p).poolWaits

/-- R45: a page transaction is accepted or refused. -/
def State.servePage (s : State) (ring : Nat) (ds : List Desc) (tseq : Nat) : State :=
  match s.pageRefusal ring ds with
  | some (cause, det) => s.refusePage ring cause det ds tseq
  | none => (s.trace 0 ring ds tseq).acceptPage ring ds tseq

/-- R45, R406: a page transaction is taken, and applied where an island serves. -/
def State.takePage (s : State) (ring : Nat) (ds : List Desc) : State :=
  let k := (s.passTxn ring ds.length).keep ds
  if s.islandLacks ring ds then k.2.unserve ring ds k.1 else k.2.servePage ring ds k.1

/-! ### Cancel and abort (R47, R60, R256) -/

/-- R47: slots a cancel names, in ascending F_p. -/
def State.cancelSlots (s : State) (ring pageId : Nat) : List Nat :=
  sortBy (fun a b => decide ((s.slot a).fp ≤ (s.slot b).fp))
    (s.slotsWhere (fun x => x.st != .free && x.ring == ring && x.pageId == pageId))

/-- R47, R485: a cancel is refused as a whole; its record is a completion too. -/
def State.refuseCancel (s : State) (ring : Nat) (ds : List Desc) (i tseq : Nat) : State :=
  let h := ds.headD 0
  let s := s.post 1 0x1001 3 (0x100 + ring) [(0, 4, dTag h), (4, 1, i), (5, 1, dOpcode (ds.getD i 0))] (dTag h)
  let s := s.progress (dIrq h) (dTag h) (dField h 8 8) 0xFFFF 1 3 ring 0
  ((s.closeTxn (some ring)).trace 2 ring ds tseq).doneTrace (some (traceEntry (dTag h) 1 ring 4 ds.length tseq 0x1001))

/-- R47: a PAGE_CANCEL. A matching slot that is RETIRED before its eve tick is answered TOO_LATE (the model's choice, log 118). -/
def State.serveCancel (s : State) (ring : Nat) (ds : List Desc) (tseq : Nat) : State :=
  let h := ds.headD 0
  if ds.length ≠ 1 ∨ dCount h ≠ 0 ∨ dZero h 16 63 = false then s.refuseCancel ring ds 0 tseq
  else
    let s := s.trace 0 ring ds tseq
    let s := match s.cancelSlots ring (dField h 8 8) with
      | [] => s.progress (dIrq h) (dTag h) (dField h 8 8) 0xFFFF 1 2 ring 0
      | ps => ps.foldl (fun s p =>
          let x := s.slot p
          if x.st.waiting && !x.eveFired && (x.lvt || decide (s.wpos < x.eve)) then
            (s.retire p 0x1027 0 [] (dTag h)).progress (dIrq h) (dTag h) x.pageId p 1 0 ring x.fp
          else s.progress (dIrq h) (dTag h) x.pageId p 1 1 ring x.fp) s
    ((s.closeTxn (some ring)).doneTrace (some (traceEntry (dTag h) 1 ring 4 1 tseq 0))).poolWaits

/-- R47, R406: a PAGE_CANCEL is taken, and applied where an island serves. -/
def State.takeCancel (s : State) (ring : Nat) (ds : List Desc) : State :=
  let k := (s.passTxn ring ds.length).keep ds
  if s.islandLacks ring ds then k.2.unserve ring ds k.1 else k.2.serveCancel ring ds k.1

/-- R60: a priority abort of one slot: before the decision a cancel with cause 0x1030, after it SPOILED with every
remaining line blank. -/
def State.abortSlot (s : State) (p : Nat) : State :=
  let x := s.slot p
  if x.st.waiting then s.retire p 0x1030 0 [(4, 1, x.st.code)] x.tag
  else if x.st = .admitted ∨ x.st = .imaging then
    let s := s.post 0 0x1030 3 p [(0, 4, x.tag), (4, 1, x.st.code)] x.tag
    s.modSlot p (fun x => { (x.worsen 2 0x1030).flagRec 32 with aborted := true })
  else s

/-! ### Eve and admission (R52–R55) -/

/-- R470: an eve on the tick on which TIER is written uses the value before. -/
def State.tierAtEve (s : State) : Nat := if s.tier.was.1 = s.now / 10 then s.tier.was.2 else s.rd F.GLB_STATE_TIER

/-- R52, R481: the CODE of the frame stop that an eve meets; one that is cleared on this tick still counts. -/
def State.stopAtEve (s : State) : Option Nat :=
  if s.on F.FAULT_STAT_FRAME_STOP then some (s.rd F.FAULT_STAT_FS_CAUSE)
  else match s.flt.clr with
    | some (t, c, _) => if t / 10 = s.now / 10 then some c else none
    | none => none

/-- R52: the first condition that fails at the eve, as cause and detail; a station is refused under `stRefused`. -/
def State.eveCheck (s : State) (x : Slot) (stRefused : Nat → Bool) : Nat × Nat :=
  match s.stopAtEve with
  | some c => (0x1024, c)
  | none =>
  if !s.on F.ALM_CTL_ADMIT_EN then (0x1025, 0)
  else if !s.on F.GLB_STATE_ARMED then (0x1023, 0)
  else if x.st != .staged then (0x1020, x.st.code)
  else if s.tierAtEve < x.minTier then (0x1021, s.tierAtEve + 256 * x.minTier)
  else match (bitsOf 8 x.mask).find? stRefused with
    | some st => (0x1022, st)
    | none => (0, 0)

/-- The detail bytes of a vacant frame's cause, from byte 4 on (R69). -/
def eveDetail (cause v : Nat) : List (Nat × Nat × Nat) :=
  if cause = 0x1024 ∨ cause = 0x1021 then [(4, 2, v)] else if cause = 0x1020 ∨ cause = 0x1022 then [(4, 1, v)] else []

/-- R53: the eve fires: the conditions are sampled on the tick. -/
def State.fireEve (s : State) (p : Nat) (stRefused : Nat → Bool) : State :=
  let x := s.slot p
  let (c, v) := s.eveCheck x stRefused
  s.modSlot p (fun x => { x with eveFired := true, eveCause := c, eveDetail := v, eveTier := s.tierAtEve, etimeEve := s.etime, eveAt := s.now })

/-- R41, R53: once the eve tick is over, a slot that is not STAGED is vacated with the cause sampled on it. -/
def State.settleEve (s : State) (p : Nat) : State :=
  let x := s.slot p
  if x.eveFired && (x.st = .loaded || x.st = .staging) && x.eveAt / 10 < s.now / 10 then
    s.vacate p x.eveCause (eveDetail x.eveCause x.eveDetail) else s

/-- R52: the active island records its decision: ADMITTED, or vacant with the sampled cause. A page admitted in tier P, as the
eve tick sampled it (R53), carries PROOF, is at least FLAGGED and posts 0x1028 (R57, R472). Where TIER has fallen below
MIN_TIER since the eve tick, R58 applies as to a fall after admission (log 137). -/
def State.recordDecision (s : State) (p : Nat) : State :=
  let x := s.slot p
  if x.eveCause = 0 then
    let s := ((s.dropHolds p).modSlot p (fun x => { x with st := .admitted })).slotProgress p
    let s := if x.eveTier = 2 then
        (s.modSlot p (fun x => (((x.worsen 1 0x1028).flagRec 1).flagAll 8))).post 0 0x1028 3 p [(0, 1, x.minTier)] x.tag
      else s
    s.modSlot p (fun x => x.tierFell (s.rd F.GLB_STATE_TIER))
  else s.vacate p x.eveCause (eveDetail x.eveCause x.eveDetail)

/-- R62: the page is DELIVERED: the record's ETIME_END and WPOS_END are this tick's. -/
def State.deliver (s : State) (p : Nat) : State :=
  let s := s.modSlot p (fun x => { x with st := .delivered, etimeEnd := s.etime, wposEnd := s.wpos })
  let s := if (s.slot p).outcome = 2 then s.inc F.ALM_SPOILED_SPOILED else s
  s.composePage p

end Sys2Proof.Machine
end

