-- ==== Sys2Proof/Machine/Codec.lean ====
section
/-! DEFINITION. Compression engines and exact-bit reprint (chapter 04): codec jobs, chain tables, captures, index
records, HOLD, FREE and REPLAY. -/

namespace Sys2Proof.Machine

open Sys2Proof

/-! ### Bytes of the band store (R70, R112) -/

/-- Bytes written from an address on. -/
def putMem : List Host.Cell → Nat → List Byte → List Host.Cell
  | m, _, [] => m
  | m, a, b :: t => putMem (amSet 0#8 m a b) (a + 1) t

/-- Byte address of position `n` of a run of granules. -/
def granAddr (gs : List Nat) (n : Nat) : Nat := gs.getD (n / 65536) 0 * 65536 + n % 65536

/-- Bytes stored in a run of granules from a position on. -/
def State.putGrans (s : State) (gs : List Nat) : Nat → List Byte → State
  | _, [] => s
  | n, b :: t =>
    State.putGrans { s with band := { s.band with mem := amSet 0#8 s.band.mem (granAddr gs n) b } } gs (n + 1) t

/-- Bytes of a run of granules. -/
def State.getGrans (s : State) (gs : List Nat) (a n : Nat) : List Byte :=
  (List.range n).map (fun i => amGet 0#8 s.band.mem (granAddr gs (a + i)))

/-! ### Captures (R117–R122) -/

/-- Reprint granules that captures hold. -/
def State.rprUsed (s : State) : List Nat := s.codec.captures.flatMap (fun c => c.grans)

/-- RPR_FREE.FREE_GRAN (R90, R125). -/
def State.rprFree (s : State) : Nat :=
  let n := s.rd F.BAND_RPR_GRAN_RPR_GRAN
  n - s.rprUsed.length - (s.band.retired.filter (fun g => g < n)).length

/-- The capture of a slot on a station that has not ended. -/
def State.openCapture (s : State) (p st : Nat) : Option Capture :=
  s.codec.captures.find? (fun c => c.slot = p && c.station = st && !c.closed)

def State.modCapture (s : State) (t : Capture → Bool) (f : Capture → Capture) : State :=
  { s with codec := { s.codec with captures := s.codec.captures.map (fun c => if t c then f c else c) } }

/-- Whether a capture is the open one of a slot on a station. -/
def isOpen (p st : Nat) (c : Capture) : Bool := c.slot = p && c.station = st && !c.closed

/-! ### Completions (R115, R116) and HOLD (R122) -/

/-- What a CODEC_DONE record carries beside the descriptor's own fields. -/
structure CodecEnd where
  op : Nat
  status : Nat
  engine : Nat := 255
  cflags : Nat := 0
  suspends : Nat := 0
  consumed : Nat := 0
  outLen : Nat := 0
  outCrc : Nat := 0
  ovr : Nat := 0
  lastEntry : Nat := 0
  capture : Nat := 0
  start : Nat := 0
  deriving DecidableEq, Repr

/-- R115, R116: a CODEC_DONE record is queued for Q23; a status other than OK counts and posts 0x2052, with instance 0 for a
job that never had an engine (the model's choice, log 120). -/
def State.codecDone (s : State) (ring : Nat) (d : Desc) (e : CodecEnd) : State :=
  let inst := if e.engine < 7 then e.engine else if e.op = 4 ∨ 8 ≤ e.op then 6 else 0
  let s := if e.status = 0 then s else
    (s.inc F.CODEC_FAIL_FAIL).post 0 0x2052 5 inst [(0, 4, dTag d), (4, 1, e.status), (5, 1, e.op)] (dTag d)
  let irq := if dIrq d then 4 else 0
  let s := s.queueRec 23 ⟨[mkEntry [(0, 1, 0x90), (1, 1, irq), (4, 4, dTag d), (8, 1, e.op), (9, 1, e.status),
    (10, 1, e.engine), (11, 1, e.cflags), (12, 4, e.suspends), (16, 8, e.consumed), (24, 8, e.outLen), (32, 4, e.outCrc),
    (36, 4, e.ovr), (40, 4, e.lastEntry), (44, 4, e.capture), (48, 8, e.start), (56, 8, s.etime)]],
    dIrq d, some ring, none, none⟩
  s.doneTrace (some (traceEntry (dTag d) 1 ring (dOpcode d) 1 0 e.status))

/-- R122: the fields of a REPRINT_HOLD or REPRINT_FREE. -/
def holdFormat (d : Desc) : Bool := dCount d == 0 && dZero d 12 63

/-- R122: HOLD. ETIME_START of its record is the ETIME of its taking (the model's choice, log 142). -/
def State.takeHold (s : State) (q : Nat) (d : Desc) : State :=
  let s := (s.passTxn q 1).trace 0 q [d] 0
  let id := dField d 8 4
  let e : CodecEnd := { op := 8, status := 0, capture := id, start := s.etime }
  if !holdFormat d then s.codecDone q d { e with status := 9 }
  else if s.codec.captures.any (fun c => c.id = id && c.closed) then
    (s.modCapture (fun c => c.id = id && c.closed) (fun c => { c with held := true })).codecDone q d e
  else s.codecDone q d { e with status := 10 }

/-- R122: a capture is released: its granules go, and it is no more. -/
def State.dropCapture (s : State) (id : Nat) : State :=
  match s.codec.captures.find? (fun c => c.id = id && c.closed) with
  | none => s
  | some c =>
    let s := { s with codec := { s.codec with captures := s.codec.captures.filter (fun x => !(x.id = id && x.closed)) } }
    s.releaseGrans c.grans

/-- R120, R121: the oldest capture that may be released: index record written, neither held nor pinned. The oldest is the one
that began first (the model's choice, log 142). -/
def State.oldestFree (s : State) : Option Nat :=
  (s.codec.captures.find? (fun c => c.closed && c.indexed && !c.held && c.pins = 0)).map (fun c => c.id)

/-- R122: HOLDs that stand at the head of their rings as a capture is to be released are applied first: a HOLD that can be taken
on that clock cycle is taken on it (log 143). `fuel` bounds their number. -/
def State.holdsFirst (s : State) : Nat → State
  | 0 => s
  | fuel + 1 =>
    match [12, 13, 14, 15].findSome? (fun q => (s.takeable q).bind (fun ds =>
        if dOpcode (ds.headD 0) = 0x21 && (genericFail q ds).isNone then some (q, ds.headD 0) else none)) with
    | some (q, d) => State.holdsFirst (s.takeHold q d) fuel
    | none => s

/-- R120: captures are released while `n` granules are not free; `fuel` bounds the releases. -/
def State.makeRoom (s : State) (n : Nat) : Nat → State
  | 0 => s
  | fuel + 1 =>
    if n ≤ s.rprFree || !s.on F.RPR_CTL_AUTO_RELEASE then s else
    let s := s.holdsFirst ([12, 13, 14, 15].map (fun q => (s.ring q).fetched.length)).sum
    match s.oldestFree with
    | none => s
    | some id => State.makeRoom ((s.dropCapture id).post 0 0x2061 5 6 [(0, 4, id)]) n fuel

/-- R118: the record of a captured band. -/
def captureRecord (c : Capture) (b : Nat) : List Byte :=
  let n := bandLines c.lines b
  let line (i : Nat) : Option (List Nat) := ((c.levels.find? (fun x => x.1 = 64 * b + i)).map (·.2)).getD none
  let levels (i : Nat) : List Nat := (line i).getD (List.replicate c.pixels 0)
  let absent := (List.range n).foldl (fun m i => if (line i).isNone then m + 2 ^ i else m) 0
  let body := (List.range n).flatMap (fun i => captureLine (levels i))
  let crc := crc32c ((List.range n).flatMap (fun i => pack4 (levels i)))
  let hdr := leBytes 32 (packBytes [(0, 2, 0x5243), (2, 1, c.station),
    (3, 1, b2n (b + 1 = bandCount c.lines) + 2 * b2n (absent != 0)), (4, 4, b), (8, 2, n), (12, 4, body.length),
    (16, 4, crc), (20, 8, absent)])
  zeroPad (pad32 (32 + body.length)) (hdr ++ body)

/-- R118, R120: every complete band next in order is stored, or the capture is truncated; `fuel` bounds the bands. -/
def State.storeBands (s : State) (p st : Nat) : Nat → State
  | 0 => s
  | fuel + 1 =>
    match s.openCapture p st with
    | none => s
    | some c =>
      let b := c.bandsStored
      let n := bandLines c.lines b
      if c.truncated || n = 0 || !(List.range n).all (fun i => c.levels.any (fun x => x.1 = 64 * b + i)) then s else
      let r := captureRecord c b
      let need := ceilDiv (c.bytes + r.length) 65536 - c.grans.length
      let s := s.makeRoom need s.codec.captures.length
      if s.rprFree < need then
        (((s.modCapture (isOpen p st) (fun c => { c with truncated := true })).inc F.RPR_TRUNC_TRUNC).post 1 0x2060 5 6
          [(0, 4, p), (4, 1, st), (5, 4, b)])
      else
        let used := s.rprUsed ++ s.band.retired
        let gs := c.grans ++ lowestFree (need + used.length) need 0 used
        let s := s.putGrans gs c.bytes r
        State.storeBands (s.modCapture (isOpen p st) (fun c => { c with
          grans := gs, bytes := c.bytes + r.length, bandsStored := b + 1
          levels := c.levels.filter (fun x => 64 * (b + 1) ≤ x.1) })) p st fuel

/-- R117: a frame that is captured on a station begins its capture, with a trailer found bad already (R121). -/
def State.beginCapture (s : State) (p st : Nat) : State :=
  let x := s.slot p
  let c : Capture := {
    mismatch := (x.stFlags.getD st 0).testBit 2
    slot := p, station := st, tag := x.tag, pageId := x.pageId, lines := x.lines,
    pixels := s.rd (F.ST_GEOM_PIXELS st), fp := x.fp }
  { s with codec := { s.codec with captures := s.codec.captures ++ [c] } }

/-- R117: one line of the frame is recorded, absent for none; `blanked` counts a line blanked at the beam, in paired strike at
its first write, with which it is recorded (the model's choice, log 142). -/
def State.captureOne (s : State) (p st line : Nat) (levels : Option (List Nat)) (blanked : Bool) : State :=
  if (s.openCapture p st).isNone then s else
  let s := s.modCapture (isOpen p st) (fun c =>
    if c.levels.any (fun x => x.1 = line) || line < 64 * c.bandsStored then c else
    { c with
      levels := c.levels ++ [(line, levels)]
      absent := c.absent || levels.isNone
      beamBlanked := c.beamBlanked + b2n blanked })
  s.storeBands p st 4

/-- R121: a capture's REPRINT_INDEX entry. -/
def indexEntry (c : Capture) (etime : Nat) : Desc :=
  let bits := 2 * b2n c.mismatch + 4 * b2n c.absent + 8 * b2n c.truncated
  mkEntry [(0, 1, 0xA0), (4, 4, c.tag), (8, 8, c.pageId), (16, 4, c.id), (20, 1, c.station),
    (21, 1, b2n (bits = 0) + bits + 16 * b2n (c.beamBlanked != 0)), (22, 2, c.slot), (24, 4, c.lines), (28, 2, c.pixels),
    (32, 8, uBits 64 c.fp), (40, 8, c.bytes), (48, 4, c.grans.length), (52, 4, c.beamBlanked), (56, 8, etime)]

/-- R121: the capture of a slot on a station ends: it has a CAPTURE_ID and its index record is queued for Q29; the page
record carries CAPTURED. Lines never written are absent (R482). -/
def State.endCapture (s : State) (p st : Nat) : State :=
  match s.openCapture p st with
  | none => s
  | some c =>
    let missing := (List.range c.lines).filter (fun l => 64 * c.bandsStored ≤ l && !c.levels.any (fun x => x.1 = l))
    let s := if missing = [] then s else s.modCapture (isOpen p st) (fun c => { c with
      levels := c.levels ++ missing.map (fun l => (l, none)), absent := true })
    let s := s.storeBands p st (bandCount c.lines)
    let id := s.codec.lastCapture + 1
    let s := s.modCapture (isOpen p st) (fun c => { c with id := id, etimeEnd := s.etime })
    let s := match s.openCapture p st with
      | some c => s.queueRec 29 ⟨[indexEntry c s.etime], false, none, none, none⟩
      | none => s
    let s := s.modCapture (isOpen p st) (fun c => { c with closed := true })
    let s := { s with codec := { s.codec with lastCapture := id } }
    (s.wr F.RPR_LAST_ID_LAST_ID id).modSlot p (fun x => x.flagRec 8)

/-! ### Jobs (R109–R114) -/

def jobOp (d : Desc) : Nat := dField d 8 1

/-- CAPTURE_ID of a job's completion record (R115). -/
def jobCapture (d : Desc) : Nat := if jobOp d = 4 then dField d 48 4 else 0

/-- R109, R110: the fields of a CODEC_JOB are in range. Of the fields that are for other OPs, DEPTH and CAPTURE_ID must be 0 and
WIDTH, LINES, IN_SG_ADDR and IN_LEN are not tested (the model's choice, log 120). -/
def jobFormat (d : Desc) : Bool :=
  let op := jobOp d
  let fmt := dField d 9 1
  let frc := op == 2 || op == 3
  let w := dField d 12 2
  op ≤ 4 && dCount d == 0 && fmt / 16 % 4 == 0 && fmt / 64 != 3
    && (if frc then fmt % 16 == 2 || fmt % 16 == 3 else fmt % 16 == 0)
    && (op == 0 || op == 1 || op == 3 || fmt / 64 == 0)
    && (op == 0 || dField d 10 1 == 0) && dField d 11 1 < 16
    && (if op = 4 then dField d 14 2 == 0 else 1 ≤ dField d 14 2)
    && (!frc || (8 ≤ w && w ≤ 24576 && w % 8 == 0 && 1 ≤ dField d 44 4))
    && (op != 2 || dField d 24 8 == w * dField d 44 4) && dField d 32 8 % 16 == 0
    && (op == 4 || dZero d 48 51) && dZero d 52 63

def State.job (s : State) (id : Nat) : Option Job := s.codec.jobs.find? (fun j => j.id = id)

def State.modJob (s : State) (id : Nat) (f : Job → Job) : State :=
  { s with codec := { s.codec with jobs := s.codec.jobs.map (fun j => if j.id = id then f j else j) } }

/-- R111: the engines a job of an operation would take, lowest-numbered free of each type, none if one is missing. -/
def State.freeEngines (s : State) (op : Nat) : Option (List Nat) :=
  let busy := s.busyEngines
  let lz := [0, 1, 2, 3].find? (fun e => !busy.contains e)
  let frc := [4, 5].find? (fun e => !busy.contains e)
  match op with
  | 0 | 1 => lz.map (fun e => [e])
  | 2 => frc.map (fun e => [e])
  | 3 => lz.bind (fun a => frc.map (fun b => [a, b]))
  | _ => if busy.contains 6 then none else some [6]

/-- R111: the job of a ring that may start: the first not started, with its engines free. -/
def State.startable (s : State) (q : Nat) : Option (Job × List Nat) :=
  match s.codec.jobs.find? (fun j => j.ring = q && !j.started) with
  | none => none
  | some j => (s.freeEngines j.op).map (fun es => (j, es))

/-- R111: rings with startable jobs are served in round robin. -/
def State.nextJobRing (s : State) : Option Nat :=
  let rs := [12, 13, 14, 15].filter (fun q => (s.startable q).isSome)
  match rs.filter (fun q => s.codec.lastRing < q) with
  | q :: _ => some q
  | [] => rs.head?

/-- R112, R113: output of `need` bytes goes through the chain from the table entry at `a`: the buffers it reaches, and how
that ends: 0 all of it is placed, 1 the entries given are used up, 2 an entry with VALID = 0, 6 FENCE, 9 FORMAT; with the
address of the entry it ended on. Entries in the aperture come from the band store, the others are `ents` in order, each checked
under `ws` or the windows in force (R259); `fuel` bounds the entries. -/
def State.walkChain (s : State) (ws : List Win) :
    Nat → Nat → List ChainEnt → Nat → List (Nat × Nat) → List (Nat × Nat) × Nat × Nat
  | 0, a, _, _, bufs => (bufs, 1, a)
  | fuel + 1, a, ents, need, bufs =>
    if need = 0 then (bufs, 0, a) else
    let here := getMem s.band.mem (s.scratchAddr a) 16
    let next := if apertureBase ≤ a then some (⟨bField here 0 8, bField here 8 4, bField here 12 4, false⟩, ents)
      else match ents with | [] => none | e :: t => some ((e : ChainEnt), t)
    match next with
    | none => (bufs, if s.inWindow false a 16 then 1 else 6, a)
    | some (e, rest) =>
      if !s.checkWin ws e.early false a 16 then (bufs, 6, a)
      else if e.ctl % 2 = 0 then (bufs, 2, a)
      else if e.ctl / 4 ≠ 0 then (bufs, 9, a)
      else if e.ctl / 2 % 2 = 1 then State.walkChain s ws fuel e.addr rest need bufs
      else if !s.checkWin ws e.early true e.addr e.len then (bufs, 6, a)
      else if e.len < 64 then (bufs, 9, a)
      else State.walkChain s ws fuel (a + 16) rest (need - e.len) (bufs ++ [(e.addr, e.len)])

/-- The walk of a job's chain from CHAIN_ADDR. -/
def State.jobChain (s : State) (j : Job) (ents : List ChainEnt) (need : Nat) : List (Nat × Nat) × Nat × Nat :=
  s.walkChain j.wins (ents.length + 134217728) (dField j.desc 32 8) ents need []

/-- R114: the job's output reaches an entry with VALID = 0, with the buffers before it filled; a report whose entries lead to no
such entry changes nothing (log 2). -/
def State.chainEmpty (s : State) (id : Nat) (ents : List ChainEnt) : State :=
  match s.job id with
  | none => s
  | some j =>
    let (bufs, fin, a) := s.jobChain j ents (2 ^ 64)
    if fin != 2 then s else
    let entry := bufs.length
    let s := s.modJob id (fun j => { j with
      suspendedAt := some s.now, polledAt := s.now, suspends := j.suspends + 1, entry := entry, chain := bufs, entryAt := a })
    (s.post 0 0x2050 5 (j.engines.headD 0) [(0, 4, dTag j.desc), (4, 4, entry)] (dTag j.desc)).syncCodec

/-- R112, R114: the entry a job is suspended on has VALID = 1: in the aperture as the band store holds it, else as the read of
host memory found it. -/
def State.entryValid (s : State) (j : Job) (found : Bool) : Bool :=
  if apertureBase ≤ j.entryAt then (bField (getMem s.band.mem (s.scratchAddr j.entryAt) 16) 12 4).testBit 0 else found

/-- R122: a FREE is answered; it has no run, so ETIME_START is 0 (the model's choice, log 142). -/
def State.freeDone (s : State) (ring : Nat) (d : Desc) (status : Nat) : State :=
  s.codecDone ring d { op := 9, status := status, capture := dField d 8 4 }

/-- R121, R122: FREEs of a capture that waited are answered once nothing pins it and its index record is written. -/
def State.settleFrees (s : State) (c : Capture) : State :=
  if c.pins = 0 && c.indexed && c.frees != [] then
    c.frees.foldl (fun (s : State) (q, d) => s.freeDone q d 0) (s.dropCapture c.id) else s

/-- R115: a job completes: engines free, its transfer ended, its capture unpinned with the FREEs that waited. -/
def State.finishJob (s : State) (j : Job) (e : CodecEnd) : State :=
  let s := { s with codec := { s.codec with jobs := s.codec.jobs.filter (fun x => x.id != j.id) } }
  let s := (s.codecDone j.ring j.desc e).stageEngines.endTransfer (jobTransfer j.id)
  if j.op != 4 then s else
  let cap := dField j.desc 48 4
  let isCap (c : Capture) : Bool := c.id = cap && c.closed
  let s := s.modCapture isCap (fun c => { c with pins := c.pins - 1 })
  match s.codec.captures.find? isCap with
  | some c =>
    s.settleFrees c
  | none => s

/-- What a run of a job brought: the input's fragments and bytes, the chain entries that host memory gave, the first differing byte
where it mismatched on verify, when the run after a mismatch started, and the sectors (granule, sector) of the band store that gave
its data corrected and uncorrectable errors (R90). -/
structure CodecRun where
  frags : ListRead
  input : List Byte
  chain : List ChainEnt
  mismatches : List Nat
  rerunAt : Nat
  ce : List (Nat × Nat)
  ue : List (Nat × Nat)
  deriving DecidableEq, Repr

/-- R118, R123: a capture expanded into the staged RAW4 layout: the output, or none on a RAW_CRC mismatch. -/
def State.expandCapture (s : State) (c : Capture) : Option (List Byte) :=
  (List.range c.bandsStored).foldl (fun (acc : Option (Nat × List Byte)) b =>
    match acc with
    | none => none
    | some (pos, out) =>
      let hdr := s.getGrans c.grans pos 32
      let n := bField hdr 8 2
      let len := bField hdr 12 4
      let body := s.getGrans c.grans (pos + 32) len
      let raw := (readLines c.pixels n body).flatMap pack4
      if crc32c raw != bField hdr 16 4 then none
      else some (pos + pad32 (32 + len), out ++ genBand 1 c.pixels c.lines b raw)) (some (0, []))
    |>.map (·.2)

/-- R106–R110, R123: the output of a job and its status, CFLAGS and blocks over the bound. -/
def State.jobOutput (s : State) (d : Desc) (r : CodecRun) : Nat × List Byte × Nat × Nat :=
  let w := dField d 12 2
  let lines := dField d 44 4
  let jf := dField d 11 1
  let coding := dField d 9 1 % 16
  let fmt := dField d 9 1 / 64
  let frc (src : List Byte) (cf : Nat) : Nat × List Byte × Nat × Nat :=
    let bands := (List.range (bandCount lines)).map (fun b =>
      frcEncodeBand (coding = 2) w (bandLines lines b) ((src.drop (64 * b * w)).take (bandLines lines b * w)))
    let ovr := (bands.map (·.2)).sum
    let out := if jf.testBit 2 then (stagePacked coding w lines src).1 else bands.flatMap (·.1)
    if ovr = 0 then (0, out, cf, 0)
    else if jf.testBit 1 then (0, out, cf + 4, ovr) else (5, out, cf, 0)
  let chk := b2n (jf.testBit 3)
  if jf.testBit 3 && crc32c r.input != dField d 40 4 then (3, [], 0, 0) else
  match jobOp d with
  | 0 =>
    if r.mismatches != [] then (1, [], 0, 0)
    else (0, lzWrite fmt (dField d 10 1 + 1) (jf.testBit 0) r.input, 1 + 2 * chk, 0)
  | 1 =>
    let (st, out) := lzRead fmt r.input
    (st, out, if st = 0 && (fmt != 0 || chk = 1) then 2 else 0, 0)
  | 2 => frc r.input (2 * chk)
  | 3 =>
    let (st, out) := lzRead fmt r.input
    if st != 0 then (st, [], 0, 0)
    else if out.length != w * lines then (4, [], 0, 0)
    else frc out (if fmt != 0 || chk = 1 then 2 else 0)
  | _ =>
    match s.codec.captures.find? (fun c => c.id = dField d 48 4 && c.closed) with
    | none => (10, [], 0, 0)
    | some c => match s.expandCapture c with
      | none => (11, [], 0, 0)
      | some out => (0, out, 0, 0)

/-- R113: the ordinal of the chain entry that holds the last of `n` output bytes. -/
def lastEntry : List (Nat × Nat) → Nat → Nat → Nat
  | [], _, k => k
  | (_, len) :: t, n, k => if n ≤ len then k else lastEntry t (n - len) (k + 1)

/-- R112, R113: output goes into its buffers in order; what lies in the aperture is written in the scratch region. -/
def State.fillChain (s : State) : List (Nat × Nat) → List Byte → State
  | [], _ => s
  | (a, len) :: t, out =>
    let here := out.take len
    let s := if apertureBase ≤ a then
      { s with band := { s.band with
        mem := putMem s.band.mem (s.scratchAddr a) here } } else s
    State.fillChain s t (out.drop len)

/-- R107, R115: a job that has started fails: what it wrote is undefined, and how far it came is not stated (log 102): nor how
many blocks over the bound an encoding with BOUND_REPORT had kept, which it counts (R108). -/
def State.failJob (s : State) (j : Job) (bufs : List (Nat × Nat)) (e : CodecEnd) : State :=
  let bufs := bufs.filter (fun x => apertureBase ≤ x.1)
  let (bs, s) := State.freeBytes (bufs.map (·.2)).sum s
  let s := s.fillChain bufs bs
  let keeps := (j.op == 2 || j.op == 3) && (dField j.desc 11 1).testBit 1
  let (kept, s) := if keeps then s.free else (0, s)
  let s := s.inc F.CODEC_FRC_OVER_OVER (kept % 2 ^ 32)
  let (consumed, s) := s.free
  let (outLen, s) := s.free
  let (crc, s) := s.free
  let (last, s) := s.free
  s.finishJob j { e with consumed := consumed, outLen := outLen, outCrc := crc % 2 ^ 32, lastEntry := last % 2 ^ 32, ovr := kept % 2 ^ 32 }

/-- R80, R110, R112: the fragments of a job's input and the input itself. -/
def State.jobFrags (s : State) (d : Desc) (r : CodecRun) : List (Nat × Nat) := s.sgList (dField d 16 8) (dField d 14 2) r.frags.frags

def State.jobInput (s : State) (d : Desc) (r : CodecRun) : List Byte :=
  (s.gather (s.jobFrags d r) r.input).take (dField d 24 8)

/-- R106: the engine of a second run: another free LZ engine, or the same. -/
def State.rerunEngine (s : State) (eng : Nat) : Nat :=
  ([0, 1, 2, 3].find? (fun e => !s.busyEngines.contains e)).getD eng

/-- R106: where the run of a COMPRESS mismatched. -/
def runMismatch (j : Job) (r : CodecRun) : Option Nat := if j.op = 0 then r.mismatches.head? else none

/-- R106: a run that mismatched is posted. -/
def State.postMismatch (s : State) (j : Job) (off : Nat) : State :=
  s.post 1 0x2051 5 (j.engines.headD 255) [(0, 4, dTag j.desc), (4, 4, off), (8, 1, b2n j.rerun)] (dTag j.desc)

/-- R106: the first run mismatched: the job runs once more from the start, on another free LZ engine or the same; the engine of
the first run is free again. -/
def State.rerunJob (s : State) (j : Job) (rerunAt : Nat) : State :=
  let eng := s.rerunEngine (j.engines.headD 255)
  ((s.inc F.CODEC_RETRY_RETRY).modJob j.id (fun j => { j with
    rerun := true, engines := [eng], etimeStart := rerunAt, chain := [], entry := 0 })).stageEngines

/-- R106, R110–R116: a job's run ends; the first failure in the order input list, data, output entries and content gives the
status. The scatter list is checked as the job starts. A first run that mismatched is followed by a second. A report whose chain
entries do not hold the output changes nothing (log 2). -/
def State.endJob (s0 : State) (j : Job) (r : CodecRun) : State :=
  let d := j.desc
  let s := match runMismatch j r with
    | some off => s0.postMismatch j off
    | none => s0
  let s := r.ue.foldl (fun (s : State) x => s.sectorUe x.1 x.2 0xFF (dTag d)) (s.bandCe (r.ce.map (fun x => sectorStack x.2)))
  let e : CodecEnd := { op := j.op, status := 0, engine := j.engines.headD 255, suspends := j.suspends
                        start := j.etimeStart, capture := jobCapture j.desc }
  let input := s.jobInput d r
  let named := (s.jobChain j r.chain (2 ^ 64)).1
  if j.op != 4 && (!s.inWin j.wins false (dField d 16 8) (16 * dField d 14 2)
      || !s.fragsPass j.wins r.frags.early (s.jobFrags d r))
  then s.failJob j named { e with status := 6 }
  else if r.ue != [] then s.failJob j named { e with status := 13 }
  else if j.op != 4 && input.length < dField d 24 8 then s.failJob j named { e with status := 4 }
  else if (runMismatch j r).isSome && !j.rerun then s.rerunJob j r.rerunAt
  else
    let (st, out, cf, ovr) := s.jobOutput d { r with input := input, mismatches := (runMismatch j r).toList }
    let (bufs, fin, _) := s.jobChain j r.chain out.length
    if st = 10 then s.finishJob j { e with status := 10 }
    else if fin = 6 ∨ fin = 9 then s.failJob j bufs { e with status := fin }
    else if st != 0 then s.failJob j named { e with status := st }
    else if fin != 0 then s0
    else
      let s := (s.fillChain bufs out).inc F.CODEC_FRC_OVER_OVER ovr
      s.finishJob j { e with
        cflags := cf, consumed := input.length, outLen := out.length, outCrc := crc32c out, ovr := ovr
        lastEntry := lastEntry bufs out.length 0 }

/-- R111: a codec job is taken from its ring into the queue, or, out of form, completed with FORMAT unstarted. The model's
choices (log 120): ENGINE of a job that never started is 0xFF, that of a TRANSCODE its LZ engine, CFLAGS of a failed job 0. -/
def State.takeJob (s : State) (q : Nat) (d : Desc) : State :=
  let s := (s.passTxn q 1).trace 0 q [d] 0
  if !jobFormat d then s.codecDone q d { op := jobOp d, status := 9, capture := jobCapture d, start := s.etime }
  else
    let j : Job := { id := s.codec.nextJob, ring := q, desc := d, op := jobOp d, irq := dIrq d }
    { s with codec := { s.codec with jobs := s.codec.jobs ++ [j], nextJob := s.codec.nextJob + 1 } }.syncCodec

/-- R121, R122: FREE, which waits while a REPLAY pins the capture and until its index record is written. -/
def State.takeFree (s : State) (q : Nat) (d : Desc) : State :=
  let s := (s.passTxn q 1).trace 0 q [d] 0
  let id := dField d 8 4
  if !holdFormat d then s.freeDone q d 9
  else match s.codec.captures.find? (fun c => c.id = id && c.closed) with
    | none => s.freeDone q d 10
    | some c =>
      if c.pins = 0 && c.indexed then (s.dropCapture id).freeDone q d 0
      else s.modCapture (fun c => c.id = id && c.closed) (fun c => { c with frees := c.frees ++ [(q, d)] })

end Sys2Proof.Machine
end

