-- ==== Sys2Proof/Machine/Scan.lean ====
section
/-! DEFINITION. Scan geometry (chapter 06): edges, facet references, signatures, the web-locked phase, slips, marks and
the registration loop; roll-call windows (chapter 08) as far as edges need them. -/

namespace Sys2Proof.Machine

open Sys2Proof

def State.sc (s : State) (st : Nat) : Scan := s.scan.getD st {}

def State.modSc (s : State) (st : Nat) (f : Scan → Scan) : State := { s with scan := s.scan.modify st f }

/-- The slot byte of an event: the page on the station, 0xFF for none. -/
def State.slotByte (s : State) (st : Nat) : Nat :=
  match s.slotOn st with
  | some p => if p < 160 then p else 255
  | none => 255

/-- R216: 0 OFF, 1 ACQUIRE, 2 SEARCH, 3 TIMED. -/
def State.phase (s : State) (st : Nat) : Nat := s.rd (F.ST_ROLL_STAT_PHASE st)

def State.period (s : State) (st : Nat) : Nat := s.rd (F.ST_FACET_PERIOD_PERIOD st)

def State.facets (s : State) (st : Nat) : Nat := max 1 (s.rd (F.ST_GEOM_FACETS st))

/-- The facet index of the facet whose window is open: the present one, or the next where none has its reference yet. -/
def State.facetOpen (s : State) (st : Nat) : Nat :=
  let f := s.rd (F.ST_FACET_STAT_FACET st)
  if (s.sc st).refDone then f else (f + 1) % s.facets st

def State.soff (s : State) (st f e : Nat) : Int := s.rdS (F.ST_SIG_SOFF st f e)

def State.lscale (s : State) (st f e : Nat) : Int := s.rdS (F.ST_SIG_LSCALE st f e)

def State.dropped (s : State) (st e : Nat) : Bool := (s.rd (F.ST_DROP_MAP_DROPPED st)).testBit e

/-! ### Cuts that hold an emitter OFF (R201, R205, R213) -/

def State.oct (s : State) (n : Nat) : Octet := s.octs.getD n {}

def State.modOct (s : State) (n : Nat) (f : Octet → Octet) : State := { s with octs := s.octs.modify n f }

def State.beam (s : State) (b : Nat) : Beam := s.beams.getD b {}

def State.modBeam (s : State) (b : Nat) (f : Beam → Beam) : State := { s with beams := s.beams.modify b f }

/-- BM_STAT.EXCLUDED: a thermal or watchdog cut holds the beam OFF, now or for the page on its station; a thermal cut does
from the emitter's first line start on at which it acts (R200). -/
def State.excluded (s : State) (st b : Nat) : Bool :=
  let held (l : List Nat) : Bool := match s.slotOn st with
    | some p => l.contains p
    | none => false
  (s.beam b).cut && (s.on (F.OCT_STAT_CUT_HELD (b / 8)) || held (s.oct (b / 8)).cutSlots)
    || s.on (F.BM_STAT_WD_CUT b) || held (s.beam b).cutSlots

/-- R191: a beam is OFF with its octet: disabled, from the emitter's next line start on, or at once where none is to come. -/
def State.octOff (s : State) (b : Nat) : Bool :=
  let o := s.oct (b / 8)
  !o.enabled && (o.bsenAt.isNone || o.offMask.testBit (b % 8))

/-- R190, R191, R211: an emitter's octet may give light. -/
def State.mayEmit (s : State) (b : Nat) : Bool :=
  !s.octOff b && s.on (F.OCT_STAT_VBS_OK (b / 8)) && !s.beamsBarred

/-- R213: an ON run of a beam, in 4 ps units, enters ONMAX in whole 10 ns units (log 122). -/
def State.onRun (s : State) (b : Nat) (len : Int) : State :=
  s.wr (F.BM_ONMAX_ONMAX b) (max (s.rd (F.BM_ONMAX_ONMAX b)) (min 65535 (len / 2500).toNat))

/-- The longest of intervals of light, those less than 20 ns apart being one (R203). -/
def longestOn : List (Int × Int) → Int → Int → Int → Int
  | [], _, _, best => best
  | (a, z) :: t, start, stop, best =>
    let start := if a - stop < 5000 then start else a
    longestOn t start z (max best (z - start))

/-- R162, R188: when position `q` of a beam's line is written, `q` in 1/256 pixel from the line's nominal start. -/
def State.onTime (s : State) (st b : Nat) (q : Int) : Int :=
  ((s.beam b).tf : Int) + s.pixTime st (256 * s.rd (F.ST_SCAN_SOS_OFS st) + q)

/-- R203, R213: the longest ON run of a beam's line up to an instant, in 4 ps units. -/
def State.lineRun (s : State) (st b : Nat) (t : Int) : Int :=
  let on := (s.beam b).pulses.filterMap (fun p =>
    let a := max (s.onTime st b p.1) (s.beam b).onSince
    let z := min (s.onTime st b (p.1 + p.2)) t
    if a < z then some (a, z) else none)
  match on with
  | [] => 0
  | (a, _) :: _ => longestOn on a a 0

/-- R221: an emitter that is called while its facet's window is open. -/
def State.called (s : State) (st e : Nat) : Bool :=
  let b := s.beamOf st e
  s.pllKept st && !s.excluded st b && !s.octOff b &&
    (match s.phase st with
     | 3 => true
     | 2 => if (s.sc st).found % 2 = (if (s.sc st).refDone then 1 else 0) then e = 0 else e = (s.sc st).search
     | 1 => e = 0
     | _ => false)

/-! ### Roll-call pulses (R217–R220) -/

/-- R206, R219: the last measured facet period; until roll call has measured one, the polygon set-point's. DEDUCED
(log 114). -/
def State.lastPeriod (s : State) (st : Nat) : Nat :=
  if (s.sc st).found ≤ 1 ∨ s.period st = 0 then (s.setPeriod st).getD (s.period st) else s.period st

/-- t̂_f of the facet whose window is open (R219). -/
def State.tHat (s : State) (st : Nat) : Nat :=
  let c := s.sc st
  if c.refDone then c.that else c.tf.getD 0 + s.lastPeriod st

/-- x(e, f), the expected crossing of an emitter (R219). -/
def State.crossing (s : State) (st e : Nat) : Int := s.tHat st + s.pixTime st (s.soff st (s.facetOpen st) e)

/-- R220: the window: 2.0 µs before t̂ to 1.0 µs before pixel 0 of emitter 0. -/
def State.windowOpen (s : State) (st : Nat) : Int := (s.tHat st : Int) - 500000

/-- When the window of the facet expected at `t` closes. -/
def State.closeAt (s : State) (st t : Nat) : Int :=
  (t : Int) + s.pixTime st (256 * s.rd (F.ST_SCAN_SOS_OFS st)) - 250000

def State.windowClose (s : State) (st : Nat) : Int := s.closeAt st (s.tHat st)

/-- R217: ON in runs of MAX_ON − 2 µs separated by 100 ns IDLE, from `start` on, in 4 ps units. -/
def inRun (maxOn : Nat) (start t : Int) : Bool :=
  let run : Int := (maxOn : Int) * 2500 - 500000
  start ≤ t && (t - start) % (max 1 (run + 25000)) < run

/-- R217, R218: the start of the runs of a roll-call pulse that is ON in runs; none for a timed pulse. -/
def State.runsFrom (s : State) (st e : Nat) : Option Int :=
  match s.phase st with
  | 1 => some ((s.sc st).since * 250 : Nat)
  | 2 => if e = 0 then none else some (s.windowOpen st)
  | _ => none

/-- R219, R220: when a timed pulse turns on and turns off without an edge, clipped to the window. -/
def State.timedPulse (s : State) (st e : Nat) : Int × Int :=
  let on : Int := s.crossing st e - 250 * s.rd (F.ST_ROLL_CTL_ROLL_LEAD st)
  (max on (s.windowOpen st), min (on + 250 * max 8 (s.rd (F.ST_ROLL_CTL_ROLL_W st))) (s.windowClose st))

/-- R155: whether the roll-call pulse of an emitter is on at an instant. -/
def State.pulseOn (s : State) (st e : Nat) (t : Int) : Bool :=
  s.called st e && s.mayEmit (s.beamOf st e) && !(s.sc st).edges.any (fun g => g.e = e) &&
    (match s.runsFrom st e with
     | some r => inRun (s.rd (F.ST_WDOG_MAX_ON st)) r t && (s.phase st = 1 || t ≤ s.windowClose st)
     | none => (s.timedPulse st e).1 ≤ t && t ≤ (s.timedPulse st e).2)

/-- R213, R217–R219: how long the roll-call pulse of an emitter has been on without a break at the most, up to `t`. -/
def State.rollRun (s : State) (st e : Nat) (t : Int) : Int :=
  match s.runsFrom st e with
  | some r => max 0 (min (t - r) ((s.rd (F.ST_WDOG_MAX_ON st) : Int) * 2500 - 500000))
  | none => max 0 (min t (s.timedPulse st e).2 - (s.timedPulse st e).1)

/-- R155: an edge on BD: given to the lowest emitter whose pulse is on, or a stray. -/
def State.bdEdge (s : State) (st t : Nat) (w : Int) : State :=
  match (s.emitters st).find? (fun e => s.pulseOn st e t) with
  | some e => (s.modSc st (fun c => { c with edges := c.edges ++ [⟨e, t, w⟩] })).onRun (s.beamOf st e) (s.rollRun st e t)
  | none => s.inc (F.ST_FACET_STAT_STRAY st)

def execBdEdge (st : Fin 8) (t : Nat) (w : Int) (s : State) : Out State Fault Refusal := .next (s.live (s.bdEdge st t w))

/-- R157: the emitters whose end-of-scan pulse is fired in the present facet: emitter b = revolution count mod 8 of each
octet of the station. -/
def State.firesEos (s : State) (st e : Nat) : Bool :=
  s.on (F.ST_SCANCTL_SCAN_EN st) && !s.on (F.ST_SCANCTL_NOSCAN st) && (s.sc st).tf.isSome && s.pllKept st
    && s.beamOf st e % 8 == (s.sc st).revs % 8 && e < s.beamCount st && !s.excluded st (s.beamOf st e)
    && s.mayEmit (s.beamOf st e)

/-- The BD arrival of an emitter in the facet being scanned, and its expected crossing where it gave no edge. -/
def State.arrival (s : State) (st e : Nat) : Int :=
  let c := s.sc st
  match (if c.refDone then c.edges else c.last).find? (fun g => g.e = e) with
  | some g => g.t
  | none => if c.refDone then s.crossing st e else c.lastTf + s.pixTime st (s.soff st c.lastFacet e)

/-- R157, R159: an emitter's expected EOS crossing: T_REF / (1 + LSCALE) after its BD arrival, which is what LSCALE says of T.
DEDUCED (log 31). -/
def State.eosCrossing (s : State) (st e : Nat) : Int :=
  let tr := s.rd (F.ST_SCAN_REF_T_REF st)
  s.arrival st e + (if tr = 0 then ((Config.eosTime st e).toNat : Int)
    else roundHalf (tr * 16777216) (16777216 + s.lscale st (s.rd (F.ST_FACET_STAT_FACET st)) e).toNat)

/-- R157: whether the end-of-scan pulse of an emitter is on at an instant: from 200 ns before the expected crossing, for at
most 400 ns, until its first EOS edge. -/
def State.eosOn (s : State) (st e : Nat) (t : Int) : Bool :=
  s.firesEos st e && !(s.sc st).eosHit.contains e && s.eosCrossing st e - 50000 ≤ t && t ≤ s.eosCrossing st e + 50000

/-- R157: the scan window of a station holds an instant: from the start of the next roll-call window on, or from the start of the
present facet's to the end of its end-of-scan pulses; in ACQUIRE the window stays open (R217). -/
def State.inScan (s : State) (st : Nat) (t : Int) : Bool :=
  match s.phase st with
  | 0 => false
  | 1 => true
  | _ =>
    let es := (s.emitters st).filter (fun e => s.beamOf st e % 8 == (s.sc st).revs % 8)
    let stop := (es.map (fun e => s.eosCrossing st e + 50000)).foldl max (s.closeAt st (s.sc st).that)
    decide (s.windowOpen st ≤ t) || (decide ((s.sc st).that - 500000 ≤ t) && decide (t ≤ stop))

/-- R155, R157, R159: an edge on EOS: given to the lowest emitter whose end-of-scan pulse is on, which it turns off; T(e, f)
is measured against the emitter's BD arrival. An edge while no pulse is on is a stray. -/
def State.eosEdge (s : State) (st t : Nat) : State :=
  match (s.emitters st).find? (fun e => s.eosOn st e t) with
  | none => s.inc (F.ST_FACET_STAT_STRAY st)
  | some e =>
    let c := s.sc st
    let s := (s.modSc st (fun c => { c with eosHit := c.eosHit ++ [e] })).onRun (s.beamOf st e) (t - (s.eosCrossing st e - 50000))
    match (if c.refDone then c.edges else c.last).find? (fun g => g.e = e) with
    | some g => (s.modSc st (fun c => { c with eos := c.eos ++ [(e, t - g.t)] })).wr (F.ST_SCAN_TIME_SCAN st) (t - g.t)
    | none => s

def execEosEdge (st : Fin 8) (t : Nat) (s : State) : Out State Fault Refusal := .next (s.live (s.eosEdge st t))

/-! ### Signatures (R159–R161) -/

/-- R159: field + (sample − field) / n, the sample being `num / den`, rounded half up. -/
def sigUpdate (field : Int) (n : Nat) (num : Int) (den : Nat) : Int :=
  roundHalf (field * (n - 1 : Nat) * den + num) (n * den)

def Scan.sampled (c : Scan) (k : Nat) : Nat × Nat := ((c.samples.find? (fun x => x.1 = k)).map (·.2)).getD (0, 0)

def Scan.count (c : Scan) (k : Nat) (soff lscale : Nat) : Scan :=
  let (a, b) := c.sampled k
  { c with samples := (k, a + soff, b + lscale) :: c.samples.filter (fun x => x.1 != k) }

/-- k = 2^SIG_SHIFT (R159, R181). -/
def State.sigK (s : State) (st : Nat) : Nat := 2 ^ max 1 (s.rd (F.ST_SIG_CTL_SIG_SHIFT st))

/-- R159: an SOFF sample of an emitter on a facet, for its arrival at `a` after the reference `tf`. -/
def State.soffSample (s : State) (st f e : Nat) (a tf : Int) : State :=
  let n := ((s.sc st).sampled (32 * f + e)).1 + 1
  let v := sigUpdate (s.soff st f e) (min n (s.sigK st)) ((a - tf) * s.fcwNow st) (s.tickDen st)
  (s.wrS (F.ST_SIG_SOFF st f e) (if e = 0 then 0 else clampI (-32768) 32767 v)).modSc st (fun c => c.count (32 * f + e) 1 0)

/-- R159: an LSCALE sample of an emitter on a facet, for the BD-to-EOS time `t`; T_REF 0 gives none (R181). -/
def State.lscaleSample (s : State) (st f e t : Nat) : State :=
  let tr := s.rd (F.ST_SCAN_REF_T_REF st)
  if tr = 0 ∨ t = 0 then s else
  let n := ((s.sc st).sampled (32 * f + e)).2 + 1
  let v := sigUpdate (s.lscale st f e) (min n (s.sigK st)) (((tr : Int) - t) * 16777216) t
  (s.wrS (F.ST_SIG_LSCALE st f e) (clampI (-32768) 32767 v)).modSc st (fun c => c.count (32 * f + e) 0 1)

def State.sigState (s : State) (st : Nat) : Nat := s.rd (F.ST_FACET_STAT_SIG_STATE st)

/-- R160: every entry of the signature is cleared: the words of the station's signature read 0, which they do unlisted. -/
def State.sigZero (s : State) (st : Nat) : State :=
  let base := (F.ST_SIG_SOFF st 0 0).off
  ({ s with regs := s.regs.filter (fun e => !(base ≤ e.1 / 32 && e.1 / 32 < base + 0x800)) } : State).modSc st
    (fun c => { c with samples := [], means := [] })

/-- R213: roll-call pulses that end without an edge, because their window is given up, enter ONMAX. -/
def State.endCalls (s : State) (st : Nat) : State :=
  (s.emitters st).foldl (fun (s : State) e =>
    let b := s.beamOf st e
    if s.called st e && s.mayEmit b && !(s.sc st).edges.any (fun g => g.e = e) then s.onRun b (s.rollRun st e (s.now * 250)) else s) s

/-- R216: the phase goes to ACQUIRE where roll call runs. -/
def State.toAcquire (s : State) (st : Nat) : State :=
  if s.phase st = 0 then s else
  ((s.endCalls st).wr (F.ST_ROLL_STAT_PHASE st) 1).modSc st (fun c => { c with
    tf := none, m := none, since := s.now, first := true, refDone := false, edges := [], last := [], eos := []
    search := 1, seeded := 0, srchMiss := 0, tried := 0, steady := 0, found := 0, eosHit := [] })

/-- R160, R216: the signature is cleared to EMPTY; the station returns to ACQUIRE. -/
def State.sigClear (s : State) (st : Nat) : State :=
  let s := ((s.sigZero st).wr (F.ST_FACET_STAT_SIG_STATE st) 0).modSc st (fun c => { c with
    gap := false, numbered := false, steady := 0, wasValid := false })
  s.toAcquire st

def execSigClear (st : Fin 8) (s : State) : Out State Fault Refusal := .next (s.live (s.sigClear st))

/-- R160: every entry holds enough samples, those of dropped emitters and of emitters held OFF too, which take none (R159). -/
def State.sigFull (s : State) (st : Nat) : Bool :=
  (List.range (s.facets st)).all (fun f => (s.emitters st).all (fun e =>
    let (a, b) := (s.sc st).sampled (32 * f + e)
    decide (16 ≤ a) && decide (2 ≤ b)))

/-- R160, R216: identification is refused: the signature is cleared and learned again; the station returns to ACQUIRE. -/
def State.relearn (s : State) (st why : Nat) : State :=
  (((((s.sigZero st).wr (F.ST_FACET_STAT_SIG_STATE st) 1).post 0 0x3110 4 st [(0, 1, why)]).modSc st (fun c => { c with
    gap := false, numbered := true })).wr (F.ST_FACET_STAT_FACET st) (s.facets st - 1)).toAcquire st

/-- R161: the sum of absolute differences for rotation `r`. -/
def rotSum (meas stored : List Int) (r : Nat) : Nat :=
  ((List.range meas.length).map (fun j => (meas.getD j 0 - stored.getD ((j + r) % stored.length) 0).natAbs)).sum

/-- R161: the accepted rotation: the only least sum, at most half of the second-least (log 32). -/
def matchRotation (meas stored : List Int) : Option Nat :=
  let sums := (List.range stored.length).map (fun r => (rotSum meas stored r, r))
  match sortBy (fun a b => decide (a.1 ≤ b.1)) sums with
  | (a, r) :: (b, _) :: _ => if a < b && 2 * a ≤ b then some r else none
  | _ => none

/-- Stored facet means of LSCALE over the emitters, × 256. -/
def State.storedMeans (s : State) (st : Nat) : List Int :=
  (List.range (s.facets st)).map (fun f =>
    roundHalf (256 * ((s.emitters st).map (fun e => s.lscale st f e)).foldl (· + ·) 0) (max 1 (s.beamCount st)))

/-- The mean LSCALE measured on the facet that has just ended, × 256. -/
def State.measuredMean (s : State) (st : Nat) : Int :=
  let tr := s.rd (F.ST_SCAN_REF_T_REF st)
  let xs := (s.sc st).eos.filter (fun x => x.2 != 0)
  if tr = 0 then 0 else
  roundHalf ((xs.map (fun x => roundHalf (((tr : Int) - x.2) * 16777216 * 256) x.2)).foldl (· + ·) 0) (max 1 xs.length)

/-- R159: the samples of the facet whose window closed last; a dropped emitter gives none. SOFF samples are of timed pulses
(R218) of facets on which emitter 0 arrived, from whose arrival they are measured. -/
def State.takeSamples (s : State) (st : Nat) : State :=
  let c := s.sc st
  let arr := if c.lastTimed && c.last.any (fun g => g.e = 0) then c.last.filter (fun g => !s.dropped st g.e) else []
  let eos := c.eos.filter (fun x => !s.dropped st x.1)
  let s := arr.foldl (fun (s : State) (g : Edge) => s.soffSample st c.lastFacet g.e g.t c.lastTf) s
  eos.foldl (fun (s : State) (x : Nat × Nat) => s.lscaleSample st c.lastFacet x.1 x.2) s

/-- R160: LEARNING becomes VALID with 0x3111 once every entry holds enough samples. -/
def State.learnStep (s : State) (st : Nat) : State :=
  if s.sigState st = 1 && s.sigFull st then (s.wr (F.ST_FACET_STAT_SIG_STATE st) 2).post 0 0x3111 4 st [] else s

/-- R159–R161: at a facet reference the facet before it gives its samples, and the signature moves on. -/
def State.sigStep (s : State) (st : Nat) : State :=
  let c := s.sc st
  let s :=
    if (s.sigState st = 1 || s.sigState st = 2) && c.numbered && !c.gap then (s.takeSamples st).learnStep st
    else if s.sigState st = 3 && !c.gap then s.modSc st (fun c => { c with means := c.means ++ [s.measuredMean st] })
    else s
  let s := (s.emitters st).foldl (fun (s : State) (e : Nat) =>
    if s.firesEos st e && !c.eosHit.contains e then s.onRun (s.beamOf st e) 100000 else s) s
  s.modSc st (fun c => { c with last := [], eos := [], eosHit := [] })

/-- R160, R161: what a gap and IDENTIFYING do at a reference: IDENTIFYING begins at the next regular BD after the gap, and
gives way to LEARNING as soon as ID_EN is 0. -/
def State.sigIdentify (s : State) (st : Nat) (regular : Bool) : State :=
  let c := s.sc st
  if c.gap && (s.sigState st = 1 || s.sigState st = 2 || s.sigState st = 3) then
    if !regular then s else
    let s := s.modSc st (fun c => { c with
      gap := false, means := [], wasValid := s.sigState st = 2 || (s.sigState st = 3 && c.wasValid) })
    if s.on (F.ST_SIG_CTL_ID_EN st) then s.wr (F.ST_FACET_STAT_SIG_STATE st) 3 else s.relearn st 1
  else if s.sigState st = 3 && !s.on (F.ST_SIG_CTL_ID_EN st) then s.relearn st 1
  else if s.sigState st = 3 && 2 * s.facets st ≤ c.means.length then
    match matchRotation c.means (s.storedMeans st) with
    | some r =>
      ((s.wr (F.ST_FACET_STAT_SIG_STATE st) (if c.wasValid then 2 else 1)).wr (F.ST_FACET_STAT_FACET st)
        ((r + c.means.length + s.facets st - 1) % s.facets st)).modSc st (fun c => { c with means := [] })
    | none => s.relearn st 0
  else s.modSc st (fun c => { c with gap := false })

/-! ### Web-locked phase (R169–R173) -/

/-- R169: the nominal target, 1/256 unit, in [0, P_LINE). -/
def State.phaseGoal (s : State) (st : Nat) : Int :=
  ((s.rdS (F.ST_PH_OFF_PH_OFF 0) * 256 + (s.sc st).dsEff * 65536) % (max 1 (s.pLine st) : Nat)) / 256

/-- R173: the target of a station that is between frames moves: the whole-line part at once, the rest in a slew. -/
def State.retarget (s : State) (st : Nat) : State :=
  let g := s.phaseGoal st
  let c := s.sc st
  if g = c.goal then s else
  let p : Int := s.pLine st / 256
  let d := (g - c.theta + p / 2) % (max 1 p) - p / 2
  (s.modSc st (fun c => { c with goal := g, theta := g - d, m := none })).wr (F.ST_PH_STAT_SLEWING st) (b2n (d ≠ 0))

/-- PH_TGT reads the actual target, reduced to [0, P_LINE). -/
def State.showTarget (s : State) (st : Nat) : State :=
  s.wrS (F.ST_PH_TGT_TGT st) (((s.sc st).theta * 256 % (max 1 (s.pLine st) : Nat)) / 256)

/-- R173: one facet's step of a slew. -/
def State.slewStep (s : State) (st : Nat) : State :=
  let c := s.sc st
  let step : Int := 16 * max 1 (s.rd (F.ST_PH_CTL_PH_SLEW st))
  if c.theta = c.goal then (s.wr (F.ST_PH_STAT_SLEWING st) 0).showTarget st else
  let t := c.theta + clampI (-step) step (c.goal - c.theta)
  ((s.modSc st (fun c => { c with theta := t })).wr (F.ST_PH_STAT_SLEWING st) (b2n (t ≠ c.goal))).showTarget st

/-- R170: m(f) for a facet start. -/
def State.gridLine (s : State) (st : Nat) (w : Int) : Int :=
  roundHalf ((w - (s.sc st).theta) * 256) (max 1 (s.pLine st))

/-- R171: the phase error, 1/256 unit. -/
def State.phaseErr (s : State) (st : Nat) (w : Int) : Int :=
  let p : Int := max 1 (s.pLine st)
  (((w - (s.sc st).theta) * 256 + p / 2) % p - p / 2) / 256

/-- R172: lock and unlock counting with the facet's error. -/
def State.lockStep (s : State) (st : Nat) (err : Int) : State :=
  let win := 256 * s.rd (F.ST_PH_LOCKCFG_LOCK_WIN st)
  let s := (s.wrS (F.ST_PH_ERR_ERR st) err).wr (F.ST_PH_STAT_PEAK st)
    (max (s.rd (F.ST_PH_STAT_PEAK st)) (min 65535 (err.natAbs / 256)))
  if err.natAbs ≤ win then
    let n := (s.sc st).lockRun + 1
    let s := s.modSc st (fun c => { c with lockRun := n, unlockRun := 0 })
    if s.rd (F.ST_PH_LOCKCFG_LOCK_CNT st) ≤ n then s.wr (F.ST_PH_STAT_PH_LOCKED st) 1 else s
  else
    let n := (s.sc st).unlockRun + 1
    let s := s.modSc st (fun c => { c with lockRun := 0, unlockRun := n })
    if n = 4 && s.on (F.ST_PH_STAT_PH_LOCKED st) then
      (s.wr (F.ST_PH_STAT_PH_LOCKED st) 0).post 1 0x3100 4 st [(0, 4, uBits 32 err)]
    else s

/-- A frame line that has been written, left blank or concealed. -/
def Scan.accounted (c : Scan) (y : Nat) : Bool :=
  c.wrote.any (fun x => x.1 = y) || c.blank.contains y || c.healed.contains y

/-- R165, R166: some emitter still reaches grid line `n` on this facet or a later one. -/
def State.reaches (s : State) (st : Nat) (m n : Int) : Bool :=
  (s.emitters st).any (fun e =>
    let d := n + (e : Int) * s.pitch st - m
    decide (0 ≤ d) && d % (max 1 (s.nAdv st) : Nat) = 0)

/-- R172: frame lines before grid line `m` that no mapped write reaches any more. -/
def State.missedLines (s : State) (st p : Nat) (m : Int) : List Nat :=
  let c := s.sc st
  (List.range (s.slot p).lines).filter (fun y =>
    c.g0 + (y : Int) < m && !c.accounted y && !s.reaches st m (c.g0 + y))

/-- Lines of a station left blank: counted, and the page SPOILED with BLANK_LINES. -/
def State.blankLines (s : State) (st p cause : Nat) (ys : List Nat) : State :=
  if ys = [] then s else
  (s.modSc st (fun c => { c with blank := c.blank ++ ys })).modSlot p (fun x =>
    ((x.worsen 2 cause).flagSt st 32).blank ys.length)

/-- R172: a change of m(f) other than N_adv is a slip. -/
def State.slipStep (s : State) (st : Nat) (m : Int) : State :=
  match (s.sc st).m with
  | none => s
  | some m0 =>
    if m - m0 = s.nAdv st then s else
    let ys := match s.slotOn st with
      | some p => s.missedLines st p m
      | none => []
    let s := ((s.inc (F.ST_PH_SLIPS_SLIPS st)).legSst st L.SSTAT_SLIP).post 2 0x3101 4 st
      [(0, 2, uBits 16 (m - m0)), (2, 1, s.slotByte st), (3, 4, ys.length)]
    match s.slotOn st with
    | some p => s.blankLines st p 0x3101 ys
    | none => s

/-! ### Facet references (R156, R158) -/

/-- Whether a period agrees with the one expected within ±1 % (R160). -/
def near1 (a b : Nat) : Bool := (((a : Int) - b).natAbs) * 100 ≤ b

/-- R156: the reference of the facet whose window is open: the arrival of emitter 0, of the lowest emitter less its
SOFF, or the prediction; with whether it was measured. In SEARCH the arrival of another emitter is its seed's, which
makes the reference t̂_f (R218, log 114). -/
def State.reference (s : State) (st : Nat) (w : Int) : Option (Nat × Int × Bool) :=
  let c := s.sc st
  match sortBy (fun a b => decide (a.e ≤ b.e)) c.edges with
  | g :: _ =>
    if g.e = 0 then some (g.t, g.w, true)
    else if s.phase st = 2 then some (s.tHat st, w, true)
    else some ((g.t - s.pixTime st (s.soff st (s.facetOpen st) g.e)).toNat, w, true)
  | [] =>
    match c.tf with
    | some t => if s.lastPeriod st = 0 then none else some (t + s.lastPeriod st, w, false)
    | none => none

/-- R158, R160: the index of the new facet, and EMPTY to LEARNING after three regular references. -/
def State.indexStep (s : State) (st : Nat) (regular : Bool) : State :=
  let c := s.sc st
  let f := s.rd (F.ST_FACET_STAT_FACET st)
  let s := s.modSc st (fun c => { c with steady := if regular then c.steady + 1 else 0 })
  if s.sigState st = 0 then
    if 3 ≤ c.steady then
      ((s.wr (F.ST_FACET_STAT_SIG_STATE st) 1).wr (F.ST_FACET_STAT_FACET st) 0).modSc st (fun c => { c with
        numbered := true, revs := 0 })
    else s
  else
    let f' := (f + 1) % s.facets st
    (s.wr (F.ST_FACET_STAT_FACET st) f').modSc st (fun c => { c with revs := if f' = 0 then c.revs + 1 else c.revs })

/-- R156–R173: a facet reference. `w` is the WPOS at t_f, in 1/256 unit, where emitter 0 did not arrive. -/
def State.facetRef (s : State) (st : Nat) (w : Int) : State :=
  let c := s.sc st
  if !s.on (F.ST_SCANCTL_SCAN_EN st) || s.on (F.ST_SCANCTL_NOSCAN st) || c.refDone then s else
  match s.reference st w with
  | none => s
  | some (t, wf, real) =>
    let that := match c.tf with
      | some t0 => t0 + s.lastPeriod st
      | none => t
    let measured := real && c.tf.isSome && c.bdT = c.tf
    let per := match c.tf with
      | some t0 => if measured then t - t0 else 0
      | none => 0
    let expect := match s.setPeriod st with
      | some p => p
      | none => s.period st
    let regular := measured && near1 per expect
    let s := if per = 0 then s else s.wr (F.ST_FACET_PERIOD_PERIOD st) per
    let s := s.wr (F.ST_FACET_STAT_BD_OK st) (b2n regular)
    let s := if s.phase st = 1 && real then s.wr (F.ST_ROLL_STAT_PHASE st) 2 else s
    let s := (s.sigStep st).sigIdentify st regular
    let s := if real then s.modSc st (fun c => { c with bdT := some t }) else s
    if s.phase st = 1 then s.modSc st (fun c => { c with refs := c.refs + 1 }) else
    let s := (s.indexStep st regular).slewStep st
    let m := s.gridLine st wf
    let s := (s.lockStep st (s.phaseErr st wf)).slipStep st m
    s.modSc st (fun c => { c with
      tf := some t, wf := wf, m := some m, refDone := true, begun := 0, fno := c.fno + 1
      refs := c.refs + 1
      found := c.found + 1
      that := that
      since := if real then s.now else c.since
      first := c.first && !real })

/-- R158, R160: a gap between measured references longer than two facet periods ends the facet count, also one that
predictions have bridged and one that a no-scan cut has ended. -/
def State.facetGap (s : State) (st : Nat) : State :=
  match (s.sc st).bdT with
  | some t =>
    if s.period st ≠ 0 && t + 2 * s.period st < s.now * 250 then
      (s.wr (F.ST_FACET_STAT_BD_OK st) 0).modSc st (fun c => { c with gap := true, m := none, steady := 0 })
    else s
  | none => s

def execFacetGap (st : Fin 8) (s : State) : Out State Fault Refusal := .next (s.live (s.facetGap st))

/-- R181: ST_PH_CLR. -/
def execStPhClr (st : Fin 8) (s : State) : Out State Fault Refusal :=
  .next (s.live ((s.wr (F.ST_PH_STAT_PEAK st) 0).wr (F.ST_PH_SLIPS_SLIPS st) 0))

/-! ### Marks (R174–R176, R184) -/

/-- R175: E of a plan entry on a frame, in 1/65,536 unit. -/
def State.markExpect (s : State) (fp : Int) (n : Nat) : Int :=
  (fp + s.rd (F.MK_POS_POS (s.rd (F.REG_PLAN_SENSOR n)))) * 65536
    + s.rd (F.REG_PLAN_Y_Y n) * s.pLine (s.rd (F.REG_PLAN_STATION n))

/-- The enabled plan entries that apply to a frame (R175). -/
def State.plansOf (s : State) (mask : Nat) : List Nat :=
  (List.range 64).filter (fun n => s.on (F.REG_PLAN_EN n) && s.on (F.MK_CFG_EN (s.rd (F.REG_PLAN_SENSOR n)))
    && s.rd (F.REG_PLAN_KIND n) ≤ 2 && mask.testBit (s.rd (F.REG_PLAN_STATION n)))

/-- R174: whether a position lies in a window. -/
def State.inMark (s : State) (fp : Int) (n : Nat) (w : Int) : Bool :=
  (w * 65536 - s.markExpect fp n).natAbs ≤ s.rd F.MK_CTL_WIN * 65536

def State.modReg (s : State) (i : Nat) (f : RegFrame → RegFrame) : State := { s with regf := s.regf.modify i f }

/-- R175: an admitted frame's mark windows are expected. -/
def State.expectMarks (s : State) (p : Nat) : State :=
  let x := s.slot p
  if s.plansOf x.mask = [] then s else
  { s with regf := s.regf ++ [{ slot := p, tag := x.tag, pageId := x.pageId, mask := x.mask, fp := x.fp }] }

/-- The frame and plan entry whose window a leading edge of a sensor falls in: the earliest frame, the lowest entry that
has neither a mark nor a leading edge. -/
def State.markLead (s : State) (k : Nat) (w : Int) : Option (Nat × Nat) :=
  (List.range s.regf.length).findSome? (fun i =>
    let r := s.regf.getD i {}
    ((s.plansOf r.mask).find? (fun n => s.rd (F.REG_PLAN_SENSOR n) = k && s.inMark r.fp n w
      && !r.marks.any (fun m => m.plan = n) && !r.lead.any (fun l => l.1 = n))).map (fun n => (i, n)))

/-- The frame and leading edge of a sensor that wait for a trailing edge. -/
def State.markTrail (s : State) (k : Nat) (w : Int) : Option (Nat × Nat × Nat × Int) :=
  (List.range s.regf.length).findSome? (fun i =>
    let r := s.regf.getD i {}
    (r.lead.find? (fun l => s.rd (F.REG_PLAN_SENSOR l.1) = k && s.inMark r.fp l.1 w)).map (fun l => (i, l)))

/-- The slot still holds the page of a frame. -/
def State.regCurrent (s : State) (r : RegFrame) : Bool :=
  (s.slot r.slot).st != .free && (s.slot r.slot).fp == r.fp && (s.slot r.slot).pageId == r.pageId

/-- R174, R176, R184: a completed mark. -/
def State.markDone (s : State) (i n k etime : Nat) (w0 w1 : Int) : State :=
  let r := s.regf.getD i {}
  let e := s.markExpect r.fp n
  let m : Mark := ⟨n, s.rd (F.REG_PLAN_STATION n), k, s.rd (F.REG_PLAN_KIND n), (w0 + w1) * 65536 - 2 * e⟩
  let s := (s.modReg i (fun r => { r with lead := r.lead.filter (fun l => l.1 != n), marks := r.marks ++ [m] })).inc
    (F.MK_COUNT_COUNT k)
  let s := if s.regCurrent r then s.modSlot r.slot (fun x => { x with marks := x.marks + 1 }) else s
  if s.on F.MK_CTL_REC_EN then
    s.putOrDrop 26 ⟨[mkEntry [(0, 1, 0xB0), (4, 4, r.tag), (8, 1, k), (9, 1, n), (10, 1, m.station), (12, 2, r.slot),
      (16, 8, etime), (24, 8, uBits 64 w0), (32, 8, uBits 64 w1), (40, 8, uBits 64 (e / 65536))]], false, none, none, none⟩
  else s

/-- R62: an edge of the delivery mark sensor inside the window of a page. -/
def State.delivMark (s : State) (k : Nat) (w : Int) : State :=
  if s.on F.ALM_CTL_DELIV_MK_EN && s.rd F.ALM_CTL_DELIV_MK = k then
    { s with alm := { s.alm with slots := s.alm.slots.map (fun x =>
      if (x.st.inFlight || x.st = .delivered) && (w - (x.fp + x.delivPos)).natAbs ≤ s.rd F.ALM_DELIV_WIN_DELIV_WIN
      then { x with delivEdge := true } else x) } }
  else s

/-- R174: an edge of a mark sensor that has passed the filter, leading or trailing, with the ETIME and WPOS it came at. -/
def State.markTake (s : State) (k : Nat) (leading : Bool) (etime : Nat) (w : Int) : State :=
  let s := s.delivMark k w
  if !s.on (F.MK_CFG_EN k) then s
  else if leading then
    match s.markLead k w with
    | some (i, n) => s.modReg i (fun r => { r with lead := r.lead ++ [(n, etime, w)] })
    | none => s
  else
    match s.markTrail k w with
    | some (i, n, t0, w0) => s.markDone i n k t0 w0 w
    | none => s

def State.mkPin (s : State) (k : Nat) : MkPin := s.mks.getD k {}

/-- R174, R182: a pin that has held its level for FILT ticks passes the filter; a mark drives the pin to its POL level. The
edge carries the ETIME and WPOS of the tick on which the pin changed (R10). -/
def State.markSettle (s : State) (k : Nat) : State :=
  let m := s.mkPin k
  if m.raw ≠ m.level && m.at_ + 10 * s.rd (F.MK_CFG_FILT k) ≤ s.now then
    ({ s with mks := s.mks.modify k (fun m => { m with level := m.raw }) } : State).markTake k
      (m.raw == s.on (F.MK_CFG_POL k)) m.etime m.w
  else s

/-- R10, R174: the pin MK[k] changes to `level`: ETIME and WPOS are sampled on this tick. With FILT 0 the edge counts at
once, else once the level has held for FILT ticks of 10 ns. -/
def State.markEdge (s : State) (k : Nat) (level : Bool) : State :=
  if (s.mkPin k).raw = level then s else
  ({ s with mks := s.mks.modify k (fun m => { m with raw := level, at_ := s.now, etime := s.etime, w := s.wpos }) } : State).markSettle k

/-- Every mark sensor's filter on a tick. -/
def State.markTick (s : State) : State := (List.range 16).foldl State.markSettle s

def execMarkEdge (k : Fin 16) (level : Bool) (s : State) : Out State Fault Refusal := .next (s.live (s.markEdge k level))

/-! ### The registration loop (R176–R179) -/

/-- R176: i(s, k) less F_p and MK_POS, doubled (1/262,144 unit). -/
def RegFrame.inTrack (r : RegFrame) (st k : Nat) : Option Int :=
  let of (kind : Nat) : Option Int := (r.marks.find? (fun m => m.station = st && m.sensor = k && m.kind = kind)).map (·.d)
  match of 0 with
  | some d => some (2 * d)
  | none => match of 1, of 2 with
    | some p, some n => some (p + n)
    | _, _ => none

/-- R176: x(s, k), doubled (1/262,144 unit). -/
def RegFrame.crossTrack (r : RegFrame) (st k : Nat) : Option Int :=
  let of (kind : Nat) : Option Int := (r.marks.find? (fun m => m.station = st && m.sensor = k && m.kind = kind)).map (·.d)
  match of 1, of 2 with
  | some p, some n => some (n - p)
  | _, _ => none

/-- The differences of a measure between a station and a reference, by sensor. -/
def diffs (f : Nat → Nat → Option Int) (st ref : Nat) : List (Nat × Int) :=
  (List.range 16).filterMap (fun k => match f st k, f ref k with
    | some a, some b => some (k, a - b)
    | _, _ => none)

def sumI (l : List Int) : Int := l.foldl (· + ·) 0

/-- A mean as a rounded number of 1/256 units; the list is in 1/262,144 unit. -/
def meanReg (l : List (Nat × Int)) : Int := roundHalf (sumI (l.map (·.2))) (1024 * max 1 l.length)

/-- R176: e_xs as numerator and denominator of a slope, over at least two different XPOS. -/
def State.slope (s : State) (st : Nat) (l : List (Nat × Int)) : Option (Int × Nat) :=
  let pts := l.map (fun (k, y) => (((s.rd (F.MK_XPOS_XPOS k) * s.pLine st : Nat) : Int), y))
  let n : Int := pts.length
  let sx := sumI (pts.map (·.1))
  let sy := sumI (pts.map (·.2))
  let num := n * sumI (pts.map (fun p => p.1 * p.2)) - sx * sy
  let den := n * sumI (pts.map (fun p => p.1 * p.1)) - sx * sx
  if den ≤ 0 then none else some (num, 4 * den.toNat)

/-- R32, R177: DS_TRIM requested, clamped at ±DS_LIM with 0x3120. -/
def State.trimDs (s : State) (st : Nat) (v : Int) : State :=
  let lim : Int := s.rd (F.ST_DS_LIM_DS_LIM st)
  let s := s.wrS (F.ST_DS_TRIM_DS_TRIM st) (clampI (-lim) lim v)
  if v < -lim ∨ lim < v then s.post 1 0x3120 4 st [(0, 4, uBits 32 v)] else s

def State.trimXoff (s : State) (st : Nat) (v : Int) : State :=
  let lim : Int := s.rd (F.ST_XOFF_LIM_XOFF_LIM st)
  let s := s.wrS (F.ST_XOFF_TRIM_XOFF_TRIM st) (clampI (-lim) lim v)
  if v < -lim ∨ lim < v then s.post 1 0x3121 4 st [(0, 4, uBits 32 v)] else s

def State.trimXscale (s : State) (st : Nat) (v : Int) : State :=
  let lim : Int := s.rd (F.ST_XSCALE_LIM_XS_LIM st)
  let s := s.wrS (F.ST_XSCALE_TRIM_XSCALE_TRIM st) (clampI (-lim) lim v)
  if v < -lim ∨ lim < v then s.post 1 0x3122 4 st [(0, 4, uBits 32 v)] else s

/-- R178: CONVERGED after an updated frame. `it` and `xt` are in 1/256 unit. -/
def State.convergeStep (s : State) (st : Nat) (it xt : Int) : State :=
  let win := 256 * s.rd (F.ST_REG_CONV_CONV_WIN st)
  let inside := it.natAbs ≤ win && xt.natAbs ≤ win
  let s := s.modSc st (fun c => { c with conv := if inside then c.conv + 1 else 0 })
  let s := if inside && s.rd (F.ST_REG_CONV_CONV_FRAMES st) ≤ (s.sc st).conv then s.wr (F.ST_REG_STAT_CONVERGED st) 1 else s
  if (2 * win < it.natAbs || 2 * win < xt.natAbs) && s.on (F.ST_REG_STAT_CONVERGED st) then
    (s.wr (F.ST_REG_STAT_CONVERGED st) 0).post 1 0x3132 4 st [(0, 4, uBits 32 it), (4, 4, uBits 32 xt)]
  else s

/-- R65, R179: a station's measures against the lowest station of the mask join the page's record. -/
def State.regSamples (s : State) (r : RegFrame) (st : Nat) : State :=
  let low := (bitsOf 8 r.mask).headD 8
  if !s.regCurrent r || st = low then s else
  let new := (diffs r.inTrack st low).map (fun d => (st, false, d.2))
    ++ (diffs r.crossTrack st low).map (fun d => (st, true, d.2))
  s.modSlot r.slot (fun x => { x with regs := x.regs ++ new })

/-- R177, R182: the update of one station from a frame's marks. Where no sensor gives x of both stations the last e_xt stands,
for CONVERGED too (the model's choice, log 150). -/
def State.regUpdate (s : State) (r : RegFrame) (st : Nat) : State :=
  let s := s.regSamples r st
  let ref := s.rd (F.ST_REG_CTL_REF st)
  if ref = st then s else
  let it := diffs r.inTrack st ref
  let xt := diffs r.crossTrack st ref
  if it.length < s.rd (F.ST_REG_CTL_MIN_MARKS st) ∨ it = [] then
    let k := ((List.range 16).filter (fun k => (r.inTrack st k).isSome)).headD 0
    s.post 0 0x3130 9 (0x200 + k) [(0, 1, st), (1, 1, it.length), (2, 1, r.slot)]
  else
    let eIt := meanReg it
    let eXt := if xt = [] then s.rdS (F.ST_REG_E_XT_E_XT st) else meanReg xt
    let s := (s.wrS (F.ST_REG_E_IT_E_IT st) eIt).wrS (F.ST_REG_E_XT_E_XT st) eXt
    let step (f : Fld) (v : Int) : Int := let l : Int := s.rd f; clampI (-l) l v
    let s := if s.on (F.ST_REG_CTL_IT_EN st) && st ≠ 0 then
        s.trimDs st (s.rdS (F.ST_DS_TRIM_DS_TRIM st) - step (F.ST_REG_STEP_IT_STEP st)
          (roundHalf (s.rd (F.ST_REG_GAIN_K_IT st) * sumI (it.map (·.2))) (256 * 262144 * it.length)))
      else s
    let s := if s.on (F.ST_REG_CTL_XT_EN st) && xt ≠ [] then
        s.trimXoff st (s.rdS (F.ST_XOFF_TRIM_XOFF_TRIM st) - step (F.ST_REG_STEP_XT_STEP st)
          (roundHalf (s.rd (F.ST_REG_GAIN_K_XT st) * sumI (xt.map (·.2)) * 65536) (262144 * xt.length * max 1 (s.pLine st))))
      else s
    let s := match s.slope st xt with
      | some (num, den) =>
        let s := s.wrS (F.ST_REG_E_XS_E_XS st) (roundHalf (num * 16777216) den)
        if s.on (F.ST_REG_CTL_XS_EN st) then
          s.trimXscale st (s.rdS (F.ST_XSCALE_TRIM_XSCALE_TRIM st) - step (F.ST_XSCALE_LIM_XS_STEP st)
            (roundHalf (s.rd (F.ST_REG_GAIN_K_XS st) * num * 65536) den))
        else s
      | none => s
    let s := (s.inc (F.ST_REG_STAT_UPDATES st)).wr (F.ST_REG_STAT_USED st) it.length
    s.convergeStep st eIt eXt

/-- R177: every window of a frame has closed. -/
def State.marksClosed (s : State) (r : RegFrame) : Bool :=
  (s.plansOf r.mask).all (fun n => decide (s.markExpect r.fp n + s.rd F.MK_CTL_WIN * 65536 < s.wpos * 65536))

/-- R177: the last window of the oldest frame that awaits this station's update closes: the station updates its trims,
with no island taking part. The frame is done after its last station. -/
def State.registration (s : State) (st : Nat) : State :=
  match (List.range s.regf.length).find? (fun i =>
      let r := s.regf.getD i {}
      r.mask.testBit st && !r.updated.testBit st && s.marksClosed r) with
  | none => s
  | some i =>
    let r := s.regf.getD i {}
    let s := s.regUpdate r st
    let s := s.modReg i (fun r => { r with updated := setBit r.updated st })
    { s with regf := s.regf.filter (fun r => (bitsOf 8 r.mask).any (fun t => !r.updated.testBit t)) }

def execRegistrationUpdate (st : Fin 8) (s : State) : Out State Fault Refusal := .next (s.live (s.registration st))

end Sys2Proof.Machine
end

