-- ==== Sys2Proof/Machine/Beams.lean ====
section
/-! DEFINITION. The beam drivers (chapter 07): octet supplies and enables, energy scale, automatic power control, thermal
limits, the watchdog, the no-scan cut and the interlock. -/

namespace Sys2Proof.Machine

open Sys2Proof

/-! ### Octet supply and enable (R190, R191) -/

/-- R191: the Clasp and the domain of an octet let it emit. -/
def State.octAllowed (s : State) (n : Nat) : Bool := s.domOn (16 + n) && s.claspOut (88 + n) % 2 == 1

/-- A station runs no frame. -/
def State.octIdle (s : State) (n : Nat) : Bool :=
  match s.stationOf n with
  | some st => (s.slotOn st).isNone
  | none => true

/-- R190: BSEN releases: VBS_OK reads 0. -/
def State.dropBsen (s : State) (n : Nat) : State :=
  (s.modOct n (fun o => { o with bsenAt := none })).wr (F.OCT_STAT_VBS_OK n) 0

/-- R190, R191: what an octet does when its Clasp, its domain, the safety latch or its station's frame has changed: a
disable acts at each emitter's next line start and BSEN releases when all are OFF; an enable acts at the next frame
start, or at once outside a frame. -/
def State.syncOct (s : State) (n : Nat) : State :=
  if s.octAllowed n && !s.beamsBarred then
    let s := if s.octIdle n then s.modOct n (fun o => { o with enabled := true }) else s
    if (s.oct n).bsenAt.isNone then s.modOct n (fun o => { o with bsenAt := some s.now }) else s
  else if s.octAllowed n then s.dropBsen n
  else
    let was := (s.oct n).enabled
    let s := s.modOct n (fun o => { o with enabled := false, offMask := if was then 0 else o.offMask })
    let scanning := match s.stationOf n with
      | some st => s.phase st != 0 && s.domOn (16 + n)
      | none => false
    if scanning then s else s.dropBsen n

def State.syncOcts (s : State) : State := (List.range 16).foldl State.syncOct s

/-- R191: an emitter of a disabled octet reaches a line start; BSEN releases after the last. -/
def State.octLineOff (s : State) (b : Nat) : State :=
  let n := b / 8
  if (s.oct n).enabled then s else
  let s := s.modOct n (fun o => { o with offMask := setBit o.offMask (b % 8) })
  if (s.oct n).offMask = 255 && !s.octAllowed n && (s.oct n).bsenAt.isSome then s.dropBsen n else s

/-- R213: VBS lies in its window. -/
def State.vbsIn (s : State) (n v : Nat) : Bool :=
  s.rd (F.OCT_VBS_WIN_VBS_MIN n) ≤ v && v ≤ s.rd (F.OCT_VBS_WIN_VBS_MAX n)

/-- R190: VBS has stayed in its window for 1.0 ms after BSEN asserted. -/
def State.vbsOk (s : State) (n v : Nat) : State :=
  match (s.oct n).bsenAt with
  | some t => if t + 1000000 ≤ s.now && s.vbsIn n v then (s.wr (F.OCT_STAT_VBS_OK n) 1).wr (F.OCT_VBS_VBS n) v else s
  | none => s

def execVbsOk (n : Fin 16) (vbs : Nat) (s : State) : Out State Fault Refusal := .next (s.live (s.vbsOk n vbs))

/-! ### Energy scale (R195, R196) -/

/-- E(i, j): entry q = 9j + i (R196). -/
def State.ectEntry (s : State) (n i j : Nat) : Nat :=
  let q := 9 * j + i
  let k := q / 2
  if k < 32 then s.rd (if q % 2 = 0 then F.OCT_ECT_E_EVEN n k else F.OCT_ECT_E_ODD n k)
  else s.rd (if q % 2 = 0 then F.OCT_ECTB_E_EVEN n (k - 32) else F.OCT_ECTB_E_ODD n (k - 32))

/-- R195: index of a grid cell and fraction, as a numerator over `step`. -/
def gridPart (x x0 step : Int) : Nat × Int :=
  let i := clampI 0 7 ((x - x0) / max 1 step)
  (i.toNat, clampI 0 (max 1 step) (x - x0 - i * max 1 step))

/-- R195: S of an octet for its temperature in 1/16 °C and its voltage in mV, rounded half up once. -/
def State.energyScale (s : State) (n : Nat) (t : Int) (v : Nat) : Nat :=
  let ts : Int := 16 * s.rd (F.OCT_ECT_AXES_TSTEP n)
  let vs : Int := 10 * s.rd (F.OCT_ECT_AXES_VSTEP n)
  let (i, ft) := gridPart t (16 * s.rdS (F.OCT_ECT_AXES_T0 n)) ts
  let (j, fv) := gridPart v (100 * s.rd (F.OCT_ECT_AXES_V0 n)) vs
  let ts := max 1 ts
  let vs := max 1 vs
  let row (j : Nat) : Int := (ts - ft) * s.ectEntry n i j + ft * s.ectEntry n (i + 1) j
  (roundHalf ((vs - fv) * row j + fv * row (j + 1)) (ts * vs).toNat).toNat

/-- R195: every 100 µs VBS is measured and S formed. -/
def State.energyUpdate (s : State) (n vbs : Nat) : State :=
  (s.wr (F.OCT_VBS_VBS n) vbs).wr (F.OCT_SCALE_S n) (s.energyScale n (s.rdS (F.OCT_TEMP_TEMP n)) vbs)

def execEnergyScaleUpdate (n : Fin 16) (vbs : Nat) (s : State) : Out State Fault Refusal := .next (s.live (s.energyUpdate n vbs))

/-! ### Automatic power control (R197, R198) -/

/-- R198, R200: the target of an emitter's power, reduced from the line start on at which its derate acts. -/
def State.apcTarget (s : State) (b : Nat) : Nat :=
  let t := s.rd (F.BM_APC_TGT b)
  if (s.beam b).scaled then
    (roundHalf (t * (100 - s.rd (F.OCT_TLIM_DERATE_PCT (b / 8)))) 100).toNat else t

/-- The MOD that the next line of an emitter starts from. -/
def State.modNow (s : State) (b : Nat) : Nat := ((s.beam b).next).getD (s.rd (F.BM_MOD_MOD b))

/-- R198: MOD after a measurement. -/
def State.apcMod (s : State) (b m : Nat) : Nat :=
  let step : Int := s.rd (F.OCT_APC_APC_STEP (b / 8))
  let d := clampI (-step) step (roundHalf (s.rd (F.OCT_APC_K_APC (b / 8)) * ((s.apcTarget b : Int) - m)) 256)
  (clampI (s.rd (F.BM_MOD_LIM_MOD_MIN b)) (s.rd (F.BM_MOD_LIM_MOD_MAX b)) (s.modNow b + d)).toNat

/-- R162: D(e, f). -/
def State.lineDelay (s : State) (st e : Nat) : Int :=
  clampI (-32767) 32767 (s.soff st (s.rd (F.ST_FACET_STAT_FACET st)) e + s.rdS (F.ST_FIL_TRIM_FIL_TRIM st e) + (s.sc st).xoff)

/-- R164: C before limiting. -/
def State.lineCount (s : State) (st e : Nat) : Int :=
  roundHalf (((s.sc st).xscale - s.lscale st (s.rd (F.ST_FACET_STAT_FACET st)) e) * s.rd (F.ST_GEOM_PIXELS st) * 16) 16777216

/-- R163, R164: net actions of the intercalary points in use, as (POS, slices). -/
def State.slices (s : State) (st e : Nat) : List (Nat × Int) :=
  let n : Int := s.rd (F.ST_SLICE_COUNT_SLICE_COUNT st e)
  let c := clampI (-n) n (s.lineCount st e)
  (List.range n.toNat).map (fun i =>
    let o : Int := s.rd (F.ST_SLICE_ORDER st e i)
    (s.rd (F.ST_SLICE_POS st e i), s.rdS (F.ST_SLICE_LIN st e i) + (if o < c then 1 else 0) - (if o < -c then 1 else 0)))

/-- R162–R164: when an emitter's last pixel of the present facet ends, in 4 ps units: the line starts D after the facet
reference and SOS_OFS, and its intercalary slices lengthen it. -/
def State.lineEnd (s : State) (st e : Nat) : Int :=
  ((s.sc st).tf.getD 0 : Nat) + s.pixTime st (256 * (s.rd (F.ST_SCAN_SOS_OFS st) + s.rd (F.ST_GEOM_PIXELS st) : Nat)
    + s.lineDelay st e + 16 * sumI ((s.slices st e).map (·.2)))

/-- R213: APC_PULSE of an octet, 0.25 µs units: 0 acts as 1, more than 16 as 16. -/
def State.apcUnits (s : State) (n : Nat) : Nat := min 16 (max 1 (s.rd (F.OCT_APC_APC_PULSE n)))

/-- R197: the pulse ends at least 0.5 µs before the emitter's end-of-scan pulse turns on. -/
def State.apcFits (s : State) (st e : Nat) : Bool :=
  let width := s.apcUnits (s.beamOf st e / 8)
  !s.firesEos st e || decide (s.lineEnd st e + 250000 + 62500 * (width : Int) + 125000 ≤ s.eosCrossing st e - 50000)

/-- R197: the emitter of an octet sampled in the present facet. -/
def State.apcBeam (s : State) (st n : Nat) : Nat := 8 * n + (s.sc st).refs % 8

/-- R197: the emitter whose turn it is in an octet may be sampled in the present facet. -/
def State.apcReady (s : State) (st n : Nat) : Bool :=
  let b := s.apcBeam st n
  s.on (F.BM_APC_APC_EN b) && s.on (F.ST_SCANCTL_SCAN_EN st) && !s.on (F.ST_SCANCTL_NOSCAN st) && (s.sc st).tf.isSome
    && s.pllKept st && !s.excluded st b && !s.dropped st (s.emitterOf st b) && s.mayEmit b

/-- R197: whether the sampling pulse of a beam is on at an instant: for APC_PULSE from 1.0 µs after its last pixel. -/
def State.apcOn (s : State) (st b : Nat) (t : Int) : Bool :=
  let n := b / 8
  let e := s.emitterOf st b
  s.apcBeam st n = b && s.apcReady st n && s.apcFits st e && s.lineEnd st e + 250000 ≤ t
    && t < s.lineEnd st e + 250000 + 62500 * (s.apcUnits n : Nat)

/-- R197, R198: the sample of an octet in the present facet, with measurement `m`. -/
def State.apcSample (s : State) (n m : Nat) : State :=
  match s.stationOf n with
  | none => s
  | some st =>
    let b := s.apcBeam st n
    let e := s.emitterOf st b
    if !s.apcReady st n then s
    else if !s.apcFits st e then s.inc (F.OCT_COUNT_APC_SKIP n)
    else
      let v := s.apcMod b m
      let lim := v = s.rd (F.BM_MOD_LIM_MOD_MIN b) ∨ v = s.rd (F.BM_MOD_LIM_MOD_MAX b)
      let s := s.onRun b (62500 * s.apcUnits n : Nat)
      let s := ((s.wr (F.BM_MPD_LAST b) m).inc (F.BM_MPD_SAMPLES b)).modBeam b (fun x => { x with next := some v })
      let was := s.on (F.BM_STAT_APC_LIM b)
      let s := s.wr (F.BM_STAT_APC_LIM b) (b2n lim)
      if decide lim && !was then s.post 1 0x3220 6 b [(0, 2, v), (2, 2, m), (4, 2, s.rd (F.BM_APC_TGT b))] else s

def execApcSample (n : Fin 16) (m : Nat) (s : State) : Out State Fault Refusal := .next (s.live (s.apcSample n m))

/-! ### The driver's state (R186, R188) -/

/-- R188: whether a beam's driver stands IDLE at least, its bias current flowing: inside its station's scan window, while
nothing holds it OFF; it is OFF at all other times. -/
def State.driverIdle (s : State) (b : Nat) (t : Int) : Bool :=
  match s.stationOf (b / 8) with
  | some st => s.mayEmit b && !s.excluded st b && s.on (F.ST_SCANCTL_SCAN_EN st) && !s.on (F.ST_SCANCTL_NOSCAN st) && s.inScan st t
  | none => false

/-- R162, R188: a pulse of the beam's line is on at an instant. -/
def State.linePulseOn (s : State) (st b : Nat) (t : Int) : Bool :=
  (s.beam b).pulses.any (fun x => s.onTime st b x.1 ≤ t && t < s.onTime st b (x.1 + x.2))

/-- R186, R188: the current a driver gives at an instant, in µA: none OFF, BIAS when IDLE, BIAS and MOD when ON, in a line that
line heal raises its MOD_line (R224), never more than 30,000 (R189). -/
def State.driverCurrent (s : State) (b : Nat) (t : Int) : Nat :=
  if !s.driverIdle b t then 0 else
  let x := s.beam b
  let st := (s.stationOf (b / 8)).getD 8
  let e := s.emitterOf st b
  let code := if s.linePulseOn st b t then x.lineMod
    else if s.pulseOn st e t || s.eosOn st e t || s.apcOn st b t then x.mod else 0
  min 30000 (10 * x.bias + 20 * code)

/-! ### Thermal limits (R199–R202) -/

/-- Pages ADMITTED or IMAGING on the station that have not ended there. -/
def State.thermPages (s : State) (st : Nat) (bits cause outcome : Nat) : State :=
  match s.slotOn st with
  | some p => (s.hurtAhead st outcome cause bits).modSlot p (fun x => if outcome = 2 then x.flagSt st 32 else x)
  | none => s.hurtAhead st outcome cause bits

/-- R202: derating of an octet ends: MOD scaled back, K_DER and the target restored. -/
def State.endDerate (s : State) (n : Nat) : State :=
  let pct := s.rd (F.OCT_TLIM_DERATE_PCT n)
  let s := (s.wr (F.OCT_STAT_DERATED n) 0).wr (F.OCT_SCALE_K_DER n) 16384
  let s := s.modOct n (fun o => { o with coolDerate := false, derateDue := false })
  (List.range 8).foldl (fun (s : State) k =>
    let b := 8 * n + k
    if (s.beam b).scaled then
      let v := min (s.rd (F.BM_MOD_LIM_MOD_MAX b)) (roundHalf (s.modNow b * 100) (max 1 (100 - pct))).toNat
      (s.wr (F.BM_MOD_MOD b) v).modBeam b (fun x => { x with scaled := false, next := none })
    else s) s

/-- R200: T_DERATE is reached: DERATED and the event at the sample, the rest at line starts from 2 µs on (log 122). -/
def State.thermDerate (s : State) (n : Nat) (t : Int) : State :=
  let st := (s.stationOf n).getD 8
  let s := (s.wr (F.OCT_STAT_DERATED n) 1).modOct n (fun o => { o with
    derateAt := s.now + 2000, derateDue := true, coolDerate := false })
  s.post 2 0x3201 6 (0x100 + n) [(0, 2, uBits 16 t), (2, 1, s.slotByte st)]

/-- R200, R201: T_CUT is reached, or the sensor is open or shorted: CUT_HELD and the event at the sample, the rest at line
starts from 2 µs on (log 122). Pages that an earlier cut holds OFF stay held. -/
def State.thermCut (s : State) (n : Nat) (t : Int) (bad : Bool) : State :=
  let st := (s.stationOf n).getD 8
  let s := (s.wr (F.OCT_STAT_CUT_HELD n) 1).modOct n (fun o => { o with cutAt := s.now + 2000, cutDue := true })
  let held := match s.slotOn st with
    | some p => (s.oct n).cutSlots.contains p
    | none => false
  let s := if held then s else (List.range 8).foldl (fun (s : State) (k : Nat) => s.modBeam (8 * n + k) (fun x => { x with cut := false })) s
  s.post 2 0x3202 6 (0x100 + n) [(0, 2, uBits 16 t), (2, 1, s.slotByte st), (3, 1, st), (4, 1, b2n bad)]

/-- R201: the pages in flight on the station among `ps` are SPOILED with CUT, the one being imaged with BLANK_LINES too. -/
def State.cutPages (s : State) (st : Nat) (ps : List Nat) : State :=
  (ps.filter (fun p => (s.slotsAhead st).contains p)).foldl (fun (s : State) p =>
    s.modSlot p (fun x => (x.worsen 2 0x3202).flagSt st (if s.slotOn st = some p then 160 else 128))) s

/-- R200, R201: an emitter's line start carries out the derate or the cut of its octet that is due: K_der and the pages at
the first such line start, the emitter's own OFF at its own. -/
def State.thermAct (s : State) (st b : Nat) : State :=
  let n := b / 8
  let s := if (s.oct n).derateDue && (s.oct n).derateAt ≤ s.now then
      let k := (roundHalf 1638400 (max 1 (100 - s.rd (F.OCT_TLIM_DERATE_PCT n)))).toNat
      ((s.wr (F.OCT_SCALE_K_DER n) k).modOct n (fun o => { o with derateDue := false })).thermPages st 2 0x3201 1
    else s
  let s := if (s.oct n).cutDue && (s.oct n).cutAt ≤ s.now then
      let ps := if s.on (F.OCT_STAT_CUT_HELD n) then s.slotsAhead st else (s.oct n).dueSlots
      (s.modOct n (fun o => { o with cutDue := false, cutSlots := o.cutSlots ++ ps.filter (fun p => !o.cutSlots.contains p) })).cutPages st ps
    else s
  if (s.on (F.OCT_STAT_CUT_HELD n) && (s.oct n).cutAt ≤ s.now) || !(s.oct n).cutSlots.isEmpty then
    s.modBeam b (fun x => { x with cut := true }) else s

/-- R199, R200: a sample of TH_O, as a ratio in 1/65,536 of the supply: the mean of the last four conversions is
tested against the limits, each crossing acting once. -/
def State.thermal (s : State) (n r : Nat) : State :=
  let bad := sensorBad r
  let ts := (betaTemp (s.rd (F.OCT_THERM_BETA n)) r :: (s.oct n).temps).take 4
  let t := roundHalf (sumI ts) ts.length
  let s := (s.modOct n (fun o => { o with temps := ts })).wrS (F.OCT_TEMP_TEMP n) t
  let ge (f : Fld) : Bool := bad || decide (16 * (s.rd f : Int) ≤ t)
  let warn := ge (F.OCT_TLIM_T_WARN n)
  let der := ge (F.OCT_TLIM_T_DERATE n)
  let cut := ge (F.OCT_TLIM_T_CUT n)
  let s := if warn && !s.on (F.OCT_STAT_WARN n) then s.post 0 0x3200 6 (0x100 + n) [(0, 2, uBits 16 t)] else s
  let s := s.wr (F.OCT_STAT_WARN n) (b2n warn)
  let s := if der && !s.on (F.OCT_STAT_DERATED n) then s.thermDerate n t else s
  let s := if cut && !s.on (F.OCT_STAT_CUT_HELD n) then s.thermCut n t bad else s
  let s := if s.on (F.OCT_STAT_CUT_HELD n) && !warn then
      let ps := (s.stationOf n).elim [] s.slotsAhead
      ((s.wr (F.OCT_STAT_CUT_HELD n) 0).modOct n (fun o => { o with dueSlots := ps })).post 0 0x3203 6 (0x100 + n) [(0, 2, uBits 16 t)]
    else s
  if s.on (F.OCT_STAT_DERATED n)
      && decide (t < 16 * ((s.rd (F.OCT_TLIM_T_DERATE n) : Int) - s.rd (F.OCT_THERM_HYST n))) && !bad then
    (if s.octIdle n then s.endDerate n else s.modOct n (fun o => { o with coolDerate := true }))
  else s

/-! ### Watchdog, cut failures, beam clears (R203–R205, R213) -/

/-- R203, R205: the watchdog sees a beam ON, its run being `run` 10 ns units long so far: a run over MAX_ON is cause 1, any
emission outside the station's scan window cause 2; else there is no fault. -/
def State.wdCut (s : State) (b run : Nat) : State :=
  match s.stationOf (b / 8) with
  | none => s
  | some st =>
    let cause := if s.rd (F.ST_WDOG_MAX_ON st) < run then 1 else if s.inScan st (s.now * 250) then 0 else 2
    let s := s.onRun b (2500 * run : Nat)
    if cause = 0 then s else
    let s := ((s.setW1c (F.BM_STAT_WD_CUT b) 1).wr (F.BM_STAT_WD_CAUSE b) cause).modBeam b (fun x => { x with
      pulses := [], cutSlots := s.slotsAhead st })
    let s := s.post 2 0x3230 6 b [(0, 1, cause), (1, 2, s.rd (F.BM_ONMAX_ONMAX b)), (3, 1, s.slotByte st)]
    s.hurtAhead st 2 0x3230 128

def execBeamWdCut (b : Fin 128) (run : Nat) (s : State) : Out State Fault Refusal := .next (s.live (s.wdCut b run))

/-- The line an emitter writes in the present facet has not ended. -/
def State.lineOpen (s : State) (st e : Nat) : Bool :=
  (s.sc st).tf.isSome && (s.sc st).begun.testBit e && decide (((s.now * 250 : Nat) : Int) < s.lineEnd st e)

/-- An emitter goes IDLE for the rest of its line; a line not fully written counts as blanked (R298). -/
def State.cutLine (s : State) (st e : Nat) : State :=
  let b := s.beamOf st e
  let s := match (s.beam b).line, s.slotOn st with
    | some y, some p =>
      if s.lineOpen st e && !(s.paired st && e < s.nAdv st) then
        (s.modSc st (fun c => { c with blank := c.blank ++ [y] })).modSlot p (fun x => x.blank 1)
      else s
    | _, _ => s
  (s.onRun b (s.lineRun st b (s.now * 250))).modBeam b (fun x => { x with pulses := [], line := none })

/-- Every emitter of a station stops. -/
def State.stationOff (s : State) (st : Nat) : State := (s.emitters st).foldl (fun (s : State) (e : Nat) => s.cutLine st e) s

/-- R58, R483: every beam goes OFF in the middle of its line: the lines being written are blank, and their pages carry
BLANK_LINES. -/
def State.linesCut (s : State) : State :=
  (List.range 8).foldl (fun (s : State) (st : Nat) =>
    let t := s.stationOff st
    match s.slotOn st with
    | some p => if (t.slot p).blanked = (s.slot p).blanked then t else t.modSlot p (fun x => x.flagSt st 32)
    | none => t) s

/-- R483: SAFE starts, or goes on. -/
def State.toSafe (s : State) (src code : Nat) : State := s.linesCut.safeStart src code

/-- R209, R215: a beam-supply fault of an octet, or of a beam whose cut failed. -/
def State.beamSupply (s : State) (inst kind vbs : Nat) : State :=
  ((s.wr F.VIG_LSAFE_SUPPLY_FAULT 1).post 4 0x3250 6 inst [(0, 1, kind), (1, 2, vbs)]).toSafe 2 0x3250

/-- R204: the output current of a cut beam is still above 0.5 mA 200 ns after the cut. -/
def State.cutFail (s : State) (b : Nat) : State :=
  let st := (s.stationOf (b / 8)).getD 8
  if s.excluded st b then (s.setW1c (F.BM_STAT_CUT_FAIL b) 1).beamSupply b 2 (s.rd (F.OCT_VBS_VBS (b / 8))) else s

def execCutFail (b : Fin 128) (s : State) : Out State Fault Refusal := .next (s.live (s.cutFail b))

/-- R204, R205, R13: a W1C write of BM_STAT; `amps` is the output current in µA, `again` a cut in the same cycle. -/
def State.bmStatClear (s : State) (b v amps : Nat) (again : Bool) : State :=
  let s := if v.testBit 0 && !again then s.clrW1c (F.BM_STAT_WD_CUT b) 1 else s
  if v.testBit 8 && amps < 500 then s.clrW1c (F.BM_STAT_CUT_FAIL b) 1 else s

/-- R204: a write of BM_STAT as a register; whether the output current is below 0.5 mA then is a free value (log 117). -/
def State.bmStatWrite (s : State) (b v : Nat) : State :=
  if v.testBit 8 && s.on (F.BM_STAT_CUT_FAIL b) then let (a, s) := s.free; s.bmStatClear b v a false
  else s.bmStatClear b v 0 false

def execBmStatClear (b : Fin 128) (v amps : Nat) (again : Bool) (s : State) : Out State Fault Refusal :=
  .next (s.live (s.bmStatClear b v amps again))

/-- R213: BM_ONMAX.CLR: runs count from now on. -/
def execBmOnmaxClr (b : Fin 128) (s : State) : Out State Fault Refusal :=
  .next (s.live ((s.wr (F.BM_ONMAX_ONMAX b) 0).modBeam b (fun x => { x with onSince := (s.now * 250 : Nat) })))

def execOctClr (n : Fin 16) (s : State) : Out State Fault Refusal :=
  .next (s.live (((s.wr (F.OCT_COUNT_WSAT_LINES n) 0).wr (F.OCT_COUNT_APC_SKIP n) 0).wr (F.OCT_STAT_WSAT n) 0))

/-! ### No-scan cut and scan enable (R206, R207, R216) -/

/-- R216: roll call stops; the facet timing starts anew when it runs again. -/
def State.rollOff (s : State) (st : Nat) : State :=
  ((((s.stationOff st).endCalls st).wr (F.ST_ROLL_STAT_PHASE st) 0).modSc st (fun c => { c with
    tf := none, m := none, refDone := false, edges := [], last := [], eos := [], eosHit := [], steady := 0 })).syncOcts

/-- R188: a beam takes BIAS and MOD as the registers hold them. -/
def State.latchCodes (s : State) (b : Nat) : State :=
  s.modBeam b (fun x => { x with bias := s.rd (F.BM_BIAS_BIAS b), mod := s.rd (F.BM_MOD_MOD b), lineMod := s.rd (F.BM_MOD_MOD b) })

/-- R216: roll call starts in ACQUIRE; no line is in progress, so the codes committed are in use (log 149). -/
def State.rollStart (s : State) (st : Nat) : State :=
  ((s.emitters st).foldl (fun (s : State) (e : Nat) => s.latchCodes (s.beamOf st e)) (s.wr (F.ST_ROLL_STAT_PHASE st) 1)).toAcquire st

/-- R206: the period by which the next facet reference is due. -/
def State.duePeriod (s : State) (st : Nat) : Option Nat :=
  if (s.sc st).first then s.setPeriod st
  else if s.period st = 0 then s.setPeriod st else some (s.period st)

/-- R206: the no-scan cut, once two facet periods have passed without a measured reference. -/
def State.noScanCut (s : State) (st : Nat) : State :=
  match s.duePeriod st with
  | none => s
  | some per =>
    if !s.on (F.ST_SCANCTL_SCAN_EN st) || s.on (F.ST_SCANCTL_NOSCAN st)
        || s.now * 250 ≤ (s.sc st).since * 250 + 2 * per then s
    else
      let last := s.period st
      let s := (s.rollOff st).wr (F.ST_SCANCTL_NOSCAN st) 1
      let s := s.post 2 0x3240 4 st [(0, 4, last), (4, 1, s.slotByte st)]
      s.thermPages st 0 0x3240 2

def execNoScanCut (st : Fin 8) (s : State) : Out State Fault Refusal := .next (s.live (s.noScanCut st))

/-- R207, R216: NOSCAN_CLR releases the cut; roll call that stands OFF starts again, whatever stopped it. -/
def State.noScanClr (s : State) (st : Nat) : State :=
  let s := s.wr (F.ST_SCANCTL_NOSCAN st) 0
  if s.on (F.ST_SCANCTL_SCAN_EN st) && s.phase st = 0 then s.rollStart st else s

def execNoscanClr (st : Fin 8) (s : State) : Out State Fault Refusal := .next (s.live (s.noScanClr st))

/-- R216, R207, R197: SCAN_EN set starts roll call in ACQUIRE; cleared, every emitter stops at once with no event, and pending
commits of its beams take effect at the end of the SYS cycle (`State.cycleEnd`, R273). -/
def State.scanEn (s : State) (st : Nat) (on : Bool) : State :=
  if on then
    if s.on (F.ST_SCANCTL_SCAN_EN st) then s else
    let s := (s.wr (F.ST_SCANCTL_SCAN_EN st) 1).modSc st (fun c => { c with refs := 0 })
    if s.on (F.ST_SCANCTL_NOSCAN st) then s else (s.rollStart st).syncOcts
  else ((s.rollOff st).wr (F.ST_SCANCTL_SCAN_EN st) 0).syncOcts

def execScanEnWrite (st : Fin 8) (on : Bool) (s : State) : Out State Fault Refusal := .next (s.live (s.scanEn st on))

/-! ### Interlock (R208–R210, R214) -/

/-- R208: a filtered low of an LSAFE input. -/
def State.lsafeTrip (s : State) (b : Bool) : State :=
  let s := if b then s.wr F.VIG_LSAFE_B_LOW 1 else s.wr F.VIG_LSAFE_A_LOW 1
  let s := { s with lsafe := { s.lsafe with changed := s.now } }
  (s.post 4 0x3260 15 (if b then 0x201 else 0x200)
    [(0, 1, s.rd F.VIG_LSAFE_A_LOW), (1, 1, s.rd F.VIG_LSAFE_B_LOW)]).toSafe 1 0x3260

def execLsafeTrip (b : Bool) (s : State) : Out State Fault Refusal :=
  .next (s.live (if s.on (if b then F.VIG_LSAFE_B_LOW else F.VIG_LSAFE_A_LOW) then s else s.lsafeTrip b))

/-- R214: a filtered rise of an LSAFE input; the high time of R210 starts. -/
def State.lsafeHigh (s : State) (b : Bool) : State :=
  if !s.on (if b then F.VIG_LSAFE_B_LOW else F.VIG_LSAFE_A_LOW) then s
  else if b then { s.wr F.VIG_LSAFE_B_LOW 0 with lsafe := { s.lsafe with bHigh := s.now, changed := s.now } }
  else { s.wr F.VIG_LSAFE_A_LOW 0 with lsafe := { s.lsafe with aHigh := s.now, changed := s.now } }

def execLsafeInputHigh (b : Bool) (s : State) : Out State Fault Refusal := .next (s.live (s.lsafeHigh b))

def State.lsafeDiffer (s : State) : Bool := s.rd F.VIG_LSAFE_A_LOW != s.rd F.VIG_LSAFE_B_LOW

/-- R209: VBS outside its window for more than 10 µs while BSEN is asserted and VBS_OK is 1. -/
def State.supplyFault (s : State) (n vbs : Nat) : State :=
  if (s.oct n).bsenAt.isSome && s.on (F.OCT_STAT_VBS_OK n) && !s.vbsIn n vbs then
    (s.wr (F.OCT_VBS_VBS n) vbs).beamSupply (0x100 + n) (if vbs < s.rd (F.OCT_VBS_WIN_VBS_MIN n) then 0 else 1) vbs
  else s

def execBeamSupply (n : Fin 16) (vbs : Nat) (s : State) : Out State Fault Refusal := .next (s.live (s.supplyFault n vbs))

/-- R210: the inputs have disagreed for more than 50 ms. -/
def State.disagree (s : State) : State :=
  if s.lsafeDiffer && !s.on F.VIG_LSAFE_DISAGREE && s.lsafe.changed + 50000000 < s.now then
    (s.wr F.VIG_LSAFE_DISAGREE 1).post 1 0x3261 15 0x200 [(0, 1, s.rd F.VIG_LSAFE_A_LOW), (1, 1, s.rd F.VIG_LSAFE_B_LOW)]
  else s

def execLsafeDisagree (s : State) : Out State Fault Refusal := .next (s.live s.disagree)

/-- R210: DISAGREE clears once the inputs have agreed for 10 ms. -/
def execDisagreeClear (s : State) : Out State Fault Refusal :=
  .next (s.live (if !s.lsafeDiffer && s.lsafe.changed + 10000000 ≤ s.now then s.wr F.VIG_LSAFE_DISAGREE 0 else s))

/-- R210: why a clear of the latch is refused, the lowest value that holds. -/
def State.lsafeRefusal (s : State) : Option Nat :=
  if s.on F.VIG_LSAFE_A_LOW || s.on F.VIG_LSAFE_B_LOW then some 0
  else if s.now < max s.lsafe.aHigh s.lsafe.bHigh + 10000000 then some 1
  else if s.on F.VIG_LSAFE_DISAGREE then some 2
  else if (List.range 128).any (fun b => s.on (F.BM_STAT_CUT_FAIL b)) then some 3
  else none

/-- R210, R483: VIG_LSAFE.CLR. The latch clears and SAFE ends with 0x9072, or the clear is refused with 0x3262. A web
stop that a frame stop holds remains (R481). -/
def State.lsafeClr (s : State) : State :=
  match s.lsafeRefusal with
  | some k => s.post 0 0x3262 15 0x200 [(0, 1, k)]
  | none =>
    if s.on F.VIG_LSAFE_LATCHED then
      let src := s.rd F.FAULT_STAT_SAFE_SRC
      let s := ((s.wr F.VIG_LSAFE_LATCHED 0).wr F.VIG_LSAFE_SUPPLY_FAULT 0).wr F.FAULT_STAT_SAFE 0
      let s := (s.wr F.FAULT_STAT_SAFE_SRC 0).wr F.FAULT_STAT_WSTOP (s.rd F.FAULT_STAT_FRAME_STOP)
      (s.post 0 0x9072 1 0 [(0, 1, src)]).syncOcts
    else s

def execLsafeClr (s : State) : Out State Fault Refusal := .next (s.live s.lsafeClr)

end Sys2Proof.Machine
end

