-- ==== Sys2Proof/Machine/Roll.lean ====
section
/-! DEFINITION. Roll call and emitter drops (chapter 08): the close of a roll-call window, drops, search, restores. -/

namespace Sys2Proof.Machine

open Sys2Proof

/-- The facet of the second missing call of an emitter's drop (R222). -/
def Scan.dropAt (c : Scan) (e : Nat) : Option Nat := (c.drops.find? (fun d => d.1 = e)).map (·.2)

/-- R227: the page whose frame was on the station at the first missing call and has ended there since is FLAGGED too: its
lines from that call on are part of the drop. -/
def State.flagMissed (s : State) (st e : Nat) : State :=
  match (s.sc st).missPage.find? (fun x => x.e = e) with
  | some x =>
    let p := x.slot
    if s.slotOn st != some p && (s.slot p).st != .free && (s.slot p).pageId == x.pageId then
      s.modSlot p (fun x => (x.worsen 1 0x3300).flagSt st (if s.paired st then 81 else 17))
    else s
  | none => s

/-- R221, R222, R227: an emitter is declared a drop: latched, posted, and the page on the station FLAGGED. -/
def State.dropEmitter (s : State) (st e : Nat) (search : Bool) : State :=
  let b := s.beamOf st e
  let map := setBit (s.rd (F.ST_DROP_MAP_DROPPED st)) e
  let s := (s.wr (F.ST_DROP_MAP_DROPPED st) map).wr (F.ST_ROLL_STAT_DROPS st) (popCount 32 map)
  let s := s.modSc st (fun c => { c with
    drops := c.drops ++ [(e, c.fno)], dropNow := (e, s.now) :: c.dropNow.filter (fun x => x.1 != e) })
  let s := s.post 2 0x3300 6 b
    [(0, 1, st), (1, 1, e), (2, 1, s.rd (F.ST_FACET_STAT_FACET st)), (3, 1, s.slotByte st), (4, 1, b2n search)]
  let s := s.flagMissed st e
  match s.slotOn st with
  | some p => s.modSlot p (fun x => { (x.worsen 1 0x3300).flagSt st 16 with drops := x.drops + 1 })
  | none => s.modSc st (fun c => { c with dropIdle := true })

/-- R165, R170: the frame line an emitter stands on in the present facet. -/
def State.lineUnder (s : State) (st p e : Nat) : Option Nat :=
  match (s.sc st).m with
  | some m =>
    let y := m - (e : Int) * s.pitch st - (s.sc st).g0
    if 0 ≤ y && y < (s.slot p).lines then some y.toNat else none
  | none => none

/-- R226: a line whose dropped partner's write fell in the first missing call, and whose surviving write has fallen by the
second, keeps half its energy, whether its frame is still on the station or not. Between the two calls of a search lies a facet on
which the emitter is not called: a line of that facet is not one of a missing call (the model's choice, log 151). -/
def State.halfAtDrop (s : State) (st e : Nat) : State :=
  match (s.sc st).missPage.find? (fun x => x.e = e) with
  | some x =>
    if s.paired st && x.inFrame && (s.nAdv st ≤ e || decide (x.fno + s.pitch st ≤ (s.sc st).fno)) then
      s.inc (F.ST_HALF_LINES_HALF st)
    else s
  | none => s

def Scan.missRun (c : Scan) (e : Nat) : Nat := ((c.restMiss.find? (fun x => x.1 = e)).map (·.2)).getD 0

/-- R229: a missed or present call of an emitter whose restore is pending. -/
def State.restoreCall (s : State) (st e : Nat) (present : Bool) : State :=
  if !(s.rd (F.ST_RESTORE_PEND_PEND st)).testBit e then s else
  let n := if present then 0 else (s.sc st).missRun e + 1
  let s := s.modSc st (fun c => { c with restMiss := (e, n) :: c.restMiss.filter (fun x => x.1 != e) })
  if 2 ≤ n then
    let s := s.modSc st (fun c => { c with restMiss := c.restMiss.filter (fun x => x.1 != e) })
    (s.wr (F.ST_RESTORE_PEND_PEND st) (clrBit (s.rd (F.ST_RESTORE_PEND_PEND st)) e)).post 0 0x3305 6 (s.beamOf st e)
      [(0, 1, st), (1, 1, e)]
  else s

/-- R221: one call of an emitter at the close of its window. -/
def State.oneCall (s : State) (st e : Nat) : State :=
  let b := s.beamOf st e
  match (s.sc st).edges.find? (fun g => g.e = e) with
  | some g =>
    let s := s.wr (F.BM_ROLL_MISS_RUN b) 0
    let s := s.wrS (F.BM_ROLL_ADEV b) (clampI (-32768) 32767 (g.t - s.crossing st e))
    (if s.dropped st e then s.inc (F.BM_ROLL_REJOINS b) else s).restoreCall st e true
  | none =>
    let run := min 2 (s.rd (F.BM_ROLL_MISS_RUN b) + 1)
    let s := s.onRun b (if s.mayEmit b then s.rollRun st e (s.windowClose st) else 0)
    let here : List Miss := match s.slotOn st with
      | some p => [⟨e, p, (s.slot p).pageId, (s.sc st).fno, (s.lineUnder st p e).isSome⟩]
      | none => []
    let s := if run = 1 then s.modSc st (fun c => { c with missPage := here ++ c.missPage.filter (fun x => x.e != e) }) else s
    let s := (s.inc (F.ST_ROLL_MISSES_MISSES st)).wr (F.BM_ROLL_MISS_RUN b) run
    if s.dropped st e then s.restoreCall st e false
    else if run = 2 then (s.dropEmitter st e (s.phase st = 2)).halfAtDrop st e
    else s

/-- R220: two arrivals of a facet closer than ROLL_W + 10 ns. -/
def State.crowdedPair (s : State) (st : Nat) : Option (Nat × Nat × Nat) :=
  let gap := 250 * (max 8 (s.rd (F.ST_ROLL_CTL_ROLL_W st)) + 10)
  let es := (s.sc st).edges
  es.findSome? (fun a => (es.find? (fun b => a.e < b.e && ((a.t : Int) - b.t).natAbs < gap)).map
    (fun b => (a.e, b.e, ((a.t : Int) - b.t).natAbs / 250)))

def State.crowdStep (s : State) (st : Nat) : State :=
  if s.on (F.ST_ROLL_STAT_CROWDED st) then s else
  match s.crowdedPair st with
  | some (a, b, d) => (s.wr (F.ST_ROLL_STAT_CROWDED st) 1).post 1 0x3302 4 st [(0, 1, a), (1, 1, b), (2, 2, d)]
  | none => s

/-- R216, R218: an emitter still to be found by SEARCH: neither seeded nor declared a drop in its search. One whose drop is
latched from before is called like the others (R221). -/
def State.unfound (s : State) (st e : Nat) : Bool :=
  e ≠ 0 && !(s.sc st).seeded.testBit e && !(s.sc st).tried.testBit e

/-- R218: what SEARCH makes of the call of an emitter: the seed for every facet, with its sample counts at 0, or a missed
call; its search ends with a drop or a second missed call. -/
def State.seed (s : State) (st e : Nat) : State :=
  match (s.sc st).edges.find? (fun g => g.e = e) with
  | none => s.modSc st (fun c =>
      if 1 ≤ c.srchMiss || c.dropNow.contains (e, s.now) then { c with srchMiss := 0, tried := setBit c.tried e }
      else { c with srchMiss := c.srchMiss + 1 })
  | some g =>
    let v := clampI (-32768) 32767 (roundHalf (((g.t : Int) - s.tHat st) * s.fcwNow st) (s.tickDen st))
    ((List.range (s.facets st)).foldl (fun (s : State) f => s.wrS (F.ST_SIG_SOFF st f e) v) s).modSc st
      (fun c => { c with
        seeded := setBit c.seeded e, srchMiss := 0
        samples := c.samples.map (fun x => if x.1 % 32 = e then (x.1, 0, x.2.2) else x) })

/-- R216, R218: SEARCH after a facet: a seed, the next emitter, TIMED once all are found or dropped. -/
def State.searchStep (s : State) (st : Nat) : State :=
  if s.phase st ≠ 2 then s else
  let k := (s.sc st).search
  let s := if s.called st k then s.seed st k else s
  let rest := (s.emitters st).filter (s.unfound st)
  if rest = [] then s.wr (F.ST_ROLL_STAT_PHASE st) 3
  else if rest.contains k && !s.excluded st (s.beamOf st k) && !s.octOff (s.beamOf st k) then s
  else
    let ok := rest.filter (fun e => !s.excluded st (s.beamOf st e) && !s.octOff (s.beamOf st e))
    s.modSc st (fun c => { c with search := ((ok.filter (fun e => k < e)) ++ ok).headD k, srchMiss := 0 })

/-- R216–R221: the roll-call window of the present facet closes. -/
def State.windowCloses (s : State) (st : Nat) : State :=
  let c := s.sc st
  if !c.refDone || s.phase st < 2 then s else
  let s := ((s.emitters st).filter (s.called st)).foldl (fun (s : State) e => s.oneCall st e) s
  let timed := s.phase st = 3
  let s := (s.crowdStep st).searchStep st
  s.modSc st (fun c => { c with
    last := c.edges, lastFacet := s.rd (F.ST_FACET_STAT_FACET st), lastTf := c.tf.getD 0, lastTimed := timed, edges := [], refDone := false })

def execRollCallWindowClose (st : Fin 8) (s : State) : Out State Fault Refusal := .next (s.live (s.windowCloses st))

/-- R228: a restore takes effect. -/
def State.restoreNow (s : State) (st e : Nat) : State :=
  let b := s.beamOf st e
  let map := clrBit (s.rd (F.ST_DROP_MAP_DROPPED st)) e
  let rejoins := s.rd (F.BM_ROLL_REJOINS b)
  let s := (s.wr (F.ST_DROP_MAP_DROPPED st) map).wr (F.ST_ROLL_STAT_DROPS st) (popCount 32 map)
  let s := s.wr (F.ST_RESTORE_PEND_PEND st) (clrBit (s.rd (F.ST_RESTORE_PEND_PEND st)) e)
  let s := (s.wr (F.BM_ROLL_MISS_RUN b) 0).wr (F.BM_ROLL_REJOINS b) 0
  let s := s.modSc st (fun c => { c with
    drops := c.drops.filter (fun d => d.1 != e), restMiss := c.restMiss.filter (fun x => x.1 != e) })
  s.post 0 0x3301 6 b [(0, 1, st), (1, 1, e), (2, 1, rejoins)]

/-- R228: the restores pending on a station take effect. -/
def State.restoreAll (s : State) (st : Nat) : State :=
  (bitsOf 32 (s.rd (F.ST_RESTORE_PEND_PEND st))).foldl (fun (s : State) e => s.restoreNow st e) s

/-- R228, R229: a write of ST_DROP_CLR, ignored for an emitter whose drop was declared in this clock cycle: restores become pending, or take effect at once outside a frame. -/
def State.dropClr (s : State) (st v : Nat) : State :=
  let es := (bitsOf 32 v).filter (fun e => s.dropped st e && !(s.sc st).dropNow.any (fun x => x.1 = e && x.2 / 10 = s.now / 10))
  let fresh := es.filter (fun e => !(s.rd (F.ST_RESTORE_PEND_PEND st)).testBit e)
  let s := s.modSc st (fun c => { c with restMiss := c.restMiss.filter (fun x => !fresh.contains x.1) })
  let s := s.wr (F.ST_RESTORE_PEND_PEND st) (es.foldl setBit (s.rd (F.ST_RESTORE_PEND_PEND st)))
  if (s.slotOn st).isNone then s.restoreAll st else s

def execStDropClr (st : Fin 8) (v : Nat) (s : State) : Out State Fault Refusal := .next (s.live (s.dropClr st v))

def execStRollClr (st : Fin 8) (s : State) : Out State Fault Refusal :=
  .next (s.live (((((s.wr (F.ST_ROLL_MISSES_MISSES st) 0).wr (F.ST_HEAL_LINES_HEALED st) 0).wr (F.ST_HALF_LINES_HALF st) 0).wr
    (F.ST_HEAL_CLAMP_CLAMP st) 0).wr (F.ST_ROLL_STAT_CROWDED st) 0))

end Sys2Proof.Machine
end

