-- ==== Sys2Proof/Machine/Clocks.lean ====
section
/-! DEFINITION. Clock synthesis (chapter 11): the PLL states, acquisition, the hop memory, the loss of lock and of the
reference, outputs and their guard, ramps. -/

namespace Sys2Proof.Machine

open Sys2Proof

def State.pll (s : State) (p : Nat) : Pll := s.clk.plls.getD p {}

def State.modPll (s : State) (p : Nat) (f : Pll → Pll) : State :=
  { s with clk := { s.clk with plls := s.clk.plls.modify p f } }

def State.pllState (s : State) (p : Nat) : Nat := s.rd (F.PLL_STAT_STATE p)

/-- R286: COARSE or FINE. -/
def State.coarse (s : State) (p : Nat) : Bool := s.pllState p == 3 || s.pllState p == 4

/-! ### Outputs (R292–R294) -/

/-- Whether an output toggles: enabled, its PLL not OFF, and not held low by an acquisition. -/
def State.outRuns (s : State) (c : Nat) : Bool :=
  let p := if c < 8 then 4 + c else s.rd (F.CLK_OUT_CFG_SRC c)
  s.on (F.CLK_OUT_CTL_EN c) && s.pllState p != 0 && !(c < 8 && (s.pll p).held) && !(15 ≤ c && c < 20)

def State.syncOuts (s : State) : State :=
  (List.range 24).foldl (fun (s : State) (c : Nat) => s.wr (F.CLK_OUT_STAT_RUNNING c) (b2n (s.outRuns c))) s

/-- R294: EN of C20–C23 written. -/
def State.outEnable (s : State) (c : Nat) (on : Bool) : State :=
  if 20 ≤ c then (s.wr (F.CLK_OUT_CTL_EN c) (b2n on)).syncOuts else s

def execClkOutEnable (c : Fin 24) (on : Bool) (s : State) : Out State Fault Refusal := .next (s.live (s.outEnable c on))

/-! ### States (R285, R286, R298, R299) -/

/-- A station PLL that is no longer locked under R297: its emitters go IDLE, its pages are SPOILED (R298). -/
def State.stationUnlocked (s : State) (st cause : Nat) : State :=
  if !s.on (F.ST_SCANCTL_SCAN_EN st) && (s.slotsAhead st).isEmpty then s else
  let s := s.stationOff st
  s.thermPages st 0 cause 2

/-- R287: LOCKA[0]–LOCKA[3] of a reference cycle: the core PLL is not OFF and its |ERR| lies within LOCK_WIN. -/
def State.lockPins (s : State) : State :=
  { s with clk := { s.clk with lockA := (List.range 4).map (fun p =>
    s.pllState p != 0 && decide ((s.rdS (F.PLL_PHERR_ERR p)).natAbs ≤ s.rd (F.PLL_LOCKCFG_LOCK_WIN p))) } }

/-- R297, R298: whether the state is a lock for the tier. -/
def locksIn (tier x : Nat) : Bool := x == 4 || (x == 3 && tier == 2)

/-- R23: SYS stops; the Vigil domain records the pair of times. -/
def State.sysStop (s : State) : State :=
  if s.time.sysStopped then s
  else { s with time := { s.time with sysStopped := true, etimeStop := s.time.etime, vtimeStop := s.time.vtime } }

/-- A PLL enters a state; leaving COARSE or FINE for any other counts a loss (R286), and a station follows R298. SYS in OFF is a
stop of SYS (R23). -/
def State.setPll (s : State) (p x cause : Nat) : State :=
  let lost := s.coarse p && !(x == 3 || x == 4)
  let s := ((s.wr (F.PLL_STAT_STATE p) x).syncOuts).lockPins
  let s := if p = 0 && x = 0 then s.sysStop else s
  let s := s.modPll p (fun z => { z with
    unlocked := !(locksIn (s.rd F.GLB_STATE_TIER) x) && (z.unlocked || !(x == 3 || x == 4)) })
  if lost then
    let s := s.inc (F.PLL_COUNT_LOSSES p)
    if 4 ≤ p then s.stationUnlocked (p - 4) cause else s
  else s

/-- The last ERR, and the largest since the clear (R306). -/
def State.noteErr (s : State) (p : Nat) (err : Int) : State :=
  ((s.wrS (F.PLL_PHERR_ERR p) err).wr (F.PLL_PHERR_PEAK p) (max (s.rd (F.PLL_PHERR_PEAK p)) (min 65535 err.natAbs))).lockPins

/-! ### Acquisition (R288, R290) -/

/-- The FCW in use: of a core PLL its FCW. -/
def State.fcwUse (s : State) (p : Nat) : Nat :=
  if p < 4 then s.rd (F.PLL_FCW_FCW p) else s.rd (F.PLL_RAMP_FCW_FCW_NOW p)

/-- f_DCO in Hz × 2^23. -/
def dcoScaled (fcw : Nat) : Nat := 25000000 * fcw

/-- R289: a field of a core PLL's band table that no commit has set shows the part's fuse record (log 40). -/
def State.fuseBand (s : State) (f : Fld) : Bool :=
  0x30000 ≤ f.off && f.off < 0x31000 && 0x180 ≤ f.off % 0x400 && f.off % 0x400 < 0x380 && !s.clk.coreSet.contains f.key

/-- A field of a band table: of a core PLL's the fuse record, where no commit has set it. -/
def State.bandRd (s : State) (f : Fld) : Nat :=
  if s.fuseBand f then (Config.coreBand f.off f.lo).toNat % 2 ^ f.w else s.rd f

/-- The usable range of a band entry, in Hz × 2^23 × 1,000. -/
def State.bandLow (s : State) (p k : Nat) : Nat := s.bandRd (F.PLL_BAND_A_FMIN p k) * 100000 * 1005 * 8388608
def State.bandHigh (s : State) (p k : Nat) : Nat := s.bandRd (F.PLL_BAND_A_FMAX p k) * 100000 * 995 * 8388608

/-- A VALID entry whose usable range contains an FCW. -/
def State.bandHas (s : State) (p k fcw : Nat) : Bool :=
  s.bandRd (F.PLL_BAND_B_VALID p k) == 1 && s.bandLow p k ≤ dcoScaled fcw * 1000 && dcoScaled fcw * 1000 ≤ s.bandHigh p k

/-- The element of a list with the least measure, the first of equals. -/
def leastBy (m : Nat → Nat) : List Nat → Option Nat
  | [] => none
  | k :: t => match leastBy m t with
    | none => some k
    | some j => if m k ≤ m j then some k else some j

/-- R288: the band table entry for a target. -/
def State.bandFor (s : State) (p fcw : Nat) : Option Nat :=
  leastBy (fun k =>
    let c := (s.bandRd (F.PLL_BAND_A_FMIN p k) + s.bandRd (F.PLL_BAND_A_FMAX p k)) * 50000 * 8388608
    ((c : Int) - dcoScaled fcw).natAbs) ((List.range 64).filter (fun k => s.bandHas p k fcw))

/-- R289: the fuse records of a core PLL always cover its FCW, so a table no commit has changed always serves. -/
def State.bandServes (s : State) (p fcw : Nat) : Option Nat :=
  let own := s.clk.coreSet.any (fun k => k / 32 / 0x400 == (0x30000 + p * 0x400) / 0x400)
  if p < 4 && !own then some ((s.bandFor p fcw).getD 0) else s.bandFor p fcw

/-- The distance of a hop entry's FCW from a target lies within 0.05 %. -/
def hopNear (a fcw : Nat) : Bool := ((a : Int) - fcw).natAbs * 2000 ≤ fcw

/-- R288: the hop memory entry for a target. -/
def State.hopFor (s : State) (p fcw : Nat) : Option Nat :=
  leastBy (fun k => ((s.rd (F.PLL_HOP_A_FCW p k) : Int) - fcw).natAbs)
    ((List.range 16).filter (fun k => s.on (F.PLL_HOP_B_VALID p k) && hopNear (s.rd (F.PLL_HOP_A_FCW p k)) fcw))

/-- A hop entry is the most recently used. -/
def State.hopUsed (s : State) (p k : Nat) : State := s.modPll p (fun x => { x with used := x.used.filter (· != k) ++ [k] })

/-- An acquisition with no source, or a timeout in PULL (R285, R310). -/
def State.acqFail (s : State) (p why : Nat) : State :=
  let tag := (s.pll p).tag
  ((s.modPll p (fun x => { x with searching := false, held := false })).setPll p 0 0x4011).post 1 0x4012 7 p
    [(0, 4, s.fcwUse p), (4, 1, why)] tag

/-- The loop closes: PULL. -/
def State.closeLoop (s : State) (p : Nat) : State :=
  (s.modPll p (fun x => { x with searching := false, pullAt := s.now })).setPll p 2 0x4011

/-- R288: a search starts. -/
def State.startSearch (s : State) (p : Nat) : State :=
  let s := s.modPll p (fun x => { x with searched := true, searching := true, pullAt := s.now, fine := 32768 })
  ((s.setPll p 1 0x4011).wr (F.PLL_STAT_SRC p) 2).post 0 0x4020 7 p [(0, 4, s.fcwUse p), (4, 1, 2)] (s.pll p).tag

/-- A hop memory entry is loaded. -/
def State.loadHop (s : State) (p k : Nat) : State :=
  let s := ((s.wr (F.PLL_STAT_CAP p) (s.rd (F.PLL_HOP_B_CAP p k))).wr (F.PLL_STAT_SRC p) 1).wr (F.PLL_STAT_HOPENT p) k
  let s := (s.hopUsed p k).modPll p (fun x => { x with fine := s.rd (F.PLL_HOP_B_FINE p k) })
  (s.closeLoop p).post 0 0x4020 7 p [(0, 4, s.fcwUse p), (4, 1, 1)] (s.pll p).tag

/-- A band table entry is loaded; the fine code its KDCO gives is a free value (log 40). -/
def State.loadBand (s : State) (p k : Nat) : State :=
  let (v, s) := s.free
  let s := ((s.wr (F.PLL_STAT_CAP p) (s.bandRd (F.PLL_BAND_B_CAP p k))).wr (F.PLL_STAT_SRC p) 0).wr (F.PLL_STAT_BAND p) k
  s.modPll p (fun x => { x with fine := v % 65536 })

/-- R272: the prospective configuration: the written values of the groups over the ACTIVE ones. -/
def State.prospect (s : State) (gs : List Nat) : State :=
  s.staged.foldl (fun t (k, v) => if gs.contains (groupOfKey k) then
    (match fieldAt k with | some (_, _, f) => t.wr f v.toNat | none => t) else t) s

/-- The keys of a group's staged values. -/
def State.stagedKeys (s : State) (g : Nat) : List Nat :=
  (s.staged.map (·.1)).filter (fun k => groupOfKey k = g)

/-- R273: a pending group copies STAGED to ACTIVE, with no effect on its block yet. -/
def State.promote (s : State) (g : Nat) : State :=
  ({ s.prospect [g] with
    staged := s.staged.filter (fun e => groupOfKey e.1 != g)
    bezel := { s.bezel with pending := s.bezel.pending.filter (fun p => p.group != g) } } : State).slotsTake (s.stagedKeys g)

/-- The parts of ring transactions that wait for a pending group. -/
def State.pendingTxns (s : State) (g : Nat) : List Nat :=
  (s.bezel.pending.filter (fun p => p.group = g)).filterMap (fun p => p.txn)

/-- R289, R309: the fields of a core PLL's table that a commit has set. -/
def State.coreKeys (s : State) (p : Nat) (keys : List Nat) : State :=
  if p < 4 then { s with clk := { s.clk with coreSet := (s.clk.coreSet ++ keys).eraseDups } } else s

/-- R289, R309: a committed band table is used from the PLL's next acquisition. -/
def State.useTable (s : State) (p : Nat) : State :=
  let g := groupOfKey (F.PLL_BAND_A_FMIN p 0).key
  if s.bezel.pending.any (fun x => x.group = g) then
    (s.pendingTxns g).foldl (fun t id => t.partDone id 0 0) ((s.promote g).coreKeys p (s.stagedKeys g))
  else s

/-- R288: an acquisition for a target FCW, from a named hop entry or the first source that serves. -/
def State.acquire (s : State) (p fcw : Nat) (entry : Option Nat) (hold : Bool) (tag : Nat) : State :=
  let s := ((s.setPll p 1 0x4011).inc (F.PLL_COUNT_ACQS p)).useTable p
  let s := if p < 4 then s else s.wr (F.PLL_RAMP_FCW_FCW_NOW p) fcw
  let s := (s.modPll p (fun x => { x with
    startAt := s.now, searched := false, searching := false, held := hold || x.held, tag := tag })).syncOuts
  match entry with
  | some k => s.loadHop p k
  | none => match s.bandServes p fcw with
    | some k => (s.loadBand p k).closeLoop p
    | none => match s.hopFor p fcw with
      | some k => s.loadHop p k
      | none => if s.on (F.PLL_CTL_SEARCH_EN p) then s.startSearch p else s.acqFail p 0

/-- R300, R309: the commit of a station PLL's FCW acts as a hop. -/
def State.hopStart (s : State) (p : Nat) : State :=
  let x := s.pll p
  let s := s.modPll p (fun x => { x with nextEntry := none, nextTag := 0 })
  if s.pllState p = 0 then s else s.acquire p (s.rd (F.PLL_FCW_FCW p)) x.nextEntry true x.nextTag

/-- R285: a PLL stops. -/
def State.pllOff (s : State) (p : Nat) : State :=
  let s := (s.wr (F.PLL_RAMP_STAT_RUN p) 0).modPll p (fun x => { x with searching := false, held := false, returning := false })
  s.setPll p 0 0x4011

/-- R285, R422, R460: the oscillator step of a wake: a core PLL acquires under R288. -/
def State.coreAcquire (s : State) (p : Nat) : State := s.acquire p (s.rd (F.PLL_FCW_FCW p)) none false 0

/-- R285: EN of a station PLL written; on a core PLL it is read only. -/
def State.pllEnable (s : State) (p : Nat) (on : Bool) : State :=
  if p < 4 then s
  else if on then
    let s := s.wr (F.PLL_CTL_EN p) 1
    if s.pllState p = 0 && s.domOn (4 + p) then s.acquire p (s.rd (F.PLL_FCW_FCW p)) none true 0 else s
  else (s.wr (F.PLL_CTL_EN p) 0).pllOff p

def execPllEnable (p : Fin 12) (on : Bool) (s : State) : Out State Fault Refusal := .next (s.live (s.pllEnable p on))

/-- R288: nine steps of 4 µs after its start, a search ends on a CAP. -/
def State.searchDone (s : State) (p cap : Nat) : State :=
  if (s.pll p).searching && (s.pll p).pullAt + 36000 ≤ s.now then (s.wr (F.PLL_STAT_CAP p) cap).closeLoop p else s

def execPllSearchDone (p : Fin 12) (cap : Nat) (s : State) : Out State Fault Refusal := .next (s.live (s.searchDone p cap))

/-- R285: PULL to COARSE. -/
def State.coarseLock (s : State) (p : Nat) (err : Int) : State :=
  if s.pllState p = 2 && err.natAbs ≤ s.rd (F.PLL_LOCKCFG_CWIN p) then
    ((s.noteErr p err).modPll p (fun x => { x with held := false })).setPll p 3 0x4011
  else s

def execPllCoarseLock (p : Fin 12) (err : Int) (s : State) : Out State Fault Refusal := .next (s.live (s.coarseLock p err))

/-- R290: the entry of the hop memory that FINE writes. -/
def State.hopSlot (s : State) (p fcw : Nat) : Nat :=
  match s.hopFor p fcw with
  | some k => k
  | none => match (List.range 16).find? (fun k => !s.on (F.PLL_HOP_B_VALID p k)) with
    | some k => k
    | none => (s.pll p).used.headD 0

/-- R290: the hop memory on an entry to FINE. -/
def State.storeHop (s : State) (p mean : Nat) : State :=
  let k := s.hopSlot p (s.fcwUse p)
  let s := (s.wr (F.PLL_HOP_A_FCW p k) (s.fcwUse p)).wr (F.PLL_HOP_B_VALID p k) 1
  let s := (s.wr (F.PLL_HOP_B_CAP p k) (s.rd (F.PLL_STAT_CAP p))).wr (F.PLL_HOP_B_FINE p k) mean
  (s.wr (F.PLL_STAT_HOPENT p) k).hopUsed p k

/-- R300, R308: the end of a clock command: a transaction part's, or CLK_CMD's. -/
def State.clkEnd (s : State) (ref : Option Nat) (status det result : Nat) : State :=
  match ref with
  | some r => s.partDone r status det result
  | none =>
    let s := (s.wr F.CLK_CMD_STAT_BUSY 0).wr F.CLK_CMD_STAT_STATUS status
    (s.wr F.CLK_CMD_RES0_RES (result % 2 ^ 32)).wr F.CLK_CMD_RES1_RES (result / 2 ^ 32)

/-- R300: a return of the FCW completes when the FCW in use equals PLL_FCW, by the ramp or by an acquisition after EN = 0. -/
def State.returnDone (s : State) (p : Nat) : State :=
  let x := s.pll p
  if !x.backs.isEmpty && s.fcwUse p == s.rd (F.PLL_FCW_FCW p) then
    x.backs.foldl (fun (s : State) (r : Option Nat) => s.clkEnd r 0 0 0) (s.modPll p (fun x => { x with returning := false, backs := [] }))
  else s

/-- R300: RESULT of a hop. -/
def State.hopResult (s : State) (p start entry src : Nat) : Nat :=
  packBytes [(0, 1, src), (1, 1, entry), (2, 2, min 65535 ((s.now - start) / 1000)), (4, 4, s.fcwUse p)]

/-- R22, R23: SYS locks: ETIME starts at 0 the first time, and is re-seeded from VTIME after a stop. DESIGN CHOICE (log 157):
where a power-on wake starts SYS again after an attempt in which it had locked, ETIME goes on from where it stopped. -/
def State.sysStart (s : State) : State :=
  if !s.time.sysStopped then s
  else if s.time.etimeStarted && s.pwr.job.any (fun j => j.powerOn) then { s with time := { s.time with sysStopped := false } }
  else if !s.time.etimeStarted then { s with time := { s.time with sysStopped := false, etimeStarted := true, etime := 0 } }
  else
    let gone := (s.time.vtime + 2 ^ 48 - s.time.vtimeStop) % 2 ^ 48
    { s.setW1c F.GLB_STATE_ETIME_RESEEDED 1 with
      time := { s.time with sysStopped := false, etime := s.time.etimeStop + ceilDiv (gone * 1000000000) 32768 } }

/-- R285, R290, R300, R506: COARSE to FINE. `mean` is the mean fine code of the LOCK_CNT cycles. The entry that the RESULT
of a hop names after a search, which uses none, is a free value (log 105). -/
def State.fineLock (s : State) (p : Nat) (err : Int) (mean : Nat) : State :=
  if s.pllState p = 3 && err.natAbs ≤ s.rd (F.PLL_LOCKCFG_LOCK_WIN p) then
    let src := s.rd (F.PLL_STAT_SRC p)
    let used := if src = 0 then some (s.rd (F.PLL_STAT_BAND p)) else if src = 1 then some (s.rd (F.PLL_STAT_HOPENT p)) else none
    let x := s.pll p
    let s := ((s.noteErr p err).setPll p 4 0x4011).storeHop p mean
    let s := if p = 0 then s.sysStart else s
    let s := s.post 0 0x4001 7 p [(0, 2, min 65535 ((s.now - x.startAt) / 1000)), (2, 1, src)] x.tag
    let s := s.modPll p (fun x => { x with hops := [] })
    let s := x.hops.foldl (fun (s : State) (h : Option Nat × Nat) =>
      let (v, s) := match used with | some k => (k, s) | none => (s.free.1 % 256, s.free.2)
      s.clkEnd h.1 0 0 (s.hopResult p h.2 v src)) s
    if 4 ≤ p && p < 8 && (s.legSt (p - 4)).rescan then (s.modLeg (p - 4) (fun l => { l with rescan := false })).scanEn (p - 4) true else s
  else s

def execPllFine (p : Fin 12) (err : Int) (mean : Nat) (s : State) : Out State Fault Refusal := .next (s.live (s.fineLock p err mean))

/-- R300: 2 ms after the start of a hop that has not reached FINE. -/
def State.hopTimeout (s : State) (p : Nat) : State :=
  let late := (s.pll p).hops.filter (fun h => h.2 + 2000000 ≤ s.now)
  let s := s.modPll p (fun x => { x with hops := x.hops.filter (fun h => s.now < h.2 + 2000000) })
  late.foldl (fun (s : State) (h : Option Nat × Nat) => s.clkEnd h.1 8 0 0) s

def execClkHopTimeout (p : Fin 12) (s : State) : Out State Fault Refusal := .next (s.live (s.hopTimeout p))

/-- R285: FINE to COARSE. -/
def State.fineLost (s : State) (p : Nat) (err : Int) : State :=
  if s.pllState p = 4 && s.rd (F.PLL_LOCKCFG_LOCK_WIN p) < err.natAbs then
    ((s.noteErr p err).setPll p 3 0x4011).post 1 0x4010 7 p [(0, 2, uBits 16 err)]
  else s

def execPllFineLost (p : Fin 12) (err : Int) (s : State) : Out State Fault Refusal := .next (s.live (s.fineLost p err))

/-- R299, R310: 0x4011. -/
def State.postLockLost (s : State) (p next slot : Nat) : State :=
  s.post (if p < 4 then 3 else 2) 0x4011 7 p [(0, 2, s.rd (F.PLL_PHERR_ERR p)), (2, 1, next), (3, 1, slot)]

/-- The slot a PLL event names. -/
def State.pllSlot (s : State) (p : Nat) : Nat := if p < 4 then 255 else s.slotByte (p - 4)

/-- R285: COARSE or FINE to PULL. -/
def State.lockLost (s : State) (p : Nat) (err : Int) : State :=
  if s.coarse p && s.rd (F.PLL_LOCKCFG_CWIN p) < err.natAbs then
    let slot := s.pllSlot p
    (((s.noteErr p err).postLockLost p 2 slot).modPll p (fun x => { x with pullAt := s.now })).setPll p 2 0x4011
  else s

def execPllLockLost (p : Fin 12) (err : Int) (s : State) : Out State Fault Refusal := .next (s.live (s.lockLost p err))

/-- R285: the fine code has stood at an end of its range. -/
def State.codeLimit (s : State) (p : Nat) : State :=
  if s.coarse p || s.pllState p = 2 then
    let s := if s.coarse p then s.postLockLost p 1 (s.pllSlot p) else s
    s.acquire p (s.fcwUse p) none false 0
  else s

def execPllCodeLimit (p : Fin 12) (s : State) : Out State Fault Refusal := .next (s.live (s.codeLimit p))

/-- R285: 1 ms in PULL. -/
def State.pullTimeout (s : State) (p : Nat) : State :=
  if s.pllState p = 2 && (s.pll p).pullAt + 1000000 ≤ s.now then
    (if !(s.pll p).searched && s.on (F.PLL_CTL_SEARCH_EN p) then s.startSearch p
     else s.acqFail p (if (s.pll p).searched then 1 else 2))
  else s

def execPllPullTimeout (p : Fin 12) (s : State) : Out State Fault Refusal := .next (s.live (s.pullTimeout p))

/-! ### The reference (R283, R285, R299) -/

/-- R285: the reference monitor misses an edge; `means` are the mean fine codes of the last 256 cycles. -/
def State.refLost (s : State) (means : List Nat) : State :=
  if !s.on F.CLK_REF_REF_OK then s else
  let s := (s.wr F.CLK_REF_REF_OK 0).post 3 0x4040 7 0 [(0, 1, s.rd F.CLK_REF_SRC)]
  let s := { s with clk := { s.clk with refLostAt := s.now } }
  (List.range 12).foldl (fun (s : State) (p : Nat) =>
    if s.coarse p || s.pllState p = 2 then
      (s.modPll p (fun x => { x with fine := means.getD p 0 })).setPll p 5 0x4040
    else s) s

def execRefLost (means : List Nat) (s : State) : Out State Fault Refusal := .next (s.live (s.refLost means))

/-- R285: reference edges have been regular for 10 µs. -/
def State.refRestored (s : State) : State :=
  if s.on F.CLK_REF_REF_OK || s.now < s.clk.refLostAt + 10000 then s else
  let s := (s.wr F.CLK_REF_REF_OK 1).post 0 0x4041 7 0 [(0, 4, min 4294967295 ((s.now - s.clk.refLostAt) / 1000))]
  (List.range 12).foldl (fun (s : State) (p : Nat) => if s.pllState p = 5 then s.closeLoop p else s) s

def execRefRestored (s : State) : Out State Fault Refusal := .next (s.live s.refRestored)

/-! ### Clears (R290, R306) -/

def execPllClr (p : Fin 12) (s : State) : Out State Fault Refusal :=
  .next (s.live (((s.wr (F.PLL_PHERR_PEAK p) 0).wr (F.PLL_COUNT_LOSSES p) 0).wr (F.PLL_COUNT_ACQS p) 0))

/-- R290: hop memory entries cleared. -/
def State.hopClr (s : State) (p m : Nat) : State :=
  (bitsOf 16 m).foldl (fun (s : State) (k : Nat) =>
    (((s.wr (F.PLL_HOP_A_FCW p k) 0).wr (F.PLL_HOP_B_VALID p k) 0).wr (F.PLL_HOP_B_CAP p k) 0).wr (F.PLL_HOP_B_FINE p k) 0) s

def execPllHopClr (p : Fin 12) (m : Nat) (s : State) : Out State Fault Refusal := .next (s.live (s.hopClr p m))

/-- R290: the domain of a station PLL goes down. -/
def State.pllDown (s : State) (p : Nat) : State := ((s.pllOff p).hopClr p 65535).modPll p (fun x => { x with used := [] })

/-! ### Ramps (R301–R303) -/

def State.rampX (s : State) (p k : Nat) : Nat := s.rd (F.PLL_RAMP_X_X p k)
def State.rampF (s : State) (p k : Nat) : Nat := s.rd (F.PLL_RAMP_F_FCW p k)

/-- Linear interpolation, rounded half up (log 41). -/
def lerp (a b : Nat) (num den : Int) : Nat := (roundHalf (a * (den - num) + b * num) (max 1 den).toNat).toNat

/-- TIME mode: segment and FCW, `el` ns after segment `k` began at `prev`, with `n` segments left. -/
def State.timeRamp (s : State) (p : Nat) : Nat → Nat → Nat → Nat → Nat × Nat
  | 0, k, prev, _ => (k - 1, prev)
  | n + 1, k, prev, el =>
    let x := s.rampX p k * 1000
    if el < x then (k, lerp prev (s.rampF p k) el x) else s.timeRamp p n (k + 1) (s.rampF p k) (el - x)

/-- WEB mode: segment and FCW at a speed, from breakpoint `k` with `n` breakpoints after it. -/
def State.webRamp (s : State) (p : Nat) (v : Int) : Nat → Nat → Nat × Nat
  | 0, k => (k, s.rampF p k)
  | n + 1, k =>
    if v < s.rampX p (k + 1) then
      (k, if v ≤ s.rampX p k then s.rampF p k
          else lerp (s.rampF p k) (s.rampF p (k + 1)) (v - s.rampX p k) ((s.rampX p (k + 1) : Int) - s.rampX p k))
    else s.webRamp p v n (k + 1)

/-- R301: the segment and the FCW the profile asks for. -/
def State.rampAsk (s : State) (p : Nat) : Nat × Nat :=
  let n := max 1 (s.rd (F.PLL_RAMP_CTL_NSEG p))
  let x := s.pll p
  if x.returning then (s.rd (F.PLL_RAMP_STAT_SEG p), s.rd (F.PLL_FCW_FCW p))
  else if s.on (F.PLL_RAMP_CTL_MODE p) then s.webRamp p (s.rdS F.WEB_VEL_VWEB) (n - 1) 0
  else s.timeRamp p n 0 x.rampFrom (s.now - x.rampAt)

/-- R303: the entry in use: the one the source names, or a VALID one with the CAP in use. -/
def State.bandInUse (s : State) (p : Nat) : Option Nat :=
  if s.rd (F.PLL_STAT_SRC p) = 0 then some (s.rd (F.PLL_STAT_BAND p))
  else (List.range 64).find? (fun k => s.bandRd (F.PLL_BAND_B_VALID p k) == 1 && s.bandRd (F.PLL_BAND_B_CAP p k) == s.rd (F.PLL_STAT_CAP p))

/-- R303: the entry to cross to: the most room in the direction of travel. -/
def State.bandAhead (s : State) (p fcw : Nat) (up : Bool) : Option Nat :=
  leastBy (fun k => if up then 2 ^ 80 - s.bandHigh p k else s.bandLow p k)
    ((List.range 64).filter (fun k => s.bandHas p k fcw))

/-- An event at most once per frame of a station, or once per second outside frames. -/
def State.frameOrSecond (s : State) (st key sev code inst : Nat) (d : List (Nat × Nat × Nat)) (last : Option Nat)
    (mark : State → State) : State :=
  match s.slotOn st with
  | some p => s.postOnce p key sev code 7 inst d
  | none =>
    if (match last with | some t => decide (t + 1000000000 ≤ s.now) | none => true) then mark (s.post sev code 7 inst d) else s

/-- R303: the FCW in use moves, over a band crossing where needed, or holds. -/
def State.rampMove (s : State) (p fcw ask : Nat) : State :=
  let cur := s.fcwUse p
  let stays := match s.bandInUse p with | some k => s.bandHas p k fcw | none => false
  if stays || fcw = cur then (s.wr (F.PLL_RAMP_FCW_FCW_NOW p) fcw).modPll p (fun x => { x with noBand := false })
  else match s.bandAhead p fcw (decide (cur ≤ fcw)) with
    | some k => ((s.loadBand p k).wr (F.PLL_RAMP_FCW_FCW_NOW p) fcw).modPll p (fun x => { x with noBand := false })
    | none =>
      if (s.pll p).noBand then s
      else (s.modPll p (fun x => { x with noBand := true })).post 1 0x4032 7 p [(0, 4, ask)]

/-- R295: the DCO edges that the guard swallows at one edge of a privileged output: `iv` is the slice as it would come, `per`
the DCO's period, both in fs, and the least slice is CEIL / 16 of 4 ps units. -/
def guardEdges (ceil iv per : Nat) : Nat := if ceil * 250 ≤ iv then 0 else ceilDiv (ceil * 250 - iv) (max 1 per)

/-- R295: the slices of a station's output since the last update, before the guard, with the DCO's period at each: the guard
swallows edges, counts them, and posts 0x4030 with the shortest slice it lengthened, in 4 ps units (log 126). -/
def State.swallow (s : State) (st : Nat) (g : List (Nat × Nat)) : State :=
  let c := s.rd (F.CLK_OUT_CEIL_CEIL st)
  match g.filter (fun x => guardEdges c x.1 x.2 != 0) with
  | [] => s
  | x :: t =>
    let n := ((x :: t).map (fun x => guardEdges c x.1 x.2)).sum
    let iv := t.foldl (fun a x => min a x.1) x.1 / 4000
    (s.inc (F.CLK_OUT_STAT_SWALLOWS st) n).frameOrSecond st (0x100 + st) 0 0x4030 (0x100 + st) [(0, 2, iv), (2, 1, s.slotByte st)]
      (s.pll (4 + st)).swallowAt (fun s => s.modPll (4 + st) (fun x => { x with swallowAt := some s.now }))

/-- R302: every 10 µs of a ramp. `g` are the slices that the guard of R295 is to test. -/
def State.rampUpdate (s : State) (p : Nat) (g : List (Nat × Nat)) : State :=
  if p < 4 then s else
  let s := s.swallow (p - 4) g
  let x := s.pll p
  if !(s.on (F.PLL_RAMP_STAT_RUN p) || x.returning) || s.now < x.rampNext then s else
  let (seg, ask) := s.rampAsk p
  let cur := s.fcwUse p
  let step := cur / 10000
  let dst := (clampI ((cur : Int) - step) ((cur : Int) + step) ask).toNat
  let s := (s.wr (F.PLL_RAMP_STAT_SEG p) seg).modPll p (fun x => { x with rampNext := s.now + 10000 })
  let s := s.wr (F.PLL_RAMP_STAT_LIMITED p) (b2n (dst != ask))
  let s := if dst = ask || x.returning then s else
    s.frameOrSecond (p - 4) p 1 0x4031 p [(0, 4, ask)] x.limitAt (fun s => s.modPll p (fun x => { x with limitAt := some s.now }))
  (s.rampMove p dst ask).returnDone p

def execRampUpdate (p : Fin 12) (g : List (Nat × Nat)) (s : State) : Out State Fault Refusal := .next (s.live (s.rampUpdate p g))

end Sys2Proof.Machine
end

