-- ==== Sys2Proof/Machine/Clasps.lean ====
section
/-! DEFINITION. What every engine behind a Clasp shares (R18, R333, R394–R397): presentations, acceptance by Signet,
the values of the external drives. -/

namespace Sys2Proof.Machine

open Sys2Proof

def State.modClasp (s : State) (c : Nat) (f : Clasp → Clasp) : State := { s with clasps := s.clasps.modify c f }

/-! ### External drive values (R333) -/

def State.xd (s : State) (n : Nat) : Xd := s.xds.getD n {}

def State.modXd (s : State) (n : Nat) (f : Xd → Xd) : State := { s with xds := s.xds.modify n f }

/-- R333: the value a drive reads from its Clasp under its MODE. -/
def State.xdRead (s : State) (n : Nat) : Nat :=
  let v := s.claspOut (80 + n)
  match s.rd (F.XD_CFG_MODE n) with
  | 1 => min 2048000000 (max 10240 v)
  | 2 => v % 65536
  | 3 => v % 4096
  | _ => v

/-- The period of a drive's output in ns, as a fraction, none where a change is at once. -/
def State.xdPeriod (s : State) (n : Nat) : Option (Nat × Nat) :=
  match s.rd (F.XD_CFG_MODE n) with
  | 1 => let v := s.rd (F.XD_VALUE_VALUE n)
         if v = 0 then none else some (1024000000000, v)
  | 2 => some (1000000, max 1 (s.rd (F.XD_CFG_CARRIER n)))
  | _ => none

/-- A drive's value comes into use. -/
def State.xdUse (s : State) (n v : Nat) : State :=
  (s.wr (F.XD_VALUE_VALUE n) v).modXd n (fun x => { x with next := none, since := s.now })

/-- The end, in ns, of the period that a drive's output is in; the periods are counted from `since`. -/
def State.xdEnd (s : State) (n num den : Nat) : Nat :=
  let since := (s.xd n).since
  since + ceilDiv (((s.now - since) * den / num + 1) * num) den

/-- R333: a drive follows its Clasp: at once, or at the end of the current period. R423: while PD_MOT is not ON its output is
clamped. -/
def State.syncXd (s : State) (n : Nat) : State :=
  if !s.domOn 5 then s else
  let s := s.wr (F.XD_STAT_RUNNING n) (b2n (s.rd (F.XD_CFG_MODE n) != 0))
  let v := s.xdRead n
  let x := s.xd n
  match x.next with
  | some (_, t) =>
    if t ≤ s.now then s.xdUse n v else s.modXd n (fun x => { x with next := some (v, t) })
  | none =>
    if v = s.rd (F.XD_VALUE_VALUE n) then s
    else match s.xdPeriod n with
      | some (num, den) => s.modXd n (fun x => { x with next := some (v, s.xdEnd n num den) })
      | none => s.xdUse n v

def State.syncXds (s : State) : State := (List.range 8).foldl State.syncXd s

/-- R333, R423: the level of a drive's output in MODE 1, 50 % of its period, or MODE 2, its duty of the period at CARRIER. A
period begins high (log 152). -/
def State.xdHigh (s : State) (n : Nat) : Bool :=
  let v := s.rd (F.XD_VALUE_VALUE n)
  match s.xdPeriod n with
  | some (num, den) =>
    let u := ((s.now - (s.xd n).since) * den) % num
    s.domOn 5 && (if s.rd (F.XD_CFG_MODE n) = 1 then decide (2 * u < num) else decide (u * 65536 < v * num))
  | none => false

/-- R333, R423: the voltage of a drive's output in MODE 3, in µV: 0 V to 3.3 V over the codes (log 152). -/
def State.xdVolt (s : State) (n : Nat) : Nat :=
  if s.domOn 5 && s.rd (F.XD_CFG_MODE n) == 3 then 3300000 * s.rd (F.XD_VALUE_VALUE n) / 4095 else 0

/-! ### High voltage duties (R383, R385) -/

def State.modHv (s : State) (n : Nat) (f : Hv → Hv) : State := { s with hvs := s.hvs.modify n f }

/-- HVPWM is held low: tripped, SAFE, a supply down (R528) or PD_MOT not ON (R423). -/
def State.hvLow (s : State) (n : Nat) : Bool :=
  s.on (F.HV_CTL_TRIPPED n) || s.on F.FAULT_STAT_SAFE || s.undervolt || !s.domOn 5

/-- The duty a channel is to take, in 1/65,536; in a power-fail shutdown it falls linearly to 0 over 2.0 ms (R451). -/
def State.hvDuty (s : State) (n : Nat) : Nat :=
  if s.hvLow n then 0
  else if s.rd F.SEQ_STAT_STATE = 5 then s.seq.duties.getD n 0 * (2000000 - (s.now - s.seq.tripAt)) / 2000000
  else min (s.claspOut (48 + n)) (256 * s.rd (F.HV_CFG_MAXDUTY n))

/-- R383: a new duty takes effect at the end of the current PWM period. -/
def State.syncHv (s : State) (n : Nat) : State :=
  let d := s.hvDuty n
  if d = s.rd (F.HV_STAT_DUTY n) then s.modHv n (fun h => { h with dutyAt := none })
  else if s.hvLow n then
    (s.wr (F.HV_STAT_DUTY n) 0).modHv n (fun h => { h with dutyAt := none })
  else
    let k := max 1 (s.rd (F.HV_CFG_PWM_KHZ n))
    match (s.hvs.getD n {}).dutyAt with
    | none => s.modHv n (fun h => { h with dutyAt := some (ceilDiv ((s.now * k / 1000000 + 1) * 1000000) k) })
    | some t => if t ≤ s.now then (s.wr (F.HV_STAT_DUTY n) d).modHv n (fun h => { h with dutyAt := none }) else s

def State.syncHvs (s : State) : State := (List.range 24).foldl State.syncHv s

/-! ### Fuser outputs (R387) -/

def State.modFz (s : State) (n : Nat) (f : Fz → Fz) : State := { s with fzs := s.fzs.modify n f }

/-- FZ[n] goes inactive at once. -/
def State.fzOff (s : State) (n : Nat) : State :=
  (s.wr (F.FZ_STAT_CONDUCTING n) 0).modFz n (fun z => { z with out := false, edges := [] })

def State.fzsOff (s : State) : State := (List.range 8).foldl State.fzOff s

/-- R387: FZ[n] after a decision at the present edge: in PULSE mode a pulse of FZ_PW from ZC_DLY after it, in LEVEL mode the
level of the decision from then on. -/
def State.fzPulse (s : State) (n : Nat) (go : Bool) : State :=
  let t := s.now + 10000 * s.rd (F.FZ_CFG_ZC_DLY n)
  let es := if s.on (F.FZ_CFG_LEVEL n) then [(t, go)]
    else if go then [(t, true), (t + 10000 * s.rd (F.FZ_CFG_FZ_PW n), false)] else []
  (s.wr (F.FZ_STAT_CONDUCTING n) (b2n go)).modFz n (fun z => { z with edges := z.edges ++ es })

/-- R387: the changes of FZ[n] that have come due. -/
def State.fzTick (s : State) (n : Nat) : State :=
  let z := s.fzs.getD n {}
  match (z.edges.filter (fun e => e.1 ≤ s.now)).getLast? with
  | none => s
  | some e => s.modFz n (fun z => { z with out := e.2, edges := z.edges.filter (fun e => !(e.1 ≤ s.now)) })

def State.fzTicks (s : State) : State := (List.range 8).foldl State.fzTick s

/-- FZ[n] at the pin: HOLD turns the fuser outputs off, but for the zone that the ember loop drives (R278). -/
def State.fzPin (s : State) (n : Nat) : Bool :=
  (s.fzs.getD n {}).out && (!s.on F.GLB_STATE_HOLD || s.emberZone n)

/-! ### Axis enables (R18, R352, R396) -/

/-- R18, R396: EN of an axis is what CL(16 + a) passes while the axis is not OFF; where the Clasp is safe, it falls once the axis
is at rest. -/
def State.syncEn (s : State) (a : Nat) : State :=
  let st := s.rd (F.AX_STAT_STATE a)
  s.wr (F.AX_STAT_EN a) (b2n (st != 0 && !s.undervolt && (s.claspOut (16 + a) == 1 || (2 ≤ st && st ≤ 5))))

/-! ### Presentations (R394, R395, R397, R400, R401, R407) -/

def State.island (s : State) (u : Nat) : Island := s.isl.isls.getD u {}

def State.modIsl (s : State) (u : Nat) (f : Island → Island) : State :=
  { s with isl := { s.isl with isls := s.isl.isls.modify u f } }

def State.islState (s : State) (u : Nat) : Nat := s.rd (F.ISL_STAT_STATE u)

/-- What stands behind a Clasp takes its changed output at once, where it does not sample it. -/
def State.claspMoved (s : State) (c : Nat) : State :=
  if 88 ≤ c then s.syncOct (c - 88) else if 80 ≤ c && c < 88 then s.syncXd (c - 80)
  else if 48 ≤ c && c < 72 then s.syncHv (c - 48) else if 16 ≤ c && c < 48 then s.syncEn (c - 16) else s

/-- SAFE_N counts the Clasps in SAFE. -/
def State.countSafe (s : State) : State :=
  s.wr F.CLASP_SUMMARY_SAFE_N ((List.range 104).filter (fun c => s.rd (F.CLASP_STAT_STATE c) == 2)).length

/-- R416: switches whose new Signet every Clasp has acknowledged complete; CLASP_ISL_CMD's shows in CLASP_ISL_STAT. -/
def State.endSwitches (s : State) : State :=
  let low := (List.range 104).foldl (fun m c => min m (s.rd (F.CLASP_ACK_ACK c))) (2 ^ 32)
  let ovr (x : Option Nat × Option Nat) : Bool := match x.1 with | some g => g ≤ low | none => false
  let ended := s.isl.switches.filter ovr
  let s := { s with isl := { s.isl with switches := s.isl.switches.filter (fun x => !ovr x) } }
  ended.foldl (fun (s : State) (x : Option Nat × Option Nat) => match x.2 with
    | some r => s.partDone r 0 0 (x.1.getD 0)
    | none => (s.wr F.CLASP_ISL_STAT_BUSY 0).wr F.CLASP_ISL_STAT_STATUS 0) s

/-- R400, R408: an accepted Signet raises CLASP_ACK_MAX: the other island can see it, and the tick is that of a bid's
first acknowledgement. -/
def State.ackRaised (s : State) (u : Nat) : State :=
  let s := if s.islState u = 3 && (s.island u).ackSlots.isNone then
      s.modIsl u (fun x => { x with ackSlots := some (s.slotsWhere (fun y => y.st.inFlight)) }) else s
  let v := 1 - u
  if (s.islState v = 3 || s.islState v = 4) && (s.island v).alive && (s.island v).ackAt.isNone
  then s.modIsl v (fun x => { x with ackAt := some s.now }) else s

/-- R394: island `u` presents a value at a Clasp with its Signet. Of two in one cycle at or above ACK the higher is accepted, and
the other is not stale. -/
def State.present (s : State) (u c v : Nat) : State :=
  let sig := s.rd (F.ISL_SIGNET_SIGNET u)
  let ack := s.rd (F.CLASP_ACK_ACK c)
  if ack ≤ sig then
    let raised := s.rd F.CLASP_ACK_MAX_ACK_MAX < sig
    let s := (s.wr (F.CLASP_ACK_ACK c) sig).wr F.CLASP_ACK_MAX_ACK_MAX (max sig (s.rd F.CLASP_ACK_MAX_ACK_MAX))
    let s := (s.modClasp c (fun x => { x with
      value := v, acceptedAt := s.now, ackWas := if x.acceptedAt = s.now then x.ackWas else ack })).wr (F.CLASP_STAT_STATE c) 0
    let s := s.countSafe.claspMoved c
    let s := if raised then s.ackRaised u else s
    if s.isl.switches = [] then s else s.endSwitches
  else if (s.clasps.getD c {}).acceptedAt = s.now && (s.clasps.getD c {}).ackWas ≤ sig then s
  else
    let first := s.rd (F.CLASP_STAT_STALE c) == 0
    let s := s.inc (F.CLASP_STAT_STALE c)
    let s := if first then s.post 0 0x7021 13 c [(0, 4, sig), (4, 4, ack)] else s
    if (s.island u).ackAt.isNone then s.modIsl u (fun x => { x with ackAt := some s.now }) else s

/-- The islands that present: BIDDING or ACTIVE, their cores advancing, their domain and that of the Clasps ON. -/
def State.presenters (s : State) : List Nat :=
  [0, 1].filter (fun u => (s.islState u == 3 || s.islState u == 4) && (s.island u).alive && s.domOn (3 + u) && s.domOn 5)

/-- R394: the value the islands have for a Clasp changes, and those that present it present it. -/
def State.setWant (s : State) (c v : Nat) : State :=
  let s := s.modClasp c (fun x => { x with want := v })
  s.presenters.foldl (fun (s : State) (u : Nat) => s.present u c v) s

def State.want (s : State) (c : Nat) : Nat := (s.clasps.getD c {}).want

/-- R191: the active island enables the octets of configured stations whose domain is ON while ARMED = 1. -/
def State.octWant (s : State) (n : Nat) : Nat := b2n (s.on F.GLB_STATE_ARMED && (s.stationOf n).isSome && s.domOn (16 + n))

/-- R191: no command sets the values at CL(88 + n); the islands follow the configuration and the domain levels. -/
def State.wantOcts (s : State) : State :=
  (List.range 16).foldl (fun (s : State) (n : Nat) => if s.want (88 + n) = s.octWant n then s else s.setWant (88 + n) (s.octWant n)) s

def State.cmdVal (s : State) (c : Nat) : Nat := (s.clasps.getD c {}).cmd

/-! ### Clasps that loop slots drive (R373, R374) -/

/-- R373: the Clasp a sink selector names. -/
def sinkClasp (sink : Nat) : Option Nat :=
  let i := sink % 4096
  match sink / 4096 with
  | 1 => some (48 + i)
  | 2 => some (72 + i)
  | 3 => some i
  | 4 => some i
  | 5 => some (80 + i)
  | _ => none

/-- A slot in MANUAL or AUTO. -/
def State.loopOn (s : State) (l : Nat) : Bool := let m := s.rd (F.LP_STAT_MODE l); m == 1 || m == 2

/-- R314: a polygon motor whose station's LOCK_EN is 0 takes its MOT_CMD set-point, whatever slot names it (log 106). -/
def State.runUp (s : State) (c : Nat) : Bool :=
  c < 16 && s.on (F.MOT_CFG_POLY_EN c) && !s.on (F.ST_PH_CTL_LOCK_EN (s.rd (F.MOT_CFG_POLY_STATION c)))

/-- R373: the slot in MANUAL or AUTO whose sink names a Clasp, and drives it. -/
def State.driver (s : State) (c : Nat) : Option Nat :=
  if s.runUp c then none else (List.range 192).find? (fun l => s.loopOn l && sinkClasp (s.rd (F.LP_SINK_SINK l)) == some c)

/-- R405, R373: a command value; where a slot drives the Clasp, only a motor's ENABLE and COAST reach it. -/
def State.setCmd (s : State) (c v : Nat) : State :=
  let s := s.modClasp c (fun x => { x with cmd := v })
  match s.driver c with
  | none => s.setWant c v
  | some _ => if c < 16 then s.setWant c (s.want c / 65536 * 65536 + s.want c / 2 % 2 * 2 + v % 2 + v / 4 % 2 * 4) else s

/-- R335: the value of the last XD_CMD is in use: no slot drives the Clasp, which passes it, and the output has taken it. -/
def State.xdCmdUsed (s : State) (n : Nat) : Bool :=
  (s.driver (80 + n)).isNone && s.claspOut (80 + n) == s.cmdVal (80 + n) && (s.xd n).next.isNone
    && s.rd (F.XD_VALUE_VALUE n) == s.xdRead n

/-- R335: the XD_CMDs that wait for their value to be in use complete. -/
def State.xdDone (s : State) (n : Nat) : State :=
  let ws := (s.xd n).waits
  if ws = [] || !s.xdCmdUsed n then s
  else ws.foldl (fun (s : State) (r : Nat) => s.partDone r 0 0 0) (s.modXd n (fun x => { x with waits := [] }))

def State.xdDones (s : State) : State := (List.range 8).foldl State.xdDone s

end Sys2Proof.Machine
end

