-- ==== Sys2Proof/Machine/Motors.lean ====
section
/-! DEFINITION. Motor commutation (chapter 12): sampling, prediction, the channel states, start, handover, loss of the
rotor, command pins. -/

namespace Sys2Proof.Machine

open Sys2Proof

def State.mot (s : State) (m : Nat) : Mot := s.mots.getD m {}

def State.modMot (s : State) (m : Nat) (f : Mot → Mot) : State := { s with mots := s.mots.modify m f }

/-- R336: 0 OFF, 1 CATCH, 2 BRAKE, 3 ALIGN, 4 RUN, 5 COAST, 6 STOP, 7 FAULT. -/
def State.motState (s : State) (m : Nat) : Nat := s.rd (F.MOT_STAT_STATE m)

/-- The speed in use, in 10^-6 rev/s. -/
def State.motSpd (s : State) (m : Nat) : Int := (s.mot m).spd

/-- The byte of a motor event that names the slot on its polygon's station. -/
def State.motSlot (s : State) (m : Nat) : Nat :=
  if s.on (F.MOT_CFG_POLY_EN m) then s.slotByte (s.rd (F.MOT_CFG_POLY_STATION m)) else 255

/-! ### Rates, thresholds (R311, R336) -/

/-- R311: f_loop is `loopNum` / `loopDen` Hz. -/
def State.loopNum (s : State) (m : Nat) : Nat := max 1 (s.rd (F.MOT_CFG_PWM_KHZ m)) * 1000
def State.loopDen (s : State) (m : Nat) : Nat := ceilDiv (max 1 (s.rd (F.MOT_CFG_PWM_KHZ m))) 40

/-- A speed in 10^-6 rev/s reaches a per mille of RATED_SPD. -/
def State.atMille (s : State) (m v : Nat) (spd : Int) : Bool := s.rd (F.MOT_RATED_RATED_SPD m) * v * 100 ≤ spd.natAbs

/-- R320: |speed| < CATCH. -/
def State.belowCatch (s : State) (m : Nat) (spd : Int) : Bool := !s.atMille m (s.rd (F.MOT_START_CATCH m)) spd

/-- R325: injection can run at the channel's loop rate. -/
def State.canInject (s : State) (m : Nat) : Bool := 10000 * s.rd (F.MOT_HFI_HFI_FREQ m) * s.loopDen m ≤ s.loopNum m

/-- The angle source that suits a speed: 1 injection, 2 observer, 3 open loop (R321, R325, R328). -/
def State.suits (s : State) (m : Nat) (spd : Int) : Nat :=
  if s.atMille m (s.rd (F.MOT_HFI_HANDOVER m)) spd then 2 else if s.canInject m then 1 else 3

/-- Whether `k` electrical periods at a speed have passed in a time in ns; at rest no period ends. -/
def State.elPassed (s : State) (m k : Nat) (spd : Int) (t : Nat) : Bool :=
  let d := spd.natAbs * s.rd (F.MOT_CFG_POLE_PAIRS m)
  d != 0 && decide (k * 1000000000000000 ≤ t * d)

/-! ### Entering states (R320, R335) -/

/-- RESULT of a MOT_CMD (R335). -/
def State.motResult (s : State) (m why start : Nat) : Nat :=
  packBytes [(0, 1, s.motState m), (1, 1, why), (2, 2, min 65535 ((s.now - start) / 1000000))]

/-- MOT_CMDs of some OPs that wait on a channel end with a status. -/
def State.endMotCmds (s : State) (m : Nat) (ops : List Nat) (status why : Nat) : State :=
  let cs := (s.mot m).cmds
  let s := s.modMot m (fun x => { x with cmds := x.cmds.filter (fun c => !ops.contains c.2.1) })
  (cs.filter (fun c => ops.contains c.2.1)).foldl
    (fun (s : State) (c : Nat × Nat × Nat) => s.partDone c.1 status 0 (s.motResult m why c.2.2)) s

/-- A channel enters a state. -/
def State.setMot (s : State) (m x : Nat) : State :=
  (s.wr (F.MOT_STAT_STATE m) x).modMot m (fun y => { y with stateAt := s.now, measuredAt := s.now })

/-- All six outputs off. -/
def State.motOff (s : State) (m : Nat) : State :=
  let s := ((s.wr (F.MOT_STAT_ASRC m) 0).wr (F.MOT_IDQ_ID m) 0).wr (F.MOT_IDQ_IQ m) 0
  (s.wr (F.MOT_STAT_PRED_RUN m) 0).modMot m (fun x => { x with
    target := 0, iqRef := 0, sInt := 0, dInt := 0, qInt := 0, id := 0, iq := 0, vd := 0, vq := 0, confs := [],
    lowSince := none, okSince := none, emf := none, drive := .off, duties := [0, 0, 0], obsOn := false, hfi := 0, obsC := 0,
    obsConfs := [] })

/-- OFF: STOP, COAST and CLEAR complete. -/
def State.motToOff (s : State) (m : Nat) : State := ((s.motOff m).setMot m 0).endMotCmds m [2, 3, 4] 0 0

/-- CATCH, from OFF or BRAKE. -/
def State.motToCatch (s : State) (m : Nat) : State := (s.motOff m).setMot m 1

/-- FAULT with its cause. -/
def State.motToFault (s : State) (m cause : Nat) : State :=
  (((s.motOff m).setMot m 7).wr (F.MOT_STAT_FAULT m) 1).wr (F.MOT_FAULT_FCAUSE m) cause

/-- Every angle source takes an angle and a speed (R321, R324, R325, R328; log 127). -/
def State.seedAngle (s : State) (m ang : Nat) (spd : Int) : State :=
  s.modMot m (fun x => { x with
    spd := spd, obsAng := ang, injAng := ang, openAng := ang, obsSpd := spd, injSpd := spd, openSpd := spd
    confs := [], lowSince := none, okSince := none })

/-- RUN on an angle source, the target at the present speed; RUN commands complete. -/
def State.motToRun (s : State) (m src : Nat) : State :=
  let s := ((s.setMot m 4).wr (F.MOT_STAT_ASRC m) src).modMot m (fun x => { x with
    target := x.spd, obsOn := src == 2, confs := [], lowSince := none, okSince := none })
  s.endMotCmds m [0] 0 0

/-- R320, R324: a refused start: outputs off, 0x5020, RUN commands REFUSED. -/
def State.startFail (s : State) (m cause : Nat) : State :=
  let x := s.mot m
  let s := (s.inc (F.MOT_COUNT_START_FAILS m)).post 2 0x5020 8 m [(0, 1, cause), (1, 2, x.pMax), (3, 2, x.pOpp)]
  (s.motToOff m).endMotCmds m [0] 4 cause

/-! ### Currents (R316–R319) -/

/-- A shunt's ADC code in µA. -/
def State.shunt (s : State) (m : Nat) (code : Int) : Int := roundHalf (code * s.rd (F.MOT_ISCALE_ISCALE m) * 1000) 16777216

/-- R316: the sample window of a phase at a high-side duty is at least WIN_MIN, never less than 1.2 µs. -/
def State.windowOk (s : State) (m duty : Nat) : Bool :=
  (5 * s.rd (F.MOT_CFG_DEADTIME m) + max 1200 (10 * s.rd (F.MOT_PROT_WIN_MIN m))) * 65536 * max 1 (s.rd (F.MOT_CFG_PWM_KHZ m))
    ≤ (65536 - duty) * 1000000

/-- The phases sampled on a tick under the duties in use, with the shunts' codes. -/
def State.sampled (s : State) (m : Nat) (x : MotSample) : List (Nat × Int) :=
  let d := (s.mot m).duties
  [(0, x.iu), (1, x.iv), (2, x.iw)].filter (fun p => s.windowOk m (d.getD p.1 0))

/-- The three phase currents of a measured tick (R317). -/
def threeOf (l : List (Nat × Int)) : Int × Int × Int :=
  let g (i : Nat) : Int := match l.find? (fun p => p.1 = i) with
    | some p => p.2
    | none => - (l.map (·.2)).foldl (· + ·) 0
  (g 0, g 1, g 2)

/-- Taylor sum of the sine, from term `k` with power `p`; x in 2^-30 rad. -/
def sinTerms : Nat → Nat → Int → Int → Int
  | 0, _, _, _ => 0
  | n + 1, k, p, x2 => p + sinTerms n (k + 2) (-(p * x2 / 1073741824) / ((k + 1) * (k + 2) : Nat)) x2

/-- The sine of a first-quadrant angle of 0 to 16,384 2^-16 turns, times 2^30. -/
def sinQuad (a : Nat) : Int :=
  let x : Int := a * 3373259426 / 32768
  sinTerms 8 1 x (x * x / 1073741824)

/-- The sine of an angle in 2^-16 turn, times 2^30. -/
def sinTurn (a : Nat) : Int :=
  let a := a % 65536
  if a < 16384 then sinQuad a else if a < 32768 then sinQuad (32768 - a)
  else if a < 49152 then - sinQuad (a - 32768) else - sinQuad (65536 - a)

def cosTurn (a : Nat) : Int := sinTurn (a + 16384)

/-- Three phase currents in µA as d and q currents at an angle in 2^-16 turn (log 42). -/
def toDq (i : Int × Int × Int) (a : Nat) : Int × Int :=
  let d := i.1 * cosTurn a + i.2.1 * cosTurn (a + 43691) + i.2.2 * cosTurn (a + 21845)
  let q := i.1 * sinTurn a + i.2.1 * sinTurn (a + 43691) + i.2.2 * sinTurn (a + 21845)
  (roundHalf (2 * d) 3221225472, roundHalf (-2 * q) 3221225472)

/-- The direction of a vector in 2^-16 turn. -/
def atanTurn (x y : Int) : Nat :=
  let base := if 0 ≤ y then (if 0 ≤ x then 0 else 16384) else (if x < 0 then 32768 else 49152)
  base + maxBelow (fun a => decide (0 ≤ y * cosTurn (base + a) - x * sinTurn (base + a))) 14 0

/-- The magnitude of a vector. -/
def hypot (x y : Int) : Nat := isqrt (x * x + y * y).toNat

/-- ω in µrad/s electrical. -/
def State.omega (s : State) (m : Nat) : Int := 6283185307 * s.motSpd m * s.rd (F.MOT_CFG_POLE_PAIRS m) / 1000000000

/-- R317: the currents of the motor model, in µA, from those and the voltages of the tick before. -/
def State.predict (s : State) (m : Nat) : Int × Int :=
  let x := s.mot m
  let f := s.loopNum m
  let n := s.loopDen m
  let ld : Nat := max 1 (s.rd (F.MOT_IND_LD m))
  let lq : Nat := max 1 (s.rd (F.MOT_IND_LQ m))
  let rs : Int := s.rd (F.MOT_MODEL_RS m)
  let w := s.omega m
  let uD := x.vd - rs * x.id / 1000 + w * lq * x.iq / 10000000000000
  let uQ := x.vq - rs * x.iq / 1000 - w * ld * x.id / 10000000000000 - w * s.rd (F.MOT_MODEL_KE m) / 100000
  (x.id + uD * 10000000 * n / (max 1 (f * ld) : Nat), x.iq + uQ * 10000000 * n / (max 1 (f * lq) : Nat))

/-- R318: a fourth and a ninth consecutive predicted tick. -/
def State.predRun (s : State) (m : Nat) : State :=
  let s := s.inc (F.MOT_STAT_PRED_RUN m)
  let n := s.rd (F.MOT_STAT_PRED_RUN m)
  if n = 4 then
    let s := (s.inc (F.MOT_COUNT_PREDICTS m)).post 2 0x5010 8 m [(0, 1, n), (1, 1, s.motSlot m)]
    if s.on (F.MOT_CFG_POLY_EN m) then s.hurtOn (s.rd (F.MOT_CFG_POLY_STATION m)) 1 0x5010 0 else s
  else if n = 9 then
    (s.motToFault m 2).post 3 0x5011 8 m [(0, 1, n), (1, 4, s.rd (F.MOT_SPEED_SPEED m))]
  else s

/-! ### Gate drives (R311, R315, R322, R323) -/

/-- Whether the injection runs: as the source, or in COAST at a speed that suits it (R325, R328). -/
def State.injects (s : State) (m : Nat) : Bool :=
  s.canInject m && (s.rd (F.MOT_STAT_ASRC m) == 1 || (s.motState m == 5 && s.suits m (s.mot m).openSpd == 1))

/-- R325: HFI_AMP at HFI_FREQ on the d-axis, in µV; the spec gives no waveform, a sine is taken (log 127). -/
def State.injVolt (s : State) (m : Nat) : Int :=
  if s.injects m then s.rd (F.MOT_HFI_HFI_AMP m) * 10000 * sinTurn ((s.mot m).hfi / 65536) / 1073741824 else 0

/-- R315: the high-side duties of space-vector PWM for a voltage at an angle in 2^-16 turn. -/
def State.spaceVector (s : State) (m : Nat) (vd vq : Int) (a : Nat) : List Nat :=
  let p (k : Nat) : Int := vd * cosTurn (a + k) - vq * sinTurn (a + k)
  let l := [p 0, p 43691, p 21845]
  let mid := (maxI 0 l + minI 0 l) / 2
  let bus : Nat := max 1 (s.rd (F.MOT_VBUS_VBUS m)) * 1000
  l.map (fun v => (clampI 0 65536 (32768 + (v - mid) * 65536 / (bus * 1073741824 : Nat))).toNat)

/-- R323: what the vector at 30° × k drives a phase at 120° × ph to: 1 high, 0 low, none open. -/
def pulseLevel (k ph : Nat) : Option Nat :=
  match (k + 12 - 4 * ph) % 12 with
  | 0 | 1 | 2 | 10 | 11 => some 1
  | 3 | 9 => none
  | _ => some 0

/-- R323: the vectors in the order applied: opposite pairs. -/
def pulseOrder : List Nat := [0, 6, 1, 7, 2, 8, 3, 9, 4, 10, 5, 11]

/-- R323, R324: the length of one vector in ns. -/
def State.pulseTime (s : State) (m : Nat) : Nat :=
  s.rd (F.MOT_START_PULSE_T m) * (if (s.mot m).attempt = 1 then 2 else 3) * 500

/-- R323: the length of a vector and the rest after it, in ns. -/
def State.pulseSpan (s : State) (m : Nat) : Nat := max 1 (s.pulseTime m + s.rd (F.MOT_START_PULSE_REST m) * 10000)

/-- R323: the vector applied at `now`; none in a rest, and while the next pulse waits for the current to fall. -/
def State.pulseNow (s : State) (m : Nat) : Option Nat :=
  let x := s.mot m
  let t := s.now - x.pulseAt
  if x.pulseWait || s.pulseTime m ≤ t % s.pulseSpan m then none else pulseOrder[x.pulseK + t / s.pulseSpan m]?

/-- R323: a loop tick in ALIGN at the end of a rest, or while a pulse waits: it starts once the current of every phase is below
1 % of OC_TRIP. Between ticks the pulses follow one another. -/
def State.pulseTick (s : State) (m : Nat) (x : MotSample) : State :=
  let y := s.mot m
  let t := s.now - y.pulseAt
  let k := if y.pulseWait then 0 else (t - 1) / s.pulseSpan m
  let due := y.pulseWait || (0 < t && t % s.pulseSpan m == 0)
  let low := [x.iu, x.iv, x.iw].all (fun c => decide ((s.shunt m c).natAbs < 100 * s.rd (F.MOT_PROT_OC_TRIP m)))
  if !due || 12 ≤ y.pulseK + k then s
  else if low then s.modMot m (fun y => { y with pulseK := y.pulseK + k + 1, pulseAt := s.now, pulseWait := false })
  else s.modMot m (fun y => { y with pulseK := y.pulseK + k, pulseWait := true })

/-- R311: the level of the gate drive of a phase, high side or low, `t` ns after the PWM valley: centre-aligned and
complementary, each turn-on delayed by DEADTIME after the opposite gate turns off. -/
def State.gate (s : State) (m ph : Nat) (high : Bool) (t : Nat) : Bool :=
  let k := max 1 (s.rd (F.MOT_CFG_PWM_KHZ m))
  let d := (s.mot m).duties.getD ph 0
  let all := 1000000 * 131072
  let u := t * k * 131072 % all
  let rise := 1000000 * (65536 - d)
  let fall := 1000000 * (65536 + d)
  let dead := 5 * s.rd (F.MOT_CFG_DEADTIME m) * k * 131072
  match (s.mot m).drive with
  | .off => false
  | .brake on => on && !high
  | .pulses => (s.pulseNow m).bind (fun v => pulseLevel v ph) == some (b2n high)
  | .pwm =>
    if d = 0 then !high else if 65536 ≤ d then high
    else if high then decide (rise + dead ≤ u ∧ u < fall)
    else decide ((u < rise ∧ fall + dead ≤ u + all) ∨ fall + dead ≤ u)

/-! ### The controllers (R315) -/

/-- A PI's output under a clamp, and its integral, which stands while the output is clamped. -/
def piStep (p i di lim : Int) : Int × Int :=
  let out := p + i + di
  if out < -lim then (-lim, i) else if lim < out then (lim, i) else (out, i + di)

/-- A value moved towards a goal by at most a step. -/
def slew (x goal step : Int) : Int := clampI (x - step) (x + step) goal

/-- R315: the speed PI, at f_loop / 4. -/
def State.speedPi (s : State) (m : Nat) (goal : Int) : State :=
  let f : Nat := s.loopNum m
  let n : Nat := s.loopDen m
  let lim : Int := 10000 * s.rd (F.MOT_LIM_I_LIM m)
  s.modMot m (fun x =>
    let t := slew x.target goal (4000000 * s.rd (F.MOT_LIM_ACC_LIM m) * n / f)
    let e := t - x.spd
    let (o, i) := piStep (s.rd (F.MOT_SLOOP_KP_S m) * e / 4096) x.sInt (4 * s.rd (F.MOT_SLOOP_KI_S m) * e * n / (256 * f)) lim
    { x with target := t, sInt := i, iqRef := o })

/-- R315, R325: the current PIs, each voltage clamped to VBUS / √3 (log 42), the injection, and the duties at an angle in
2^-16 turn. -/
def State.currentPi (s : State) (m ang : Nat) (idRef iqRef : Int) : State :=
  let f : Nat := s.loopNum m
  let n : Nat := s.loopDen m
  let lim : Int := s.rd (F.MOT_VBUS_VBUS m) * 1000000 / 1732
  let kp : Int := s.rd (F.MOT_ILOOP_KP_I m)
  let ki : Int := s.rd (F.MOT_ILOOP_KI_I m)
  let inj := s.injVolt m
  s.modMot m (fun x =>
    let (vd, di) := piStep (kp * (idRef - x.id) / 256) x.dInt (ki * (idRef - x.id) * 1000 * n / (256 * f)) lim
    let (vq, qi) := piStep (kp * (iqRef - x.iq) / 256) x.qInt (ki * (iqRef - x.iq) * 1000 * n / (256 * f)) lim
    { x with
      vd := vd + inj, vq := vq, dInt := di, qInt := qi, drive := .pwm, duties := s.spaceVector m (vd + inj) vq ang
      hfi := (x.hfi + s.rd (F.MOT_HFI_HFI_FREQ m) * 1000 * n * 4294967296 / f) % 4294967296 })

/-- The set-point in use as a speed, in 10^-6 rev/s. -/
def State.speedGoal (s : State) (m : Nat) : Int :=
  s.rdS (F.MOT_SETPT_SETPT m) * s.rd (F.MOT_RATED_RATED_SPD m) * 100000 / 32768

/-! ### Angle sources (R325–R328) -/

/-- The angle source that turns the channel: open loop in COAST, else ASRC. -/
def State.turning (s : State) (m : Nat) : Nat := if s.motState m = 5 then 3 else s.rd (F.MOT_STAT_ASRC m)

/-- The angle in use, in 2^-32 electrical turn. -/
def State.motAngle (s : State) (m : Nat) : Nat :=
  let x := s.mot m
  match s.turning m with | 1 => x.injAng | 2 => x.obsAng | _ => x.openAng

/-- An angle after a loop tick at a speed, with a correction. -/
def State.turn (s : State) (m ang : Nat) (spd d : Int) : Nat :=
  let step := spd * s.rd (F.MOT_CFG_POLE_PAIRS m) * s.loopDen m * 4294967296 / (1000000 * s.loopNum m : Nat)
  ((ang + step + d) % 4294967296).toNat

/-- One tick of the angle sources: each that runs turns on at its speed, the two tracking observers with their corrections;
open-loop drive at its own (R325, R328). -/
def State.track (s : State) (m : Nat) (x : MotSample) : State :=
  let inj := s.injects m
  let isOpen := s.turning m == 3
  let s := s.modMot m (fun y => { y with
    obsAng := if y.obsOn then s.turn m y.obsAng y.obsSpd x.obsAng else y.obsAng
    obsSpd := if y.obsOn then y.obsSpd + x.obsSpd else y.obsSpd
    injAng := if inj then s.turn m y.injAng y.injSpd x.injAng else y.injAng
    injSpd := if inj then y.injSpd + x.injSpd else y.injSpd
    openAng := if isOpen then s.turn m y.openAng y.openSpd 0 else y.openAng })
  let src := s.turning m
  let s := s.modMot m (fun y => { y with spd := match src with | 1 => y.injSpd | 2 => y.obsSpd | _ => y.openSpd })
  (s.wrS (F.MOT_SPEED_SPEED m) (roundHalf (s.motSpd m) 1000)).wr (F.MOT_ANGLE_ANGLE m) (s.motAngle m / 65536)

/-- R326: the observer runs in shadow from HANDOVER − HYST, from the angle and speed in use; in COAST where it suits (R328). -/
def State.obsShadow (s : State) (m : Nat) : State :=
  let ho := s.rd (F.MOT_HFI_HANDOVER m)
  let go := if s.motState m = 5 then s.suits m (s.mot m).openSpd == 2
    else s.atMille m (ho - s.rd (F.MOT_HFI_HYST m)) (s.motSpd m)
  let ang := s.motAngle m
  s.modMot m (fun y =>
    if !go then { y with obsOn := false, obsConfs := [], obsC := 0 } else if y.obsOn then y else { y with obsOn := true, obsAng := ang, obsSpd := y.spd })

/-- R315, R325, R328: the current references, voltages and duties of a tick in RUN, COAST or STOP. -/
def State.control (s : State) (m : Nat) : State :=
  let st := s.motState m
  let ang := s.motAngle m / 65536
  let lim : Int := 10000 * s.rd (F.MOT_LIM_I_LIM m)
  if s.turning m = 3 then
    let i : Int := 100 * s.rd (F.MOT_OBS_COAST_PCT m) * s.rd (F.MOT_RATED_RATED_I m)
    let s := if st = 5 then s else s.modMot m (fun x => { x with
      openSpd := slew x.openSpd (if st = 6 then 0 else s.speedGoal m)
        (1000000 * s.rd (F.MOT_LIM_ACC_LIM m) * s.loopDen m / s.loopNum m) })
    s.currentPi m ang (min i lim) 0
  else if st = 4 && s.on (F.MOT_SETPT_KIND m) then
    let r := clampI (-lim) lim (s.rdS (F.MOT_SETPT_SETPT m) * s.rd (F.MOT_RATED_RATED_I m) * 10000 / 32768)
    (s.modMot m (fun x => { x with iqRef := r })).currentPi m ang 0 r
  else
    let s := if (s.mot m).tick % 4 = 0 then s.speedPi m (if st = 6 then 0 else s.speedGoal m) else s
    s.currentPi m ang 0 (s.mot m).iqRef

/-! ### Confidence and handover (R325–R327) -/

/-- The observer's confidence of one tick, for a residual in µA. -/
def State.obsConf (s : State) (m resid : Nat) : Nat :=
  let t := s.rd (F.MOT_OBS_RES_TOL m) * 10000
  if t = 0 then 0 else 255 * (t - resid) / t

/-- R325: the injection's confidence of one tick. -/
def injConf (meas exp : Nat) : Nat := if exp = 0 then 255 else 255 * min meas exp / exp

/-- R325: A_exp. -/
def State.injExp (s : State) (m : Nat) : Nat :=
  (Config.injExpect (s.rd (F.MOT_IND_LD m)) (s.rd (F.MOT_IND_LQ m)) (s.rd (F.MOT_HFI_HFI_AMP m)) (s.rd (F.MOT_HFI_HFI_FREQ m))).toNat

/-- R327: CONF of a measured tick, averaged over the last electrical period, and what it has been since. `resid` is the residual
between the measured currents and those of the motor model (log 127). -/
def State.confStep (s : State) (m resid aMeas : Nat) : State :=
  let src := s.rd (F.MOT_STAT_ASRC m)
  let os := ((s.now, s.obsConf m resid) :: (s.mot m).obsConfs).filter (fun p =>
    p.1 = s.now || !s.elPassed m 1 (s.motSpd m) (s.now - p.1))
  let s := s.modMot m (fun y => { y with obsC := (os.map (·.2)).sum / os.length, obsConfs := os })
  let c := if (if s.motState m = 5 then s.suits m (s.mot m).openSpd else src) = 2 then s.obsConf m resid
    else injConf aMeas (s.injExp m)
  let cs := ((s.now, c) :: (s.mot m).confs).filter (fun p => p.1 = s.now || !s.elPassed m 1 (s.motSpd m) (s.now - p.1))
  let avg := (cs.map (·.2)).sum / cs.length
  let ok := s.rd (F.MOT_OBS_CONF_MIN m) ≤ avg
  (s.wr (F.MOT_STAT_CONF m) avg).modMot m (fun y => { y with
    confs := cs
    lowSince := if ok then none else y.lowSince.orElse (fun _ => some s.now)
    okSince := if ok then y.okSince.orElse (fun _ => some s.now) else none })

/-- Two angles differ by no more than 15°. -/
def within15 (a b : Nat) : Bool :=
  let d := ((a : Int) - b).natAbs
  min d (4294967296 - d) * 360 ≤ 15 * 4294967296

/-- The angle source changes; its confidence starts anew. -/
def State.setSrc (s : State) (m src : Nat) : State :=
  (s.wr (F.MOT_STAT_ASRC m) src).modMot m (fun y => { y with confs := [], lowSince := none, okSince := none })

/-- R325, R326: the angle source of a tick in RUN or STOP. -/
def State.handover (s : State) (m : Nat) : State :=
  let y := s.mot m
  let ho := s.rd (F.MOT_HFI_HANDOVER m)
  if s.rd (F.MOT_STAT_ASRC m) = 2 then
    if s.atMille m (ho - s.rd (F.MOT_HFI_HYST m)) y.spd then s
    else (s.seedAngle m y.obsAng y.obsSpd).setSrc m (if s.canInject m then 1 else 3)
  else if y.obsOn && s.atMille m ho y.spd && s.rd (F.MOT_OBS_CONF_MIN m) ≤ y.obsC && within15 (s.motAngle m) y.obsAng then
    s.setSrc m 2
  else s

/-! ### The loop tick (R312, R313, R318–R320, R329, R330) -/

/-- R312, R313: the command pin that names a channel. -/
def State.pinOf (s : State) (m : Nat) : Option Nat :=
  (List.range 8).find? (fun n => s.rd (F.CMD_CFG_MODE n) != 0 && s.rd (F.CMD_CFG_TARGET n) == m)

/-- R312: bit 0 of a motor Clasp's value is ENABLE, bit 1 KIND, bit 2 COAST, bits 31:16 SETPT (log 43). -/
def motValue (en kind coast setpt : Nat) : Nat := en % 2 + 2 * (kind % 2) + 4 * (coast % 2) + 65536 * (setpt % 65536)

/-- The values in use: ENABLE and COAST from the Clasp, SETPT and KIND from the pin where one names the channel. -/
def State.motSample (s : State) (m : Nat) : State :=
  let v := s.claspOut m
  let s := s.wr (F.MOT_STAT_ENABLE m) (v % 2)
  let pin := s.pinOf m
  let kind := match pin with | some n => s.rd (F.CMD_CFG_KIND n) | none => v / 2 % 2
  let set := match pin with | some n => uBits 16 (s.pins.getD n {}).setpt | none => v / 65536 % 65536
  let s := (s.wr (F.MOT_SETPT_SRC m) (b2n pin.isSome)).wr (F.MOT_SETPT_SETPT m) set
  (s.wr (F.MOT_SETPT_KIND m) (if s.on (F.MOT_CFG_POLY_EN m) then 0 else kind)).endMotCmds m [1] 0 0

/-- R320: a disable is a coasting one. -/
def State.coasting (s : State) (m : Nat) : Bool :=
  s.on F.GLB_STATE_HOLD || s.claspOut m / 4 % 2 == 1 || !s.on (F.MOT_CFG_STOP_MODE m)

/-- R320, R329: what ENABLE brings on a tick; HOLD and a low supply (R528) keep it from acting. -/
def State.motEnable (s : State) (m : Nat) : State :=
  let en := s.on (F.MOT_STAT_ENABLE m) && !s.on F.GLB_STATE_HOLD && !s.undervolt
  match s.motState m with
  | 0 => if en then s.motToCatch m else s
  | 4 => if en then s else if s.coasting m then s.motToOff m else s.setMot m 6
  | 6 =>
    if en then s.motToRun m (s.rd (F.MOT_STAT_ASRC m))
    else if s.coasting m || s.belowCatch m (s.motSpd m) then s.motToOff m else s
  | 7 => s
  | _ => if en then s else s.motToOff m

/-- R330: the speed has been within AT_WIN since; AT_SPEED falls at once. -/
def State.atWindow (s : State) (m : Nat) : State :=
  let goal := s.rdS (F.MOT_SETPT_SETPT m) * s.rd (F.MOT_RATED_RATED_SPD m) * 100
  let d : Int := (s.motSpd m * 32768 - goal * 1000).natAbs
  if !s.on (F.MOT_SETPT_KIND m) && d * 10 ≤ s.rd (F.MOT_AT_AT_WIN m) * goal then
    s.modMot m (fun x => { x with atSince := x.atSince.orElse (fun _ => some s.now) })
  else (s.wr (F.MOT_STAT_AT_SPEED m) 0).modMot m (fun x => { x with atSince := none })

/-- R319: the first sampled phase above OC_TRIP, with its current in 10 mA. -/
def State.overCurrent (s : State) (m : Nat) (l : List (Nat × Int)) : Option (Nat × Int) :=
  let k : Int := s.rd (F.MOT_ISCALE_ISCALE m)
  (l.find? (fun p => decide (s.rd (F.MOT_PROT_OC_TRIP m) * 167772160 < (p.2 * k).natAbs))).map
    (fun p => (p.1, roundHalf (p.2 * k) 167772160))

/-- R319: a sample above OC_TRIP turns the outputs off. -/
def State.motOver (s : State) (m : Nat) (l : List (Nat × Int)) : State :=
  match s.overCurrent m l with
  | some (ph, i) => (s.motToFault m 1).post 3 0x5040 8 m [(0, 1, ph), (1, 2, uBits 16 i)]
  | none => s

/-- The currents of a tick are formed, and checked. -/
def State.motCurrents (s : State) (m : Nat) (x : MotSample) : State :=
  let l := s.sampled m x
  let put (s : State) (dq : Int × Int) : State :=
    ((s.modMot m (fun y => { y with id := dq.1, iq := dq.2 })).wrS (F.MOT_IDQ_ID m) (roundHalf dq.1 10000)).wrS
      (F.MOT_IDQ_IQ m) (roundHalf dq.2 10000)
  match s.overCurrent m l with
  | some _ => s.motOver m l
  | none =>
    let model := s.predict m
    if 2 ≤ l.length then
      let dq := toDq (threeOf (l.map (fun p => (p.1, s.shunt m p.2)))) (s.motAngle m / 65536)
      (put (s.wr (F.MOT_STAT_PRED_RUN m) 0) dq).confStep m (hypot (dq.1 - model.1) (dq.2 - model.2)) x.aMeas
    else (put s model).predRun m

/-- R321: the space vector of the phase voltages at one tick. -/
def State.emfStep (s : State) (m : Nat) (x : MotSample) : State :=
  let k : Int := s.rd (F.MOT_VSCALE_VSCALE m)
  let v (c : Int) : Int := roundHalf (c * k * 1000) 16777216
  let al := (2 * v x.vu - v x.vv - v x.vw) / 3
  let be := (v x.vv - v x.vw) * 1000000 / 1732051
  let a := atanTurn al be
  s.modMot m (fun y => { y with emf := some (match y.emf with
    | none => ⟨s.now, s.now, a, 0, hypot al be⟩
    | some e => ⟨e.t0, s.now, a, e.rot + sInt 16 ((a + 65536 - e.ang) % 65536), hypot al be⟩) })

/-- R322: a tick in BRAKE: the low-side switches chopped at I_LIM, or, for 1 ms of every 10 ms, all switches open. -/
def State.brakeStep (s : State) (m : Nat) (x : MotSample) : State :=
  if (s.mot m).measuredAt + 10000000 ≤ s.now then
    (s.modMot m (fun y => { y with drive := .off })).emfStep m x
  else
    let low := [x.iu, x.iv, x.iw].all (fun c => decide ((s.shunt m c).natAbs ≤ 10000 * s.rd (F.MOT_LIM_I_LIM m)))
    (s.modMot m (fun y => { y with drive := .brake low, emf := none })).motOver m (s.sampled m x)

/-- R317: one tick of a channel's current loop. -/
def State.motorTick (s : State) (m : Nat) (x : MotSample) : State :=
  let s := s.motSample m
  let st := s.motState m
  let s := if st = 4 ∨ st = 5 ∨ st = 6 then (s.track m x).motCurrents m x
    else if st = 1 then s.emfStep m x
    else if st = 2 then s.brakeStep m x
    else if st = 3 then s.pulseTick m x else s
  let s := s.motEnable m
  let s := if s.motState m = 4 ∨ s.motState m = 5 ∨ s.motState m = 6 then s.obsShadow m else s
  let s := if s.motState m = 4 ∨ s.motState m = 6 then s.handover m else s
  let s := if s.motState m = 4 ∨ s.motState m = 5 ∨ s.motState m = 6 then s.control m else s
  (s.modMot m (fun y => { y with tick := (y.tick + 1) % 4 })).atWindow m

/-- R312, R320: HOLD turns every channel off at once. -/
def State.motHold (s : State) : State :=
  (List.range 16).foldl (fun (s : State) (m : Nat) =>
    let s := s.wr (F.MOT_STAT_ENABLE m) 0
    if s.motState m = 0 ∨ s.motState m = 7 then s else s.motToOff m) s

/-! ### Catch, brake, start (R320–R324) -/

/-- R321: the amplitude of the back-EMF, in µV, is that of a speed below CATCH. -/
def State.emfSlow (s : State) (m amp : Nat) : Bool :=
  amp * 10000000000000 < s.rd (F.MOT_MODEL_KE m) * 10 * 6283185307 * (s.rd (F.MOT_RATED_RATED_SPD m) * s.rd (F.MOT_START_CATCH m))
    * s.rd (F.MOT_CFG_POLE_PAIRS m)

/-- R321: the speed of the rotation in 10^-6 rev/s, signed with its direction. -/
def State.emfSpeed (s : State) (m : Nat) (e : Emf) : Int :=
  e.rot * 1000000000000000 / (max 1 (65536 * s.rd (F.MOT_CFG_POLE_PAIRS m) * (e.t1 - e.t0)) : Nat)

/-- R321: what the measurement gives: the speed, 0 with no sample, and whether |speed| < CATCH. -/
def State.emfRead (s : State) (m : Nat) : Int × Bool :=
  match (s.mot m).emf with
  | none => (0, true)
  | some e => (s.emfSpeed m e, s.emfSlow m e.amp || s.belowCatch m (s.emfSpeed m e))

/-- The speed measured shows in MOT_SPEED. -/
def State.showSpeed (s : State) (m : Nat) (spd : Int) : State :=
  (s.wrS (F.MOT_SPEED_SPEED m) (roundHalf spd 1000)).modMot m (fun x => { x with spd := spd })

/-- R321: the 2 ms of CATCH have passed. -/
def State.catchDone (s : State) (m : Nat) : State :=
  if s.motState m ≠ 1 ∨ s.now < (s.mot m).stateAt + 2000000 then s else
  let (spd, slow) := s.emfRead m
  let ang := ((((s.mot m).emf.map (·.ang)).getD 0) + 49152) % 65536
  let s := s.showSpeed m spd
  if slow then (s.setMot m 3).modMot m (fun x => { x with
    attempt := 1, drive := .pulses, pulseK := 0, pulseAt := s.now, pulseWait := false })
  else if 0 < spd then
    let s := (s.inc (F.MOT_COUNT_CATCHES m)).wr (F.MOT_ANGLE_ANGLE m) ang
    let s := (s.seedAngle m (ang * 65536) spd).motToRun m (s.suits m spd)
    s.post 0 0x5022 8 m [(0, 4, s.rd (F.MOT_SPEED_SPEED m))]
  else (s.setMot m 2).modMot m (fun x => { x with drive := .brake true, emf := none })

def execCatchComplete (m : Fin 16) (s : State) : Out State Fault Refusal := .next (s.live (s.catchDone m))

/-- R322: the end of the 1 ms of a measurement in BRAKE. -/
def State.brakeMeasure (s : State) (m : Nat) : State :=
  let x := s.mot m
  if s.motState m ≠ 2 ∨ s.now < x.measuredAt + 11000000 then s else
  let (spd, slow) := s.emfRead m
  let s := (s.showSpeed m spd).modMot m (fun y => { y with
    measuredAt := x.measuredAt + 10000000, emf := none, drive := .brake true })
  if slow then s.motToCatch m else s

def execBrakeMeasure (m : Fin 16) (s : State) : Out State Fault Refusal := .next (s.live (s.brakeMeasure m))

/-- R320: 2 s in BRAKE. -/
def State.brakeTimeout (s : State) (m : Nat) : State :=
  if s.motState m = 2 && (s.mot m).stateAt + 2000000000 ≤ s.now then
    (s.modMot m (fun x => { x with pMax := 0, pOpp := 0 })).startFail m 3 else s

def execBrakeTimeout (m : Fin 16) (s : State) : Out State Fault Refusal := .next (s.live (s.brakeTimeout m))

/-- R323: the current along the vector at 30° × k, in µA. -/
def State.along (s : State) (m k : Nat) (p : MotPulse) : Int :=
  (toDq (s.shunt m p.iu, s.shunt m p.iv, s.shunt m p.iw) (65536 * k / 12)).1

/-- R323: the loop ticks past PULSE_REST before the current of every phase is below 1 % of OC_TRIP, none where the samples end
first. -/
def State.fallTicks (s : State) (m : Nat) : List (Int × Int × Int) → Option Nat
  | [] => none
  | c :: t =>
    if [c.1, c.2.1, c.2.2].all (fun i => decide ((s.shunt m i).natAbs < 100 * s.rd (F.MOT_PROT_OC_TRIP m))) then some 0
    else (s.fallTicks m t).map (· + 1)

/-- R323: the length of an attempt in ns, with the waits for the current to fall; none where a current has not fallen. -/
def State.alignTime (s : State) (m : Nat) (ps : List MotPulse) : Option Nat :=
  let waits := ps.map (fun p => s.fallTicks m p.rest)
  if waits.any (·.isNone) then none
  else some (12 * (s.pulseTime m + s.rd (F.MOT_START_PULSE_REST m) * 10000)
    + ceilDiv ((waits.map (·.getD 0)).sum * s.loopDen m * 1000000000) (s.loopNum m))

/-- R323: the peaks are recorded, in the order of the pulses, to the first above OC_TRIP; whether one was. -/
def State.pulses (s : State) (m : Nat) : List Nat → List MotPulse → State × Bool
  | k :: ks, p :: ps =>
    let i := s.along m k p
    let s := s.wr (F.MOT_PULSE_PEAK m k) (min 65535 (roundHalf (max 0 i) 10000).toNat)
    if (s.rd (F.MOT_PROT_OC_TRIP m) : Int) * 10000 < i then (s, true) else s.pulses m ks ps
  | _, _ => (s, false)

/-- R324: the vector of the largest peak. -/
def State.bestPulse (s : State) (m : Nat) : Nat :=
  (List.range 12).foldl (fun a k => if s.rd (F.MOT_PULSE_PEAK m a) < s.rd (F.MOT_PULSE_PEAK m k) then k else a) 0

/-- R323: MOT_PULSE_k show the last attempt: its peaks, and 0 for vectors it did not reach (log 108). -/
def State.attempt (s : State) (m : Nat) (ps : List MotPulse) : State × Bool :=
  ((List.range 12).foldl (fun (s : State) (k : Nat) => s.wr (F.MOT_PULSE_PEAK m k) 0) s).pulses m pulseOrder ps

/-- R324: the pulses of an attempt end; `ps` are in the order applied. -/
def State.alignDone (s : State) (m : Nat) (ps : List MotPulse) : State :=
  if s.motState m ≠ 3 then s else
  let (t, ovr) := s.attempt m ps
  let k := t.bestPulse m
  let pm := t.rd (F.MOT_PULSE_PEAK m k)
  let po := t.rd (F.MOT_PULSE_PEAK m ((k + 6) % 12))
  let u := t.modMot m (fun x => { x with pMax := pm, pOpp := po })
  if ovr then u.startFail m 2
  else match s.alignTime m ps with
    | none => s
    | some dt =>
      if s.now < (s.mot m).stateAt + dt then s
      else if s.rd (F.MOT_START_CONTRAST m) * pm ≤ (pm - po) * 256 then
        ((u.wr (F.MOT_ANGLE_ANGLE m) (65536 * k / 12)).seedAngle m (4294967296 * k / 12) 0).motToRun m (if s.canInject m then 1 else 3)
      else if (s.mot m).attempt = 1 then u.modMot m (fun x => { x with
        attempt := 2, stateAt := s.now, pulseK := 0, pulseAt := s.now, pulseWait := false })
      else u.startFail m 1

def execAlignComplete (m : Fin 16) (pulses : List MotPulse) (s : State) : Out State Fault Refusal := .next (s.live (s.alignDone m pulses))

/-! ### Loss of the rotor (R320, R327, R328) -/

/-- R327: CONF has stayed below CONF_MIN for four electrical periods or 20 ms. -/
def State.rotorLoss (s : State) (m : Nat) : State :=
  match (s.mot m).lowSince with
  | none => s
  | some t =>
    let src := s.rd (F.MOT_STAT_ASRC m)
    if s.motState m ≠ 4 ∨ src = 3 ∨ !(decide (t + 20000000 ≤ s.now) || s.elPassed m 4 (s.motSpd m) (s.now - t)) then s else
    let conf := s.rd (F.MOT_STAT_CONF m)
    let v := s.motSpd m
    let ang := s.motAngle m
    let s := ((s.setMot m 5).wr (F.MOT_STAT_ASRC m) 3).inc (F.MOT_COUNT_COASTS m)
    let s := (s.seedAngle m ang v).obsShadow m
    s.post 1 0x5030 8 m [(0, 1, conf), (1, 1, src), (2, 4, s.rd (F.MOT_SPEED_SPEED m))]

def execRotorLoss (m : Fin 16) (s : State) : Out State Fault Refusal := .next (s.live (s.rotorLoss m))

/-- R328: CONF has stayed at CONF_MIN or above for two electrical periods or 10 ms. -/
def State.reacquired (s : State) (m : Nat) : State :=
  match (s.mot m).okSince with
  | none => s
  | some t =>
    let x := s.mot m
    if s.motState m ≠ 5 ∨ !(decide (t + 10000000 ≤ s.now) || s.elPassed m 2 x.openSpd (s.now - t)) then s else
    let s := s.motToRun m (s.suits m x.openSpd)
    (s.modMot m (fun y => { y with sInt := x.iq, iqRef := x.iq })).post 0 0x5032 8 m
      [(0, 2, min 65535 ((s.now - x.stateAt) / 1000000))]

def execReacquired (m : Fin 16) (s : State) : Out State Fault Refusal := .next (s.live (s.reacquired m))

/-- R320: 50 ms in COAST. -/
def State.rotorLost (s : State) (m : Nat) : State :=
  if s.motState m = 5 && (s.mot m).stateAt + 50000000 ≤ s.now then
    let slot := s.motSlot m
    (s.motToFault m 3).post 3 0x5031 8 m [(0, 4, s.rd (F.MOT_SPEED_SPEED m)), (4, 1, slot)]
  else s

def execRotorLost (m : Fin 16) (s : State) : Out State Fault Refusal := .next (s.live (s.rotorLost m))

/-- R330: the speed has been within AT_WIN for AT_TIME. -/
def State.atSpeed (s : State) (m : Nat) : State :=
  match (s.mot m).atSince with
  | none => s
  | some t =>
    if s.on (F.MOT_STAT_AT_SPEED m) || s.now < t + s.rd (F.MOT_AT_AT_TIME m) * 1000000 then s else
    (s.wr (F.MOT_STAT_AT_SPEED m) 1).post 0 0x5002 8 m [(0, 4, s.rd (F.MOT_SPEED_SPEED m))]

def execAtSpeed (m : Fin 16) (s : State) : Out State Fault Refusal := .next (s.live (s.atSpeed m))

def execMotClr (m : Fin 16) (s : State) : Out State Fault Refusal :=
  .next (s.live ((((s.wr (F.MOT_COUNT_PREDICTS m) 0).wr (F.MOT_COUNT_COASTS m) 0).wr (F.MOT_COUNT_CATCHES m) 0).wr
    (F.MOT_COUNT_START_FAILS m) 0))

/-- R335: RUN commands that have waited 5 s. -/
def State.motRunTimeout (s : State) (m : Nat) : State :=
  let cs := (s.mot m).cmds.filter (fun c => c.2.1 = 0 && c.2.2 + 5000000000 ≤ s.now)
  let s := s.modMot m (fun x => { x with cmds := x.cmds.filter (fun c => !cs.contains c) })
  cs.foldl (fun (s : State) (c : Nat × Nat × Nat) => s.partDone c.1 8 0 (s.motResult m (s.rd (F.MOT_FAULT_FCAUSE m)) c.2.2)) s

def execMotCmdRunTimeout (m : Fin 16) (s : State) : Out State Fault Refusal := .next (s.live (s.motRunTimeout m))

/-! ### Command pins (R331) -/

def State.modPin (s : State) (n : Nat) (f : CmdPin → CmdPin) : State := { s with pins := s.pins.modify n f }

/-- R331: the set-point of an input, rounded half up (log 44). -/
def State.pinSetpt (s : State) (n v : Nat) : Int :=
  let lo : Int := s.rd (F.CMD_IN_LO_IN_LO n)
  let hi : Int := s.rd (F.CMD_IN_HI_IN_HI n)
  let a := s.rdS (F.CMD_OUT_OUT_LO n)
  clampI (-32768) 32767 (a + roundHalf ((clampI lo hi v - lo) * (s.rdS (F.CMD_OUT_OUT_HI n) - a)) (max 1 (hi - lo)).toNat)

/-- R331: an input becomes invalid. -/
def State.pinInvalid (s : State) (n : Nat) : State :=
  if (s.pins.getD n {}).invalid then s.modPin n (fun p => { p with good := 0 }) else
  let s := (s.wr (F.CMD_STAT_VALID n) 0).modPin n (fun p => { p with invalid := true, good := 0, setpt := 0 })
  s.post 1 0x5050 8 (0x200 + n) [(0, 4, s.rd (F.CMD_VAL_VAL n)), (4, 1, s.rd (F.CMD_CFG_TARGET n))]

/-- R331: a valid measurement; after an invalid input the pin acts again on the third in a row. -/
def State.pinValid (s : State) (n v : Nat) : State :=
  let p := s.pins.getD n {}
  if p.invalid && p.good < 2 then s.modPin n (fun p => { p with good := p.good + 1 })
  else (s.wr (F.CMD_STAT_VALID n) 1).modPin n (fun p => { p with invalid := false, good := 0, setpt := s.pinSetpt n v })

/-- R331: the measurement of an input in the units of IN_LO: ten 12-bit codes of 3.3 V as mV; the high time and the period, in
MOT ticks of 5 ns, as a duty of 0.01 % or a frequency of 0.01 Hz, each rounded half up (log 128). -/
def pinValue (mode : Nat) (codes : List Nat) (high period : Nat) : Nat :=
  match mode with
  | 1 => (roundHalf (codes.sum * 3300 : Nat) 40960).toNat
  | 2 => (roundHalf (high * 10000 : Nat) (max 1 period)).toNat
  | _ => (roundHalf 20000000000 (max 1 period)).toNat

/-- R331: whether a measurement lies in its MODE's range. -/
def pinRange (mode high period : Nat) : Bool :=
  match mode with
  | 1 => true
  | 2 => period ≤ 100 * high && 100 * high ≤ 99 * period && 4000 ≤ period && period ≤ 2000000
  | _ => 100 ≤ period && period ≤ 20000000

/-- R331: a measurement of a command pin: every 1 ms, or each input period. -/
def State.pinMeasure (s : State) (n : Nat) (codes : List Nat) (high period : Nat) : State :=
  let mode := s.rd (F.CMD_CFG_MODE n)
  if mode = 0 then s else
  let v := pinValue mode codes high period
  let s := (s.wr (F.CMD_VAL_VAL n) v).modPin n (fun p => { p with lastAt := s.now })
  if pinRange mode high period then s.pinValid n v else s.pinInvalid n

/-- R331: no edge for two periods of the lowest frequency of the range. -/
def State.pinTimeout (s : State) (n : Nat) : State :=
  let mode := s.rd (F.CMD_CFG_MODE n)
  let span := if mode = 2 then 20000000 else 200000000
  if (mode = 2 ∨ mode = 3) ∧ (s.pins.getD n {}).lastAt + span ≤ s.now then s.pinInvalid n else s

def execCmdPinTimeout (n : Fin 8) (s : State) : Out State Fault Refusal := .next (s.live (s.pinTimeout n))

/-! ### Machine commands (R335) -/

/-- A channel's command value with some parts replaced. -/
def State.motWant (s : State) (m : Nat) (en kind coast set : Option Nat) : Nat :=
  let w := s.cmdVal m
  motValue (en.getD (w % 2)) (kind.getD (w / 2 % 2)) (coast.getD (w / 4 % 2)) (set.getD (w / 65536 % 65536))

/-- R335: the first field of 0 that refuses a RUN. -/
def State.motUnset (s : State) (m : Nat) : Option Fld :=
  [F.MOT_RATED_RATED_I m, F.MOT_RATED_RATED_SPD m, F.MOT_PROT_OC_TRIP m, F.MOT_MODEL_KE m, F.MOT_IND_LD m,
    F.MOT_IND_LQ m].find? (fun f => s.rd f = 0)

/-- The command waits on the channel. -/
def State.motWait (s : State) (m ref op : Nat) : Applied :=
  .done (s.modMot m (fun x => { x with cmds := x.cmds ++ [(ref, op, s.now)] })) 1 0

/-- R335: MOT_CMD. DETAIL names an unset field by its lowest bit in [15:11] and its offset in the channel's registers in [10:0]
(log 73). -/
def State.motCmd (s : State) (ref m op kind set : Nat) : Applied :=
  match op with
  | 0 =>
    if s.motState m = 7 ∨ s.on F.GLB_STATE_HOLD then .fail 0 5 0 (s.motResult m (s.rd (F.MOT_FAULT_FCAUSE m)) s.now) id
    else match s.motUnset m with
      | some f => .fail 0 4 (f.lo * 2048 + f.off % 2048) (s.motResult m 0 s.now) id
      | none =>
        let s := s.setCmd m (s.motWant m (some 1) (some kind) (some 0) (some set))
        if s.motState m = 4 then .done s 0 (s.motResult m 0 s.now) else s.motWait m ref 0
  | 1 =>
    let locked := s.on (F.MOT_CFG_POLY_EN m) && s.on (F.ST_PH_CTL_LOCK_EN (s.rd (F.MOT_CFG_POLY_STATION m)))
    if (s.pinOf m).isSome || locked || (s.driver m).isSome then .fail 0 5 0 (s.motResult m 0 s.now) id
    else (s.setCmd m (s.motWant m none (some kind) none (some set))).motWait m ref 1
  | 4 =>
    if s.motState m ≠ 7 then .fail 0 5 0 (s.motResult m 0 s.now) id
    else
      let s := ((s.wr (F.MOT_STAT_FAULT m) 0).wr (F.MOT_FAULT_FCAUSE m) 0).motToOff m
      .done s 0 (s.motResult m 0 s.now)
  | _ =>
    let s := s.setCmd m (s.motWant m (some 0) none (some (op - 2)) none)
    if s.motState m = 0 then .done s 0 (s.motResult m 0 s.now) else s.motWait m ref op

/-- R335: a MOT_CMD or XD_CMD transaction. -/
def State.applyMot (s : State) (ref : Nat) (ds : List Desc) : Applied :=
  let d := ds.headD 0
  let b (i : Nat) : Nat := dField d i 1
  if ds.length ≠ 1 ∨ dCount d ≠ 0 ∨ !dZero d 16 63 then .fail 0 1 0 0 id
  else if dOpcode d = 0x30 then
    if 15 < b 8 ∨ 4 < b 9 ∨ 1 < b 10 ∨ b 11 ≠ 0 ∨ !dZero d 14 15 then .fail 0 1 0 0 id
    else s.motCmd ref (b 8) (b 9) (b 10) (dField d 12 2)
  else if 7 < b 8 ∨ !dZero d 9 11 then .fail 0 1 0 0 id
  else
    let n := b 8
    let s := s.setCmd (80 + n) (dField d 12 4)
    if s.xdCmdUsed n then .done s 0 0 else .done (s.modXd n (fun x => { x with waits := x.waits ++ [ref] })) 1 0

end Sys2Proof.Machine
end

