-- ==== Sys2Proof/Machine/Web.lean ====
section
/-! DEFINITION. Encoders and the web tracker (chapter 13, R353–R359; R25–R27). -/

namespace Sys2Proof.Machine

open Sys2Proof

def State.enc (s : State) (n : Nat) : Enc := s.encs.getD n {}

def State.modEnc (s : State) (n : Nat) (f : Enc → Enc) : State := { s with encs := s.encs.modify n f }

def State.modWeb (s : State) (f : Web → Web) : State := { s with web := f s.web }

/-- A 48-bit signed value in its two registers. -/
def State.wr48 (s : State) (lo hi : Fld) (v : Int) : State := s.wr64 lo hi v

/-- The lowest slot in flight, or 0xFF. -/
def State.anySlot (s : State) : Nat := (s.slotsWhere (fun x => x.st.inFlight)).headD 255

/-! ### Contributions and the fused position (R355, R356) -/

/-- R355: an encoder's contribution extrapolated to `now`, never back, never within 1/256 unit of the next count. -/
def Enc.reach (e : Enc) (scale now : Nat) : Int :=
  if e.interval = 0 then e.contrib else
  let x : Int := min (scale - 65536) (scale * (now - e.lastAt) / e.interval)
  if 0 < e.dir then max e.contrib (e.exact + x) else min e.contrib (e.exact - x)

/-- Every enabled encoder's contribution brought to `now`. -/
def State.encTick (s : State) : State :=
  (List.range 8).foldl (fun (s : State) (n : Nat) =>
    if s.on (F.ENC_CFG_EN n) then s.modEnc n (fun e => { e with contrib := e.reach (s.rd (F.ENC_SCALE_SCALE n)) s.now }) else s) s

def State.priEnc (s : State) : Enc := s.enc (s.rd F.WEB_CFG_PRI)
def State.secEnc (s : State) : Enc := s.enc (s.rd F.WEB_CFG_SEC)

/-- R355: f, in 1/256 unit, as the MODE and the source in use give it. -/
def State.fused (s : State) : Int :=
  let p := s.priEnc.contrib / 65536
  let q := s.secEnc.contrib / 65536
  s.web.off + (match s.rd F.WEB_CFG_MODE with
    | 1 => (s.priEnc.contrib + s.secEnc.contrib) / 131072
    | 2 => if s.on F.WEB_STAT_SRC_SEC then q else p
    | _ => p)

/-- R357: REV_DEPTH, and the end of a reverse-web event. -/
def State.reverseStep (s : State) (f : Int) : State :=
  if !s.on F.WEB_STAT_REVERSED then s else
  let depth := min 4294967295 ((s.web.g - f) / 256).toNat
  let s := s.wr F.WEB_REV_DEPTH_DEPTH (max depth (s.rd F.WEB_REV_DEPTH_DEPTH))
  if s.web.g ≤ f then (s.wr F.WEB_STAT_REVERSED 0).post 0 0x5213 9 0x300 [(0, 4, s.rd F.WEB_REV_DEPTH_DEPTH)] else s

/-- R358: the comparison of the two encoders over every 4,000,000 units of f. -/
def State.compareStep (s : State) (f : Int) : State :=
  let m := s.rd F.WEB_CFG_MODE
  if !(m = 1 ∨ m = 2) ∨ (f - s.web.spanF).natAbs < 1024000000 then s else
  let p := s.priEnc.contrib
  let q := s.secEnc.contrib
  let d := ((p - s.web.spanPri) - (q - s.web.spanSec)).natAbs
  let lim := s.rd F.WEB_DISAGREE_DISAGREE * 16777216
  let s := s.modWeb (fun w => { w with spanF := f, spanPri := p, spanSec := q })
  if lim < d then
    (if s.on F.WEB_STAT_DIS then s else (s.wr F.WEB_STAT_DIS 1).post 1 0x5211 9 0x300 [(0, 4, min 4294967295 (d / 16777216))])
  else if 2 * d ≤ lim then s.wr F.WEB_STAT_DIS 0 else s

/-- R358: PRI fails. -/
def State.priFails (s : State) (why : Nat) : State :=
  if s.rd F.WEB_CFG_MODE ≠ 2 ∨ s.on F.WEB_STAT_SRC_SEC ∨ !s.on F.WEB_CFG_EN then s else
  let f := s.fused
  let s := (s.wr F.WEB_STAT_SRC_SEC 1).modWeb (fun w => { w with off := f - s.secEnc.contrib / 65536 })
  let s := s.post 2 0x5212 9 0x300 [(0, 1, why)]
  (s.slotsWhere (fun x => x.st = .imaging)).foldl (fun (s : State) (p : Nat) => s.modSlot p (fun x => x.worsen 1 0x5212)) s

/-- R358: PRI has failed: an illegal transition of it within the last 1 ms, or no count of it while SEC has moved FAIL_DIST. -/
def State.priCheck (s : State) : State :=
  if s.rd F.WEB_CFG_MODE ≠ 2 ∨ s.on F.WEB_STAT_SRC_SEC ∨ !s.on F.WEB_CFG_EN then s
  else if s.priEnc.illegal.any (fun t => decide (s.now < t + 1000000)) then s.priFails 0
  else if (s.rd F.WEB_FAIL_FAIL_DIST : Int) * 16777216 ≤ (s.secEnc.contrib - s.web.secAtPri).natAbs then s.priFails 1
  else s

/-- R25, R355: f and g on a 10 ns tick. -/
def State.webMove (s : State) : State :=
  let s := s.modWeb (fun w => { w with prev := s.wpos })
  if !s.on F.WEB_CFG_EN then s.encTick else
  let s := s.encTick.priCheck
  let f := s.fused
  let s := (s.reverseStep f).modWeb (fun w => { w with f := f, g := max w.g f })
  s.compareStep f

/-- R27, R356: a preset sets O so that WPOS reads it on this tick. -/
def State.webPresetTick (s : State) : State :=
  match s.web.preset with
  | some v => s.modWeb (fun w => { w with o := v * 256 - w.g, preset := none })
  | none => s

/-- R25, R356: the tracker publishes WPOS, on every 10 ns tick and at no other time. -/
def State.webTick (s : State) : State := s.webMove.webPresetTick

/-- R355, R356: WEB_CFG.EN becomes 1. -/
def State.webEnable (s : State) : State :=
  let s := (List.range 8).foldl (fun (s : State) (n : Nat) =>
    let r := s.rd64 (F.ENC_RAW_LO_RAW n) (F.ENC_RAW_HI_RAW n)
    s.modEnc n (fun e => { e with base := r, exact := 0, contrib := 0, interval := 0 })) s
  let s := s.modWeb (fun w => { w with
    o := w.g + w.o, g := 0, f := 0, off := 0, secAtPri := 0, spanF := 0, spanPri := 0, spanSec := 0, hist := [] })
  ((s.wr F.WEB_STAT_RUN 1).wr F.WEB_STAT_SRC_SEC 0).wr F.WEB_STAT_REVERSED 0

/-- R358: a commit of the web tracker group while it runs returns it to PRI; f stays continuous (log 46). -/
def State.webToPri (s : State) : State :=
  if s.on F.WEB_STAT_SRC_SEC then
    let f := s.fused
    let s := (s.wr F.WEB_STAT_SRC_SEC 0).modWeb (fun w => { w with off := 0 })
    s.modWeb (fun w => { w with off := f - s.fused, secAtPri := s.secEnc.contrib })
  else s

/-- R27, R356: a preset takes effect on the next tick. -/
def State.webPreset (s : State) (v : Int) : State := s.modWeb (fun w => { w with preset := some v })

/-! ### Counts (R353, R354, R357, R358) -/

/-- R353: an illegal transition. -/
def State.encIllegal (s : State) (n : Nat) : State :=
  let e := s.enc n
  let ts := (s.now :: e.illegal).filter (fun t => s.now < t + 1000000000 || t = s.now)
  let due := match e.errAt with | none => true | some t => decide (t + 1000000000 ≤ s.now)
  let s := (s.inc (F.ENC_STAT_ILLEGAL n)).modEnc n (fun e => { e with illegal := ts })
  let s := if due then
      (s.modEnc n (fun e => { e with errAt := some s.now })).post 1 0x5200 9 (0x100 + n) [(0, 2, min 65535 ts.length)]
    else s
  s

/-- R354: the reported count and the direction after a count; whether the direction turned backward. -/
def State.encReport (s : State) (n : Nat) (r : Int) : State × Bool :=
  let q := s.rd64 (F.ENC_REP_LO_REP n) (F.ENC_REP_HI_REP n)
  let back := s.on (F.ENC_STAT_DIR n)
  let d : Int := if back then -1 else 1
  let put (s : State) : State := s.wr48 (F.ENC_REP_LO_REP n) (F.ENC_REP_HI_REP n) r
  if 0 < d * (r - q) then (put s, false)
  else if (s.rd (F.ENC_CFG_JW n) : Int) < d * (q - r) then ((put s).wr (F.ENC_STAT_DIR n) (b2n (!back)), !back)
  else (s, false)

/-- R357: a reverse-web event of encoder `n`. -/
def State.reverseWeb (s : State) (n : Nat) : State :=
  let src := if s.on F.WEB_STAT_SRC_SEC then s.rd F.WEB_CFG_SEC else s.rd F.WEB_CFG_PRI
  if !s.on F.WEB_CFG_EN ∨ n ≠ src then s else
  let sev := if 0 < s.inFlight then 3 else 1
  let s := ((s.wr F.WEB_STAT_REVERSED 1).inc F.WEB_REV_COUNT_REVS).wr F.WEB_REV_DEPTH_DEPTH 0
  s.post sev 0x5210 9 0x300 [(0, 1, n), (1, 1, s.anySlot)]

/-- R355: a count arrives: the contribution takes its exact value if that lies ahead. The first count has no interval. -/
def State.encMove (s : State) (n : Nat) (r d : Int) : State :=
  s.modEnc n (fun e =>
    let x := (r - e.base) * s.rd (F.ENC_SCALE_SCALE n)
    { e with
      exact := x, contrib := if 0 < d then max e.contrib x else min e.contrib x, dir := d
      interval := if e.lastAt = 0 then 0 else s.now - e.lastAt, lastAt := s.now })

/-- R358: a count of PRI: SEC's movement is measured from here. -/
def State.priCounted (s : State) (n : Nat) : State :=
  if n = s.rd F.WEB_CFG_PRI then s.modWeb (fun w => { w with secAtPri := s.secEnc.contrib }) else s

/-- R353–R358: a count change of an encoder. -/
def State.encCount (s : State) (n : Nat) (fwd : Bool) : State :=
  let d : Int := if fwd != s.on (F.ENC_CFG_DIR_INV n) then 1 else -1
  let r := s.rd64 (F.ENC_RAW_LO_RAW n) (F.ENC_RAW_HI_RAW n) + d
  let s := s.wr48 (F.ENC_RAW_LO_RAW n) (F.ENC_RAW_HI_RAW n) r
  let (s, turned) := s.encReport n r
  let s := (s.encMove n r d).priCounted n
  if turned then s.reverseWeb n else s

/-- R353: a qualified active edge of Z. -/
def State.encZ (s : State) (n : Nat) : State :=
  let s := s.wr48 (F.ENC_Z_LO_ZCNT n) (F.ENC_Z_HI_ZCNT n) (s.rd64 (F.ENC_RAW_LO_RAW n) (F.ENC_RAW_HI_RAW n))
  let s := s.wr64 (F.ENC_Z_ETIME_LO_ZTIME n) (F.ENC_Z_ETIME_HI_ZTIME n) s.etime
  (s.wr (F.ENC_STAT_Z_SEEN n) 1).modEnc n (fun e => { e with zWpos := s.wpos })

/-- R353: four-fold quadrature: the change of A and B from one sample to the next; A leads B forward (log 129). -/
def quadrature (a b a' b' : Bool) : Option (Option Bool) :=
  if a = a' ∧ b = b' then none else if a ≠ a' ∧ b ≠ b' then some none else some (some (if a ≠ a' then a' != b else b' == a))

/-- R353: a filtered input on a tick: it takes the pin's level once the pin has held it for FILT MOT ticks. -/
def FiltIn.settle (x : FiltIn) (filt now : Nat) : FiltIn :=
  if x.level != x.raw && decide (x.at_ + 5 * filt ≤ now) then { x with level := x.raw } else x

/-- R353: the filters of an encoder, and what the change of its inputs means. -/
def State.encSettle (s : State) (n : Nat) : State :=
  let e := s.enc n
  let k := s.rd (F.ENC_CFG_FILT n)
  let a := e.a.settle k s.now
  let b := e.b.settle k s.now
  let z := e.z.settle k s.now
  if a = e.a && b = e.b && z = e.z then s else
  let s := s.modEnc n (fun e => { e with a := a, b := b, z := z })
  if !s.on (F.ENC_CFG_EN n) then s else
  let s := match quadrature e.a.level e.b.level a.level b.level with
    | none => s
    | some none => s.encIllegal n
    | some (some fwd) => s.encCount n fwd
  if z.level != e.z.level && z.level != s.on (F.ENC_CFG_Z_POL n) then s.encZ n else s

/-- The inputs of every encoder on a MOT tick. -/
def State.encSettles (s : State) : State := (List.range 8).foldl State.encSettle s

/-- A pin takes a level. -/
def FiltIn.drive (x : FiltIn) (l : Bool) (now : Nat) : FiltIn := if x.raw = l then x else { x with raw := l, at_ := now }

/-- R353: A and B of an encoder take levels. -/
def State.encPins (s : State) (n : Nat) (a b : Bool) : State :=
  (s.modEnc n (fun e => { e with a := e.a.drive a s.now, b := e.b.drive b s.now })).encSettle n

def execEncoderCount (n : Fin 8) (a b : Bool) (s : State) : Out State Fault Refusal := .next (s.live (s.encPins n a b))

/-- R353: Z of an encoder takes a level. -/
def State.encZPin (s : State) (n : Nat) (z : Bool) : State :=
  (s.modEnc n (fun e => { e with z := e.z.drive z s.now })).encSettle n

def execEncoderZEdge (n : Fin 8) (z : Bool) (s : State) : Out State Fault Refusal := .next (s.live (s.encZPin n z))

/-! ### Speed (R359, R482) -/

/-- The sample of f nearest to 1 ms ago, not later; else the oldest. -/
def histAt (t : Nat) : List (Nat × Int) → Option (Nat × Int)
  | [] => none
  | x :: rest => if x.1 ≤ t then some x else (histAt t rest).orElse (fun _ => some x)

/-- The samples up to the first that is 1 ms old. -/
def histKeep (t : Nat) : List (Nat × Int) → List (Nat × Int)
  | [] => []
  | x :: rest => if x.1 ≤ t then [x] else x :: histKeep t rest

/-- R359: VWEB, in µm/s, of f over the last 1 ms. -/
def State.vwebUpdate (s : State) : State :=
  if !s.on F.WEB_CFG_EN then s else
  let old := match histAt (s.now - 1000000) s.web.hist with | some x => x.2 | none => s.web.f
  let v := (s.web.f - old) * 250 / 256
  let s := (s.wrS F.WEB_VEL_VWEB v).modWeb (fun w => { w with hist := histKeep (s.now - 1000000) ((s.now, w.f) :: w.hist) })
  let s := if v = 0 then s else s.wr F.FAULT_STAT_FLUSHABLE 0
  { s with flt := { s.flt with
    webZeroSince := if v = 0 then s.flt.webZeroSince.orElse (fun _ => some s.now) else none } }

def execVwebUpdate (s : State) : Out State Fault Refusal := .next (s.live s.vwebUpdate)

end Sys2Proof.Machine
end

