-- ==== Sys2Proof/Machine/Planner.lean ====
section
/-! DEFINITION. The motion planner (R340, R342, R346, R347): speed ramps of constant jerk, profiles of moves between their
joints, profiles to rest. Positions in 2^-32 step, speeds in 2^-16 step/s, accelerations in 2^-16 step/s², times in ps
(log 45). -/

namespace Sys2Proof.Machine

open Sys2Proof

/-- The limits a ramp keeps: AMAX in step/s², JMAX in step/s³, 0 for none. -/
structure Lim where
  a : Nat
  j : Nat
  deriving DecidableEq, Repr

/-- The ramp is of full acceleration between two jerks. -/
def Lim.full (l : Lim) (dv : Nat) : Bool := l.a * l.a * 65536 ≤ dv * l.j

/-- The time of one jerk of a ramp, in ps. -/
def Lim.jerkTime (l : Lim) (dv : Nat) : Nat :=
  if l.j = 0 then 0
  else if l.full dv then l.a * 1000000000000 / l.j
  else isqrt (dv * 1000000000000000000000000 / (65536 * l.j))

/-- The duration of a ramp between two speeds, in ps. -/
def Lim.rampTime (l : Lim) (dv : Nat) : Nat :=
  if l.j = 0 ∨ l.full dv then dv * 1000000000000 / (65536 * max 1 l.a) + l.jerkTime dv else 2 * l.jerkTime dv

/-- The distance of a ramp: the mean speed times the time. -/
def Lim.rampDist (l : Lim) (v1 v2 : Nat) : Nat :=
  (v1 + v2) * l.rampTime (v2 - v1 + (v1 - v2)) * 65536 / 2000000000000

/-- A speed, acceleration and position after a time at constant jerk (R342). -/
def posAt (p v a j : Int) (t : Nat) : Int :=
  p + v * t * 65536 / 1000000000000 + a * t * t * 65536 / 2000000000000000000000000
    + j * t * t * t * 4294967296 / 6000000000000000000000000000000000000
def velAt (v a j : Int) (t : Nat) : Int := v + a * t / 1000000000000 + j * t * t * 65536 / 2000000000000000000000000
def accAt (a j : Int) (t : Nat) : Int := a + j * t * 65536 / 1000000000000

/-- A segment from a state for a time at constant jerk. -/
def mkSeg (p v a j : Int) (t : Nat) : Seg :=
  { p := p, v := v, a := a, j := j, dur := t, pEnd := posAt p v a j t, vEnd := velAt v a j t, aEnd := accAt a j t }

/-- Segments of zero duration are left out; each takes its start from the end of the one before. -/
def chain : Int → List (Int × Int × Int × Nat) → List Seg
  | _, [] => []
  | p, (v, a, j, t) :: rest => if t = 0 then chain p rest else let g := mkSeg p v a j t; g :: chain g.pEnd rest

/-- The spans of a ramp from v1 to v2, all in the direction `d`. -/
def Lim.ramp (l : Lim) (d : Int) (v1 v2 : Nat) : List (Int × Int × Int × Nat) :=
  let dv := v2 - v1 + (v1 - v2)
  let up : Int := if v1 ≤ v2 then d else -d
  let t := l.rampTime dv
  let tj := l.jerkTime dv
  let a : Int := up * (l.a * 65536 : Nat)
  let j : Int := up * l.j
  if l.j = 0 then [(d * v1, a, 0, t)]
  else
    let ap := accAt 0 j tj
    let va := velAt (d * v1) 0 j tj
    let vb := velAt va ap 0 (t - 2 * tj)
    [(d * v1, 0, j, tj), (va, ap, 0, t - 2 * tj), (vb, ap, -j, tj)]

/-- The greatest speed not above `top` that a ramp from `v` over a length reaches. A jerk-limited ramp to a lower speed can need
more length than one to rest. -/
def Lim.reach (l : Lim) (v len top : Nat) : Nat :=
  if top ≤ v then (if l.rampDist v top ≤ len then top else maxBelow (fun x => decide (x ≤ top ∧ l.rampDist v x ≤ len)) 41 0)
  else maxBelow (fun x => decide (x ≤ top ∧ (x ≤ v ∨ l.rampDist v x ≤ len))) 41 0

/-- The peak speed of a move between two joints over a length. A move entered above its VMAX slows to VMAX where the length
allows, else to a speed below it (log 45). -/
def Lim.peak (l : Lim) (v1 v2 len top : Nat) : Nat :=
  let lo := max v1 v2
  if top ≤ lo then
    (if l.rampDist v1 top + l.rampDist top v2 ≤ len then top
     else maxBelow (fun x => decide (x ≤ top ∧ (x ≤ v2 ∨ l.rampDist v1 x + l.rampDist x v2 ≤ len))) 41 0)
  else maxBelow (fun x => decide (x ≤ top ∧ (x ≤ lo ∨ l.rampDist v1 x + l.rampDist x v2 ≤ len))) 41 0

/-- The last segment of a list changed. -/
def modLast (f : Seg → Seg) : List Seg → List Seg
  | [] => []
  | [g] => [f g]
  | g :: t => g :: modLast f t

/-- A move's profile from a position at speed v1 to a target at speed v2, in direction `d`: ramp, cruise, ramp. It ends on
the target exactly. -/
def Lim.profile (l : Lim) (d p target : Int) (v1 v2 top : Nat) : List Seg :=
  let len := (target - p).natAbs
  let pk := l.peak v1 v2 len top
  let rest := len - (l.rampDist v1 pk + l.rampDist pk v2)
  let cruise := if pk = 0 then 0 else rest * 1000000000000 / (pk * 65536)
  let gs := chain p (l.ramp d v1 pk ++ [(d * pk, 0, 0, cruise)] ++ l.ramp d pk v2)
  modLast (fun g => { g with pEnd := target, vEnd := d * v2, aEnd := 0 }) gs

/-- A profile that brings a state to zero acceleration, by the jerk limit. -/
def Lim.level (l : Lim) (p v a : Int) : List Seg :=
  if a = 0 ∨ l.j = 0 then []
  else chain p [(v, a, (if 0 < a then -(l.j : Int) else l.j), a.natAbs * 1000000000000 / (65536 * l.j))]

/-- The spans, in the direction `d`, that take a speed and an acceleration down to the speed `w` with no acceleration, at the jerk
and the acceleration of the limits; `w` is not above the speed at which levelling the acceleration ends. -/
def Lim.down (l : Lim) (d : Int) (v a : Int) (w : Nat) : List (Int × Int × Int × Nat) :=
  let cap : Int := (l.a * 65536 : Nat)
  let j : Int := l.j
  let ease (a b : Int) : Nat := (a - b).natAbs * 1000000000000 / (65536 * max 1 l.j)
  -- an acceleration beyond the limit is eased to it first
  let t0 := if a < -cap then ease a (-cap) else 0
  let v0 := if a < -cap then velAt v a j t0 else v
  let a0 := max a (-cap)
  -- the peak deceleration: its square is J (v − w) + a² / 2
  let sq := j * (v0 - w) * 65536 + a0 * a0 / 2
  let pk : Int := min cap (max (-(min a0 0)) (isqrt sq.toNat))
  let t1 := ease a0 (-pk)
  let v1 := velAt v0 a0 (-j) t1
  let t3 := ease (-pk) 0
  let v2 : Int := w + ((w : Int) - velAt w (-pk) j t3)
  let t2 := ((v1 - v2).toNat * 1000000000000) / (max 1 pk).toNat
  [(d * v, d * a, d * j, t0), (d * v0, d * a0, -d * j, t1), (d * v1, -d * pk, 0, t2), (d * velAt v1 (-pk) 0 t2, -d * pk, d * j, t3)]

/-- The profile from a state down to a speed at no acceleration, `d` the direction of the motion. -/
def Lim.slow (l : Lim) (p v a : Int) (w : Nat) : List Seg :=
  let d : Int := if v < 0 ∨ (v = 0 ∧ a < 0) then -1 else 1
  let gs := if l.j = 0 then chain p (l.ramp d v.natAbs w) else chain p (l.down d (d * v) (d * a) w)
  modLast (fun g => { g with vEnd := d * w, aEnd := 0 }) gs

/-- A profile to rest from a state. -/
def Lim.stop (l : Lim) (p v a : Int) : List Seg := l.slow p v a 0

/-- Where a profile to rest ends. -/
def endOf (p : Int) (gs : List Seg) : Int := match gs.getLast? with | some g => g.pEnd | none => p

/-- The limits of a move. -/
def Move.lim (m : Move) : Lim := ⟨m.amax, m.jmax⟩

/-- VMAX of a move in 2^-16 step/s. -/
def Move.top (m : Move) : Nat := m.vmax * 256

/-- A direction: 0 for none. -/
def dirOf (x : Int) : Int := if 0 < x then 1 else if x < 0 then -1 else 0

/-- R346: the joints into the moves after the first, before lowering, `p` the start of the first. -/
def joints : Int → List Move → List Nat
  | p, m :: n :: rest =>
    let d1 := dirOf (m.target * 4294967296 - p)
    let d2 := dirOf (n.target - m.target)
    let v := if d1 = d2 && d1 != 0 then min (min m.vmax n.vmax) n.blend * 256 else 0
    v :: joints (m.target * 4294967296) (n :: rest)
  | _, _ => []

/-- R346: exits lowered backwards so that each move can slow to the next joint in its length; the exit of the last is 0.
Answers the entry of the first move and the exit of each. -/
def lowerBack : Int → List Move → List Nat → Nat × List Nat
  | _, [], _ => (0, [])
  | p, m :: rest, js =>
    let t := m.target * 4294967296
    let (next, exits) := lowerBack t rest js.tail
    let out := match rest with | [] => 0 | _ => min (js.headD 0) next
    (m.lim.reach out (t - p).natAbs (2 ^ 41 - 1), out :: exits)

/-- R346: exits lowered forwards from the entry speed: each move goes from its entry to its exit within its length. -/
def lowerFwd : Int → Nat → List Move → List Nat → List Nat
  | p, v, m :: rest, out :: outs =>
    let t := m.target * 4294967296
    let o := m.lim.reach v (t - p).natAbs out
    o :: lowerFwd t o rest outs
  | _, _, _, _ => []

/-- The segments of a run of moves with their exits. -/
def profiles : Int → Nat → List Move → List Nat → List Seg
  | p, v, m :: rest, out :: outs =>
    let t := m.target * 4294967296
    let gs := m.lim.profile (dirOf (t - p)) p t v out m.top
    let gs := if gs = [] then [{ mkSeg t 0 0 0 0 with moveEnd := true }] else modLast (fun g => { g with moveEnd := true }) gs
    gs ++ profiles t out rest outs
  | _, _, _, _ => []

/-- The greatest speed that a state can come down to with room left to stop from it before a target. -/
def Lim.slowest (l : Lim) (p v a t : Int) (top : Nat) : Nat :=
  let d := dirOf v
  let ok (w : Nat) : Bool := decide (w ≤ top) &&
    decide (d * (endOf p (l.slow p v a w) - p) + l.rampDist w 0 ≤ d * (t - p))
  maxBelow ok 41 0

/-- R346, R347: moves planned anew from a state. An acceleration under way is levelled, or, where the target could then not be
reached without a reversal, turned into a deceleration. Where the first target lies behind, or within the stopping distance, the
axis comes to rest and turns there: the solstice point; 1/16 step is left to rounding (log 45). -/
def planMoves (p v a : Int) (ms : List Move) : List Seg × Option Int :=
  match ms with
  | [] => ([], none)
  | m :: _ =>
    let t := m.target * 4294967296
    let go (p : Int) (v : Nat) : List Seg := profiles p v ms (lowerFwd p v ms (lowerBack p ms (joints p ms)).2)
    let fits (p v : Int) : Bool := v = 0 || decide ((m.lim.rampDist v.natAbs 0 : Int) ≤ dirOf v * (t - p) + 268435456)
    let l0 := m.lim.level p v a
    let (p1, v1) := match l0.getLast? with | some g => (g.pEnd, g.vEnd) | none => (p, v)
    let st := m.lim.stop p v a
    if fits p1 v1 then (l0 ++ go p1 v1.natAbs, none)
    else if dirOf v * (endOf p st - p) ≤ dirOf v * (t - p) + 268435456 then
      let l1 := m.lim.slow p v a (m.lim.slowest p v a t v1.natAbs)
      let (p2, v2) := match l1.getLast? with | some g => (g.pEnd, g.vEnd) | none => (p, v)
      (l1 ++ go p2 v2.natAbs, none)
    else
      let q := endOf p st
      (modLast (fun g => { g with solEnd := true }) st ++ go q 0, some (q / 4294967296))

end Sys2Proof.Machine
end

