-- ==== Sys2Proof/Machine/Axes.lean ====
section
/-! DEFINITION. Step axes (chapter 13, R340–R352): the engine's buffer, steps, moves, retarget, switches, homing, control. -/

namespace Sys2Proof.Machine

open Sys2Proof

def State.axis (s : State) (a : Nat) : Axis := s.axes.getD a {}

def State.modAxis (s : State) (a : Nat) (f : Axis → Axis) : State := { s with axes := s.axes.modify a f }

/-- R360: 0 OFF, 1 IDLE, 2 MOVING, 3 HOMING, 4 STOPPING, 5 ESTOP, 6 HALTED. -/
def State.axState (s : State) (a : Nat) : Nat := s.rd (F.AX_STAT_STATE a)

/-- The commanded position c. -/
def State.axPos (s : State) (a : Nat) : Int := s.rd64 (F.AX_POS_LO_POS a) (F.AX_POS_HI_POS a)

def State.setPos (s : State) (a : Nat) (c : Int) : State := s.wr64 (F.AX_POS_LO_POS a) (F.AX_POS_HI_POS a) c

/-- Steps as a profile position. -/
def steps (c : Int) : Int := c * 4294967296

/-- The present 5 ns MOT tick, in ns (R342). -/
def State.motTick (s : State) : Nat := s.now / 5 * 5

/-- QUEUED and SEGS follow the queue and the engine's buffer. -/
def State.axCounts (s : State) (a : Nat) : State :=
  (s.wr (F.AX_STAT_QUEUED a) (s.axis a).queue.length).wr (F.AX_STAT_SEGS a) (s.axis a).segs.length

/-! ### The engine's buffer (R340, R406) -/

/-- Segments reach the engine: an island is ACTIVE, and the Clasp passes them. -/
def State.delivers (s : State) (a : Nat) : Bool :=
  s.presenters != [] && s.rd (F.CLASP_STAT_STATE (16 + a)) != 2 && !s.on F.GLB_STATE_HOLD && !s.undervolt

/-- A segment cut after a time. -/
def Seg.cut (g : Seg) (t : Nat) : Seg × Seg :=
  let h := mkSeg g.p g.v g.a g.j t
  (h, { g with p := h.pEnd, v := h.vEnd, a := h.aEnd, dur := g.dur - t })

/-- Segments delivered until the buffer reaches a time or holds 16. -/
def deliverSegs : Nat → Nat → Nat → Axis → Axis
  | 0, _, _, x => x
  | n + 1, t, horizon, x =>
    if horizon ≤ t ∨ 16 ≤ x.segs.length then x else
    match x.plan with
    | [] => x
    | g :: rest =>
      let put (g : Seg) (rest : List Seg) : Axis :=
        { x with segs := x.segs ++ [g], plan := rest, seq := x.seq + 1, pEnd := g.pEnd, vEnd := g.vEnd, aEnd := g.aEnd }
      if t + g.dur ≤ horizon then deliverSegs n (t + g.dur) horizon (put g rest)
      else let (h, k) := g.cut (horizon - t); put h (k :: rest)

/-- R340: the active island keeps 2 ms of profile in the buffer; it delivers up to 4 ms at a time. -/
def State.refill (s : State) (a : Nat) : State :=
  if (s.axis a).plan = [] || !s.delivers a then s else
  s.modAxis a (fun x =>
    let t := x.t0 + (x.segs.map (·.dur)).sum
    if s.now * 1000 + 2000000000 ≤ t then x else deliverSegs 17 t (s.now * 1000 + 4000000000) x)

/-- Position and speed of the engine's profile at `now`, each instant rounded to the nearest 5 ns tick (R342). -/
def State.axNow (s : State) (a : Nat) : Int × Int × Int :=
  let x := s.axis a
  match x.segs with
  | [] => (x.pEnd, x.vEnd, x.aEnd)
  | g :: _ =>
    let t := s.motTick * 1000 + 2500 - x.t0
    if g.dur ≤ t then (g.pEnd, g.vEnd, g.aEnd) else (posAt g.p g.v g.a g.j t, velAt g.v g.a g.j t, accAt g.a g.j t)

/-! ### Planning (R346, R347) -/

/-- AX_STAT.SOLSTICE and AX_SOLSTICE show a solstice point ahead, or none. -/
def State.showSol (s : State) (a : Nat) (q : Option Int) : State :=
  (s.wr (F.AX_STAT_SOLSTICE a) (b2n q.isSome)).wr64 (F.AX_SOLSTICE_LO_SOL a) (F.AX_SOLSTICE_HI_SOL a) (q.getD 0)

/-- The plan up to the next point of zero acceleration, and the rest. -/
def ramped : List Seg → List Seg × List Seg
  | [] => ([], [])
  | g :: t => if g.aEnd = 0 then ([g], t) else let (x, y) := ramped t; (g :: x, y)

/-- The moves whose end has been delivered or is kept. -/
def closed (gs : List Seg) : Nat := (gs.filter (fun g => g.moveEnd)).length

/-- The queue planned anew from the end of what has been delivered; a jerk-limited ramp under way is kept (log 45). -/
def State.replan (s : State) (a : Nat) : State :=
  s.modAxis a (fun x =>
    let jerky := x.aEnd != 0 && (x.queue.headD ⟨0, 0, 0, 0, 0, 0, false⟩).jmax != 0
    let keep := if jerky then (ramped x.plan).1 else []
    let (p, v, c) := match keep.getLast? with | some g => (g.pEnd, g.vEnd, g.aEnd) | none => (x.pEnd, x.vEnd, x.aEnd)
    { x with plan := keep ++ (planMoves p v c (x.queue.drop (closed (x.segs ++ keep)))).1 })

/-- The engine at rest at c, from now. -/
def State.atRest (s : State) (a : Nat) : State :=
  let c := s.axPos a
  s.modAxis a (fun x => { x with segs := [], plan := [], t0 := s.motTick * 1000, pEnd := steps c, vEnd := 0, aEnd := 0 })

/-- R352: the first queued move starts. -/
def State.startMoves (s : State) (a : Nat) : State := (((s.atRest a).wr (F.AX_STAT_STATE a) 2).replan a).axCounts a

/-- R350: a homing move with HOME_A as acceleration, to a target. -/
def State.homeMove (s : State) (a : Nat) (target : Int) (v : Nat) : State :=
  let s := s.atRest a
  let m : Move := ⟨target, max 1 v, max 1 (s.rd (F.AX_HOME_A_HOME_A a)), 0, 0, 0, false⟩
  s.modAxis a (fun x => { x with plan := ((planMoves x.pEnd 0 0 [m]).1).map (fun g => { g with moveEnd := false }) })

/-! ### Homing (R350) -/

def State.homeDir (s : State) (a : Nat) : Int := if s.on (F.AX_CFG_HOME_DIR a) then -1 else 1

def State.modHome (s : State) (a : Nat) (f : Home → Home) : State := s.modAxis a (fun x => { x with home := x.home.map f })

/-- The latch of the home input is armed. -/
def State.armHome (s : State) (a : Nat) : State :=
  if s.on (F.AX_CFG_HOME_SRC a) then s.modAxis a (fun x => { x with limitArmed := true })
  else s.modAxis a (fun x => { x with homeArmed := true })

/-- R350, step 2 or the approach of step 3. -/
def State.homeSeek (s : State) (a phase v : Nat) : State :=
  let c := s.axPos a
  ((s.armHome a).modHome a (fun h => { h with phase := phase, start := c })).homeMove a (c + s.homeDir a * 70368744177664) v

/-- RESULT of AX_HOME. -/
def homeResult (h : Home) : Nat := packBytes [(0, 1, h.cause), (2, 6, uBits 48 h.latched), (8, 8, h.latchedAt)]

/-- R350: the homing pass is over: its MACH_DONE. -/
def State.endHome (s : State) (a : Nat) : State :=
  match (s.axis a).home with
  | none => s
  | some h =>
    (s.modAxis a (fun x => { x with home := none, homeArmed := false })).partDone h.ref (if h.cause = 0 then 0 else 4)
      (if h.cause = 0 then 0 else a) (homeResult h)

/-- R350: homing fails. -/
def State.homeFail (s : State) (a cause : Nat) : State :=
  match (s.axis a).home with
  | none => s
  | some h =>
    if h.cause ≠ 0 then s else
    ((s.wr (F.AX_STAT_HOMED a) 0).modHome a (fun h => { h with cause := cause })).post 1 0x5103 9 a
      [(0, 1, cause), (1, 6, uBits 48 (s.axPos a))]

/-- R350: what follows the last segment delivered is a deceleration at HOME_A. -/
def State.homeStop (s : State) (a phase : Nat) : State :=
  (s.modHome a (fun h => { h with phase := phase })).modAxis a (fun x =>
    { x with plan := Lim.stop ⟨max 1 (s.rd (F.AX_HOME_A_HOME_A a)), 0⟩ x.pEnd x.vEnd x.aEnd })

/-- R350, step 4: c and the latch are shifted. -/
def State.homed (s : State) (a : Nat) (h : Home) : State :=
  let pos := sInt 48 (s.rd (F.AX_HOME_POS_LO_HOME_POS a) + s.rd (F.AX_HOME_POS_HI_HOME_POS a) * 4294967296)
  let d := pos - h.latched
  let s := s.setPos a (s.axPos a + d)
  let s := s.wr64 (F.AX_LATCH_POS_LO_LPOS a) (F.AX_LATCH_POS_HI_LPOS a)
    (s.rd64 (F.AX_LATCH_POS_LO_LPOS a) (F.AX_LATCH_POS_HI_LPOS a) + d)
  (s.wr (F.AX_STAT_HOMED a) 1).post 0 0x5102 9 a [(0, 6, uBits 48 d)]

/-! ### Rest, stops (R341, R349, R351, R352) -/

/-- IDLE: STOPs complete, and a queued move starts. -/
def State.axIdle (s : State) (a : Nat) : State :=
  let s := (((s.atRest a).wr (F.AX_STAT_STATE a) 1).wr (F.AX_VEL_VEL a) 0).syncEn a
  let ws := (s.axis a).stops
  let s := (s.modAxis a (fun x => { x with stops := [] })).endHome a
  let s := ws.foldl (fun (s : State) (r : Nat) => s.partDone r 0 0 0) s
  if (s.axis a).queue = [] then s.axCounts a else s.startMoves a

/-- HALTED: ESTOPs complete. -/
def State.axHalted (s : State) (a : Nat) : State :=
  let s := (((s.atRest a).wr (F.AX_STAT_STATE a) 6).wr (F.AX_VEL_VEL a) 0).syncEn a
  let ws := (s.axis a).estops
  let s := (s.modAxis a (fun x => { x with estops := [] })).endHome a
  (ws.foldl (fun (s : State) (r : Nat) => s.partDone r 0 0 0) s).axCounts a

/-- R350: at rest, the next step of a homing pass. -/
def State.homeNext (s : State) (a : Nat) : State :=
  match (s.axis a).home with
  | none => s.axIdle a
  | some h =>
    let d := s.homeDir a
    match h.phase with
    | 4 =>
      if s.rd (F.AX_HOME_CFG_PASSES a) = 2 && h.passes < 2 then
        (s.modHome a (fun h => { h with phase := 5 })).homeMove a (h.latched - d * s.rd (F.AX_HOME_CFG_BACKOFF a))
          (s.rd (F.AX_HOME_V_V_SEEK a))
      else (s.homed a h).axIdle a
    | 5 => s.homeSeek a 6 (s.rd (F.AX_HOME_VL_V_LATCH a))
    | 7 => s.axIdle a
    | _ => s.homeSeek a 3 (s.rd (F.AX_HOME_V_V_SEEK a))

/-- R341, R349, R351: the engine decelerates at EMAX from a state; the queue is flushed. `hard`: a HARD event is posted. -/
def State.axEstop (s : State) (a : Nat) (pva : Int × Int × Int) (hard : Bool) : State :=
  let gs := Lim.stop ⟨max 1 (s.rd (F.AX_EMAX_EMAX a)), 0⟩ pva.1 pva.2.1 pva.2.2
  let x0 := gs.getLast?
  let s := s.modAxis a (fun x => { x with
    queue := [], plan := [], segs := gs, t0 := s.motTick * 1000, hard := hard
    pEnd := (match x0 with | some g => g.pEnd | none => pva.1), vEnd := 0, aEnd := 0 })
  ((s.wr (F.AX_STAT_STATE a) 5).showSol a none).axCounts a

/-- R341: the buffer is empty and the speed is not 0. -/
def State.starved (s : State) (a : Nat) : State :=
  let x := s.axis a
  let s := (s.axEstop a (x.pEnd, x.vEnd, x.aEnd) true).post 3 0x5104 9 a
    [(0, 4, uBits 32 (x.vEnd / 256)), (4, 1, x.queue.length)]
  s.homeFail a 3

/-- Speed 0 with nothing left in the buffer: what the state gives next. -/
def State.axSettled (s : State) (a : Nat) : State :=
  match s.axState a with
  | 2 => s.axIdle a
  | 3 => s.homeNext a
  | 4 => s.axIdle a
  | 5 => s.axHalted a
  | _ => s

/-! ### Steps (R342–R345) -/

/-- R345: a move ends. -/
def State.moveEnds (s : State) (a : Nat) : State :=
  match (s.axis a).queue with
  | [] => s
  | m :: rest =>
    let s := (s.modAxis a (fun x => { x with queue := rest })).axCounts a
    let s := if a < 16 then s.legIrq 5 else s
    if m.notify then s.post 0 0x5101 9 a [(0, 4, m.tag), (4, 6, uBits 48 (s.axPos a))] m.tag else s

/-- The first segment ends. -/
def State.segEnds (s : State) (a : Nat) (g : Seg) : State :=
  let s := (s.modAxis a (fun x => { x with segs := x.segs.drop 1, t0 := x.t0 + g.dur })).axCounts a
  let s := if g.solEnd then s.showSol a none else s
  if g.moveEnd then s.moveEnds a else s

/-- R350: a seek that has passed SEEK_MAX steps with no edge. -/
def State.seekCheck (s : State) (a : Nat) : State :=
  match (s.axis a).home with
  | none => s
  | some h =>
    let m := s.rd (F.AX_HOME_TRAV_SEEK_MAX a)
    if (h.phase = 3 ∨ h.phase = 6) ∧ m ≠ 0 ∧ m < (s.axPos a - h.start).natAbs then (s.homeFail a 2).homeStop a 7 else s

/-- R342, R343: one STEP: c changes at the leading edge of the pulse. -/
def State.oneStep (s : State) (a : Nat) (d : Int) : State :=
  ((s.setPos a (s.axPos a + d)).modAxis a (fun x => { x with stepAt := some s.motTick })).seekCheck a

/-- R342: the step due for a profile position, 0 for none. -/
def stepDue (c p : Int) : Int := if steps (c + 1) ≤ p then 1 else if p ≤ steps (c - 1) then -1 else 0

/-- R343: the STEP pulse ends after STEP_W; DIR follows the motion once the pulse of the last step the old way has ended. -/
def State.axPins (s : State) (a : Nat) : State :=
  let s := s.modAxis a (fun x => { x with stepAt := x.stepAt.filter (fun t =>
    decide (s.motTick < t + 10 * s.rd (F.AX_TIMING_STEP_W a))) })
  let (p, v, _) := s.axNow a
  let back := decide (v < 0)
  let old : Int := if s.on (F.AX_STAT_DIR a) then -1 else 1
  if v = 0 || back == s.on (F.AX_STAT_DIR a) || (s.axis a).stepAt.isSome || stepDue (s.axPos a) p == old then s
  else (s.wr (F.AX_STAT_DIR a) (b2n back)).modAxis a (fun x => { x with dirAt := some s.motTick })

/-- R343, R360: the levels of an axis's STEP, DIR and EN pins: DIR inverted by DIR_INV, EN active low unless EN_POL. -/
def State.stepPin (s : State) (a : Nat) : Bool := (s.axis a).stepAt.isSome
def State.dirPin (s : State) (a : Nat) : Bool := s.on (F.AX_STAT_DIR a) != s.on (F.AX_CFG_DIR_INV a)
def State.enPin (s : State) (a : Nat) : Bool := s.on (F.AX_STAT_EN a) == s.on (F.AX_CFG_EN_POL a)

/-- R343: the engine can step: DIR stands the way of the step for DIR_SU, and no pulse is active. -/
def State.axReady (s : State) (a : Nat) (d : Int) : Bool :=
  let x := s.axis a
  s.on (F.AX_STAT_DIR a) == decide (d < 0) && x.stepAt.isNone &&
    (match x.dirAt with | some t => decide (t + 10 * s.rd (F.AX_TIMING_DIR_SU a) ≤ s.motTick) | none => true)

/-- The engine runs up to `now`, with at most one step: segment ends, move ends, speed 0 and starvation follow. -/
def State.axRun (s : State) (a : Nat) (stepped : Bool) : Nat → State
  | 0 => s
  | fuel + 1 =>
    let s := (s.refill a).axCounts a
    let (p, v, _) := s.axNow a
    let d := stepDue (s.axPos a) p
    if d != 0 then (if stepped || !s.axReady a d then s.wrS (F.AX_VEL_VEL a) (v / 256) else State.axRun (s.oneStep a d) a true fuel)
    else match (s.axis a).segs with
    | g :: _ =>
      if (s.axis a).t0 + g.dur ≤ s.motTick * 1000 + 2500 then State.axRun (s.segEnds a g) a stepped fuel
      else s.wrS (F.AX_VEL_VEL a) (v / 256)
    | [] =>
      if (s.axis a).vEnd ≠ 0 then State.axRun (s.starved a) a true fuel
      else if (s.axis a).plan ≠ [] then s
      else s.axSettled a

/-- The engine of an axis in motion runs. -/
def State.stepPulse (s : State) (a : Nat) : State :=
  if 2 ≤ s.axState a && s.axState a ≤ 5 then
    let s := s.axPins a
    s.axRun a false (2 * ((s.axis a).segs.length + (s.axis a).plan.length) + 8)
  else s

/-- A MOT tick: pulses end and DIR follows (R343); on the tracker's ticks the active island keeps the buffers full (R340). -/
def State.axTick (s : State) : State :=
  (List.range 32).foldl (fun (s : State) (a : Nat) =>
    let s := if s.now % 10 = 0 && (s.axis a).plan != [] then (s.refill a).axCounts a else s
    if (s.axis a).stepAt.isSome || (2 ≤ s.axState a && s.axState a ≤ 5) then s.axPins a else s) s

def execStepPulse (a : Fin 32) (s : State) : Out State Fault Refusal := .next (s.live (s.stepPulse a))

/-! ### Moves (R344, R345, R347) -/

/-- The move of an AX_MOVE or AX_RETARGET descriptor, its target relative to `prev` with REL. -/
def moveOf (d : Desc) (prev : Int) : Move :=
  { target := sInt 48 (dField d 10 6) + (if bitSet (dField d 9 1) 0 then prev else 0)
    vmax := dField d 16 4, amax := dField d 20 4, jmax := dField d 24 4 * 256, blend := dField d 28 4
    tag := dTag d, notify := bitSet (dField d 9 1) 1 }

/-- R344: the limits of a move, and the format of its descriptor. -/
def State.moveFormat (s : State) (d : Desc) : Bool :=
  let v := dField d 16 4
  let w := s.rd (F.AX_TIMING_STEP_W (dField d 8 1))
  dCount d == 0 && dField d 8 1 ≤ 31 && dField d 9 1 < 4 && dZero d 32 63 && 256 ≤ v && v ≤ 512000000
    && v * 20 * w ≤ 256000000000 && 1 ≤ dField d 20 4 && dField d 20 4 ≤ 1000000000 && dField d 28 4 ≤ v
    && sInt 48 (dField d 10 6) != -140737488355328

/-- Where the axis comes to rest under the profile in force: the last step it reaches. -/
def State.restAt (s : State) (a : Nat) : Int :=
  let x := s.axis a
  let p := endOf x.pEnd x.plan
  let c := s.axPos a
  if steps c ≤ p then p / 4294967296 else -((-p) / 4294967296)

/-- Where the axis stands after its queue, or after its stop. -/
def State.queueEnd (s : State) (a : Nat) : Int :=
  match (s.axis a).queue.getLast? with | some m => m.target | none => s.restAt a

/-- R345: a move would travel in LIMIT_DIR while the limit is active. -/
def State.intoLimit (s : State) (a : Nat) (start target : Int) : Bool :=
  s.on (F.AX_STAT_LIMIT_ACT a) && decide (if s.on (F.AX_CFG_LIMIT_DIR a) then target < start else start < target)

/-- The target is within ±(2^47 − 1). -/
def targetOk (t : Int) : Bool := decide (t.natAbs < 140737488355328)

/-- The queue of an axis that has gained a move. -/
def State.queueMove (s : State) (a : Nat) (m : Move) : State :=
  let s := (s.modAxis a (fun x => { x with queue := x.queue ++ [m] })).axCounts a
  if s.axState a = 1 then s.startMoves a else if s.axState a = 2 then s.replan a else s

/-- R345: one AX_MOVE: its status, or the state after it. -/
def State.addMove (s : State) (d : Desc) : (Nat × Nat) ⊕ State :=
  let a := dField d 8 1
  let m := moveOf d (s.queueEnd a)
  if !targetOk m.target then .inl (1, 0)
  else if [0, 3, 5, 6].contains (s.axState a) then .inl (5, a)
  else if 64 ≤ (s.axis a).queue.length ∨ s.intoLimit a (s.queueEnd a) m.target then .inl (4, a)
  else .inr (s.queueMove a m)

/-- The AX_MOVEs of a transaction, all or none. -/
def addMoves : Nat → List Desc → State → Applied
  | _, [], s => .done s 0 0
  | i, d :: t, s =>
    match s.addMove d with
    | .inl (st, det) => .fail i st det 0 id
    | .inr s' => addMoves (i + 1) t s'

/-- R347: AX_RETARGET of an axis in MOVING: the move in progress is replaced, and those behind it stay. Where the end of moves has
been delivered already (R340), the new profile follows on it, before the moves whose end has not (log 130). -/
def State.retargetMove (s : State) (a : Nat) (m : Move) : State × Option Int :=
  let x := s.axis a
  let k := closed x.segs
  let rest := x.queue.drop (max 1 k)
  let (gs, sol) := planMoves x.pEnd x.vEnd x.aEnd (m :: rest)
  let s := s.modAxis a (fun x => { x with queue := x.queue.take k ++ m :: rest, plan := gs })
  ((s.showSol a sol).axCounts a, sol)

/-- R347. -/
def State.axRetarget (s : State) (d : Desc) : Applied :=
  let a := dField d 8 1
  if !s.moveFormat d then .fail 0 1 0 0 id
  else if s.axState a ≠ 2 then addMoves 0 [d] s
  else
    let s := s.refill a
    let m := moveOf d (((s.axis a).queue.headD ⟨s.axPos a, 0, 0, 0, 0, 0, false⟩).target)
    if !targetOk m.target then .fail 0 1 0 0 id
    else if s.intoLimit a (s.axPos a) m.target then .fail 0 4 a 0 id
    else
      let (s, sol) := s.retargetMove a m
      .done s 0 (packBytes [(0, 6, uBits 48 (sol.getD 0)), (6, 1, b2n sol.isSome)])

/-- R345. -/
def State.axMove (s : State) (ds : List Desc) : Applied :=
  if !ds.all (fun d => dOpcode d = 0x32) then .fail 0 1 0 0 id
  else match ds.findIdx? (fun d => !s.moveFormat d) with
  | some i => .fail i 1 0 0 id
  | none =>
    let s := (ds.map (fun d => dField d 8 1)).foldl (fun (s : State) (a : Nat) => if s.axState a = 2 then s.refill a else s) s
    match addMoves 0 ds s with
    | .done s _ _ => .done s 0 (s.axis (dField (ds.headD 0) 8 1)).queue.length
    | f => f

/-! ### Homing and control commands (R350, R351) -/

/-- R350: AX_HOME. -/
def State.axHome (s : State) (ref : Nat) (d : Desc) : Applied :=
  let a := dField d 8 1
  if dCount d ≠ 0 ∨ 31 < a ∨ !dZero d 9 63 then .fail 0 1 0 0 id
  else if s.axState a ≠ 1 ∨ (s.axis a).queue ≠ [] then .fail 0 5 a 0 id
  else
    let act := if s.on (F.AX_CFG_HOME_SRC a) then s.on (F.AX_STAT_LIMIT_ACT a) else s.on (F.AX_STAT_HOME_ACT a)
    let s := (s.wr (F.AX_STAT_STATE a) 3).modAxis a (fun x => { x with home := some ⟨ref, 1, s.axPos a, 0, 0, 0, 0⟩ })
    let v := s.rd (F.AX_HOME_V_V_SEEK a)
    .done (if act then (s.armHome a).homeMove a (s.axPos a - s.homeDir a * 70368744177664) v else s.homeSeek a 3 v) 1 0

/-- R351: AX_CTL STOP. -/
def State.axStop (s : State) (ref a : Nat) : Applied :=
  let wait (s : State) : Applied := .done (s.modAxis a (fun x => { x with stops := x.stops ++ [ref] })) 1 0
  match s.axState a with
  | 1 => .done s 0 0
  | 2 =>
    let s := s.refill a
    let m := (s.axis a).queue.headD ⟨0, 0, 1, 0, 0, 0, false⟩
    let s := s.modAxis a (fun x => { x with
      queue := []
      segs := x.segs.map (fun g => { g with moveEnd := false })
      plan := m.lim.stop x.pEnd x.vEnd x.aEnd })
    wait (((s.wr (F.AX_STAT_STATE a) 4).showSol a none).axCounts a)
  | 3 => wait ((((s.refill a).homeFail a 3).homeStop a 7).wr (F.AX_STAT_STATE a) 4)
  | 4 => wait s
  | _ => .fail 0 5 a 0 id

/-- R351: AX_CTL ESTOP. -/
def State.axCtlEstop (s : State) (ref a : Nat) : Applied :=
  let wait (s : State) : Applied := .done (s.modAxis a (fun x => { x with estops := x.estops ++ [ref] })) 1 0
  match s.axState a with
  | 2 | 3 | 4 => wait ((s.axEstop a (s.axNow a) false).homeFail a 3)
  | 5 => wait s
  | 6 => .done s 0 0
  | _ => .fail 0 5 a 0 id

/-- R348, R351: the LIMIT latch is armed. -/
def State.armLimit (s : State) (a : Nat) : State := s.modAxis a (fun x => { x with limitArmed := true })

/-- R351: AX_CTL. -/
def State.axCtl (s : State) (ref : Nat) (d : Desc) : Applied :=
  let a := dField d 8 1
  let op := dField d 9 1
  if dCount d ≠ 0 ∨ 31 < a ∨ 3 < op ∨ !dZero d 16 63 ∨ (op ≠ 3 ∧ !dZero d 10 15) then .fail 0 1 0 0 id else
  match op with
  | 0 => s.axStop ref a
  | 1 => s.axCtlEstop ref a
  | 2 => if s.axState a ≠ 6 then .fail 0 5 a 0 id else .done ((s.armLimit a).axIdle a) 0 0
  | _ => if s.axState a ≠ 1 then .fail 0 5 a 0 id else .done ((s.setPos a (sInt 48 (dField d 10 6))).atRest a) 0 0

/-- The axis transactions (opcodes 0x32–0x35). -/
def State.applyAxis (s : State) (ref : Nat) (ds : List Desc) : Applied :=
  let d := ds.headD 0
  if dOpcode d = 0x32 then s.axMove ds
  else if ds.length ≠ 1 then .fail 0 1 0 0 id
  else match dOpcode d with
    | 0x33 => s.axRetarget d
    | 0x34 => s.axHome ref d
    | _ => s.axCtl ref d

def execAxLatchClr (a : Fin 32) (s : State) : Out State Fault Refusal := .next (s.live (s.armLimit a))

/-! ### HOLD (R341, R352) -/

/-- R352: OFF, from any other state. -/
def State.axOff (s : State) (a : Nat) : State :=
  if s.axState a = 0 then s else
  let s := (s.homeFail a 3).setWant (16 + a) 0
  let s := ((s.modAxis a (fun x => { x with queue := [] })).atRest a).endHome a
  let s := (((s.wr (F.AX_STAT_STATE a) 0).wr (F.AX_STAT_HOMED a) 0).wr (F.AX_STAT_EN a) 0).wr (F.AX_VEL_VEL a) 0
  ((s.modAxis a (fun x => { x with stepAt := none })).showSol a none).axCounts a

def State.axHold (s : State) : State := (List.range 32).foldl State.axOff s

/-- R352, R528: HOLD = 0 takes every axis from OFF to IDLE, its drive enabled, once no supply is low. -/
def State.axRelease (s : State) : State :=
  if s.undervolt then s else
  (List.range 32).foldl (fun (s : State) (a : Nat) => if s.axState a = 0 then (s.axIdle a).setWant (16 + a) 1 else s) s

/-! ### Switches (R348–R350) -/

/-- R348: c, ETIME and WPOS of the raw edge are latched; `src` 0 HOME, 1 LIMIT. -/
def State.latch (s : State) (a : Nat) (c : Int) (t : Nat) (w : Int) (src : Nat) : State :=
  let s := (s.wr64 (F.AX_LATCH_POS_LO_LPOS a) (F.AX_LATCH_POS_HI_LPOS a) c).wr64 (F.AX_LATCH_ETIME_LO_LTIME a)
    (F.AX_LATCH_ETIME_HI_LTIME a) t
  (s.wr64 (F.AX_LATCH_WPOS_LO_LWPOS a) (F.AX_LATCH_WPOS_HI_LWPOS a) w).wr (F.AX_LATCH_CLR_SRC a) src

/-- R350: the home input has latched while the axis seeks or approaches. -/
def State.homeLatched (s : State) (a : Nat) (c : Int) (t : Nat) : State :=
  match (s.axis a).home with
  | none => s
  | some h =>
    if h.phase = 3 ∨ h.phase = 6 then
      ((s.refill a).modHome a (fun h => { h with latched := c, latchedAt := t, passes := h.passes + 1 })).homeStop a 4
    else s

/-- R350, step 1: the home input has become inactive. -/
def State.homeLeft (s : State) (a : Nat) : State :=
  match (s.axis a).home with
  | none => s
  | some h =>
    if h.phase ≠ 1 ∨ h.cause ≠ 0 ∨ s.axState a ≠ 3 then s else
    let s := (s.refill a).modHome a (fun h => { h with phase := 2 })
    let x := s.axis a
    let m : Move := ⟨s.axPos a - s.homeDir a * s.rd (F.AX_HOME_CFG_BACKOFF a), max 1 (s.rd (F.AX_HOME_V_V_SEEK a)),
      max 1 (s.rd (F.AX_HOME_A_HOME_A a)), 0, 0, 0, false⟩
    s.modAxis a (fun y => { y with
      plan := ((planMoves x.pEnd x.vEnd x.aEnd [m]).1).map (fun g => { g with moveEnd := false }) })

/-- R349, R363: a qualified active LIMIT edge that is not the home input of a pass; 0x5100 carries the latched c, AX_LATCH_POS,
which an edge with the latch not armed leaves as it is. An axis already in ESTOP decelerates on. -/
def State.limitTrip (s : State) (a : Nat) : State :=
  let st := s.axState a
  let c := s.rd64 (F.AX_LATCH_POS_LO_LPOS a) (F.AX_LATCH_POS_HI_LPOS a)
  let v := (s.axNow a).2.1
  let into := (2 ≤ st ∧ st ≤ 5) ∧ (if s.on (F.AX_CFG_LIMIT_DIR a) then v < 0 else 0 < v)
  let hard := decide into && s.on (F.AX_CFG_CRIT a)
  let s := s.post (if hard then 3 else 1) 0x5100 9 a [(0, 6, uBits 48 c), (6, 1, b2n (decide into))]
  if st = 5 then s.modAxis a (fun x => { x with hard := x.hard || hard })
  else if into ∨ st = 3 then (s.axEstop a (s.axNow a) hard).homeFail a 1 else s

/-- R348–R350: an edge of HOME or LIMIT qualifies, `e` its raw edge. -/
def State.switchQualified (s : State) (a : Nat) (limit active : Bool) (e : SwEdge) : State :=
  let s := s.wr (if limit then F.AX_STAT_LIMIT_ACT a else F.AX_STAT_HOME_ACT a) (b2n active)
  let homing := limit == s.on (F.AX_CFG_HOME_SRC a)
  if active then
    let armed := if limit then (s.axis a).limitArmed else (s.axis a).homeArmed
    let s := if armed then
        (s.latch a e.c e.etime e.wpos (b2n limit)).modAxis a (fun x =>
          if limit then { x with limitArmed := false } else { x with homeArmed := false })
      else s
    let s := if armed && homing then s.homeLatched a e.c e.etime else s
    if limit && !(homing && s.axState a = 3) then s.limitTrip a else s
  else if homing then s.homeLeft a else s

def State.modSw (s : State) (a : Nat) (limit : Bool) (f : SwIn → SwIn) : State :=
  s.modAxis a (fun x => if limit then { x with limitIn := f x.limitIn } else { x with homeIn := f x.homeIn })

def State.swIn (s : State) (a : Nat) (limit : Bool) : SwIn := if limit then (s.axis a).limitIn else (s.axis a).homeIn

/-- R348: an edge qualifies once the input has held its level for DEB with no further edge. -/
def State.switchSettle (s : State) (a : Nat) (limit : Bool) : State :=
  let x := s.swIn a limit
  match x.edge with
  | none => s
  | some e =>
    let deb := s.rd (if limit then F.AX_DEB_LIMIT_DEB a else F.AX_DEB_HOME_DEB a)
    if s.now < e.at_ + deb * 1000 then s
    else (s.modSw a limit (fun x => { x with edge := none })).switchQualified a limit x.level e

/-- R348: a 10 ns sample of HOME or LIMIT after its polarity: a raw edge where the level has changed. -/
def State.switchSample (s : State) (a : Nat) (limit : Bool) : State :=
  let x := s.swIn a limit
  let act := x.pin == s.on (if limit then F.AX_CFG_LIMIT_POL a else F.AX_CFG_HOME_POL a)
  let s := if x.level == act then s else
    s.modSw a limit (fun x => { x with level := act, edge := some ⟨s.now, s.axPos a, s.etime, s.wpos⟩ })
  s.switchSettle a limit

/-- R348: the pin of HOME or LIMIT takes a level; the sample of the tick it falls on sees it. -/
def State.switchEdge (s : State) (a : Nat) (limit level : Bool) : State :=
  let s := s.modSw a limit (fun x => { x with pin := level })
  if s.now % 10 = 0 then s.switchSample a limit else s

def execSwitchEdgeQualified (a : Fin 32) (limit level : Bool) (s : State) : Out State Fault Refusal :=
  .next (s.live (s.switchEdge a limit level))

/-- The inputs of every axis on a 10 ns sample; a LIMIT edge goes before a HOME edge (R350). -/
def State.switchTick (s : State) : State :=
  (List.range 32).foldl (fun (s : State) (a : Nat) => (s.switchSample a true).switchSample a false) s

end Sys2Proof.Machine
end

