-- ==== Sys2Proof/Machine/Loops.lean ====
section
/-! DEFINITION. The loop engine (chapter 14, R364–R382): programs, arithmetic, inputs, sinks, modes, supervision. -/

namespace Sys2Proof.Machine

open Sys2Proof

def State.loop (s : State) (l : Nat) : LoopSlot := s.loops.getD l {}

def State.modLoop (s : State) (l : Nat) (f : LoopSlot → LoopSlot) : State := { s with loops := s.loops.modify l f }

/-! ### Arithmetic (R365) -/

def sat16 (x : Int) : Int := clampI (-32768) 32767 x

/-- A sum in the 40-bit accumulator, and whether it saturated. -/
def sat40 (x : Int) : Int × Bool :=
  (clampI (-549755813888) 549755813887 x, decide (x < -549755813888 ∨ 549755813887 < x))

/-- A step's result before sat16. -/
def raw16 (acc : Int) (shift f : Nat) : Int := (acc * 2 ^ shift + 2 ^ (f - 1)) / 2 ^ f

def result16 (acc : Int) (shift f : Nat) : Int := sat16 (raw16 acc shift f)

/-! ### Program entries (R369) -/

structure ProgStep where
  type : Nat
  track : Bool
  a : Nat
  b : Nat
  d : Nat
  shift : Nat
  c : List Int
  /-- Every reserved bit is 0. -/
  clean : Bool
  deriving DecidableEq, Repr

/-- R369: an entry of 16 bytes, as a little-endian number. -/
def progStep (e : Nat) : ProgStep :=
  let byte (i : Nat) : Nat := e / 256 ^ i % 256
  { type := byte 0 % 16, track := byte 0 / 16 % 2 == 1, a := byte 1 % 8, b := byte 1 / 16 % 8, d := byte 2 % 8
    shift := byte 2 / 16 % 8, c := (List.range 6).map (fun i => sInt 16 (e / 256 ^ (4 + 2 * i)))
    clean := byte 0 < 32 && byte 1 / 8 % 2 == 0 && byte 1 < 128 && byte 2 / 8 % 2 == 0 && byte 2 < 128 && byte 3 == 0 }

/-- The active entry `k` of a slot. -/
def State.progEntry (s : State) (l k : Nat) : Nat :=
  ((List.range 4).map (fun j => s.rd (progFld l k j) * 2 ^ (32 * j))).sum

def ProgStep.co (p : ProgStep) (i : Nat) : Int := p.c.getD i 0

/-! ### Steps (R370, R372, R375) -/

/-- A tick's run so far: W0–W7, step states, results, accumulator saturations, a LIMIT clip. -/
structure LoopRun where
  w : List Int
  sts : List StepSt
  ys : List Int := []
  clips : Nat := 0
  limited : Bool := false
  deriving DecidableEq, Repr

/-- What a tick allows its integrators: integration (R372), and the value a tracked one is preset to (R375). -/
structure LoopHow where
  integ : Bool
  preset : Option Int
  deriving DecidableEq, Repr

/-- R365, R370, R372: one step: result, state, accumulator saturations, a LIMIT clip. Every sum is held in the accumulator, those of
an I′ that is not kept among them. -/
def ProgStep.run (p : ProgStep) (h : LoopHow) (w : List Int) (st : StepSt) : Int × StepSt × Nat × Bool :=
  let x := w.getD p.a 0
  let y := w.getD p.b 0
  let n (b : Bool) : Nat := b2n b
  match p.type with
  | 1 =>
    let (acc, k) := sat40 (p.co 0 * x + p.co 1 * y)
    (result16 acc p.shift 15, st, n k, false)
  | 2 | 3 =>
    let pid := p.type = 3
    let pr := p.co 0 * x
    let preset := if p.track then h.preset else none
    let i0 := match preset with | some man => man * 2 ^ (15 - p.shift) - pr | none => st.i
    let d0 := if preset.isSome then 0 else st.d
    let (dd, kd) := sat40 (p.co 2 * (x - st.e) - d0)
    let (dn, kn) := sat40 (d0 + p.co 3 * dd / 32768)
    let moved := pid && preset.isNone
    let d := if moved then dn else d0
    let dk := if moved then n kd + n kn else 0
    let (i1, k1) := sat40 (i0 + p.co 1 * x)
    let (a1, k2) := sat40 (pr + i1 + (if pid then d else 0))
    let r1 := raw16 a1 p.shift 15
    if h.integ && preset.isNone && sat16 r1 == r1 then (r1, { st with i := i1, d := d, e := x }, dk + n k1 + n k2, false)
    else
      let (a0, k) := sat40 (pr + i0 + (if pid then d else 0))
      let tried := if preset.isNone then n k1 + n k2 else 0
      (result16 a0 p.shift 15, { st with i := i0, d := d, e := x }, dk + tried + n k, false)
  | 4 =>
    let (acc, k) := sat40 (p.co 0 * x + st.s1)
    let r := result16 acc 0 14
    let (s1, k1) := sat40 (p.co 1 * x - p.co 3 * r + st.s2)
    let (s2, k2) := sat40 (p.co 2 * x - p.co 4 * r)
    (r, { st with s1 := s1, s2 := s2 }, n k + n k1 + n k2, false)
  | 5 =>
    let r := clampI (p.co 0) (p.co 1) x
    let r := if p.co 2 = 0 then r else clampI (st.y - p.co 2) (st.y + p.co 2) r
    (r, { st with y := r }, 0, r != x)
  | 6 =>
    let (acc, k) := sat40 ((x + p.co 1) * 32768 + p.co 0 * y * 2 ^ p.shift)
    (result16 acc 0 15, st, n k, false)
  | 7 =>
    let u := result16 (p.co 1 * x) p.shift 15
    let (um, k1) := sat40 (u * 32768 - st.m)
    let (m, k2) := sat40 (st.m + p.co 0 * um / 32768)
    (sat16 ((m + 16384) / 32768), { st with m := m }, n k1 + n k2, false)
  | _ => (0, st, 0, false)

/-- R364: the steps in ascending order. -/
def runSteps (h : LoopHow) : List ProgStep → List StepSt → LoopRun → LoopRun
  | [], _, r => r
  | p :: ps, sts, r =>
    let (y, st, k, lim) := p.run h r.w (sts.headD {})
    runSteps h ps sts.tail { r with
      w := r.w.set p.d y, sts := r.sts ++ [st], ys := r.ys ++ [y], clips := r.clips + k, limited := r.limited || lim }

/-! ### Inputs (R368) -/

/-- A ratio in Q1.15, saturating, rounded towards minus infinity (log 135). -/
def ratio15 (a b : Int) : Int := if b = 0 then 0 else sat16 (a * 32768 / b)

/-- The mean sense code of H[i] since the slot's previous tick. -/
def State.senseMean (s : State) (l k i : Nat) : Nat :=
  let h := s.hvs.getD i {}
  let (sm, ct) := (s.loop l).sense.getD k (0, 0)
  if h.count = ct then s.rd (F.HV_STAT_SENSE i) else (h.sum - sm) / (h.count - ct)

/-- R376: the SETPT a tick uses: a write in its own cycle is used at the following tick. -/
def State.setptAt (s : State) (l : Nat) : Int :=
  match (s.loop l).setOld with
  | some (t, v) => if t = s.etime / 10 * 10 then sInt 16 v else s.rdS (F.LP_SETPT_SETPT l)
  | none => s.rdS (F.LP_SETPT_SETPT l)

/-- R19, R368: the output a slot had delivered when the tick came; one delivered at the tick itself comes after the sample. -/
def State.deliveredAt (s : State) (l : Nat) : Int :=
  if (s.loop l).before.1 = s.etime / 10 * 10 then (s.loop l).before.2 else (s.loop l).delivered

/-- R368: an input's value on the tick. -/
def State.loopIn (s : State) (l k sel : Nat) : Int :=
  let i := sel % 4096
  match sel / 4096 with
  | 1 => s.setptAt l
  | 2 => sat16 (s.senseMean l k i * 8 : Nat)
  | 3 => sat16 (s.rdS (F.TH_STAT_TEMP i) * 4)
  | 4 => if s.pLine i = 0 then 0 else sat16 (s.rdS (F.ST_PH_ERR_ERR i) * 16777216 / s.pLine i)
  | 5 => ratio15 (s.motSpd i) (s.rd (F.MOT_RATED_RATED_SPD i) * 100000 : Nat)
  | 6 => ratio15 (s.rdS (F.MOT_IDQ_IQ i)) (s.rd (F.MOT_RATED_RATED_I i))
  | 7 => sat16 (s.rdS F.WEB_VEL_VWEB / 250)
  | 8 => sat16 (s.rd64 (F.ENC_REP_LO_REP i) (F.ENC_REP_HI_REP i) - (s.loop l).qref.getD i 0)
  | 9 => s.deliveredAt i
  | _ => 0

def State.loopSels (s : State) (l : Nat) : List Nat :=
  [s.rd (F.LP_IN01_IN0 l), s.rd (F.LP_IN01_IN1 l), s.rd (F.LP_IN23_IN2 l), s.rd (F.LP_IN23_IN3 l)]

/-! ### Sinks (R371, R373, R374) -/

/-- R314, R374: the station whose lock loop a slot is, through the motor its sink names. -/
def State.lockOf (s : State) (l : Nat) : Option (Nat × Nat) :=
  let sink := s.rd (F.LP_SINK_SINK l)
  let m := sink % 4096
  let st := s.rd (F.MOT_CFG_POLY_STATION m)
  if sink / 4096 = 3 && s.on (F.MOT_CFG_POLY_EN m) && s.on (F.ST_PH_CTL_LOCK_EN st) && s.rd (F.ST_PH_CTL_PH_LOOP st) == l
  then some (m, st) else none

/-- R171: the feed-forward, as a fraction of RATED_SPD in Q1.15. -/
def State.feedForward (s : State) (m st : Nat) : Int :=
  let den := s.nAdv st * s.pLine st * s.rd (F.ST_GEOM_FACETS st) * s.rd (F.MOT_RATED_RATED_SPD m)
  if den = 0 then 0 else s.rdS F.WEB_VEL_VWEB * 85899345920 / den

/-- R333: the range of an XD MODE's values. -/
def State.xdRange (s : State) (n : Nat) : Int × Int :=
  match s.rd (F.XD_CFG_MODE n) with
  | 1 => (10240, 2048000000)
  | 2 => (0, 65535)
  | 3 => (0, 4095)
  | _ => (0, 4294967295)

/-- R373, R374: the value a slot's output presents at its sink, and whether the sink clamps it. -/
def State.sinkValue (s : State) (l : Nat) (y : Int) : Int × Bool :=
  let sink := s.rd (F.LP_SINK_SINK l)
  let i := sink % 4096
  let lim (lo hi v : Int) : Int × Bool := (clampI lo hi v, decide (v < lo ∨ hi < v))
  match sink / 4096 with
  | 1 => let (v, k) := lim 0 (128 * s.rd (F.HV_CFG_MAXDUTY i) : Nat) y; (2 * v, k)
  | 2 => lim 0 32767 y
  | 3 => match s.lockOf l with
    | some (m, st) => lim (-32768) 32767 (s.feedForward m st + y)
    | none => (y, false)
  | 5 =>
    let (lo, hi) := s.xdRange i
    lim lo hi (s.rdS (F.LP_XOFS_OFFSET l) + (y * s.rdS (F.LP_XSCALE_SCALE l) + 16384) / 32768)
  | _ => (y, false)

/-- R371, R483: the sink is a high-voltage channel that is tripped, or held low by SAFE. -/
def State.sinkTripped (s : State) (l : Nat) : Bool :=
  let sink := s.rd (F.LP_SINK_SINK l)
  sink / 4096 == 1 && (s.on (F.HV_CTL_TRIPPED (sink % 4096)) || s.on F.FAULT_STAT_SAFE)

/-- R373: an output reaches the slot's sink. -/
def State.deliverOut (s : State) (l : Nat) (y : Int) : State :=
  let s := s.modLoop l (fun x => { x with delivered := y, before := (s.etime / 10 * 10, x.delivered) })
  let sink := s.rd (F.LP_SINK_SINK l)
  let i := sink % 4096
  let v := (s.sinkValue l y).1
  match sink / 4096 with
  | 1 => s.setWant (48 + i) v.toNat
  | 2 => s.setWant (72 + i) v.toNat
  | 3 => s.setWant i (if s.runUp i then s.cmdVal i else motValue (s.cmdVal i % 2) 0 (s.cmdVal i / 4 % 2) (uBits 16 v))
  | 4 => s.setWant i (if s.runUp i then s.cmdVal i else motValue (s.cmdVal i % 2) 1 (s.cmdVal i / 4 % 2) (uBits 16 v))
  | 5 => s.setWant (80 + i) (uBits 32 v)
  | 6 => s.putSetpt i (uBits 16 v)
  | _ => s

/-- R373: a slot's sink is released. -/
def State.releaseSink (s : State) (l : Nat) : State :=
  let s := s.modLoop l (fun x => { x with due := none })
  match sinkClasp (s.rd (F.LP_SINK_SINK l)) with
  | none => s
  | some c => if s.driver c = none then s.setWant c (if 48 ≤ c && c < 80 then 0 else s.cmdVal c) else s

/-! ### Modes (R375, R376) -/

def State.loopMode (s : State) (l : Nat) : Nat := s.rd (F.LP_STAT_MODE l)

/-- A slot leaves OFF: step states and W4–W7 cleared, q_ref latched. -/
def State.loopStart (s : State) (l mode : Nat) : State :=
  let q := (List.range 8).map (fun n => s.rd64 (F.ENC_REP_LO_REP n) (F.ENC_REP_HI_REP n))
  let s := (List.range 8).foldl (fun (s : State) (k : Nat) => s.wr (F.LP_W_W l k) 0) s
  let s := s.modLoop l (fun x => { x with
    steps := [], due := none, qref := q, count := 0
    sense := (s.loopSels l).map (fun sel => let h := s.hvs.getD (sel % 4096) {}; (h.sum, h.count)) })
  ((s.wr (F.LP_STAT_SAT l) 0).wr (F.LP_SUPCNT_SATRUN l) 0).wr (F.LP_STAT_MODE l) mode

/-- A slot goes to OFF or FAULT: its sink is released. -/
def State.loopStop (s : State) (l mode : Nat) : State := ((s.wr (F.LP_STAT_MODE l) mode).releaseSink l)

/-- R375: one LOOP_CTL at the tick: the state, its status, whether it takes MANUAL to AUTO. -/
def State.loopCtl (s : State) (l op v : Nat) : State × Nat × Bool :=
  let m := s.loopMode l
  match op with
  | 0 => (if m = 1 ∨ m = 2 then s.loopStop l 0 else s, 0, false)
  | 1 =>
    if s.on F.GLB_STATE_HOLD ∨ m = 3 then (s, 5, false)
    else ((if m = 0 then s.loopStart l 1 else s.wr (F.LP_STAT_MODE l) 1).wr (F.LP_MAN_MAN l) v, 0, false)
  | 2 => if m ≠ 2 then (s, 5, false)
         else ((s.wr (F.LP_STAT_MODE l) 1).wr (F.LP_MAN_MAN l) (s.rd (F.LP_STAT_OUT l)), 0, false)
  | 3 =>
    if s.on F.GLB_STATE_HOLD ∨ m = 3 then (s, 5, false)
    else if m = 0 then (s.loopStart l 2, 0, false)
    else (s.wr (F.LP_STAT_MODE l) 2, 0, m == 1)
  | 4 => (s, 0, false)
  | _ =>
    if m ≠ 3 then (s, 5, false)
    else
      let s := ((s.wr (F.LP_STAT_SAT_TRIP l) 0).wr (F.LP_STAT_PL_TRIP l) 0).wr (F.LP_SUPCNT_PLCOUNT l) 0
      ((s.wr (F.LP_SUPCNT_SATRUN l) 0).wr (F.LP_STAT_MODE l) 0, 0, false)

/-- The LOOP_CTLs that wait take effect at the tick, and complete with the new mode. -/
def loopCtls (l : Nat) : List (Nat × Nat × Nat) → State → Bool → State × Bool
  | [], s, tr => (s, tr)
  | (ref, op, v) :: t, s, tr =>
    let (s, st, x) := s.loopCtl l op v
    loopCtls l t (s.partDone ref st 0 (s.loopMode l)) ((tr || x) && s.loopMode l == 2)

/-- R375: LOOP_CTLs that fall on the tick of a trip: the slot is in FAULT, from which they do nothing (DEDUCED, log 49). -/
def State.ctlsFault (s : State) (cs : List (Nat × Nat × Nat)) : State :=
  cs.foldl (fun (s : State) (c : Nat × Nat × Nat) => s.partDone c.1 (if c.2.1 = 0 ∨ c.2.1 = 4 then 0 else 5) 0 3) s

/-- R375: HOLD becomes 1: every slot that is not OFF goes to OFF at its next tick; until then its Clasp presents the safe value
(R278). -/
def State.loopsHold (s : State) : State :=
  (List.range 192).foldl (fun (s : State) (l : Nat) =>
    if s.loopMode l = 0 then s else s.modLoop l (fun x => { x with held := true })) s

/-- R422: with PD_MOT down no slot drives its sink. -/
def State.loopsOff (s : State) : State :=
  (List.range 192).foldl (fun (s : State) (l : Nat) => if s.loopMode l = 0 then s else s.loopStop l 0) s

/-- R375: the tick of a slot on which a HOLD takes effect. -/
def State.holdSlot (s : State) (l : Nat) : State :=
  if (s.loop l).held then (s.loopStop l 0).modLoop l (fun x => { x with held := false }) else s

/-! ### Supervision (R377–R379) -/

/-- R379: a trip: its event, the slot's mode, the page of ASSOC. -/
def State.loopTrip (s : State) (l code : Nat) (d : List (Nat × Nat × Nat)) : State :=
  let assoc := s.rd (F.LP_CFG_ASSOC l)
  let d := d ++ [(4, 1, if assoc < 8 then s.slotByte assoc else 255)]
  match s.rd (F.LP_CFG_SUP_ACT l) with
  | 0 => s.post 1 code 10 l d
  | 1 =>
    let s := (s.loopStop l 3).post 2 code 10 l d
    if assoc < 8 then s.hurtOn assoc 1 code 0 else s
  | _ => (s.loopStop l 3).post 3 code 10 l d

/-- R377. -/
def State.satStep (s : State) (l : Nat) (sat : Bool) : State :=
  let s := if sat && s.loopMode l == 2 then s.inc (F.LP_SUPCNT_SATRUN l) else s.wr (F.LP_SUPCNT_SATRUN l) 0
  let lim := s.rd (F.LP_SUP_SAT_LIM l)
  let run := s.rd (F.LP_SUPCNT_SATRUN l)
  if lim ≠ 0 ∧ lim ≤ run then
    (if s.on (F.LP_STAT_SAT_TRIP l) && s.rd (F.LP_CFG_SUP_ACT l) == 0 then s
     else (s.wr (F.LP_STAT_SAT_TRIP l) 1).loopTrip l 0x6010 [(0, 2, run), (2, 2, s.rd (F.LP_STAT_OUT l))])
  else s.wr (F.LP_STAT_SAT_TRIP l) 0

/-- R378. -/
def State.plausStep (s : State) (l : Nat) (r : LoopRun) : State :=
  if !s.on (F.LP_PLAUS_PL_EN l) then s else
  let fb := r.w.getD (s.rd (F.LP_PLAUS_PL_FB l)) 0
  let md := r.ys.getD (s.rd (F.LP_PLAUS_PL_STEP l)) 0
  let c := s.rd (F.LP_SUPCNT_PLCOUNT l)
  let c := if (s.rd (F.LP_PLAUS_PL_THR l) : Int) < (fb - md).natAbs then min 65535 (c + 1) else c - 1
  let s := s.wr (F.LP_SUPCNT_PLCOUNT l) c
  if max 1 (s.rd (F.LP_SUP_PL_CNT l)) ≤ c then
    (if s.on (F.LP_STAT_PL_TRIP l) && s.rd (F.LP_CFG_SUP_ACT l) == 0 then s
     else (s.wr (F.LP_STAT_PL_TRIP l) 1).loopTrip l 0x6011 [(0, 2, uBits 16 fb), (2, 2, uBits 16 md)])
  else s.wr (F.LP_STAT_PL_TRIP l) 0

/-! ### The tick (R364–R367) -/

/-- A slot's program runs: inputs, steps, output. -/
def State.loopRun (s : State) (l : Nat) (transfer : Bool) : State :=
  let n := s.rd (F.LP_CFG_NSTEPS l)
  let sels := s.loopSels l
  let ins := (List.range 4).map (fun k => s.loopIn l k (sels.getD k 0))
  let w := ins ++ [4, 5, 6, 7].map (fun k => s.rdS (F.LP_W_W l k))
  let auto := s.loopMode l == 2
  let h : LoopHow := ⟨auto && !s.on (F.LP_STAT_SAT l), if transfer then some (s.rdS (F.LP_MAN_MAN l)) else none⟩
  let ps := (List.range n).map (fun k => progStep (s.progEntry l k))
  let r := runSteps h ps (s.loop l).steps { w := w, sts := [] }
  let out := if auto then r.w.getD (s.rd (F.LP_CFG_OUTREG l)) 0 else s.rdS (F.LP_MAN_MAN l)
  let sat := r.limited || (s.sinkValue l out).2 || s.sinkTripped l
  let due := (s.loop l).due
  let s := (List.range 8).foldl (fun (s : State) (k : Nat) => s.wrS (F.LP_W_W l k) (r.w.getD k 0)) s
  let s := match due with | some y => s.deliverOut l y | none => s
  let s := s.modLoop l (fun x => { x with
    steps := r.sts, due := some out
    sense := sels.map (fun sel => let h := s.hvs.getD (sel % 4096) {}; (h.sum, h.count)) })
  let s := ((s.wrS (F.LP_STAT_OUT l) out).wr (F.LP_STAT_SAT l) (b2n sat)).inc (F.LP_CLIPS_CLIPS l) r.clips
  (s.satStep l sat).plausStep l r

/-- R414: on a tick of the slot a rejoining island takes it from the active island, where there is one. -/
def State.rejoinSlot (s : State) (l : Nat) : State := if s.islandActive then s.takeSlot l else s

/-- R366: a tick of a slot's class. -/
def State.loopTick (s : State) (l : Nat) : State :=
  let t := s.etime / 10 * 10
  let x := s.loop l
  if t % (max 10 (s.rd (F.LOOP_CLASS_PERIOD (s.rd (F.LP_CFG_RATE l)))) * 1000) ≠ 0 ∨ x.tickAt = some t then s else
  let runs := s.loopOn l
  let c := x.count + 1
  if runs && c < max 1 (s.rd (F.LP_CFG_DECIM l)) then s.modLoop l (fun x => { x with tickAt := some t, count := c }) else
  let s := (s.modLoop l (fun x => { x with tickAt := some t, count := 0, ctls := [] })).holdSlot l
  let runs := s.loopOn l
  let tripped := s.loopRun l false
  (if runs && !x.ctls.isEmpty && tripped.loopMode l = 3 then tripped.ctlsFault x.ctls else
    let (s, tr) := loopCtls l x.ctls s false
    if s.loopOn l then s.loopRun l tr else s).rejoinSlot l

/-! ### Commands (R382) -/

/-- R376, R382: LOOP_CTL. -/
def State.applyLoopCtl (s : State) (ref : Nat) (d : Desc) : Applied :=
  let l := dField d 8 2
  let op := dField d 10 1
  let m := s.loopMode l
  if dCount d ≠ 0 ∨ 191 < l ∨ 5 < op ∨ !dZero d 11 11 ∨ !dZero d 14 63 then .fail 0 1 0 0 id
  else if ((op = 1 ∨ op = 3) ∧ (s.on F.GLB_STATE_HOLD ∨ m = 3)) ∨ (op = 2 ∧ m ≠ 2) ∨ (op = 5 ∧ m ≠ 3) then .fail 0 5 l m id
  else
    let v := dField d 12 2
    let s := if op = 4 then s.putSetpt l v else s
    .done (s.modLoop l (fun x => { x with ctls := x.ctls ++ [(ref, op, v)] })) 1 0

/-- R369, R382: the entries of a LOOP_PROG descriptor. -/
def progEntries (d : Desc) : List (Nat × Nat) :=
  (List.range (dField d 11 1)).map (fun i => (dField d 10 1 + i, dField d (16 + 16 * i) 16))

/-- R382: the format of a LOOP_PROG descriptor. -/
def progFormat (d : Desc) : Bool :=
  let n := dField d 11 1
  dCount d == 0 && dField d 8 2 ≤ 191 && 1 ≤ n && n ≤ 3 && dField d 10 1 + n ≤ 32 && dZero d 12 15
    && (n == 3 || dZero d (16 + 16 * n) 63) && (progEntries d).all (fun e => (progStep e.2).clean)

/-- R268: a program entry staged. -/
def State.stageProg (s : State) (l k e : Nat) : State :=
  { s with staged := (List.range 4).foldl (fun m j => amPut m (progFld l k j).key (BitVec.ofNat 32 (e / 2 ^ (32 * j)))) s.staged }

end Sys2Proof.Machine
end

