-- ==== Sys2Proof/Machine/HvFuser.lean ====
section
/-! DEFINITION. High voltage, fuser zones and thermistors (chapter 14, R383–R389). -/

namespace Sys2Proof.Machine

open Sys2Proof

/-! ### High voltage (R383–R385) -/

/-- R384: the slot that names H[n]. -/
def State.hvSlot (s : State) (n : Nat) : Option Nat :=
  (List.range 192).find? (fun l => s.rd (F.LP_SINK_SINK l) == 4096 + n)

/-- A configured station (R68): it has octets. -/
def State.stationSet (s : State) (st : Nat) : Bool := st < 8 && s.rd (F.ST_OCTETS_OCT_MASK st) != 0

/-- R384: a trip. -/
def State.hvTrip (s : State) (n : Nat) : State :=
  let duty := s.rd (F.HV_STAT_DUTY n)
  let hard := match s.hvSlot n with | some l => s.stationSet (s.rd (F.LP_CFG_ASSOC l)) | none => false
  let s := ((s.wr (F.HV_CTL_TRIPPED n) 1).wr (F.HV_STAT_DUTY n) 0).modHv n (fun h => { h with dutyAt := none, hard := hard })
  s.post (if hard then 3 else 1) 0x6020 10 (0x100 + n) [(0, 2, s.rd (F.HV_STAT_SENSE n)), (2, 2, duty)]

/-- R384: a sense sample of 12 bits. -/
def State.hvSense (s : State) (n code : Nat) : State :=
  let c := code % 4096
  let trip := s.rd (F.HV_CFG_TRIP n)
  let hi := trip ≠ 0 ∧ trip ≤ c
  let s := (s.wr (F.HV_STAT_SENSE n) c).modHv n (fun h => { h with
    sum := h.sum + c, count := h.count + 1, high := if hi then h.high + 1 else 0 })
  if 2 ≤ (s.hvs.getD n {}).high && !s.on (F.HV_CTL_TRIPPED n) then s.hvTrip n else s.syncHv n

def execHvSenseSample (n : Fin 24) (code : Nat) (s : State) : Out State Fault Refusal := .next (s.live (s.hvSense n code))

/-- R384: a clear of the trip, only with the last sample below TRIP. -/
def State.hvClr (s : State) (n : Nat) : State :=
  let trip := s.rd (F.HV_CFG_TRIP n)
  if s.rd (F.HV_STAT_SENSE n) < trip then (s.wr (F.HV_CTL_TRIPPED n) 0).syncHv n else s

def execHvTripClr (n : Fin 24) (s : State) : Out State Fault Refusal := .next (s.live (s.hvClr n))

/-! ### Fuser zones (R386, R387) -/

/-- A zone's half-cycle conducts or does not; R528 holds the output inactive. -/
def State.fzDrive (s : State) (n : Nat) (want : Bool) : State :=
  let go := want && !s.undervolt
  let s := s.fzPulse n go
  if go then (s.modFz n (fun z => { z with counted := some (s.now, s.rd (F.FZ_HALVES_HALVES n)) })).inc (F.FZ_HALVES_HALVES n) else s

/-- R387: the decision of one zone at a zero-cross. -/
def State.fzDecide (s : State) (n : Nat) (rising : Bool) : State :=
  if !s.on (F.FZ_CFG_EN n) then s else
  let r := s.claspOut (72 + n)
  let s := s.wr (F.FZ_STAT_RATIO n) r
  let z := s.fzs.getD n {}
  let cut := s.on (F.FZ_STAT_OVERTEMP n)
  if s.on (F.FZ_CFG_FULLCYC n) && !rising then s.fzDrive n (z.rising && !cut && !s.on F.GLB_STATE_HOLD)
  else
    let acc := z.acc + r
    let go := 32768 ≤ acc
    (s.modFz n (fun z => { z with acc := if go then acc - 32768 else acc, rising := go })).fzDrive n (go && !cut)

/-- R386: four edges spaced within ±10 % of each other. -/
def evenly (l : List Nat) : Bool :=
  3 ≤ l.length && l.all (fun a => l.all (fun b => decide (10 * a ≤ 11 * b)))

/-- R386: how long an edge of ZC_IN is held until it is qualified, in ns. -/
def State.zcFilt (s : State) : Nat := if s.on F.ZC_CFG_ZC_FILT then 200000 else 20000

/-- R386: a qualified edge is noted, with the intervals of the last four. -/
def State.zcEdge (s : State) : State :=
  let ivs := match s.zc.lastAt with | some t => ((s.now - t) :: s.zc.intervals).take 3 | none => []
  { s with zc := { s.zc with lastAt := some s.now, since := s.now, intervals := ivs, lost := false } }

/-- R386, R387: a qualified edge of ZC_IN. ZC_HALF shows whole microseconds (log 131). -/
def State.zeroCross (s : State) (rising : Bool) : State :=
  let had := s.zc.lastAt.isSome
  let s := s.zcEdge
  let s := if had then s.wr F.ZC_STAT_ZC_HALF (min 65535 (s.zc.intervals.headD 0 / 1000)) else s
  let s := if evenly s.zc.intervals then s.wr F.ZC_STAT_ZC_OK 1 else s
  (List.range 8).foldl (fun (s : State) (n : Nat) => s.fzDecide n rising) s

/-- R386, R434: 25 ms with no qualified edge. While PD_MOT is not ON only the ember zone watches ZC_IN. -/
def State.zcLost (s : State) : State :=
  if s.zc.lost ∨ s.now < s.zc.since + 25000000 then s else
  let s := ({ s with zc := { s.zc with lastAt := none, intervals := [], lost := true } } : State).fzsOff
  if s.domOn 5 then (s.wr F.ZC_STAT_ZC_OK 0).post 1 0x6030 10 0 [(0, 2, s.rd F.ZC_STAT_ZC_HALF)] else s

def execZcLost (s : State) : Out State Fault Refusal := .next (s.live s.zcLost)

/-! ### Thermistors and the over-temperature cut (R388, R389) -/

/-- R389: a cut and a conducting decision at the same zero-cross give no conduction. -/
def State.fzUncount (s : State) (n : Nat) : State :=
  match (s.fzs.getD n {}).counted with
  | some (t, h) => if t = s.now then s.wr (F.FZ_HALVES_HALVES n) h else s
  | none => s

/-- R389: a zone is cut. -/
def State.fzCut (s : State) (n : Nat) : State :=
  let k := s.rd (F.FZ_CFG_TSRC n)
  let t := s.rdS (F.TH_STAT_TEMP k)
  let bad := s.on (F.TH_STAT_FAULT k)
  if s.on (F.FZ_CFG_EN n) && !s.on (F.FZ_STAT_OVERTEMP n) && (bad || decide (16 * (s.rd (F.FZ_TMAX_T_MAX n) : Int) ≤ t)) then
    (((s.wr (F.FZ_STAT_OVERTEMP n) 1).fzUncount n).fzOff n).post 3 0x6031 10 (0x200 + n)
      [(0, 2, uBits 16 t), (2, 1, k), (3, 1, b2n bad)]
  else s

/-- R388: a sample of a thermistor, as a ratio in 1/65,536 of the supply. -/
def State.thSample (s : State) (n r : Nat) : State :=
  if !s.on (F.TH_CFG_EN n) then s else
  let ts := (betaTemp (s.rd (F.TH_CFG_BETA n)) r :: s.ths.getD n []).take 4
  let s := { s with ths := s.ths.set n ts }
  let s := (s.wrS (F.TH_STAT_TEMP n) (roundHalf (sumI ts) ts.length)).wr (F.TH_STAT_FAULT n) (b2n (sensorBad r))
  ((List.range 8).filter (fun z => s.rd (F.FZ_CFG_TSRC z) = n)).foldl State.fzCut s

/-- R389: OVERTEMP cleared, only 10 °C below T_MAX and with a good sensor. -/
def State.fzClr (s : State) (n : Nat) : State :=
  let k := s.rd (F.FZ_CFG_TSRC n)
  if s.on (F.TH_STAT_FAULT k) || decide (16 * ((s.rd (F.FZ_TMAX_T_MAX n) : Int) - 10) ≤ s.rdS (F.TH_STAT_TEMP k)) then s
  else s.wr (F.FZ_STAT_OVERTEMP n) 0

def execFuserClr (n : Fin 8) (s : State) : Out State Fault Refusal := .next (s.live (s.fzClr n))

end Sys2Proof.Machine
end

