-- ==== Sys2Proof/Machine/Rings.lean ====
section
/-! DEFINITION. Host interface and descriptor rings (chapter 09): doorbells, ring states, descriptor reads, the
priority ring, ring administration, records and messages to the host, host resets; and the accesses of R11–R28. -/

namespace Sys2Proof.Machine

open Sys2Proof

/-! ### Host accesses (R11, R14, R28) -/

/-- R11, R39: an access that is not an aligned single dword: a write is discarded, a read answered with zeros, and both
are posted. -/
def State.missized (s : State) (bar off be : Nat) (write : Bool) (len : Nat) : State :=
  let s := if write then s else { s with host := { s.host with readData := 0#32 } }
  s.post 1 0x9010 1 0 [(0, 4, off), (4, 1, bar), (5, 1, be), (6, 1, b2n write), (7, 2, len)]

def execBarMissizedAccess (bar off be : Nat) (write : Bool) (len : Nat) (s : State) : Out State Fault Refusal :=
  .next (s.live (s.missized bar off be write len))

/-- R26, R28: VTIME and VPHASE on the 10 ns tick that ETIME and WPOS are sampled on. -/
def State.vtimeTick (s : State) : Nat × Nat :=
  let d := 32768 * (s.now % 10)
  if d ≤ s.time.vfrac then (s.time.vtime, (s.time.vfrac - d) / 32768)
  else ((s.time.vtime + 2 ^ 48 - 1) % 2 ^ 48, (s.time.vfrac + 1000000000 - d) / 32768)

/-- R28: ETIME, VTIME, WPOS and VPHASE are captured on one tick. -/
def State.tsnap (s : State) : State :=
  let (v, f) := s.vtimeTick
  let s := s.wr64 F.TSNAP_ETIME_LO_VALUE F.TSNAP_ETIME_HI_VALUE s.etime
  let s := s.wr64 F.TSNAP_VTIME_LO_VALUE F.TSNAP_VTIME_HI_VALUE v
  let s := s.wr64 F.TSNAP_WPOS_LO_VALUE F.TSNAP_WPOS_HI_VALUE s.wpos
  (s.wr F.TSNAP_VPHASE_VPHASE f).wr F.TSNAP_CTL_SNAP_VALID 1

def execTsnapSnap (s : State) : Out State Fault Refusal := .next (s.live s.tsnap)

/-! ### Ring states (R237, R241) -/

/-- R237: indices and laps from 0, nothing written and not returned. -/
def State.zeroRing (s : State) (q : Nat) : State :=
  ((s.modRing q (fun g => { g.discard with lap := 0, entries := [], bell := 0, wbDue := false })).wr
    (F.RING_IDX_PI q) 0).wr (F.RING_IDX_CI q) 0

/-- R241, R243: a doorbell. -/
def State.doorbell (s : State) (q v : Nat) : State :=
  let n := s.ringSize q
  let pi := s.rd (F.RING_IDX_PI q)
  let ci := s.rd (F.RING_IDX_CI q)
  if s.compat then s
  else if s.ringState q = 0 then s.post 1 0x9020 2 q [(0, 4, v), (4, 1, 1)]
  else if n ≤ v then s.post 1 0x9020 2 q [(0, 4, v)]
  else if q = 28 then
    let d (x : Nat) : Nat := (x + n - ci) % n
    let s := if d (s.ring q).bell < d v then s.modRing q (fun g => { g with bell := v }) else s
    if d v ≤ d pi then s else s.wr (F.RING_IDX_PI q) v
  else if isH2D q then s.wr (F.RING_IDX_PI q) v
  else (s.modRing q (fun g => { g with entries := g.entries.drop ((v + n - ci) % n) })).wr (F.RING_IDX_CI q) v

def execDoorbell (ring : Fin 32) (v : Nat) (s : State) : Out State Fault Refusal := .next (s.live (s.doorbell ring v))

/-- R237, R264: RING_CTL.EN written 1. -/
def State.ringEnable (s : State) (q : Nat) : State :=
  if s.compat || s.ringState q != 0 then s else
  match s.ringBad q with
  | some r => s.post 1 0x9023 2 q [(0, 1, r)]
  | none => (((s.zeroRing q).wr (F.RING_STAT_STATE q) 1).wr (F.RING_STAT_ERR_CAUSE q) 0).wr (F.RING_CTL_EN q) 1

def execRingEnable (ring : Fin 32) (s : State) : Out State Fault Refusal := .next (s.live (s.ringEnable ring))

/-- R237: RING_CTL.EN written 0. -/
def State.ringDisable (s : State) (q : Nat) : State :=
  if s.compat || s.ringState q = 0 then s else
  s.begunWait (((s.modRing q Ring.discard).wr (F.RING_STAT_STATE q) 0).wr (F.RING_CTL_EN q) 0)

def execRingDisable (ring : Fin 32) (s : State) : Out State Fault Refusal := .next (s.live (s.ringDisable ring))

/-! ### Refusals under R245 -/

/-- A machine-class transaction begins its life (R253). -/
def State.newTxn (s : State) (q : Nat) (ds : List Desc) (tseq : Nat) : MTxn × State :=
  let m : MTxn := { id := s.host.nextTxn, ring := q, descs := ds, taken := s.etime, tseq := tseq,
                    irq := dIrq (ds.headD 0), waits := 0 }
  (m, { s with host := { s.host with nextTxn := s.host.nextTxn + 1, mach := s.host.mach ++ [m] } })

/-- The position of the descriptor a generic check fails on. -/
def genericIndex (q check : Nat) (ds : List Desc) : Nat :=
  match check with
  | 2 => (ds.findIdx? (fun d => !accepts q (dOpcode d))).getD 0
  | 3 => ((List.range ds.length).find? (fun i => let d := ds.getD i 0
      dFlags d / 16 != 0 || (0 < i && dFence d))).getD 0
  | _ => if 16 < ds.length then 16 else 1

/-- R245: a transaction refused as a format failure of its class; 0x9024 is posted and RING_REFUSED counts. -/
def State.refuseGeneric (s : State) (q check : Nat) (ds : List Desc) : State :=
  let h := ds.headD 0
  let i := genericIndex q check ds
  let s := (s.inc (F.RING_REFUSED_REFUSED q)).post 0 0x9024 2 q [(0, 4, dTag h), (4, 1, check), (5, 2, ds.length)] (dTag h)
  let s := s.passTxn q ds.length
  match classOf q with
  | 0 =>
    let (tseq, s) := s.keep ds
    if dOpcode h = 4 then s.refuseCancel q ds i tseq
    else s.refusePage q 0x1001 [(4, 1, i), (5, 1, dOpcode (ds.getD i 0))] ds tseq
  | 1 => (s.failTable { id := s.tbl.nextTxn, ring := q, descs := ds } (fun _ => 2)).trace 2 q ds 0
  | 2 => (s.codecDone q h { op := if dOpcode h = 0x21 then 8 else if dOpcode h = 0x22 then 9 else jobOp h,
                            status := 9, start := s.etime
                            capture := if dOpcode h = 0x21 ∨ dOpcode h = 0x22 then dField h 8 4 else jobCapture h }).trace 2 q ds 0
  | c =>
    let (tseq, s) := if c = 3 then s.keep ds else (0, s)
    let (m, s) := s.newTxn q ds tseq
    (s.finishTxn { m with status := 1, failIndex := i, failOp := dOpcode (ds.getD i 0) }).trace 2 q ds tseq

/-- Whether a machine transaction is one of the opcodes and OP values that the chapters define. -/
def machKnown (d : Desc) : Bool :=
  let op := dOpcode d
  if op = 0x30 then dField d 9 1 ≤ 4
  else if op = 0x35 then dField d 9 1 ≤ 3
  else if op = 0x36 then dField d 10 1 ≤ 5
  else if op = 0x38 then dField d 8 1 ≤ 1
  else if op = 0x3D then dField d 9 1 ≤ 2
  else (0x31 ≤ op && op ≤ 0x37) || op == 0x3C || op == 0x3E || (0x40 ≤ op && op ≤ 0x44) || op == 0x50 || op == 0x51
    || (0x58 ≤ op && op ≤ 0x5C)

/-- R253, R254: a machine transaction of an undefined opcode or OP completes with FORMAT. -/
def State.refuseUnknown (s : State) (q : Nat) (ds : List Desc) : State :=
  let (tseq, s) := (s.passTxn q ds.length).keep ds
  let (m, s) := (s.trace 0 q ds tseq).newTxn q ds tseq
  s.finishTxn { m with status := 1, failIndex := 0, failOp := dOpcode (ds.headD 0) }

/-- Transactions at the head of a ring that fail the generic checks are refused as their turn comes; a codec job of
an OP that R110 does not list, and a machine transaction of an undefined opcode, complete with FORMAT. `fuel` bounds
their number. -/
def State.settleHead (s : State) (q : Nat) : Nat → State
  | 0 => s
  | fuel + 1 =>
    match s.takeable q with
    | none => s
    | some ds =>
      match genericFail q ds with
      | some c => State.settleHead (s.refuseGeneric q c ds) q fuel
      | none =>
        if classOf q = 2 && dOpcode (ds.headD 0) == 0x20 && 4 < jobOp (ds.headD 0)
        then State.settleHead (s.takeJob q (ds.headD 0)) q fuel
        else if classOf q = 3 && !machKnown (ds.headD 0) then State.settleHead (s.refuseUnknown q ds) q fuel
        else s

/-- The next transaction of a ring is taken where its turn has come and it meets `t`; one that fails R245 is refused. -/
def State.takeWhen (s : State) (q : Nat) (t : List Desc → Bool) (f : List Desc → State → State) : State :=
  match s.takeable q with
  | none => s
  | some ds =>
    match genericFail q ds with
    | some c => s.refuseGeneric q c ds
    | none => if t ds then (f ds s).settleHead q ds.length else s

/-- R245, R247: transactions that no command takes, because they fail the generic checks or name no operation, are refused
as their turn comes, whichever ring it comes to. -/
def State.settleHeads (s : State) : State :=
  ([28, 31] ++ List.range 20).foldl (fun (s : State) q => s.settleHead q (s.ring q).fetched.length) s

/-- The first descriptor has an opcode. -/
def opIs (op : Nat) (ds : List Desc) : Bool := dOpcode (ds.headD 0) == op

/-! ### Descriptor reads (R242, R243) -/

/-- The PHASE expected of the entry `k` places after CI (R237). -/
def State.expectedPhase (s : State) (q k : Nat) : Nat :=
  if ((s.ring q).lap + (s.rd (F.RING_IDX_CI q) + k) / s.ringSize q) % 2 = 0 then 1 else 0

/-- Entries between CI and PI. -/
def State.produced (s : State) (q : Nat) : Nat :=
  let n := s.ringSize q
  (s.rd (F.RING_IDX_PI q) + n - s.rd (F.RING_IDX_CI q)) % n

/-- A descriptor with the expected PHASE joins those read. -/
def State.gotDesc (s : State) (q : Nat) (d : Desc) : State :=
  (s.modRing q (fun g => { g with fetched := g.fetched ++ [d], found := g.found ++ [s.etime], rereadAt := none, retry := false })
    ).settleHead q 1

/-- R242: a read of the next descriptor below PI completes. -/
def State.descRead (s : State) (q : Nat) (d : Desc) : State :=
  let g := s.ring q
  let k := g.fetched.length
  if !isH2D q || s.ringState q != 1 || g.rereadAt.isSome || g.errAt.isSome || s.produced q ≤ k then s
  else if dPhase d = s.expectedPhase q k then s.gotDesc q d
  else s.modRing q (fun g => { g with rereadAt := some (s.now + 2000) })

def execDescriptorRead (ring : Fin 32) (d : Desc) (s : State) : Out State Fault Refusal := .next (s.live (s.descRead ring d))

/-- R242: the second read, 2 µs after the first. -/
def State.phaseReread (s : State) (q : Nat) (d : Desc) : State :=
  match (s.ring q).rereadAt with
  | none => s
  | some t =>
    if s.now < t || s.ringState q != 1 then s
    else if dPhase d = s.expectedPhase q (s.ring q).fetched.length then s.gotDesc q d
    else s.readFailed q 1 (dPhase d)

def execPhaseReread (ring : Fin 32) (d : Desc) (s : State) : Out State Fault Refusal := .next (s.live (s.phaseReread ring d))

/-- R243: whether the entry at CI of Q28 lies below the doorbelled PI. -/
def State.q28Below (s : State) : Bool :=
  (s.ring 28).fetched.isEmpty && (s.ring 28).bell != s.rd (F.RING_IDX_CI 28)

/-- R243: a poll read of the entry at CI of Q28 completes, 1 µs or more after the previous one. -/
def State.poll28 (s : State) (d : Desc) : State :=
  let g := s.ring 28
  let due := match g.polledAt with | none => true | some t => t + 1000 ≤ s.now
  if s.ringState 28 != 1 || !due then s else
  let s := s.modRing 28 (fun g => { g with polledAt := some s.now })
  if g.fetched != [] || g.rereadAt.isSome || g.errAt.isSome then s
  else if dPhase d = s.expectedPhase 28 0 then
    let n := s.ringSize 28
    let s := if s.produced 28 = 0 then s.wr (F.RING_IDX_PI 28) ((s.rd (F.RING_IDX_CI 28) + 1) % n) else s
    s.gotDesc 28 d
  else if s.q28Below then s.modRing 28 (fun g => { g with rereadAt := some (s.now + 2000) })
  else s

def execQ28Poll (d : Desc) (s : State) : Out State Fault Refusal := .next (s.live (s.poll28 d))

/-! ### Writebacks, records and messages (R249–R261) -/

/-- R248, R249: the latest CI is written to RING_WB, inside the windows, at most once per µs and ring. -/
def State.wbWrite (s : State) (q : Nat) : State :=
  let g := s.ring q
  let due := match g.wbAt with | none => true | some t => t + 1000 ≤ s.now
  if g.wbDue && due && s.ringWb q != 0 && isH2D q && s.inWindow true (s.ringWb q) 4 then
    s.modRing q (fun g => { g with wbDue := false, wbAt := some s.now, wbValue := s.rd (F.RING_IDX_CI q) })
  else s

def execRingWbWrite (ring : Fin 32) (s : State) : Out State Fault Refusal := .next (s.live (s.wbWrite ring))

/-- R252: the EVENT entry of a queued event. -/
def eventEntry (e : Ev) : Desc :=
  mkEntry [(0, 1, 0xC0), (4, 4, e.tag), (8, 8, e.etime), (16, 8, uBits 64 e.wpos), (24, 2, e.code), (26, 1, e.sev),
    (27, 1, e.src), (28, 2, e.inst), (30, 10, e.detail.toNat), (40, 1, e.block), (42, 2, e.seq)]

/-- R260: the vector of an event's area and severity. -/
def eventVector (code sev : Nat) : Nat := 32 + 3 * (code / 4096 - 1) + (if sev ≤ 1 then 0 else if sev = 2 then 1 else 2)

/-- R251: the oldest queued event is written to Q25 where it has room; its vector has a cause, sent at once for HARD
and SAFE (R261). -/
def State.eventWrite (s : State) : State :=
  match s.host.evq with
  | [] => s
  | e :: t =>
    let r : Rec := ⟨[eventEntry e], false, none, none, none⟩
    if s.roomFor 25 r then
      ({ s with host := { s.host with evq := t } }.putRec 25 r).vecCause (eventVector e.code e.sev) (3 ≤ e.sev)
    else s

def execEventRecordWrite (s : State) : Out State Fault Refusal := .next (s.live s.eventWrite)

def execMachDoneWrite (s : State) : Out State Fault Refusal := .next (s.live (s.writeDone 24))
def execCodecDoneWrite (s : State) : Out State Fault Refusal := .next (s.live (s.writeWaiting 23))
def execTableDoneWrite (s : State) : Out State Fault Refusal := .next (s.live (s.writeDone 22))

/-- R121: the oldest waiting index record is written; its capture may be released from then on. -/
def State.indexWrite (s : State) : State :=
  match (s.ring 29).waiting with
  | [] => s
  | r :: _ =>
    if s.roomFor 29 r then
      let id := dField (r.entries.headD 0) 16 4
      let s := (s.writeWaiting 29).modCapture (fun c => c.id = id && c.closed) (fun c => { c with indexed := true })
      match s.codec.captures.find? (fun c => c.id = id && c.closed) with
      | some c => s.settleFrees c
      | none => s
    else s

def execReprintIndexWrite (s : State) : Out State Fault Refusal := .next (s.live s.indexWrite)

/-- R261: MOD_TIME after a vector's first pending cause, it sends its message. -/
def State.modTimer (s : State) (v : Nat) : State :=
  match ((s.host.vecs.getD v {}).firstAt) with
  | none => s
  | some t =>
    if t + s.rd (F.VEC_MOD_MOD_TIME v) * 1000 ≤ s.now then
      { s with host := { s.host with vecs := s.host.vecs.modify v Vec.send } }
    else s

def execMsixModTimer (v : Fin 64) (s : State) : Out State Fault Refusal := .next (s.live (s.modTimer v))

/-- R261: on unmask, a pending message is sent. -/
def Vec.unmask (v : Vec) : Vec :=
  { v with masked := false, pendingBit := false, sent := v.sent + b2n v.pendingBit }

def execMsixUnmask (v : Fin 64) (s : State) : Out State Fault Refusal :=
  .next (s.live { s with host := { s.host with vecs := s.host.vecs.modify v Vec.unmask } })

/-- R234: a dword of a vector's entry of the MSI-X table is written: address low and high, data, vector control with the
mask in bit 0; a vector that is unmasked sends what is pending (R261). -/
def Vec.put (v : Vec) (k x : Nat) : Vec :=
  match k with
  | 0 => { v with addr := v.addr / 2 ^ 32 * 2 ^ 32 + x / 4 * 4 }
  | 1 => { v with addr := v.addr % 2 ^ 32 + x * 2 ^ 32 }
  | 2 => { v with data := x }
  | _ => if x % 2 = 1 then { v with masked := true } else if v.masked then v.unmask else v

/-- A dword of a vector's entry of the MSI-X table. -/
def Vec.get (v : Vec) (k : Nat) : Nat :=
  match k with
  | 0 => v.addr % 2 ^ 32
  | 1 => v.addr / 2 ^ 32
  | 2 => v.data
  | _ => b2n v.masked

/-- R234: BAR4 written: the MSI-X table at 0x0000; the pending bit array cannot be written. -/
def State.bar4Write (s : State) (off x : Nat) : State :=
  if off < 0x400 then { s with host := { s.host with vecs := s.host.vecs.modify (off / 16) (fun v => v.put (off % 16 / 4) x) } }
  else s

/-- R234: BAR4 read: the MSI-X table at 0x0000, the pending bit array at 0x1000. -/
def State.bar4Read (s : State) (off : Nat) : Nat :=
  if off < 0x400 then (s.host.vecs.getD (off / 16) {}).get (off % 16 / 4)
  else if 0x1000 ≤ off ∧ off < 0x1008 then
    (List.range 32).foldl (fun a k => a + b2n (s.host.vecs.getD (32 * ((off - 0x1000) / 4) + k) {}).pendingBit * 2 ^ k) 0
  else 0

/-- R241: BAR2 read: CI of a host → device ring and the device's PI of the other at offset 0x000 of the ring's page. -/
def State.bar2Read (s : State) (off : Nat) : Nat :=
  let q := off / 0x1000
  if off % 0x1000 ≠ 0 ∨ 32 ≤ q then 0
  else if isH2D q then s.rd (F.RING_IDX_CI q) else s.rd (F.RING_IDX_PI q)

/-- R241: BAR2 written: a doorbell at offset 0x000 of a ring's page; other offsets ignore writes. -/
def State.bar2Write (s : State) (off x : Nat) : State :=
  if off % 0x1000 = 0 ∧ off / 0x1000 < 32 then s.doorbell (off / 0x1000) x else s

/-! ### Host resets (R235) -/

/-- R233, R234: a function level reset returns the sizes set in configuration space and the MSI-X table to their reset
values, as PCIe has it (PRESUMED, log 123); pending causes stay (R235). -/
def State.pcieReset (s : State) : State :=
  { s with host := { s.host with
    cfg := {}, vecs := s.host.vecs.map (fun v => { v with masked := true, pendingBit := false, addr := 0, data := 0 }) } }

/-- R235: every ring becomes DISABLED with its indices cleared, every fence window invalid. -/
def State.hostReset (s : State) (cause : Nat) : State :=
  let s := s.begunWait ((List.range 32).foldl (fun s q => ((s.zeroRing q).wr (F.RING_STAT_STATE q) 0).wr (F.RING_CTL_EN q) 0) s)
  let s := (List.range 64).foldl (fun s w => s.wr (F.FW_BASE_LO_VALID w) 0) s
  ({ s with host := { s.host with resetCause := some cause, hiSnap := [] } } : State).pcieReset

def execPerstAssert (s : State) : Out State Fault Refusal :=
  .next (s.live { s.hostReset 0 with host := { (s.hostReset 0).host with perst := true, linkUp := false } })

def execLinkDown (s : State) : Out State Fault Refusal :=
  .next (s.live { s.hostReset 1 with host := { (s.hostReset 1).host with linkUp := false } })

/-- R235: an FLR resets the same; its event waits for its completion. -/
def State.flr (s : State) : State :=
  { s.hostReset 2 with host := { (s.hostReset 2).host with resetCause := s.host.resetCause, flrAt := some s.now } }

def execFunctionLevelReset (s : State) : Out State Fault Refusal := .next (s.live s.flr)

/-- R235: the FLR completes and posts 0x9022. -/
def State.flrDone (s : State) : State :=
  match s.host.flrAt with
  | none => s
  | some _ => ({ s with host := { s.host with flrAt := none } }).post 1 0x9022 1 0 [(0, 1, 2)]

def execFlrComplete (s : State) : Out State Fault Refusal := .next (s.live s.flrDone)

/-- R235: the link reaches DL_Active; a reset through PERST_N, link loss or VIGIL is reported. -/
def State.linkActive (s : State) : State :=
  let c := s.host.resetCause
  let s := ({ s with host := { s.host with linkUp := true, perst := false, resetCause := none } } : State).freeWakeN
  match c with
  | some k => s.post 1 0x9022 1 0 [(0, 1, k)]
  | none => s

def execLinkUp (s : State) : Out State Fault Refusal := .next (s.live s.linkActive)

/-! ### Taking page, table and codec transactions -/

def execPageTransaction (ring : Fin 32) (s : State) : Out State Fault Refusal :=
  .next (s.live (s.takeWhen ring (fun ds => classOf ring == 0 && !opIs 4 ds) (fun ds s => s.takePage ring ds)))

def execPageCancel (ring : Fin 32) (s : State) : Out State Fault Refusal :=
  .next (s.live (s.takeWhen ring (fun ds => classOf ring == 0 && opIs 4 ds) (fun ds s => s.takeCancel ring ds)))

def execTableLoad (ring : Fin 32) (s : State) : Out State Fault Refusal :=
  .next (s.live (s.takeWhen ring (fun ds => classOf ring == 1 && opIs 0x10 ds) (fun _ s => s.takeTable ring 0x10)))

def execTableSwitch (ring : Fin 32) (s : State) : Out State Fault Refusal :=
  .next (s.live (s.takeWhen ring (fun ds => classOf ring == 1 && opIs 0x11 ds) (fun _ s => s.takeTable ring 0x11)))

/-- R147: a waiting table transaction starts. -/
def State.tableStart (s : State) (id : Nat) : State :=
  match s.tblTxn id with
  | none => s
  | some t => if !t.started && s.tblMayStart t then s.startTable t else s

def execTableTxnStart (id : Nat) (s : State) : Out State Fault Refusal := .next (s.live (s.tableStart id))

/-- R141: every read of a running load transaction has ended. -/
def State.tableEnd (s : State) (id : Nat) (srcs : List (Option (List Byte))) : State :=
  match s.tblTxn id with
  | none => s
  | some t => if t.started && t.left = 0 then (s.endLoads t srcs).endTransfer (tableTransfer id) else s

def execTableTxnComplete (id : Nat) (srcs : List (Option (List Byte))) (s : State) : Out State Fault Refusal :=
  .next (s.live (s.tableEnd id srcs))

/-- A CODEC_JOB of an operation is taken into the job queue. -/
def State.takeJobOp (s : State) (q op : Nat) : State :=
  s.takeWhen q (fun ds => classOf q == 2 && opIs 0x20 ds && jobOp (ds.headD 0) == op) (fun ds s => s.takeJob q (ds.headD 0))

def execCompress (ring : Fin 32) (s : State) : Out State Fault Refusal := .next (s.live (s.takeJobOp ring 0))
def execDecompress (ring : Fin 32) (s : State) : Out State Fault Refusal := .next (s.live (s.takeJobOp ring 1))
def execFrcEncode (ring : Fin 32) (s : State) : Out State Fault Refusal := .next (s.live (s.takeJobOp ring 2))
def execTranscode (ring : Fin 32) (s : State) : Out State Fault Refusal := .next (s.live (s.takeJobOp ring 3))
def execReplay (ring : Fin 32) (s : State) : Out State Fault Refusal := .next (s.live (s.takeJobOp ring 4))

def execReprintHold (ring : Fin 32) (s : State) : Out State Fault Refusal :=
  .next (s.live (s.takeWhen ring (fun ds => classOf ring == 2 && opIs 0x21 ds) (fun ds s => s.takeHold ring (ds.headD 0))))

def execReprintFree (ring : Fin 32) (s : State) : Out State Fault Refusal :=
  .next (s.live (s.takeWhen ring (fun ds => classOf ring == 2 && opIs 0x22 ds) (fun ds s => s.takeFree ring (ds.headD 0))))

/-- R111: a queued job starts on the lowest free engine of its type; a REPLAY pins its capture; its output may reach
an invalid chain entry (R114). -/
def State.jobStart (s : State) (id : Nat) (empty : Option (List ChainEnt)) : State :=
  match s.job id with
  | none => s
  | some j =>
    match s.startable j.ring with
    | none => s
    | some (k, es) =>
      if k.id != id || s.nextJobRing != some j.ring then s else
      let t := s.etime
      let s := s.modJob id (fun j => { j with started := true, engines := es, etimeStart := t, wins := s.windows })
      let s := { s with codec := { s.codec with lastRing := j.ring } }
      let s := if j.op = 4 then
        s.modCapture (fun c => c.id = dField j.desc 48 4 && c.closed) (fun c => { c with pins := c.pins + 1 }) else s
      match empty with
      | some e => s.syncCodec.chainEmpty id e
      | none => s.syncCodec

def execCodecJobStart (id : Nat) (empty : Option (List ChainEnt)) (s : State) : Out State Fault Refusal := .next (s.live (s.jobStart id empty))

/-- R114: a suspended job's entry is read again: VALID resumes it, perhaps to meet another invalid entry; still
invalid at or after CHAIN_TMO ms it fails with CHAIN_TIMEOUT. -/
def State.chainPoll (s : State) (id : Nat) (valid : Bool) (empty : Option (List ChainEnt)) : State :=
  match s.job id with
  | none => s
  | some j =>
    match j.suspendedAt with
    | none => s
    | some t =>
      let tmo := s.rd F.CODEC_CHAIN_CTL_CHAIN_TMO
      if s.now < j.polledAt + max 1 (s.rd F.CODEC_CHAIN_CTL_CHAIN_POLL) * 1000 then s
      else if s.entryValid j valid then
        let s := (s.modJob id (fun j => { j with suspendedAt := none })).syncCodec
        match empty with
        | some e => s.chainEmpty id e
        | none => s
      else if tmo != 0 && t + tmo * 1000000 ≤ s.now then
        s.failJob j j.chain {
          op := j.op, status := 12, engine := j.engines.headD 255, suspends := j.suspends, start := j.etimeStart
          capture := jobCapture j.desc }
      else s.modJob id (fun j => { j with polledAt := s.now })

def execChainPoll (id : Nat) (valid : Bool) (empty : Option (List ChainEnt)) (s : State) : Out State Fault Refusal :=
  .next (s.live (s.chainPoll id valid empty))

/-- R115: a running job ends with what its run brought. -/
def State.jobEnd (s : State) (id : Nat) (r : CodecRun) : State :=
  match s.job id with
  | none => s
  | some j => if j.started && j.suspendedAt.isNone then s.endJob j r else s

def execCodecJobComplete (id : Nat) (frags : ListRead) (input : List Byte) (chain : List ChainEnt)
    (mismatches : List Nat) (rerunAt : Nat) (ce : List (Nat × Nat)) (ue : List (Nat × Nat)) (s : State) : Out State Fault Refusal :=
  .next (s.live (s.jobEnd id ⟨frags, input, chain, mismatches, rerunAt, ce, ue⟩))

/-! ### Priority ring (R256) -/

/-- R256: fields of a Q28 descriptor. -/
def priFormat (d : Desc) : Bool :=
  dCount d == 0 && !dFence d && dZero d 24 63 &&
  (match dOpcode d with
   | 0x60 => (dField d 16 1 ≤ 7 || dField d 16 1 == 255) && dZero d 17 23
   | 0x63 => dZero d 8 23
   | _ => dZero d 12 23)

/-- A Q28 transaction is taken and answered at once with a status and a RESULT. -/
def State.takePri (s : State) (d : Desc) (f : State → Nat × Nat × State) : State :=
  let s := (s.passTxn 28 1).trace 0 28 [d] 0
  let (m, s) := s.newTxn 28 [d] 0
  if !priFormat d then s.finishTxn { m with status := 1, failIndex := 0, failOp := dOpcode d }
  else
    let (st, res, s) := f s
    s.finishTxn { m with status := st, result := BitVec.ofNat 128 res,
                         failIndex := if st = 0 then 255 else 0, failOp := if st = 0 then 0 else dOpcode d }

/-- R60, R256: PRI_PAGE_ABORT on every slot of the ring that holds the PAGE_ID and is not TRANSIT or later. -/
def State.pageAbort (s : State) (d : Desc) : Nat × Nat × State :=
  let ring := dField d 16 1
  let ps := s.slotsWhere (fun x => x.st != .free && x.pageId == dField d 8 8 && (ring == 255 || x.ring == ring))
  let act := ps.filter (fun p => (s.slot p).st.code ≤ 5)
  let s' := (act.foldl (fun s p => s.abortSlot p) s).poolWaits
  (if act != [] then 0 else if ps != [] then 6 else 7, act.length, s')

def execPriPageAbort (s : State) : Out State Fault Refusal :=
  .next (s.live (s.takeWhen 28 (opIs 0x60) (fun ds s => s.takePri (ds.headD 0) (fun s => s.pageAbort (ds.headD 0)))))

/-- R256: PRI_FRAME_STOP posts 0x9040 HARD; the frame stop of R59 follows. -/
def State.priStop (s : State) (d : Desc) : State := s.post 3 0x9040 2 28 [(0, 4, dField d 8 4)] (dTag d)

def execPriFrameStop (s : State) : Out State Fault Refusal :=
  .next (s.live (s.takeWhen 28 (opIs 0x61) (fun ds s => s.takePri (ds.headD 0) (fun s => (0, 0, s.priStop (ds.headD 0))))))

/-- R256, R483: PRI_SAFE_STATE posts 0x9041 SAFE and sets the safety latch. -/
def State.priSafe (s : State) (d : Desc) : State :=
  (s.post 4 0x9041 2 28 [(0, 4, dField d 8 4)] (dTag d)).toSafe 3 0x9041

def execPriSafeState (s : State) : Out State Fault Refusal :=
  .next (s.live (s.takeWhen 28 (opIs 0x62) (fun ds s => s.takePri (ds.headD 0) (fun s => (0, 0, s.priSafe (ds.headD 0))))))

/-- R256: PRI_PING answers the ETIME at which the read that found it completed. -/
def execPriPing (s : State) : Out State Fault Refusal :=
  .next (s.live (s.takeWhen 28 (opIs 0x63) (fun ds s0 => s0.takePri (ds.headD 0) (fun s => (0, (s0.ring 28).found.headD 0, s)))))

/-! ### Ring administration (R258, R259) -/

/-- R259: transfers checked under the windows in force that have not ended. -/
def State.openTransfers (s : State) : List Nat :=
  (s.slotsWhere (fun x => x.st = .staging)).map slotTransfer
    ++ (s.codec.jobs.filter (fun j => j.started)).map (fun j => jobTransfer j.id)
    ++ (s.tbl.txns.filter (fun t => t.started && t.left = 0)).map (fun t => tableTransfer t.id)
    ++ (if s.rd F.PATCH_STAT_STATE = 1 then [patchTransfer] else [])

/-- R258: one administration descriptor: the state after it, whether it narrows a window, or its status. -/
def State.admin (s : State) (d : Desc) : Nat ⊕ (State × Bool) :=
  let q := dField d 8 1
  let st := s.ringState q
  let alone := dCount d == 0 && dZero d 9 63
  match dOpcode d with
  | 0x70 => if !alone || 31 < q then .inl 1 else if q = 31 ∨ st ≠ 1 then .inl 5
            else .inr (s.wr (F.RING_STAT_STATE q) 2, false)
  | 0x71 => if !alone || 31 < q then .inl 1 else if q = 31 ∨ st ≠ 2 then .inl 5
            else .inr (s.wr (F.RING_STAT_STATE q) 1, false)
  | 0x72 => if !alone || 31 < q then .inl 1 else if q = 31 ∨ (st ≠ 2 ∧ st ≠ 3) then .inl 5
            else .inr ((s.zeroRing q).wr (F.RING_STAT_STATE q) 2, false)
  | 0x73 =>
    let lg := dField d 9 1
    let base := dField d 16 8
    let wb := dField d 24 8
    if dCount d ≠ 0 ∨ 31 < q ∨ lg < 3 ∨ 16 < lg ∨ base % 64 ≠ 0 ∨ wb % 4 ≠ 0 ∨ !dZero d 10 15 ∨ !dZero d 32 63 then .inl 1
    else if q = 31 ∨ (st ≠ 2 ∧ st ≠ 3) then .inl 5
    else
      let s := ((s.wr (F.RING_BASE_LO_BASE_L q) (base / 64 % 2 ^ 26)).wr (F.RING_BASE_HI_BASE_H q) (base / 2 ^ 32))
      let s := ((s.wr (F.RING_WB_LO_WB_L q) (wb / 4 % 2 ^ 30)).wr (F.RING_WB_HI_WB_H q) (wb / 2 ^ 32))
      let s := ((s.wr (F.RING_CFG_LOG2_SIZE q) lg).zeroRing q).wr (F.RING_STAT_STATE q) 2
      if (s.ringBad q).isSome then .inl 2 else .inr (s, false)
  | 0x74 =>
    let acc := dField d 9 1
    let base := dField d 16 8
    let lim := dField d 24 8
    if dCount d ≠ 0 ∨ 63 < q ∨ 3 < acc ∨ base % 4096 ≠ 0 ∨ lim < base ∨ !dZero d 10 15 ∨ !dZero d 32 63 then .inl 1
    else
      let narrow := s.on (F.FW_BASE_LO_VALID q) && (s.fwBase q < base || lim < s.fwLimit q
        || (s.on (F.FW_BASE_LO_READ q) && acc % 2 = 0) || (s.on (F.FW_BASE_LO_WRITE q) && acc < 2))
      let s := (s.wr (F.FW_BASE_LO_BASE_L q) (base / 4096 % 2 ^ 20)).wr (F.FW_BASE_HI_BASE_H q) (base / 2 ^ 32)
      let s := (s.wr (F.FW_LIMIT_LO_LIMIT_L q) (lim / 4096 % 2 ^ 20)).wr (F.FW_LIMIT_HI_LIMIT_H q) (lim / 2 ^ 32)
      let s := ((s.wr (F.FW_BASE_LO_READ q) (acc % 2)).wr (F.FW_BASE_LO_WRITE q) (acc / 2)).wr (F.FW_BASE_LO_VALID q) 1
      if s.windowsHold then .inr (s, narrow) else .inl 5
  | _ =>
    if !alone || 63 < q then .inl 1
    else
      let narrow := s.on (F.FW_BASE_LO_VALID q)
      let s := s.wr (F.FW_BASE_LO_VALID q) 0
      if s.windowsHold then .inr (s, narrow) else .inl 5

/-- R244, R258: the descriptors of an administration transaction, all or none. -/
def adminAll : Nat → List Desc → State → Bool → (Nat × Nat) ⊕ (State × Bool)
  | _, [], s, nar => .inr (s, nar)
  | i, d :: t, s, nar =>
    match s.admin d with
    | .inl st => .inl (i, st)
    | .inr (s', n) => adminAll (i + 1) t s' (nar || n)

/-- A Q31 transaction is taken; one that narrows or removes a window is answered after the transfers checked under
the old windows have ended (R259). -/
def State.takeAdmin (s : State) (ds : List Desc) : State :=
  let open0 := s.openTransfers
  let s := (s.passTxn 31 ds.length).trace 0 31 ds 0
  let (m, s) := s.newTxn 31 ds 0
  match adminAll 0 ds s false with
  | .inl (i, st) => s.finishTxn { m with status := st, failIndex := i, failOp := dOpcode (ds.getD i 0) }
  | .inr (s', nar) =>
    let s' := s.begunWait s'
    if nar && open0 != [] then s'.modTxn m.id (fun m => { m with holds := open0 }) else s'.finishTxn m

/-- A Q31 transaction whose first descriptor has an opcode. -/
def State.adminOp (s : State) (op : Nat) : State := s.takeWhen 31 (opIs op) (fun ds s => s.takeAdmin ds)

def execRingStop (s : State) : Out State Fault Refusal := .next (s.live (s.adminOp 0x70))
def execRingStart (s : State) : Out State Fault Refusal := .next (s.live (s.adminOp 0x71))
def execRingReset (s : State) : Out State Fault Refusal := .next (s.live (s.adminOp 0x72))
def execRingResize (s : State) : Out State Fault Refusal := .next (s.live (s.adminOp 0x73))
def execFenceSet (s : State) : Out State Fault Refusal := .next (s.live (s.adminOp 0x74))
def execFenceClear (s : State) : Out State Fault Refusal := .next (s.live (s.adminOp 0x75))

end Sys2Proof.Machine
end

