-- ==== Sys2Proof/Machine/Raster.lean ====
section
/-! DEFINITION. The raster path of a frame (chapters 02, 03, 05 to 08): band fetches, line starts with their data, widths
and placement, concealment, band-end checks, frame start and end, the eve. -/

namespace Sys2Proof.Machine

open Sys2Proof

/-! ### Band fetches (R84–R92) -/

def Slot.plane (x : Slot) (st : Nat) : Plane := (x.planes.find? (fun p => p.station = st)).getD {}

/-- R84: bands of a plane in the buffer or on their way. -/
def Scan.bands (c : Scan) (tag : Bool) : Nat :=
  (c.held.filter (fun h => h.tag = tag)).length + (c.asked.filter (fun a => a.2.1 = tag)).length

/-- R92: the counts of bands held. -/
def State.syncFetch (s : State) (st : Nat) : State :=
  let c := s.sc st
  ((s.wr (F.ST_FETCH_STAT_IMG_HELD st) (c.held.filter (fun h => !h.tag)).length).wr
    (F.ST_FETCH_STAT_TAG_HELD st) (c.held.filter (fun h => h.tag)).length).wr
    (F.ST_FETCH_STAT_ACTIVE st) (b2n (!c.asked.isEmpty || !c.held.isEmpty || (s.slotOn st).isSome))

def Scan.nextBand (c : Scan) (p : Nat) (tag : Bool) : Nat :=
  ((c.next.find? (fun x => x.1 = p && x.2.1 = tag)).map (fun x => x.2.2)).getD 0

/-- R85: the fetch engine asks for the next band of a plane of a frame. -/
def State.fetchRequest (s : State) (st p : Nat) (tag : Bool) : State :=
  let x := s.slot p
  let c := s.sc st
  let b := c.nextBand p tag
  if (s.slotsAhead st).contains p && b < bandCount x.lines && c.bands tag < 4
      && (!tag || (x.plane st).tagCoding % 16 = 4) then
    (s.modSc st (fun c => { c with
      asked := c.asked ++ [(p, tag, b)]
      next := (p, tag, b + 1) :: c.next.filter (fun x => !(x.1 = p && x.2.1 = tag)) })).syncFetch st
  else s

def execBandFetchRequest (st : Fin 8) (slot : Fin 160) (tag : Bool) (s : State) : Out State Fault Refusal :=
  .next (s.live (s.fetchRequest st slot tag))

/-- R90: the lines of a band whose data lies in a 32-byte sector of its payload. -/
def sectorLines (coding w n i : Nat) : List Nat :=
  if coding = 2 ∨ coding = 3 then
    let row := w / 8 * frcBytes (coding = 2)
    (List.range n).filter (fun l => 32 * i / row ≤ l / 8 && l / 8 ≤ (32 * i + 31) / row)
  else
    let row := payloadLen coding w 1
    (List.range n).filter (fun l => 32 * i / row ≤ l && l ≤ (32 * i + 31) / row)

/-- The granule and sector of a position in a run of granules. -/
def runSector (gs : List Nat) (pos : Nat) : Nat × Nat := (gs.getD (pos / 65536) 0, pos % 65536 / 32)

/-- R90: an uncorrectable sector of a band record. -/
def State.bandUe (s : State) (gs : List Nat) (pos p : Nat) : State :=
  s.sectorUe (runSector gs pos).1 (runSector gs pos).2 (slotNo p) (s.slot p).tag

/-- R88, R93: a bad trailer or a CRC that differs: the page is SPOILED with CHECK_MISMATCH; posted for the first failure
of the page on the station. -/
def State.bandBad (s : State) (st : Nat) (h : BandHeld) (code crc : Nat) : State :=
  let s := s.modSlot h.slot (fun x => (x.worsen 2 code).flagSt st 4)
  let s := (((s.inc (F.ST_CHECK_FAIL_FAIL st)).wr (F.ST_LAST_FAIL_SLOT st) h.slot).wr (F.ST_LAST_FAIL_TAG st) (b2n h.tag)).wr
    (F.ST_LAST_FAIL_BAND st) h.index
  let s := s.modCapture (fun c => c.slot = h.slot && c.station = st && !c.indexed) (fun c => { c with mismatch := true })
  if (s.slot h.slot).once.contains (0x2020, st) then s else
  (s.modSlot h.slot (fun x => { x with once := x.once ++ [(0x2020, st)] })).post 2 code 4 st
    [(0, 1, b2n h.tag), (1, 1, h.slot), (2, 4, h.index), (6, 4, crc)] (s.slot h.slot).tag

/-- R85, R90: the oldest fetch of a plane completes, with sectors `ce` corrected and `ue` uncorrectable of the
record. -/
def State.fetchComplete (s : State) (st : Nat) (tag : Bool) (ce ue : List Nat) : State :=
  match (s.sc st).asked.find? (fun a => a.2.1 = tag) with
  | none => s
  | some (p, _, b) =>
    let x := s.slot p
    let pl := x.plane st
    let coding := if tag then 4 else pl.coding % 16
    let gs := if tag then pl.tagGrans else pl.grans
    let n := bandLines x.lines b
    let len := bandRecLen coding pl.width x.lines b
    let a := bandStart coding pl.width b
    let ue := ue.filter (fun i => 32 * i < len)
    let ce := ce.filter (fun i => 32 * i < len)
    let s := ue.foldl (fun (s : State) i => s.bandUe gs (a + 32 * i) p)
      (s.bandCe (ce.map (fun i => sectorStack (runSector gs (a + 32 * i)).2)))
    let inTrailer (i : Nat) : Bool := pad32 (payloadLen coding pl.width n) ≤ 32 * i
    let h : BandHeld := {
      slot := p, tag := tag, index := b, arrived := s.now, bytes := s.getGrans gs a len
      badLines := (ue.filter (fun i => !inTrailer i)).flatMap (sectorLines coding pl.width n)
      trailerBad := ue.any inTrailer, skipCheck := (s.sc st).absent.contains (p, b) }
    let s := s.modSc st (fun c => { c with asked := c.asked.erase (p, tag, b), held := c.held ++ [h] })
    let crc := bandCrc coding pl.width n (h.bytes.take (payloadLen coding pl.width n))
    (if h.trailerBad then s.bandBad st h 0x2021 crc else s).syncFetch st

def execBandFetchComplete (st : Fin 8) (tag : Bool) (ce ue : List Nat) (s : State) : Out State Fault Refusal :=
  .next (s.live (s.fetchComplete st tag ce ue))

def execStFetchClr (st : Fin 8) (s : State) : Out State Fault Refusal :=
  .next (s.live (((s.wr (F.ST_FETCH_LEAD_LEAD_MIN st) 0xFFFF).wr (F.ST_LATE_LINES_LATE st) 0).wr (F.ST_CHECK_FAIL_FAIL st) 0))

/-! ### The data of a line (R86, R91, R127–R135) -/

def Scan.band (c : Scan) (p : Nat) (tag : Bool) (b : Nat) : Option BandHeld :=
  c.held.find? (fun h => h.slot = p && h.tag = tag && h.index = b)

/-- A change to the held bands a line lies in. -/
def State.modBand (s : State) (st p b : Nat) (f : BandHeld → BandHeld) : State :=
  s.modSc st (fun c => { c with held := c.held.map (fun h => if h.slot = p && h.index = b then f h else h) })

/-- R86, R90: the plane for want of which a line cannot be decoded: its band is not held (late) or the line lies in an
uncorrectable sector. -/
def State.lineAbsent (s : State) (st p y : Nat) : Option (Bool × Bool) :=
  if 160 ≤ p then none else
  let c := s.sc st
  let planes := if ((s.slot p).plane st).tagCoding % 16 = 4 then [false, true] else [false]
  planes.findSome? (fun tag => match c.band p tag (y / 64) with
    | none => some (tag, true)
    | some h => if h.badLines.contains (y % 64) then some (tag, false) else none)

/-- R92: LEAD_MIN follows the first use of a band. Of a band that completes after its first use it takes the margin to its next
use (the model's choice, log 119). -/
def State.useBands (s : State) (st p y : Nat) : State :=
  let fresh := (s.sc st).held.filter (fun h => h.slot = p && h.index = y / 64 && !h.used)
  let lead := fresh.foldl (fun a h => min a ((s.now - h.arrived) / 100)) (s.rd (F.ST_FETCH_LEAD_LEAD_MIN st))
  (s.wr (F.ST_FETCH_LEAD_LEAD_MIN st) (min 65535 lead)).modBand st p (y / 64) (fun h => { h with used := true })

/-- R498, R510: the levels of a line of legacy video. -/
def State.legLevels (s : State) (st e : Nat) : List Nat :=
  let cs := (s.legPacket st e (s.sc st).fno).getD []
  (List.range (s.rd (F.ST_GEOM_PIXELS st))).map (fun i => s.legacyLevel (s.legBpp st) (cs.getD i 0))

/-- R127–R134: the levels of a frame line, for every line pixel of the station. -/
def State.lineLevels (s : State) (st p y : Nat) : List Nat :=
  let x := s.slot p
  let pl := x.plane st
  let row (tag : Bool) (coding : Nat) : List Nat := match (s.sc st).band p tag (y / 64) with
    | some h => bandLine coding pl.width (y % 64) (h.bytes.take (payloadLen coding pl.width (bandLines x.lines (y / 64))))
    | none => []
  let codes := row false (pl.coding % 16)
  let tags := if pl.tagCoding % 16 = 4 then row true 4 else []
  let t := s.tables st
  (List.range (s.rd (F.ST_GEOM_PIXELS st))).map (fun i => pixelLevel t (x.flags.testBit 1) pl.xOffset pl.width codes tags i y)

/-! ### Placement and width (R162–R164, R192–R194) -/

/-- R192: the width before the clamp. -/
def widthRaw (n sc kder kpair : Nat) : Nat := (16 * n * sc * kder * kpair + 2 ^ 41) >>> 42

/-- R194: the pulse's offset in its pixel. -/
def pulseOffset (align w : Nat) : Nat := match align with
  | 0 => 0
  | 1 => (256 - w) / 2
  | _ => 256 - w

/-- R186, R192–R194: the pulses of a line, and the first saturated one as (unclamped width, level). -/
def State.linePulses (s : State) (st e : Nat) (levels : List Nat) (kpair : Nat) : List (Int × Nat) × Option (Nat × Nat) :=
  let b := s.beamOf st e
  let sc := s.rd (F.OCT_SCALE_S (b / 8))
  let kder := if (s.beam b).scaled then s.rd (F.OCT_SCALE_K_DER (b / 8)) else 16384
  let t := s.tables st
  let align := s.rd (F.ST_EXPO_ALIGN st)
  let d := s.lineDelay st e
  let acts := s.slices st e
  let raw (l : Nat) : Nat := widthRaw (levelSlices t l) sc kder kpair
  let pulse (i l : Nat) : Option (Int × Nat) :=
    if levelSlices t l = 0 || raw l = 0 then none else
    let w := min 256 (max 4 (raw l))
    let shift := sumI ((acts.filter (fun a => a.1 ≤ i)).map (·.2))
    some (256 * (i : Int) + d + 16 * shift + pulseOffset align w, w)
  (levels.zipIdx.filterMap (fun (l, i) => pulse i l),
    (levels.find? (fun l => 256 < raw l)).map (fun l => (raw l, l)))

/-- R193: width saturation of a line. -/
def State.widthSat (s : State) (st b p : Nat) (w : Option (Nat × Nat)) : State :=
  match w with
  | none => s
  | some (raw, l) =>
    ((s.inc (F.OCT_COUNT_WSAT_LINES (b / 8))).wr (F.OCT_STAT_WSAT (b / 8)) 1).postOnce p (256 * st + b / 8) 1 0x3210 6
      (0x100 + b / 8) [(0, 2, raw), (2, 1, slotNo p), (3, 1, l)]

/-- R164: 0x3131 once per frame and station. -/
def State.lineLen (s : State) (st e p : Nat) : State :=
  let c := s.lineCount st e
  if s.rd (F.ST_SLICE_COUNT_SLICE_COUNT st e) < c.natAbs then
    s.postOnce p st 1 0x3131 4 st [(0, 1, e), (1, 1, s.rd (F.ST_FACET_STAT_FACET st)), (2, 2, uBits 16 c), (4, 1, slotNo p)]
  else s

/-! ### Lost lines and concealment (R222–R226) -/

/-- The emitter mapped to write a grid line, unpaired (R166). -/
def State.writer (s : State) (st : Nat) (n : Int) : Option Nat :=
  (s.emitters st).find? (fun e => (n + (e : Int) * s.pitch st - (s.sc st).m.getD 0) % (max 1 (s.nAdv st) : Nat) = 0)

/-- The number of the facet on which an emitter writes a grid line. -/
def State.facetOf (s : State) (st e : Nat) (n : Int) : Int :=
  (s.sc st).fno + (n + (e : Int) * s.pitch st - (s.sc st).m.getD 0) / (max 1 (s.nAdv st) : Nat)

/-- R222: a write of an emitter on a facet is lost. -/
def State.lostOn (s : State) (st e : Nat) (f : Int) : Bool :=
  match (s.sc st).dropAt e with
  | some f0 => decide ((f0 : Int) + 1 ≤ f)
  | none => false

/-- R222: a frame line is lost, unpaired. -/
def State.lostLine (s : State) (st p : Nat) (y : Int) : Bool :=
  decide (0 ≤ y) && decide (y < (s.slot p).lines) &&
    (match s.writer st ((s.sc st).g0 + y) with
     | some e => s.lostOn st e (s.facetOf st e ((s.sc st).g0 + y))
     | none => false)

/-- R225: why a lost line is not concealed: 0 neighbour lost, 1 HEAL_MAX, 2 concealment off; none where it is. -/
def State.unconcealed (s : State) (st p e : Nat) (y : Int) : Option Nat :=
  if s.lostLine st p (y - 1) || s.lostLine st p (y + 1) then some 0
  else if !s.on (F.ST_ROLL_CTL_HEAL_EN st) then some 2
  else if s.rd (F.ST_ROLL_CTL_HEAL_MAX st) ≤ ((s.sc st).drops.findIdx (fun d => d.1 = e)) then some 1
  else none

/-- A lost line that line heal conceals. -/
def State.healable (s : State) (st p : Nat) (y : Int) : Bool :=
  s.lostLine st p y &&
    (match s.writer st ((s.sc st).g0 + y) with
     | some e => (s.unconcealed st p e y).isNone
     | none => false)

/-- R224: the modulation code of a line next to a concealed line, and whether the 30 mA term limits it. -/
def State.modLine (s : State) (st p b : Nat) (y : Int) : Nat × Bool :=
  let m := s.rd (F.BM_MOD_MOD b)
  if s.paired st || !(s.healable st p (y - 1) || s.healable st p (y + 1)) then (m, false) else
  let h := b2n (s.lostLine st p (y - 1)) + b2n (s.lostLine st p (y + 1))
  let v := (roundHalf (m * (100 + h * s.rd (F.ST_ROLL_CTL_HEAL_PCT st))) 100).toNat
  let lim := (30000 - 10 * s.rd (F.BM_BIAS_BIAS b)) / 20
  (min v lim, decide (lim < v))

/-! ### A line start (R162, R188, R211) -/

/-- R198, R200: MOD at a line start: what APC has formed, and the scaling of a derate that is due. -/
def State.applyMod (s : State) (b : Nat) : State :=
  let n := b / 8
  let s := match (s.beam b).next with
    | some v => (s.wr (F.BM_MOD_MOD b) v).modBeam b (fun x => { x with next := none })
    | none => s
  if s.on (F.OCT_STAT_DERATED n) && (s.oct n).derateAt ≤ s.now && !(s.beam b).scaled then
    (s.wr (F.BM_MOD_MOD b) (roundHalf (s.rd (F.BM_MOD_MOD b) * (100 - s.rd (F.OCT_TLIM_DERATE_PCT n))) 100).toNat).modBeam b
      (fun x => { x with scaled := true })
  else s

/-- R188: an emitter writes nothing on this line. -/
def State.idleLine (s : State) (b : Nat) : State := s.modBeam b (fun x => { x with pulses := [], line := none })

/-- R188, R213: an emitter's line starts: its line before has ended, with its longest run; the codes committed come into use. -/
def State.lineBegins (s : State) (st b : Nat) : State :=
  (((s.onRun b (s.lineRun st b (s.now * 250))).applyMod b).latchCodes b).modBeam b (fun x => { x with tf := (s.sc st).tf.getD 0 })

/-- R211: what holds an emitter OFF at a line start of a page, as the code it is put down to and the ST_FLAGS bit. -/
def State.lineCut (s : State) (st b p : Nat) : Option (Nat × Nat) :=
  let o := s.oct (b / 8)
  if s.on F.VIG_LSAFE_LATCHED then some (0x3260, 32)
  else if s.beamsBarred then some (if s.undervolt then 0 else 0x8040, 32)
  else if s.on (F.BM_STAT_WD_CUT b) || (s.beam b).cutSlots.contains p then some (0x3230, 128)
  else if (s.on (F.OCT_STAT_CUT_HELD (b / 8)) && o.cutAt ≤ s.now) || o.cutSlots.contains p then some (0x3202, 32)
  else if !o.enabled then some (0x7020, 32)
  else if !s.on (F.OCT_STAT_VBS_OK (b / 8)) then some (0x3250, 32)
  else if !s.pllKept st then some (0x4011, 32)
  else none

/-- The last chance of a line to be written has passed: it is counted blank unless its other write was made. -/
def State.countBlank (s : State) (st e p y : Nat) : State :=
  if (s.paired st && e < s.nAdv st) || (s.sc st).accounted y then s
  else (s.modSc st (fun c => { c with blank := c.blank ++ [y] })).modSlot p (fun x => x.blank 1)

/-- R117: the line as a capture records it. -/
def State.capture (s : State) (st p y : Nat) (levels : Option (List Nat)) (blanked : Bool) : State :=
  if (s.openCapture p st).isNone then s else s.captureOne p st y levels blanked

/-- R89: the bands of a line left blank for want of its data are not checked, whether they have arrived or not. -/
def State.noCheck (s : State) (st p y : Nat) : State :=
  (s.modSc st (fun c => { c with absent := c.absent ++ [(p, y / 64)] })).modBand st p (y / 64)
    (fun h => { h with skipCheck := true })

/-- R86, R90: a line whose data is absent is counted once in ST_LATE_LINES and in LINES_BLANKED, at the first of its writes
that finds it so. -/
def State.countAbsent (s : State) (st e p y : Nat) : State :=
  if (s.sc st).late.contains y then s.countBlank st e p y
  else
    let s := s.inc (F.ST_LATE_LINES_LATE st)
    let new := !(s.sc st).blank.contains y
    let s := s.modSc st (fun c => { c with late := c.late ++ [y], blank := if new then c.blank ++ [y] else c.blank })
    if new then s.modSlot p (fun x => x.blank 1) else s

/-- R86, R90: a line whose data is absent. A line in an uncorrectable sector has every consequence of R86, 0x2010 with it
(log 141); the event's lateness is a free value (log 33). -/
def State.absentLine (s : State) (st e p y : Nat) (tag late : Bool) : State :=
  let s := (s.countAbsent st e p y).noCheck st p y
  let s := (s.modSlot p (fun x => (x.worsen 2 (if late then 0x2010 else 0x2030)).flagSt st 32)).capture st p y none false
  if (s.slot p).once.contains (0x2010, st) then s else
  let (v, s) := s.free
  s.postOnce p st 2 0x2010 4 st [(0, 1, b2n tag), (1, 1, slotNo p), (2, 4, y / 64), (6, 4, v)]

/-- R510: no packet is held at the line start: the line is blank. 0xA020 once per frame and station gives the emitters of the
facet without one. -/
def State.underrunLine (s : State) (st e p y : Nat) : State :=
  let c := s.sc st
  let bare := (s.emitters st).filter (fun (k : Nat) =>
    let n := c.m.getD 0 - Int.ofNat k * s.pitch st - c.g0
    decide (0 ≤ n) && decide (n < (s.slot p).lines) && (s.legPacket st k c.fno).isNone)
  let s := ((s.legSst st L.SSTAT_UNDERRUN).inc F.LVR_STAT_UNDERRUN).countBlank st e p y
  let s := s.modSlot p (fun x => (x.worsen 2 0xA020).flagSt st 32)
  if (s.legSt st).under then s else
  (s.modLeg st (fun l => { l with under := true })).post 1 0xA020 17 1
    [(0, 1, st), (1, 1, bare.length), (2, 2, c.fno - (s.legSt st).first)]

/-- R225: a lost line left blank. -/
def State.unconcealedLine (s : State) (st e p y why : Nat) : State :=
  let s := (s.countBlank st e p y).modSc st (fun c => { c with unconc := true })
  (s.modSlot p (fun x => (x.worsen 2 0x3304).flagSt st 48)).postOnce p st 2 0x3304 4 st [(0, 1, slotNo p), (1, 1, e), (2, 1, why)]

/-- The partner of an emitter in paired strike and the facet of its write of the same line (R167). -/
def State.partner (s : State) (st e : Nat) : Nat × Int :=
  if e < s.nAdv st then (e + s.nAdv st, (s.sc st).fno + s.pitch st) else (e - s.nAdv st, (s.sc st).fno - s.pitch st)

/-- R222–R227: a dropped emitter's line: concealed or not. -/
def State.lostWrite (s : State) (st e p y : Nat) : State :=
  if s.paired st then
    let (q, f) := s.partner st e
    if s.lostOn st q f then s.unconcealedLine st e p y 3
    else
      let half := !(e < s.nAdv st) && !s.lostOn st e f
      let s := if half then s.inc (F.ST_HALF_LINES_HALF st) else s
      s.modSlot p (fun x => (x.worsen 1 0x3300).flagSt st 81)
  else match s.unconcealed st p e y with
    | some why => s.unconcealedLine st e p y why
    | none => (((s.inc (F.ST_HEAL_LINES_HEALED st)).legSst st L.SSTAT_HEAL).modSc st (fun c => { c with healed := c.healed ++ [y] })).modSlot p
        (fun x => (x.worsen 1 0x3300).flagSt st 17)

/-- R192, R226: K_pair of a write. -/
def State.kPair (s : State) (st e : Nat) : Nat :=
  if s.paired st && !s.lostOn st (s.partner st e).1 (s.sc st).fno then s.rd (F.ST_EXPO_PAIR_FRAC st) else 16384

/-- A line is written: pulses of light on the beam. -/
def State.writeLine (s : State) (st e p y : Nat) (levels : List Nat) : State :=
  let b := s.beamOf st e
  let (ps, sat) := s.linePulses st e levels (s.kPair st e)
  let (m, lim) := s.modLine st p b y
  let s := if lim then s.inc (F.ST_HEAL_CLAMP_CLAMP st) else s
  let bit := if s.nAdv st ≤ e then 2 else 1
  let half := s.paired st && s.nAdv st ≤ e && (s.sc st).dropAt e == some (s.sc st).fno
  let s := if half then s.inc (F.ST_HALF_LINES_HALF st) else s
  let s := s.modSc st (fun c =>
    let old := ((c.wrote.find? (fun w => w.1 = y)).map (·.2)).getD 0
    { c with wrote := (y, old ||| bit) :: c.wrote.filter (fun w => w.1 != y) })
  ((s.modBeam b (fun x => { x with pulses := ps, line := some y, lineMod := m })).lineLen st e p).widthSat
    st b p sat

/-- One line of a frame under an emitter. A page spoiled for the facet that it shares with the frame before it (R168) has no
event: its CAUSE is 0 (the model's choice, log 118). -/
def State.frameLine (s : State) (st e p y : Nat) : State :=
  let b := s.beamOf st e
  let s := (s.idleLine b).useBands st p y
  let s := if s.paired st && e < s.nAdv st then s else s.modSc st (fun c => { c with done := c.done ++ [y] })
  let s := s.modSc st (fun c => { c with lineFno := c.fno })
  if (s.slot p).aborted then
    ((s.countBlank st e p y).noCheck st p y).capture st p y none false
  else if (s.sc st).prevFno = (s.sc st).fno && (s.sc st).fno ≠ 0 then
    let s := (s.countBlank st e p y).modSlot p (fun x => (x.worsen 2 0).flagSt st 32)
    if (s.lineAbsent st p y).isSome then s.capture st p y none false
    else s.capture st p y (some (if 160 ≤ p then s.legLevels st e else s.lineLevels st p y)) false
  else if 160 ≤ p && (s.legPacket st e (s.sc st).fno).isNone then s.underrunLine st e p y
  else match s.lineAbsent st p y with
  | some (tag, late) => s.absentLine st e p y tag late
  | none =>
    let levels := if 160 ≤ p then s.legLevels st e else s.lineLevels st p y
    match s.lineCut st b p with
    | some (cause, bits) =>
      ((s.countBlank st e p y).modSlot p (fun x => (x.worsen 2 cause).flagSt st bits)).capture st p y (some levels) true
    | none =>
      let s := s.capture st p y (some levels) false
      if s.lostOn st e (s.sc st).fno then s.lostWrite st e p y else s.writeLine st e p y levels

/-- R172: a write of a line that this write of it has made already is suppressed. -/
def State.suppressed (s : State) (st e y : Nat) : Bool :=
  let bit := if s.paired st && s.nAdv st ≤ e then 1 else 0
  (s.sc st).wrote.any (fun w => w.1 = y && w.2.testBit bit) || (!s.paired st && (s.sc st).accounted y)

/-- R162: an emitter starts its line of the present facet. -/
def State.lineStart (s : State) (st e : Nat) : State :=
  if !s.on (F.ST_SCANCTL_SCAN_EN st) || s.on (F.ST_SCANCTL_NOSCAN st) || (s.sc st).tf.isNone
      || (s.sc st).begun.testBit e || s.beamCount st ≤ e then s else
  let b := s.beamOf st e
  let s := (((s.modSc st (fun c => { c with begun := setBit c.begun e })).octLineOff b).thermAct st b).lineBegins st b
  match s.slotOn st with
  | none => s.idleLine b
  | some p => match s.lineUnder st p e with
    | none => s.idleLine b
    | some y => if s.suppressed st e y then s.idleLine b else s.frameLine st e p y

/-! ### Band-end checks (R87–R89, R121) -/

/-- R121: a capture ends once its frame and its last band check are finished. -/
def State.captureEnd (s : State) (p st : Nat) : State :=
  if (s.slot p).ended.testBit st && !(s.sc st).held.any (fun h => h.slot = p) then s.endCapture p st else s

/-- R87: every line of a band has been exposed, in paired strike by both its writes, or its frame has ended on the station: a
band with a line that no write reaches is checked as the frame ends (the model's choice, log 140). -/
def State.bandOver (s : State) (st : Nat) (h : BandHeld) : Bool :=
  (s.slot h.slot).ended.testBit st || s.slotOn st != some h.slot ||
    (List.range (bandLines (s.slot h.slot).lines h.index)).all (fun l =>
      if s.paired st then (s.sc st).done.contains (64 * h.index + l) else (s.sc st).accounted (64 * h.index + l))

/-- R87–R89, R91: the oldest band of a plane that is over is checked and leaves the buffer. -/
def State.bandEnd (s : State) (st : Nat) (tag : Bool) : State :=
  match (s.sc st).held.find? (fun h => h.tag = tag && (s.slot h.slot).started.testBit st && s.bandOver st h) with
  | none => s
  | some h =>
    let x := s.slot h.slot
    let pl := x.plane st
    let coding := if tag then 4 else pl.coding % 16
    let n := bandLines x.lines h.index
    let len := payloadLen coding pl.width n
    let t := h.bytes.drop (pad32 len)
    let crc := bandCrc coding pl.width n (h.bytes.take len)
    let s := s.modSc st (fun c => { c with held := c.held.erase h })
    let s :=
      if h.skipCheck || h.trailerBad then s
      else if bField t 0 2 ≠ 0x4254 ∨ bField t 4 4 ≠ h.index ∨ bField t 8 2 ≠ n then s.bandBad st h 0x2021 crc
      else if crc ≠ bField t 16 4 then s.bandBad st h 0x2020 crc else s
    (s.syncFetch st).captureEnd h.slot st

def execBandEndCheck (st : Fin 8) (tag : Bool) (s : State) : Out State Fault Refusal := .next (s.live (s.bandEnd st tag))

/-! ### Frame start and end (R32, R41, R145, R170) -/

/-- DS_NOM + DS_TRIM; 0 on s0 (R30, R31). -/
def State.dsNext (s : State) (st : Nat) : Int :=
  if st = 0 then 0 else s.rd (F.ST_DS_NOM_DS_NOM st) + s.rdS (F.ST_DS_TRIM_DS_TRIM st)

/-- R170: g0. -/
def State.gridStart (s : State) (st : Nat) (fp : Int) : Int :=
  -((-((fp + (s.sc st).dsEff) * 65536 - (s.sc st).goal * 256)) / (max 1 (s.pLine st) : Nat))

/-- R227, R200, R191: what latched drops, derates and disabled octets make of a page whose frame starts. -/
def State.frameFaults (s : State) (st p : Nat) : State :=
  let s := if s.rd (F.ST_DROP_MAP_DROPPED st) = 0 && !(s.sc st).dropIdle then s
    else (s.modSlot p (fun x => (x.worsen 1 0x3300).flagSt st 16)).modSc st (fun c => { c with dropIdle := false })
  (s.octetsOf st).foldl (fun (s : State) n =>
    let s := if s.on (F.OCT_STAT_DERATED n) then s.modSlot p (fun x => (x.worsen 1 0x3201).flagSt st 2) else s
    if (s.oct n).enabled then s else s.modSlot p (fun x => (x.worsen 2 0x7020).flagSt st 32)) s

/-- R117: a capture begins, or is skipped with 0x2062. -/
def State.frameCapture (s : State) (st p : Nat) : State :=
  let x := s.slot p
  if !x.capMask.testBit st then s
  else if (s.rd F.RPR_CTL_CAP_STATIONS).testBit st then s.beginCapture p st
  else s.post 0 0x2062 5 6 [(0, 1, st), (1, 1, slotNo p)] x.tag

/-- R191, R202: octets of the station are enabled, and derates that have cooled end. -/
def State.frameOctets (s : State) (st : Nat) : State :=
  (s.octetsOf st).foldl (fun (s : State) n =>
    let s := if s.octAllowed n then s.modOct n (fun o => { o with enabled := true }) else s
    if (s.oct n).coolDerate then s.endDerate n else s) s

/-- R145: a station starts the frame of a slot: it latches DS_EFF and the trims, and pending switches and restores take
effect. -/
def State.frameBegins (s : State) (st p : Nat) : State :=
  let s := (s.wrS (F.ST_DS_EFF_DS_EFF st) (s.dsNext st)).modSc st (fun c => { c with dsEff := s.dsNext st })
  let s := (s.retarget st).showTarget st
  let s := s.modSc st (fun c => { c with
    g0 := s.gridStart st (s.slot p).fp
    xoff := s.rdS (F.ST_XOFF_NOM_XOFF_NOM st) + s.rdS (F.ST_XOFF_TRIM_XOFF_TRIM st)
    xscale := s.rdS (F.ST_XSCALE_NOM_XSCALE_NOM st) + s.rdS (F.ST_XSCALE_TRIM_XSCALE_TRIM st)
    wrote := [], blank := [], healed := [], late := [], done := [], unconc := false, prevFno := c.lineFno })
  let s := ((s.switchAtFrame st p).restoreAll st).frameOctets st
  let was := (s.slot p).st
  let s := s.modSlot p (fun x => { x with started := setBit x.started st, st := .imaging })
  let s := if was = .admitted then s.slotProgress p else s
  ((s.frameFaults st p).frameCapture st p).syncFetch st

/-- The slot whose frame start a station has reached: ADMITTED or IMAGING, not started there. A commit of DS_NOM after the
admission moves that start as DS_TRIM does (the model's choice, log 138). -/
def State.startsNow (s : State) (st p : Nat) : Bool :=
  let x := s.slot p
  (x.st = .admitted || x.st = .imaging) && x.mask.testBit st && !x.started.testBit st && !x.lvt && (s.slotOn st).isNone
    && decide (x.fp + s.dsNext st ≤ s.wpos)

/-- R41, R172, R227: the outcome of a frame as it ends on a station: lines no write reached are blank, with the code of a slip
(0x3101) as their CAUSE whether one was posted or not (the model's choice, log 118); every lost line of a drop was concealed
unless one was not. -/
def State.frameOutcome (s : State) (st p : Nat) : State :=
  let rest := (List.range (s.slot p).lines).filter (fun y => !(s.sc st).accounted y)
  let s := if (s.slot p).aborted then
      rest.foldl (fun (s : State) y => s.noCheck st p y) (s.modSlot p (fun x => x.blank rest.length))
    else s.blankLines st p 0x3101 rest
  if ((s.slot p).stFlags.getD st 0).testBit 4 && !(s.sc st).unconc then
    s.modSlot p (fun x => x.flagSt st (if s.paired st then 65 else 1))
  else s

/-- R41: a station ends the last line of its frame: its granules are released; after the last station the slot is in
TRANSIT. -/
def State.frameEnds (s : State) (st p : Nat) : State :=
  let gs := ((s.slot p).planes.filter (fun q => q.station = st)).flatMap Plane.allGrans
  let s := (s.frameOutcome st p).stationOff st
  let s := s.modSlot p (fun x => { x with
    ended := setBit x.ended st
    planes := x.planes.map (fun q => if q.station = st then { q with grans := [], tagGrans := [] } else q) })
  let s := s.modSc st (fun c => { c with
    asked := c.asked.filter (fun a => a.1 != p), next := c.next.filter (fun a => a.1 != p)
    absent := c.absent.filter (fun a => a.1 != p) })
  let s := ((s.releaseGrans gs).poolWaits.syncFetch st).captureEnd p st
  if (bitsOf 8 (s.slot p).mask).all (fun t => (s.slot p).ended.testBit t) then
    (s.modSlot p (fun x => { x with st := .transit })).slotProgress p
  else s

/-- A frame's last line has ended: every line is accounted for, or WPOS has passed the frame on the station (log 34). -/
def State.frameOver (s : State) (st p : Nat) : Bool :=
  let x := s.slot p
  !x.lvt && ((List.range x.lines).all (fun y => (s.sc st).accounted y)
    || decide (x.fp + (s.sc st).dsEff + x.frameLen ≤ s.wpos))

def State.frameEnd (s : State) (st : Nat) : State :=
  match s.slotOn st with
  | some p => if s.frameOver st p then s.frameEnds st p else s
  | none => s

/-! ### The eve (R52, R53, R201, R205, R206, R297) -/

/-- R52: a station is refused at an eve. -/
def State.stRefused (s : State) (st : Nat) : Bool :=
  !s.domOn (8 + st) || !s.pllLocked st || s.on (F.ST_SCANCTL_NOSCAN st)
    || s.on F.VIG_LSAFE_LATCHED || s.on F.VIG_LSAFE_A_LOW || s.on F.VIG_LSAFE_B_LOW
    || (s.octetsOf st).any (fun n => !s.domOn (16 + n) || s.on (F.OCT_STAT_CUT_HELD n)
        || (List.range 8).any (fun k => s.on (F.BM_STAT_WD_CUT (8 * n + k))))

/-- R53: the eve of a slot. -/
def State.eve (s : State) (p : Nat) : State :=
  let x := s.slot p
  if x.st.waiting && !x.eveFired && !x.lvt && decide (x.eve ≤ s.wpos) then (s.fireEve p s.stRefused).poolWaits else s

def execEve (slot : Fin 160) (s : State) : Out State Fault Refusal := .next (s.live (s.eve slot))

end Sys2Proof.Machine
end

