-- ==== Sys2Proof/Machine/PageCmds.lean ====
section
/-! DEFINITION. The Almanac's and the band store's steps between submission and delivery (chapters 02 and 03):
granule allocation, staging and its checks, delivery, page records. -/

namespace Sys2Proof.Machine

open Sys2Proof

/-! ### Granules (R81) -/

/-- R70, R81: granules given to the planes of a slot, lowest-numbered free first, image then tag. -/
def allocPlanes (base : Nat) (lines : Nat) : List Plane → List Nat → List Plane
  | [], _ => []
  | p :: t, used =>
    let n := ceilDiv (p.imageBytes lines) 65536
    let a := lowestFree (n + used.length) n base used
    let used := used ++ a
    let m := ceilDiv (p.tagBytes lines) 65536
    let b := lowestFree (m + used.length) m base used
    { p with grans := a, tagGrans := b } :: allocPlanes base lines t (used ++ b)

/-- R81, R82: the slot next in order, with its whole need free and fewer than 16 slots in STAGING, moves to STAGING. -/
def State.allocate (s : State) (p : Nat) : State :=
  let x := s.slot p
  if !x.eveFired && s.poolOrder.head? = some p && needOf x.planes x.lines ≤ s.poolFree
      && (s.slotsWhere (fun y => y.st = .staging)).length < 16 then
    let ps := allocPlanes s.poolBase x.lines x.planes (s.slotGrans ++ s.band.retired)
    ((s.modSlot p (fun x => { x with st := .staging, planes := ps, wins := s.windows })).stageEngines).poolWaits
  else s.poolWaits

def execGranuleAllocation (slot : Fin 160) (s : State) : Out State Fault Refusal := .next (s.live (s.allocate slot))

/-! ### Staging (R77, R83) -/

/-- R83, detail 0x05: band `b` of a staged source agrees with R72 to R74. -/
def trailerOk (coding w lines b : Nat) (recd : List Byte) : Bool :=
  let n := bandLines lines b
  let len := payloadLen coding w n
  let t := recd.drop (pad32 len)
  bField t 0 2 == 0x4254 && bField t 2 1 == coding && bField t 4 4 == b && bField t 8 2 == n && bField t 12 4 == len
    && (bField t 3 1).testBit 0 == decide (b + 1 = bandCount lines) && ((recd.drop len).take (pad32 len - len)).all (· == 0#8)

/-- R83, details 0x05 and 0x06 of one band. -/
def bandFail (coding w lines b : Nat) (recd : List Byte) : Nat :=
  let n := bandLines lines b
  let len := payloadLen coding w n
  if !trailerOk coding w lines b recd then 5
  else if (coding = 0 ∨ coding = 1 ∨ coding = 4) ∧ bandCrc coding w n (recd.take len) ≠ bField (recd.drop (pad32 len)) 16 4
  then 6 else 0

/-- R83, R108: FRC blocks over the bound in the bands before the last of a content, as far as it goes. -/
def earlyOver (target w lines : Nat) (content : List Byte) : Nat :=
  let k := min (bandCount lines - 1) (content.length / max 1 (64 * w))
  if target = 2 ∨ target = 3 then (stagePacked target w (64 * k) (content.take (64 * k * w))).2 else 0

/-- R83: what a plane's source gives: the staged bytes, or the cause and detail subcode of the first failure. Bands and blocks
before the last band are tested as they come, the source check with the last read (log 24). -/
def stageSource (coding w lines srcLen check : Nat) (src : List Byte) : (Nat × Nat) ⊕ List Byte :=
  let target := coding % 16
  let bands := bandCount lines
  let recd (b : Nat) : List Byte := (src.drop (bandStart target w b)).take (bandRecLen target w lines b)
  if src.length ≠ srcLen then .inl (0x1010, 2) else
  let packed (content : List Byte) : (Nat × Nat) ⊕ List Byte :=
    if content.length ≠ packedLen target w lines then .inl (0x1011, 1) else
    let (out, ovr) := stagePacked target w lines content
    if ovr = 0 then .inr out else .inl (0x1011, 2)
  match coding / 16 % 4 with
  | 0 =>
    match ((List.range (bands - 1)).map (fun b => bandFail target w lines b (recd b))).find? (fun e => e != 0) with
    | some e => .inl (0x1010, e)
    | none =>
      if crc32c src ≠ check then .inl (0x1010, 4) else
      match bandFail target w lines (bands - 1) (recd (bands - 1)) with
      | 0 => .inr src
      | e => .inl (0x1010, e)
  | 1 =>
    if 0 < earlyOver target w lines src then .inl (0x1011, 2)
    else if crc32c src ≠ check then .inl (0x1010, 4) else packed src
  | _ =>
    if 0 < earlyOver target w lines (lzRead (coding / 64) src).2 then .inl (0x1011, 2)
    else if crc32c src ≠ check then .inl (0x1010, 4) else
    match lzRead (coding / 64) src with
    | (0, out) => packed out
    | _ => .inl (0x1011, 1)

/-- The sources of a slot in the order they are staged: stations ascending, image before tag (R82). -/
def stagePlan (x : Slot) : List (Plane × Bool) :=
  x.planes.flatMap (fun p => if p.tagCoding % 16 = 4 then [(p, false), (p, true)] else [(p, false)])

/-- R80, R112: the fragments of a plane's scatter list. -/
def State.planeFrags (s : State) (p : Plane) (tag : Bool) (src : SrcRead) : List (Nat × Nat) :=
  if tag then s.sgList p.tagSgAddr p.tagSgCount src.frags else s.sgList p.sgAddr p.sgCount src.frags

/-- R83: the first source that fails: its plane, whether it is the tag plane, cause and subcode; or the staged bytes. Every
fragment address and the sum of LEN are tested before any data (the model's choice, log 24). `ws` are the windows in force as
staging began (R259). -/
def State.stageAll (s : State) (ws : List Win) (lines : Nat) : List (Plane × Bool) → List SrcRead →
    (Nat × Bool × Nat × Nat) ⊕ List (List Nat × List Byte)
  | [], _ => .inr []
  | (p, tag) :: t, srcs =>
    let src := srcs.headD ⟨[], [], [], [], 0⟩
    let frags := s.planeFrags p tag src
    let bytes := s.gather frags src.bytes
    let r := if !s.fragsPass ws src.early frags then .inl (0x1010, 1)
      else if tag then stageSource p.tagCoding p.width lines p.tagSrcLen p.tagCheck bytes
      else stageSource p.coding p.width lines p.srcLen p.check bytes
    match r with
    | .inl (c, d) => .inl (p.station, tag, c, d)
    | .inr bytes =>
      match State.stageAll s ws lines t (srcs.drop 1) with
      | .inl e => .inl e
      | .inr l => .inr ((if tag then p.tagGrans else p.grans, bytes) :: l)

/-- R41, R83: staging of a slot fails: it retires NOT_PRINTED with the cause. -/
def State.stageFail (s : State) (p station : Nat) (tag : Bool) (cause sub : Nat) : State :=
  if (s.slot p).st = .staging then
    (s.retire p cause 1 [(4, 1, sub), (5, 1, station), (6, 1, b2n tag)] (s.slot p).tag).poolWaits
  else s

/-- R90: the granule and sector of a sector of the scratch region. -/
def State.scratchSector (s : State) (i : Nat) : Nat × Nat := (s.rd F.BAND_RPR_GRAN_RPR_GRAN + i / 2048, i % 2048)

/-- R90: the errors that staging reads of the scratch region met. -/
def State.scratchErrors (s : State) (p : Nat) (srcs : List SrcRead) : State :=
  let s := s.bandCe ((srcs.flatMap (fun r => r.ce)).map (fun i => sectorStack (i % 2048)))
  (srcs.flatMap (fun r => r.ue)).foldl (fun (s : State) i =>
    s.sectorUe (s.scratchSector i).1 (s.scratchSector i).2 p (s.slot p).tag) s

/-- What staging reads where sectors are uncorrectable: free values in their place (log 119). -/
def State.smudged (s : State) (srcs : List SrcRead) : State :=
  (srcs.flatMap (fun r => r.ue)).foldl (fun (s : State) i =>
    let (bs, s) := State.freeBytes 32 s
    { s with band := { s.band with mem := putMem s.band.mem (s.rd F.BAND_RPR_GRAN_RPR_GRAN * 65536 + 32 * i) bs } }) s

/-- The slot is STAGED; on the eve tick itself the conditions of R52 are sampled again with it staged (R53). -/
def State.toStaged (s : State) (p : Nat) : State :=
  let s := s.modSlot p (fun x => { x with st := .staged, engines := [] })
  let (c, v) := s.eveCheck (s.slot p) s.stRefused
  (s.modSlot p (fun x => if x.eveFired then { x with eveCause := c, eveDetail := v } else x)).stageEngines

/-- R53: WPOS had reached the eve on an earlier tick: the slot can no longer become STAGED. -/
def State.eveGone (s : State) (x : Slot) : Bool := !x.lvt && decide (x.eve ≤ s.web.prev)

/-- R41, R53, R83: every source of a slot has been fetched: all checks passed, the planes lie in their granules and the slot
is STAGED, if its eve tick has not passed; otherwise it fails by the first check. -/
def State.stageEnd (s : State) (p : Nat) (srcs : List SrcRead) : State :=
  let x := s.slot p
  if x.st != .staging then s
  else if s.eveGone x then s.eve p
  else
    let s := s.scratchErrors p srcs
    let sm := s.smudged srcs
    match sm.stageAll x.wins x.lines (stagePlan x) srcs with
    | .inl (st, tag, c, d) => { s with freeCtr := sm.freeCtr }.stageFail p st tag c d
    | .inr l =>
      if !x.staffed then s else
      let s := l.foldl (fun s (gs, bs) => s.putGrans gs 0 bs) { s with freeCtr := sm.freeCtr }
      ((s.toStaged p).slotProgress p).endTransfer (slotTransfer p)

def execStagingComplete (slot : Fin 160) (srcs : List SrcRead) (s : State) : Out State Fault Refusal :=
  .next (s.live (s.stageEnd slot srcs))

/-- R41, R53: the eve ticks that are over. -/
def State.settleEves (s : State) : State :=
  (s.slotsWhere (fun x => x.eveFired && (x.st = .loaded || x.st = .staging))).foldl (fun (s : State) p =>
    if (s.slot p).eveAt / 10 < s.now / 10 then (s.settleEve p).poolWaits else s) s

/-- The subcodes of R83: 0x01 to 0x06 under 0x1010, 0x01 and 0x02 under 0x1011. -/
def execStageFail (slot : Fin 160) (station : Fin 8) (tag codec : Bool) (sub : Nat) (s : State) :
    Out State Fault Refusal :=
  .next (s.live (if 1 ≤ sub && sub ≤ (if codec then 2 else 6) && (s.slot slot).mask.testBit station
    then s.stageFail slot station tag (if codec then 0x1011 else 0x1010) sub else s))

/-! ### Decision and backstop (R52–R54) -/

/-- R54: WPOS has reached F_p + D_first − 200,000. -/
def State.pastBackstop (s : State) (x : Slot) : Bool := decide (x.fp + x.dFirst - 200000 ≤ s.wpos)

/-- R52, R175: the active island records the decision of a slot whose eve has fired; an admitted frame expects its marks.
From the backstop point on the executor makes the frame vacant (R54). -/
def State.admission (s : State) (p : Nat) : State :=
  let x := s.slot p
  if x.st = .staged && x.eveFired && x.eveAt / 10 < s.now / 10 && s.pastBackstop x then (s.vacate p 0x1026 []).poolWaits
  else if x.st = .staged && x.eveFired && x.eveAt / 10 < s.now / 10 && s.islandServes then
    let s := (s.recordDecision p).poolWaits
    if (s.slot p).st = .admitted then s.expectMarks p else s
  else s

def execAdmissionDecision (slot : Fin 160) (s : State) : Out State Fault Refusal := .next (s.live (s.admission slot))

/-- R54: with no decision by F_p + D_first − 200,000 the executor makes the frame vacant. -/
def State.backstop (s : State) (p : Nat) : State :=
  let x := s.slot p
  if x.st = .staged && x.eveFired && s.pastBackstop x
  then (s.vacate p 0x1026 []).poolWaits else s

def execEveBackstop (slot : Fin 160) (s : State) : Out State Fault Refusal := .next (s.live (s.backstop slot))

/-! ### Delivery and records (R62–R64) -/

/-- R62: a TRANSIT page at or past F_p + DELIV_POS is DELIVERED. -/
def State.delivery (s : State) (p : Nat) : State :=
  let x := s.slot p
  if x.st = .transit && decide (x.fp + x.delivPos ≤ s.wpos) then s.deliver p else s

def execDelivery (slot : Fin 160) (s : State) : Out State Fault Refusal := .next (s.live (s.delivery slot))

/-- R62: the window of ±DELIV_WIN about F_p + DELIV_POS has passed for a DELIVERED slot: with no edge, DELIV_UNCONF is set
and 0x1031 posted. -/
def State.delivClose (s : State) (p : Nat) : State :=
  let x := s.slot p
  if x.st = .delivered && s.on F.ALM_CTL_DELIV_MK_EN && !x.delivClosed
      && decide (x.fp + x.delivPos + s.rd F.ALM_DELIV_WIN_DELIV_WIN < s.wpos) then
    if x.delivEdge then s.modSlot p (fun x => { x with delivClosed := true })
    else (s.modSlot p (fun x => { x.flagRec 4 with delivClosed := true })).post 1 0x1031 3 p
      [(0, 1, s.rd F.ALM_CTL_DELIV_MK)] x.tag
  else s

def execDelivWindowClose (slot : Fin 160) (s : State) : Out State Fault Refusal := .next (s.live (s.delivClose slot))

/-- R62, log 25: the record of a DELIVERED page whose delivery mark is still awaited is not written yet. -/
def State.recordReady (s : State) (p : Nat) : Bool :=
  let x := s.slot p
  !(x.st = .delivered && s.on F.ALM_CTL_DELIV_MK_EN && !x.delivEdge && !x.delivClosed)

/-- R41, R63: the oldest composed record is written to Q20 where it has room; its slot is then RETIRED and, on the next
cycle, FREE. -/
def State.pageRecordWrite (s : State) : State :=
  match (s.ring 20).waiting with
  | [] => s
  | r :: t =>
    match r.slot with
    | some p =>
      if p < 160 then
        let x := s.slot p
        let r' : Rec := { r with entries := pageRecord p x }
        if s.roomFor 20 r' && s.recordReady p then
          let s := s.begunWait ((s.modRing 20 (fun g => { g with waiting := t })).putRec 20 r')
          let s := s.doneTrace (some (traceEntry x.tag 1 x.ring 1 (x.planes.length + 2) x.tseq x.cause))
          let s := s.modSlot p (fun _ => {})
          if x.outcome = 3 then s else { s with alm := { s.alm with lastEnd := x.fp + x.frameLen } }
        else s
      else s.writeDone 20
    | none => s.writeDone 20

def execPageRecordWrite (s : State) : Out State Fault Refusal := .next (s.live s.pageRecordWrite)

end Sys2Proof.Machine
end

