-- ==== Sys2Proof/Machine/Islands.lean ====
section
/-! DEFINITION. The control islands (chapter 15): Clasp states, heartbeats, bids, Lockets, resumption, fencing, the
standby's work, HEALTH records, ISL_CMD. -/

namespace Sys2Proof.Machine

open Sys2Proof

/-! ### Island states (R400, R401) -/

/-- The block of an island (R17). -/
def islBlock (u : Nat) : Nat := 11 + u

/-- An event of an island carries instance 0 (R420). -/
def State.postIsl (s : State) (u sev code inst : Nat) (d : List (Nat × Nat × Nat)) : State :=
  s.postBy (u + 1) sev code (islBlock u) inst (detail d)

/-- R401: READY. -/
def State.islReady (s : State) (u : Nat) : Bool :=
  let x := s.island u
  x.bistOk && x.scrubOk && x.locketOk && x.rejoined && !x.declaredLost && s.domOn (3 + u)

/-- ISL_STAT.READY shows it; a READY standby has its want of a successor met. -/
def State.syncReady (s : State) (u : Nat) : State :=
  let r := s.islReady u
  (s.wr (F.ISL_STAT_READY u) (b2n r)).modIsl u (fun x => { x with noSucc := x.noSucc && !r })

/-- RETESTs of an island complete (R416). -/
def State.endRetests (s : State) (u status : Nat) : State :=
  let rs := (s.island u).retests
  rs.foldl (fun (s : State) (r : Option Nat) => match r with
    | some i => s.partDone i status 0 0
    | none => (s.wr F.CLASP_ISL_STAT_BUSY 0).wr F.CLASP_ISL_STAT_STATUS status)
    (s.modIsl u (fun x => { x with retests := [] }))

/-- An island enters a state; entry to STANDBY or FAILED completes its RETESTs. -/
def State.setIsl (s : State) (u st : Nat) : State :=
  let s := s.wr (F.ISL_STAT_STATE u) st
  if st = 5 then (s.syncReady u).endRetests u 0 else if st = 7 then (s.syncReady u).endRetests u 4 else s.syncReady u

/-- R398: the Signet of a bid. -/
def State.bidSignet (s : State) (u : Nat) : Nat := 2 * (s.rd F.CLASP_ACK_MAX_ACK_MAX / 2 + 1) + (1 - u)

/-- R398, R407: an island bids, for a trigger; one that bids to become active presents Locket values until it resumes. -/
def State.bid (s : State) (u cause : Nat) : State :=
  let sig := s.bidSignet u
  let s := s.modIsl u (fun x => { x with
    bidAt := some s.now, bidCause := cause, bidPrev := s.rd F.CLASP_ACK_MAX_ACK_MAX, ackSlots := none, ackAt := none
    resuming := s.islState u != 4, handover := false })
  let s := s.wr (F.ISL_SIGNET_SIGNET u) sig
  let s := { s with isl := { s.isl with switches := s.isl.switches.map (fun x =>
    if cause = 3 && x.1.isNone then (some sig, x.2) else x) } }
  if s.islState u = 4 then s else s.setIsl u 3

/-- R400: a bid is pending until 10 µs after it. -/
def State.bidPending (s : State) (u : Nat) : Bool :=
  match (s.island u).bidAt with | some t => decide (s.now < t + 10000) | none => false

/-- R413: the health word. -/
def State.healthWord (s : State) (u : Nat) : Nat :=
  let x := s.island u
  let mm := s.rd F.CLASP_SUMMARY_MM_N
  let active := s.islState u == 4
  s.islState u * 2 ^ 28 + b2n (s.islReady u) * 2 ^ 27 + s.rd (F.ISL_STAT_HB_OK u) * 2 ^ 26 + b2n (active || mm == 0) * 2 ^ 25
    + b2n x.scrubOk * 2 ^ 24 + b2n x.bistOk * 2 ^ 23 + b2n x.locketOk * 2 ^ 22 + s.rd (F.ISL_STAT_PATCHED u) * 2 ^ 21
    + min 255 mm

/-- R401, R402: whether an island is READY for a bid trigger. On the tick on which its peer loses it, what it was before counts, so
that of two islands that lose each other at once both bid. -/
def State.readyToBid (s : State) (u : Nat) : Bool :=
  match (s.island u).lostAt with
  | some (t, r) => if t / 10 = s.now / 10 then r else s.islReady u
  | none => s.islReady u

/-- R401: a bid trigger reaches an island in STANDBY. -/
def State.bidTrigger (s : State) (u cause : Nat) : State :=
  if s.islState u != 5 then s
  else if s.readyToBid u then s.bid u cause
  else if (s.island u).noSucc then s
  else (s.modIsl u (fun x => { x with noSucc := true })).postIsl u 3 0x7007 0 [(0, 4, s.healthWord u)]

/-! ### Heartbeats (R399, R401) -/

/-- R399: a heartbeat leaves an island. -/
def State.sendBeat (s : State) (u : Nat) (resign handover : Bool) : State :=
  s.modIsl u (fun x => { x with
    beatSeq := x.beatSeq + 1, sentAt := some s.now
    beat := some ⟨s.islState u, s.rd (F.ISL_SIGNET_SIGNET u), s.rd (F.ISL_LKSEQ_LKSEQ u), s.host.tseq - 1, resign,
      handover || x.handover, s.islState u == 6, x.beatSeq + 1⟩ })

/-- R399: every 5.0 µs, if both cores have advanced since the previous heartbeat. -/
def State.heartbeatSend (s : State) (u : Nat) (advanced : Bool) : State :=
  let due := match (s.island u).sentAt with | none => true | some t => decide (t + 5000 ≤ s.now)
  if s.islState u = 0 || !s.domOn (3 + u) then s
  else if !advanced then s.modIsl u (fun x => { x with alive := false })
  else
    let s := s.modIsl u (fun x => { x with alive := true })
    if due then s.sendBeat u false false else s

def execHeartbeatSend (u : Fin 2) (advanced : Bool) (s : State) : Out State Fault Refusal := .next (s.live (s.heartbeatSend u advanced))

/-- R400, R409: an island fences itself, or is fenced: it stops presenting, sends RESIGN and tests itself. -/
def State.fence (s : State) (u cause inst : Nat) : State :=
  let s := (((s.freezeSlots u).wr (F.ISL_STAT_FENCE_CAUSE u) cause).inc (F.ISL_EVENTS_FENCES u)).modIsl u (fun x => { x with
    rejoined := false, rejoining := false, handover := false, bidAt := none, ackAt := none, testAt := s.now })
  let s := (s.setIsl u 6).sendBeat u true false
  s.postIsl u 1 0x7004 inst [(0, 1, cause), (1, 4, s.rd (F.ISL_SIGNET_SIGNET u)), (5, 4, s.rd F.CLASP_ACK_MAX_ACK_MAX)]

/-- R401: the rejoin of R414 starts. -/
def State.rejoin (s : State) (u : Nat) : State :=
  (s.modIsl u (fun x => { x with rejoining := true, rejoined := false })).syncReady u

/-- R400: an island finds CLASP_ACK_MAX above its own Signet. -/
def State.ackFound (s : State) (u : Nat) : State :=
  let sig := s.rd (F.ISL_SIGNET_SIGNET u)
  let max := s.rd F.CLASP_ACK_MAX_ACK_MAX
  let x := s.island u
  let s := s.modIsl u (fun x => { x with ackAt := none })
  if max ≤ sig then s
  else if s.islState u = 3 then
    ((s.modIsl u (fun x => { x with bidLost := true, bidAt := none, resuming := false })).setIsl u 5 |>.rejoin u).postIsl u 0 0x7003 0
      [(0, 4, sig), (4, 4, max)]
  else if s.islState u = 4 then
    if x.handover then (s.modIsl u (fun x => { x with handover := false, rejoined := true, declaredLost := false })).setIsl u 5
    else if s.bidPending u then ((s.modIsl u (fun x => { x with bidLost := true, bidAt := none })).setIsl u 5).rejoin u
    else s.fence u 1 0
  else s

/-- R400: an island tests CLASP_ACK_MAX within 1 µs of every change it can see, while its domain is ON (R431). -/
def State.ackTick (s : State) (u : Nat) : State :=
  match (s.island u).ackAt with
  | some t => if t + 1000 ≤ s.now && (s.island u).alive && s.domOn (3 + u) then s.ackFound u else s
  | none => s

/-- R399, R401: a heartbeat on the peer's path reaches an island; it is valid when its CRC passes and its number
advances. -/
def State.heartbeat (s : State) (u : Nat) (crcOk : Bool) : State :=
  match (s.island (1 - u)).beat with
  | none => s
  | some b =>
    let x := s.island u
    let fresh := match x.heard with | some h => decide (h.seq < b.seq) | none => true
    let s := s.modIsl (1 - u) (fun y => { y with beat := none })
    if !crcOk || !fresh || s.islState u = 0 || !s.domOn (3 + u) then s else
    let lostMe := match x.heard with | some h => h.state == 4 && b.state == 4 && decide (h.signet < b.signet) | none => false
    let s := (s.wr (F.ISL_STAT_HB_OK u) 1).modIsl u (fun y => { y with
      heard := some b, heardAt := s.now, peerLost := false, bidLost := false })
    let s := if lostMe && s.islState u = 5 then
        (s.modIsl u (fun y => { y with declaredLost := true })).rejoin u else s
    if b.resign then s.bidTrigger u 1 else if b.handover then s.bidTrigger u 3 else s

def execHeartbeat (u : Fin 2) (crcOk : Bool) (s : State) : Out State Fault Refusal := .next (s.live (s.heartbeat u crcOk))

/-- R399–R401: no valid heartbeat for 20.0 µs; not tested while an island is in retention (R431). -/
def State.losePeer (s : State) (u : Nat) : State :=
  let x := s.island u
  if s.now < x.heardAt + 20000 || !s.domOn (3 + u) || s.rd (F.PWR_DOM_LEVEL (4 - u)) = 1 || s.islState u = 0 then s
  else if x.peerLost then (if x.bidLost then s else s.bidTrigger u 0) else
  let s := (s.modIsl u (fun y => { y with peerLost := true })).wr (F.ISL_STAT_HB_OK u) 0
  let s := ((s.freezeSlots (1 - u)).modIsl (1 - u) (fun y => { y with
    lostAt := some (s.now, s.islReady (1 - u)), declaredLost := true, rejoined := false })).syncReady (1 - u)
  if s.islState u = 4 then
    if s.rd (F.ISL_SIGNET_SIGNET u) < s.rd F.CLASP_ACK_MAX_ACK_MAX then s.ackFound u else
    let s := s.bid u 0
    s.postIsl u 1 0x7002 0 [(0, 4, s.rd (F.ISL_SIGNET_SIGNET u))]
  else if x.bidLost then s else s.bidTrigger u 0

def execPeerLost (u : Fin 2) (s : State) : Out State Fault Refusal := .next (s.live (s.losePeer u))

/-- No presentation has been accepted at any Clasp for 20 µs. -/
def State.claspsSilent (s : State) : Bool :=
  (List.range 104).all (fun c => s.rd (F.CLASP_ACK_ACK c) == 0 || decide ((s.clasps.getD c {}).acceptedAt + 20000 ≤ s.now))

/-- R431: after a retention of the islands, heartbeat loss is tested anew once both have completed their logic step. -/
def State.hearAgain (s : State) : State :=
  if s.domOn 3 && s.domOn 4 then
    [0, 1].foldl (fun (s : State) (u : Nat) => s.modIsl u (fun x => { x with heardAt := s.now })) s
  else s

/-- R401: the Clasp monitor's trigger: 20 µs since the last acceptance, or since PD_MOT came up. -/
def State.silence (s : State) : State :=
  if s.clasps.all (fun c => decide (c.acceptedAt + 20000 ≤ s.now)) && s.domOn 5 then (s.bidTrigger 0 2).bidTrigger 1 2 else s

def execClaspMonitorSilence (s : State) : Out State Fault Refusal := .next (s.live s.silence)

/-! ### Clasps (R394, R395, R410, R418) -/

/-- The latest valid Locket (R404). -/
def State.locket (s : State) : Option Locket :=
  (s.isl.lockets.filterMap id).foldl (fun (a : Option Locket) l => if !l.valid then a else match a with
    | some b => if b.lkseq < l.lkseq then some l else a
    | none => some l) none

/-- R407: what an island presents at a Clasp: what the islands compute, or, until it has resumed, the Locket's value
where no slot drives the Clasp. -/
def State.islValue (s : State) (u c : Nat) : Nat :=
  if (s.island u).resuming && (s.driver c).isNone then
    (match s.locket with | some l => l.cmds.getD c 0 | none => s.want c) else s.want c

/-- R410: two values at a Clasp agree: within TOL of the sink's unit (R373: a set-point, y / 32,768 of a duty that the Clasp holds in
1/65,536, a burst ratio, a drive's value) where a slot drives it, else exactly. -/
def State.valuesAgree (s : State) (c a b : Nat) : Bool :=
  if (s.driver c).isNone then a == b else
  let tol : Int := s.rd (F.CLASP_CFG_TOL c)
  let part (v : Nat) : Int := if c < 16 then sInt 16 (v / 65536) else if 48 ≤ c && c < 72 then v / 2 else v
  (part a - part b).natAbs ≤ tol.natAbs && (16 ≤ c || a % 65536 == b % 65536)

/-- R373, R420: what an event shows of a Clasp's value: a motor's set-point (log 132), else its low bits. -/
def claspShown (c v : Nat) : Nat := if c < 16 then v / 65536 else v

/-- R410: the standby compares the value it would have presented with the value passed. -/
def State.shadow (s : State) (c v : Nat) : State :=
  match [0, 1].find? (fun u => s.islState u == 5 && s.domOn (3 + u)) with
  | none => s
  | some u =>
    let passed := (s.clasps.getD c {}).value
    if s.valuesAgree c passed v then s.wr (F.CLASP_STAT_MM_RUN c) 0 else
    let s := (s.inc (F.CLASP_STAT_MM_RUN c)).modIsl u (fun x => { x with mm := x.mm + 1 })
    if s.rd (F.CLASP_STAT_MM_RUN c) < max 1 (s.rd F.CLASP_MM_LIM_MM_LIM) || s.on (F.CLASP_STAT_MISMATCH c) then s else
    ((s.wr (F.CLASP_STAT_MISMATCH c) 1).inc F.CLASP_SUMMARY_MM_N).postIsl u 1 0x7010 0
      [(0, 1, c), (1, 2, claspShown c passed), (3, 2, claspShown c v)]

/-- R394: an island that is BIDDING or ACTIVE presents a Clasp; `shadow` is the value the standby compares, where it
compares. -/
def State.presentation (s : State) (c u : Nat) (shadow : Option Nat) : State :=
  if !((s.islState u == 3 || s.islState u == 4) && s.domOn (3 + u) && s.domOn 5) then s else
  let s := (s.modIsl u (fun x => { x with alive := true })).present u c (s.islValue u c)
  let s := match shadow with | some v => s.shadow c v | none => s
  (s.ackTick 0).ackTick 1

def execClaspPresentation (c : Fin 104) (u : Fin 2) (shadow : Option Nat) (s : State) : Out State Fault Refusal :=
  .next (s.live (s.presentation c u shadow))

/-- R395: 12 µs with no accepted presentation. -/
def State.claspHold (s : State) (c : Nat) : State :=
  if s.domOn 5 && s.rd (F.CLASP_STAT_STATE c) = 0 && decide ((s.clasps.getD c {}).acceptedAt + 12000 ≤ s.now)
  then s.wr (F.CLASP_STAT_STATE c) 1 else s

def execClaspHold (c : Fin 104) (s : State) : Out State Fault Refusal := .next (s.live (s.claspHold c))

/-- R395, R396: the timer has reached HOLD_LIM: the safe value, and 0x7020 for the first Clasp. A presentation in the cycle in
which it does so wins, so that the Clasp enters SAFE only when that cycle has passed. -/
def State.claspSafe (s : State) (c : Nat) : State :=
  if s.domOn 5 && s.rd (F.CLASP_STAT_STATE c) = 1
      && decide ((s.clasps.getD c {}).acceptedAt + 1000 * s.rd (F.CLASP_CFG_HOLD_LIM c) < s.now) then
    let first := s.rd F.CLASP_SUMMARY_SAFE_N == 0
    let s := ((s.wr (F.CLASP_STAT_STATE c) 2).countSafe).claspMoved c
    if first then s.post 3 0x7020 13 c [(0, 4, s.rd (F.CLASP_ACK_ACK c))] else s
  else s

def execClaspSafe (c : Fin 104) (s : State) : Out State Fault Refusal := .next (s.live (s.claspSafe c))

/-- R418: every MISMATCH and STALE count is cleared. -/
def State.claspClr (s : State) : State :=
  (List.range 104).foldl (fun (s : State) (c : Nat) => (s.wr (F.CLASP_STAT_MISMATCH c) 0).wr (F.CLASP_STAT_STALE c) 0)
    (s.wr F.CLASP_SUMMARY_MM_N 0)

def execClaspClr (s : State) : Out State Fault Refusal := .next (s.live s.claspClr)

/-! ### Self-test, bids and resumption (R400, R402, R406–R408, R541) -/

/-- A self-test passes: what it tests counts as good. -/
def State.testPassed (s : State) (u : Nat) : State := s.modIsl u (fun x => { x with bistOk := true, scrubOk := true })

/-- R460: the power-on wake is in progress. -/
def State.poweringOn (s : State) : Bool := match s.pwr.job with | some j => j.powerOn | none => s.pwr.wakeAgain.isSome

/-- R400, R541: a self-test ends; `fail` is the first test that failed. It is held until the power-on wake has ended
(R460). -/
def State.selftest (s : State) (u : Nat) (fail : Option (Fin 9)) : State :=
  let st := s.islState u
  if (st != 2 && st != 6) || (st = 2 && s.poweringOn) || !s.domOn (3 + u) then s else
  match fail with
  | some k => (s.setIsl u 7).postIsl u 1 0x7006 0 [(0, 2, k.val + 1)]
  | none =>
    let s := s.testPassed u
    if st = 6 then
      let ms := min 65535 ((s.now - (s.island u).testAt) / 1000000)
      ((s.rejoin u).setIsl u 5).postIsl u 0 0x7005 0 [(0, 2, ms)]
    else if s.claspsSilent then s.bid u 4
    else (s.rejoin u).setIsl u 5

/-- R408: pages in flight carry TAKEOVER. -/
def State.flagTakeover (s : State) (ps : List Nat) : State :=
  ps.foldl (fun (s : State) (p : Nat) => s.modSlot p (fun x => if x.st = .free then x else x.flagRec 2)) s

/-- R400, R407, R408, R417: 2 µs after a bid. The bid of an island that boots is no takeover; that of one that has tested itself
again is, and its 0x7001 names the Clasp monitor, whose condition let it bid (log 156). -/
def State.bidResolve (s : State) (u : Nat) : State :=
  match (s.island u).bidAt with
  | none => s
  | some t =>
    if s.islState u != 3 || s.now < t + 2000 || !s.domOn (3 + u) then s
    else if s.rd (F.ISL_SIGNET_SIGNET u) < s.rd F.CLASP_ACK_MAX_ACK_MAX then s.ackFound u
    else
      let x := s.island u
      let s := ((s.swapSlots u).setIsl u 4).wr F.GLB_STATE_ACTIVE_ISL (1 - u)
      let s := s.flagTakeover (x.ackSlots.getD (s.slotsWhere (fun y => y.st.inFlight)))
      if x.bidCause = 4 && !x.retested then s else
      (s.inc (F.ISL_EVENTS_TAKEOVERS u)).postIsl u 1 0x7001 0
        [(0, 4, s.rd (F.ISL_SIGNET_SIGNET u)), (4, 4, x.bidPrev), (8, 1, if x.bidCause = 4 then 2 else x.bidCause)]

/-- R407: an island resumes: it presents every Clasp that no slot drives, and records the decision of every slot whose eve has
fired. The kept transactions that no island has applied follow on the next tick (`State.serveKept`); those applied, and the commands in progress, stand. -/
def State.resume (s : State) (u : Nat) : State :=
  if s.islState u != 4 || !(s.island u).resuming then s else
  let s := s.modIsl u (fun x => { x with resuming := false })
  let s := (List.range 104).foldl (fun (s : State) (c : Nat) =>
    if (s.driver c).isNone then s.present u c (s.want c) else s) s
  (List.range 160).foldl State.admission s

def execTakeoverResume (u : Fin 2) (s : State) : Out State Fault Refusal := .next (s.live (s.resume u))

/-! ### Fencing, Lockets, the standby (R404–R406, R409, R411, R414) -/

/-- R409: an internal fault: 2 uncorrectable error, 3 ROM or patch, 4 a core stalled for 1 ms, 5 a late Locket write. -/
def State.islFault (s : State) (u cause core : Nat) : State :=
  if (s.islState u != 4 && s.islState u != 5) || !s.domOn (3 + u) then s else
  let s := if cause = 2 then (s.inc (F.ISL_SCRUB_UE u)).modIsl u (fun x => { x with scrubOk := false }) else s
  s.fence u cause (if cause = 4 then core else 0)

def execIslandInternalFault (u : Fin 2) (cause : Fin 4) (core : Fin 2) (s : State) : Out State Fault Refusal :=
  .next (s.live (s.islFault u (cause.val + 2) core))

/-- R405: the parts of a Locket's body, as numbers. -/
def Locket.parts (l : Locket) : List Int :=
  let b (x : Bool) : Int := b2n x
  let opt (x : Option Int) : List Int := match x with | some v => [1, v] | none => [0]
  let move (m : Move) : List Int := [m.target, m.vmax, m.amax, m.jmax, m.blend, m.tag, b m.notify]
  let home (x : Option Home) : List Int := match x with
    | some h => [1, h.ref, h.phase, h.start, h.passes, h.latched, h.latchedAt, h.cause]
    | none => [0]
  let txn (m : MTxn) : List Int := [(m.tseq : Int), dOpcode (m.descs.headD 0), m.waits, dTag (m.descs.headD 0), m.taken]
  [l.tail] ++ l.lastFp.flatMap opt ++ l.undecided.map Int.ofNat ++
    l.axes.flatMap (fun a => (a.1.length : Int) :: a.1.flatMap move ++ [(a.2.1 : Int)] ++ home a.2.2) ++
    l.txns.flatMap txn ++ l.cmds.map Int.ofNat

/-- R404, R405: a Locket with the length of its body and the CRC-32C over it. -/
def Locket.sealed (l : Locket) : Locket :=
  let body := Config.locketBody l.parts
  { l with bodyLen := body.length, crc := crc32c body }

/-- R405: the content of a Locket written now. -/
def State.locketNow (s : State) (lkseq : Nat) : Locket :=
  Locket.sealed
  { lkseq := lkseq, tseq := s.host.tseq - 1, etime := s.etime, wpos := s.wpos, valid := true
    tail := s.almTail, lastFp := s.alm.lastFp
    undecided := s.slotsWhere (fun x => x.st = .staged && x.eveFired)
    axes := s.axes.map (fun a => (a.queue, a.seq, a.home)), txns := s.host.mach
    cmds := (List.range 104).map (fun c => if c < 48 || 80 ≤ c then s.want c else 0) }

/-- The bank that does not hold the latest valid Locket. -/
def State.locketBank (s : State) : Nat :=
  match s.locket with
  | some l => if s.isl.lockets.getD 0 none = some l then 1 else 0
  | none => 0

/-- R404, R406: the active island writes a Locket, its LKSEQ one above that of the Locket before, valid or not; kept transactions
it covers are dropped. -/
def State.locketWrite (s : State) : State :=
  match [0, 1].find? (fun u => s.islState u == 4 && (s.island u).alive && s.domOn (3 + u)) with
  | none => s
  | some u =>
    if !s.domOn 5 then s else
    let k := ((s.isl.lockets.filterMap id).foldl (fun a l => max a l.lkseq) 0 + 1) % 4294967296
    let l := s.locketNow k
    let s := { s with
      isl := { s.isl with lockets := s.isl.lockets.set s.locketBank (some l) }
      host := { s.host with kept := s.host.kept.filter (fun x => l.tseq < x.1) } }
    let s := ((s.wr (F.ISL_LKSEQ_LKSEQ u) k).wr F.LOCKET_STAT_LKSEQ k).modIsl u (fun x => { x with locketOk := true })
    s.syncReady u

def execLocketWrite (s : State) : Out State Fault Refusal := .next (s.live s.locketWrite)

/-- R404: the standby validates the latest Locket; one that fails is not valid, and clears READY until a later one is. -/
def State.locketValidate (s : State) (u : Nat) (ok : Bool) : State :=
  match s.locket with
  | none => s
  | some l =>
    if s.islState u != 5 || !s.domOn (3 + u) then s
    else if ok then
      let later := match (s.island u).badLk with | some n => decide (n < l.lkseq) | none => true
      let s := s.wr (F.ISL_LKSEQ_LKSEQ u) l.lkseq
      (if later then s.modIsl u (fun x => { x with locketOk := true, badLk := none }) else s).syncReady u
    else
      let s := { s with isl := { s.isl with lockets := s.isl.lockets.map (fun x => if x = some l then some { l with valid := false } else x) } }
      let s := s.wr F.LOCKET_STAT_LKSEQ (match s.locket with | some k => k.lkseq | none => 0)
      ((s.modIsl u (fun x => { x with locketOk := false, badLk := some l.lkseq })).syncReady u).postIsl u 1 0x7012 0 [(0, 4, l.lkseq)]

def execLocketValidate (u : Fin 2) (ok : Bool) (s : State) : Out State Fault Refusal := .next (s.live (s.locketValidate u ok))

/-- R409, R411: a scrub of a memory or a BIST slice ends on the standby; errors corrected in any island are counted. -/
def State.slice (s : State) (u : Nat) (bist ok : Bool) (n corrected : Nat) : State :=
  if s.islState u = 0 || !s.domOn (3 + u) then s else
  let s := (s.inc (F.ISL_SCRUB_CE u) corrected).modIsl u (fun x => { x with ce := x.ce + corrected })
  if s.islState u != 5 then s else
  if ok then
    (if bist then ((s.inc (F.ISL_BIST_PASSES u)).modIsl u (fun x => { x with slices := x.slices + 1 })) else s)
  else
    let s := if bist then (s.inc (F.ISL_BIST_FAILS u)).modIsl u (fun x => { x with bistOk := false })
      else (s.inc (F.ISL_SCRUB_UE u)).modIsl u (fun x => { x with scrubOk := false })
    (s.syncReady u).postIsl u 1 0x7011 0 [(0, 1, b2n bist), (1, 2, n)]

def execBistSlice (u : Fin 2) (bist ok : Bool) (n corrected : Nat) (s : State) : Out State Fault Refusal :=
  .next (s.live (s.slice u bist ok n corrected))

/-- R412: one HEALTH record every 10 ms of ETIME. -/
def State.health (s : State) (u : Nat) : State :=
  let x := s.island u
  if s.islState u = 0 || s.islState u = 7 || s.etime / 10000000 = x.healthAt / 10000000 then s else
  let w := s.healthWord u
  let d := mkEntry [(0, 1, 0xC8), (8, 1, u + 1), (9, 1, s.islState u), (12, 4, w), (16, 4, s.rd (F.ISL_SIGNET_SIGNET u)),
    (20, 4, s.rd F.CLASP_ACK_MAX_ACK_MAX), (24, 4, s.rd (F.ISL_LKSEQ_LKSEQ u)), (28, 4, x.mm), (32, 4, x.ce), (36, 4, x.slices),
    (40, 8, s.etime), (48, 8, uBits 64 s.wpos)]
  let s := (s.wr (F.ISL_HEALTH_HEALTH u) w).modIsl u (fun x => { x with mm := 0, ce := 0, slices := 0, healthAt := s.etime })
  s.putOrDrop 27 ⟨[d], false, none, none, none⟩

def execHealthRecord (u : Fin 2) (s : State) : Out State Fault Refusal := .next (s.live (s.health u))

/-- R404: the Locket written last is valid. -/
def State.locketGood (s : State) : Bool :=
  match s.locket with
  | some l => (s.isl.lockets.filterMap id).all (fun x => x.lkseq ≤ l.lkseq)
  | none => false

/-- R414: every slot has been taken on a tick of it from the active island, and the latest Locket validated. -/
def State.rejoined (s : State) (u : Nat) : State :=
  let x := s.island u
  if s.islState u != 5 || !x.rejoining || !s.domOn (3 + u) || s.islState (1 - u) != 4 || x.slots != [] then s else
  let good := s.locketGood
  let s := s.modIsl u (fun x => { x with
    rejoining := false, rejoined := true, declaredLost := false, locketOk := good, badLk := if good then none else x.badLk })
  let s := match s.locket with | some l => s.wr (F.ISL_LKSEQ_LKSEQ u) l.lkseq | none => s
  s.syncReady u

def execRejoinComplete (u : Fin 2) (s : State) : Out State Fault Refusal := .next (s.live (s.rejoined u))

/-! ### ISL_CMD (R416) -/

/-- The island in STANDBY with READY = 1, while the other is ACTIVE. -/
def State.successor (s : State) : Option Nat :=
  [0, 1].find? (fun u => s.islState u == 5 && s.islReady u && s.islState (1 - u) == 4)

/-- The active island writes a Locket and sends HANDOVER. -/
def State.handOver (s : State) (a : Nat) : State :=
  (s.locketWrite.modIsl a (fun x => { x with handover := true })).sendBeat a false true

/-- SWITCH: a Locket, HANDOVER; none where no standby can take over. -/
def State.islSwitch (s : State) (ref : Option Nat) : Option State :=
  match s.successor with
  | none => none
  | some u =>
    let s := s.handOver (1 - u)
    some { s with isl := { s.isl with switches := s.isl.switches ++ [(none, ref)] } }

/-- A self-test on command: a FAILED island's from SELFTEST, another's from FENCED. -/
def State.testAgain (s : State) (u : Nat) : State :=
  let st := s.islState u
  ((s.freezeSlots u).modIsl u (fun x => { x with
    testAt := s.now, rejoined := false, rejoining := false, retested := true })).setIsl u (if st = 7 then 2 else 6)

/-- RETEST: FAILED to SELFTEST, STANDBY to FENCED; none for any other state. -/
def State.islRetest (s : State) (u : Nat) (ref : Option Nat) : Option State :=
  let st := s.islState u
  if st != 7 && st != 5 then none else
  some ((s.modIsl u (fun x => { x with retests := x.retests ++ [ref] })).testAgain u)

/-- R416: ISL_CMD as transaction part `ref`. -/
def State.applyIsl (s : State) (ref : Nat) (ds : List Desc) : Applied :=
  let d := ds.headD 0
  let op := dField d 8 1
  let i := dField d 9 1
  if ds.length ≠ 1 ∨ dCount d ≠ 0 ∨ !dZero d 10 63 ∨ 1 < op ∨ (op = 0 ∧ i ≠ 0) ∨ (op = 1 ∧ i ≠ 1 ∧ i ≠ 2) then .fail 0 1 0 0 id
  else match (if op = 0 then s.islSwitch (some ref) else s.islRetest (i - 1) (some ref)) with
    | some s' => .done s' 1 0
    | none => .fail 0 5 0 0 id

/-- A command of CLASP_ISL_CMD, one at a time. -/
def State.islCmd (s : State) (f : State → Option State) : State :=
  if s.on F.CLASP_ISL_STAT_BUSY then s else
  match f s with
  | some s' => s'.wr F.CLASP_ISL_STAT_BUSY 1
  | none => s.wr F.CLASP_ISL_STAT_STATUS 5

def execClaspIslCmdSwitch (s : State) : Out State Fault Refusal := .next (s.live (s.islCmd (fun s => s.islSwitch none)))
def execClaspIslCmdRetestA (s : State) : Out State Fault Refusal := .next (s.live (s.islCmd (fun s => s.islRetest 0 none)))
def execClaspIslCmdRetestB (s : State) : Out State Fault Refusal := .next (s.live (s.islCmd (fun s => s.islRetest 1 none)))

/-! ### The domains of the islands and of the Clasps (R397, R400, R422, R431) -/

/-- PD_ISLx goes OFF. -/
def State.islDown (s : State) (u : Nat) : State :=
  let s := s.modIsl u (fun x => { retests := x.retests })
  let s := ((s.wr (F.ISL_STAT_HB_OK u) 0).wr (F.ISL_STAT_PATCHED u) 0).wr (F.ISL_LKSEQ_LKSEQ u) 0
  ({ s with boot := { s.boot with flashRead := false, flashGood := false, phase := 0 } }).setIsl u 0

/-- PD_ISLx comes up from OFF: it boots, with every slot at its reset values (R422). -/
def State.islUp (s : State) (u : Nat) : State :=
  (s.modIsl u (fun x => { x with slots := (List.range 192).map (fun l => ⟨l, [], {}⟩) })).setIsl u 1

/-- PD_MOT comes up: the Clasps' ACK is cleared (R397); the Locket store starts empty. -/
def State.claspsUp (s : State) : State :=
  let s := (List.range 104).foldl (fun (s : State) (c : Nat) =>
    ((((s.wr (F.CLASP_ACK_ACK c) 0).wr (F.CLASP_STAT_STATE c) 0).wr (F.CLASP_STAT_MISMATCH c) 0).wr (F.CLASP_STAT_STALE c) 0).wr
      (F.CLASP_STAT_MM_RUN c) 0) s
  let s := (((s.wr F.CLASP_ACK_MAX_ACK_MAX 0).wr F.CLASP_SUMMARY_SAFE_N 0).wr F.CLASP_SUMMARY_MM_N 0).wr F.LOCKET_STAT_LKSEQ 0
  let s := { s with
    clasps := s.clasps.map (fun c => { c with value := 0, acceptedAt := s.now })
    isl := { s.isl with lockets := [none, none] } }
  [0, 1].foldl (fun (s : State) (u : Nat) => s.modIsl u (fun x => { x with ackAt := none })) s

end Sys2Proof.Machine
end

