-- ==== Sys2Proof/Machine/SeqOps.lean ====
section
/-! DEFINITION. What the power controller, the sequencer and start-up share (R421, R433, R438–R441, R447, R457): events
while PD_HOST is off, the power state, rails and PMBus transfers. -/

namespace Sys2Proof.Machine

open Sys2Proof

/-! ### Events of PD_VIG and the power state (R421, R457) -/

/-- R457: an event of PD_VIG is posted, or, while PD_HOST is off, held with the latest three others; what a HARD one stops
stops at once (R451). -/
def State.postVig (s : State) (sev code block inst : Nat) (d : List (Nat × Nat × Nat)) : State :=
  if s.domOn 1 then s.post sev code block inst d else
  let s := if sev = 3 then s.frameStop code else s
  let l := s.pwr.held ++ [(sev, code, block, inst, detail d)]
  { s with pwr := { s.pwr with held := l.drop (l.length - 4) } }

/-- R421: GLB_STATE.PSTATE and PWR_STAT.STATE. -/
def State.pstate (s : State) : Nat := s.rd F.PWR_STAT_STATE

def State.setPstate (s : State) (x : Nat) : State := (s.wr F.PWR_STAT_STATE x).wr F.GLB_STATE_PSTATE x

/-- R421: a change of state posts 0x8001; one to VIGIL posts it at the next wake. -/
def State.changePstate (s : State) (x attempts : Nat) : State :=
  let old := s.pstate
  if old = x then s
  else if x = 0 then { s.setPstate 0 with pwr := { s.pwr with vigilFrom := some old } }
  else (s.setPstate x).post 0 0x8001 15 0 [(0, 1, old), (1, 1, x), (2, 1, attempts)]

/-- R433: a record of the log of 16. RESULT 0 done, 1 refused, 2 aborted, 3 failed. -/
def State.powerLog (s : State) (frm dst result attempt step domain block inst : Nat) : State :=
  let k := s.rd F.PWR_LOG_PTR_NEXT
  let s := ((((s.wr (F.PWR_LOG_FROM k) frm).wr (F.PWR_LOG_TO k) dst).wr (F.PWR_LOG_RESULT k) result).wr (F.PWR_LOG_ATTEMPT k) attempt)
  let s := (((s.wr (F.PWR_LOG_STEP k) step).wr (F.PWR_LOG_DOMAIN k) domain).wr (F.PWR_LOG_BLOCK k) block).wr (F.PWR_LOG_INST_INST k) inst
  ((s.wr (F.PWR_LOG_TIME_VTIME k) s.time.vtime).wr F.PWR_LOG_PTR_NEXT ((k + 1) % 16)).inc F.PWR_LOG_PTR_TOTAL

/-- R436: PWR_LOG_CLR clears the log and PWR_CNT. -/
def State.powerLogClr (s : State) : State :=
  let s := (List.range 16).foldl (fun (s : State) (k : Nat) =>
    let s := (((s.wr (F.PWR_LOG_FROM k) 0).wr (F.PWR_LOG_TO k) 0).wr (F.PWR_LOG_RESULT k) 0).wr (F.PWR_LOG_ATTEMPT k) 0
    let s := (((s.wr (F.PWR_LOG_STEP k) 0).wr (F.PWR_LOG_DOMAIN k) 0).wr (F.PWR_LOG_BLOCK k) 0).wr (F.PWR_LOG_INST_INST k) 0
    s.wr (F.PWR_LOG_TIME_VTIME k) 0) s
  let s := (List.range 4).foldl (fun (s : State) (k : Nat) => (s.wr (F.PWR_CNT_REFUSED k) 0).wr (F.PWR_CNT_ABORTED k) 0) s
  (s.wr F.PWR_LOG_PTR_TOTAL 0).wr F.PWR_LOG_PTR_NEXT 0

def execPwrLogClr (s : State) : Out State Fault Refusal := .next (s.live s.powerLogClr)

/-! ### The service tier (R470) -/

/-- R470: GLB_STATE.TIER takes a value: 0x1040 for a change; a fall counts and worsens pages (R58). -/
def State.setTier (s : State) (x : Nat) : State :=
  let old := s.rd F.GLB_STATE_TIER
  if old = x then s else
  let s := ({ s with tier := { s.tier with was := (s.now / 10, old) } } : State).wr F.GLB_STATE_TIER x
  let s := (List.range 12).foldl (fun (s : State) (p : Nat) =>
    if locksIn x (s.pllState p) then s.modPll p (fun z => { z with unlocked := false }) else s) s
  let s := if x < old then
      let s := { s with alm := { s.alm with slots := s.alm.slots.map (fun y => y.tierFell x) } }
      if old = 3 then s.inc F.TIER_COUNT_F_LOSSES else if old = 2 then s.inc F.TIER_COUNT_P_LOSSES else s
    else s
  s.post 0 0x1040 1 0 [(0, 1, old), (1, 1, x), (2, 2, s.rd F.TIER_BLOCK_F_COND)]

/-- DISARM and entry to VIGIL set TIER to none. -/
def State.noTier (s : State) : State := ({ s with tier := {} }).setTier 0

/-! ### Rails (R438–R440) -/

/-- R438: a delay in ns rounded up to whole Vigil cycles. -/
def vigNs (n : Nat) : Nat := ceilDiv (ceilDiv (n * 32768) 1000000000 * 1000000000) 32768

def State.rail (s : State) (k : Nat) : Rail := s.seq.rails.getD k {}

def State.modRail (s : State) (k : Nat) (f : Rail → Rail) : State := { s with seq := { s.seq with rails := s.seq.rails.modify k f } }

/-- 0 OFF, 1 WAIT, 2 RAMP, 3 ON, 4 FAULT. -/
def State.railState (s : State) (k : Nat) : Nat := s.rd (F.SEQ_RAIL_STAT_STATE k)

/-- 0 OFF, 1 UP, 2 ON, 3 DOWN, 4 FAILED, 5 SHUTDOWN, 6 PF_OFF. -/
def State.seqState (s : State) : Nat := s.rd F.SEQ_STAT_STATE

/-- R439: the domain that names a rail. -/
def State.railDomain (s : State) (k : Nat) : Option Nat :=
  (List.range 32).find? (fun d => s.on (F.PWR_DOM_RAIL_EN d) && s.rd (F.PWR_DOM_RAIL d) = k)

/-- R439: 0 manual, 1 programme, 2 domain. -/
def State.railOwner (s : State) (k : Nat) : Nat :=
  if s.on (F.SEQ_RAIL_CFG_SEQ k) then 1 else if (s.railDomain k).isSome then 2 else 0

def State.syncOwners (s : State) : State :=
  (List.range 24).foldl (fun (s : State) (k : Nat) => s.wr (F.SEQ_RAIL_STAT_OWNER k) (s.railOwner k)) s

def State.setPg (s : State) (k : Nat) (good : Bool) : State :=
  let m := s.rd F.SEQ_PG_MAP_PG
  s.wr F.SEQ_PG_MAP_PG (if good then setBit m k else clrBit m k)

/-- R438: a commit of a rail: its PG pin is read under the new PG_POL. -/
def State.rereadPg (s : State) (k : Nat) : State :=
  if s.on (F.SEQ_RAIL_CFG_PG_SRC k) then s else s.setPg k ((s.rail k).pin != s.on (F.SEQ_RAIL_CFG_PG_POL k))

/-- The programme rails, ascending. -/
def State.programme (s : State) : List Nat := (List.range 24).filter (fun k => s.on (F.SEQ_RAIL_CFG_SEQ k))

/-- SEQ_STAT.RAIL shows the lowest rail in WAIT or RAMP. -/
def State.showRail (s : State) : State :=
  s.wr F.SEQ_STAT_RAIL (((List.range 24).find? (fun k => s.railState k == 1 || s.railState k == 2)).getD 31)

def State.setRail (s : State) (k x : Nat) : State :=
  let s := s.wr (F.SEQ_RAIL_STAT_STATE k) x
  let m := s.rd F.SEQ_FAULT_MAP_FAULT
  (s.wr F.SEQ_FAULT_MAP_FAULT (if x = 4 then setBit m k else clrBit m k)).showRail

/-! ### PMBus transfers (R447) -/

def State.pmBusy (s : State) : State := s.wr F.PMB_STAT_BUSY (b2n (s.seq.xfers != []))

/-- R447: an OPERATION 0x00 that switches a rail off. -/
def PmXfer.isOff (x : PmXfer) : Bool := x.cmd == 1 && x.data == 0 && x.rail.isSome

/-- R447: transfers are serialised in the order in which they arise; in SHUTDOWN an OPERATION 0x00 goes ahead of every
other but the one on the bus. -/
def State.addXfer (s : State) (x : PmXfer) : State :=
  let l := s.seq.xfers
  let l' := if s.seqState = 5 && x.isOff then
      l.take 1 ++ (l.drop 1).filter PmXfer.isOff ++ [x] ++ (l.drop 1).filter (fun y => !y.isOff) else l ++ [x]
  ({ s with seq := { s.seq with xfers := l' } }).pmBusy

/-- R438, R447: a rail is switched: EN[Pk], or PAGE and OPERATION over PMBus with EN[Pk] low. -/
def State.switchRail (s : State) (k : Nat) (on : Bool) : State :=
  let s := s.modRail k (fun r => { r with on := on })
  if s.on (F.SEQ_RAIL_CFG_PMB k) && s.rd F.PMB_CFG_ROLE = 1 then
    s.addXfer ⟨s.rd (F.SEQ_RAIL_PMB_ADDR k), some (s.rd (F.SEQ_RAIL_PMB_PAGE k)), 1, 1, if on then 0x80 else 0, some k, none, 0⟩
  else
    let m := s.rd F.SEQ_EN_MAP_EN
    s.wr F.SEQ_EN_MAP_EN (if on then setBit m k else clrBit m k)

/-- R440: a rail starts: ON_DLY is counted. -/
def State.railStart (s : State) (k : Nat) : State :=
  if s.railState k != 0 then s else (s.modRail k (fun r => { r with since := s.now })).setRail k 1

/-- R440: a rail is released. -/
def State.railOff (s : State) (k : Nat) : State :=
  let x := s.railState k
  let s := if (s.rail k).on then s.switchRail k false else s
  if x = 4 then s else (s.setRail k 0).modRail k (fun r => { r with lost := false, badPolls := 0 })

/-- RESULT bytes 40, 41 and 44 of a rail command (R454). -/
def State.seqResult (s : State) (rail data fail : Nat) : Nat := packBytes [(0, 1, s.seqState), (1, 1, rail), (2, 2, data), (4, 1, fail)]

/-- A rail command ends: a transaction part's, or SEQ_CMD's. -/
def State.seqEnd (s : State) (ref : Option Nat) (status result : Nat) : State :=
  match ref with
  | some r => s.partDone r status 0 result
  | none => (s.wr F.SEQ_CMD_STAT_BUSY 0).wr F.SEQ_CMD_STAT_STATUS status

/-! ### Sequencer states (R442, R452) -/

/-- A change of the sequencer's state posts 0x8052. Causes: 0 host, 1 PMBus, 2 SEQ_IN, 3 boot, 4 restart, 5 fault. -/
def State.setSeq (s : State) (x cause : Nat) : State :=
  let old := s.seqState
  (({ s with seq := { s.seq with stateAt := s.now } }).wr F.SEQ_STAT_STATE x).postVig 0 0x8052 14 0xFFFF
    [(0, 1, old), (1, 1, x), (2, 1, cause)]

/-- R442: UP begins with the lowest programme rail. -/
def State.seqStart (s : State) (cause : Nat) : State :=
  let s := { s with seq := { s.seq with pendCause := cause, off := none, topAt := none, cascAt := none } }
  let s := (s.wr F.SEQ_STAT_PEND_ON 0).setSeq 1 cause
  match s.programme.head? with
  | some k => s.railStart k
  | none => { s with seq := { s.seq with topAt := some s.now } }

/-- R441, R442: OFF allows an on request. -/
def State.seqMayStart (s : State) : Bool :=
  s.seqState == 0 && s.on F.SEQ_STAT_PFI_GOOD
    && decide (s.seq.stateAt + vigNs (s.rd F.SEQ_TIME_MIN_OFF * 1000000) ≤ s.now)
    && (!s.on F.SEQ_CTL_CASC_IN || s.on F.SEQ_STAT_SEQ_IN)

/-- A pending on request is acted on as soon as OFF allows it. -/
def State.seqTry (s : State) : State :=
  if s.on F.SEQ_STAT_PEND_ON && s.seqMayStart then s.seqStart s.seq.pendCause else s

/-- R441, R452: T_RESTART has passed since the end of the shutdown and since PFI became good. -/
def State.restartDue (s : State) : Bool :=
  s.seqState == 6 && s.on F.SEQ_STAT_PFI_GOOD && (!s.on F.SEQ_CTL_CASC_IN || s.on F.SEQ_STAT_SEQ_IN) &&
    decide (max s.seq.endAt s.seq.goodAt + vigNs (s.rd F.SEQ_TIME_T_RESTART * 1000000) ≤ s.now)

/-- R452: a restart sets bit 7 of VIG_WAKE_PEND and starts the sequencer. -/
def State.restart (s : State) : State :=
  let s := s.setW1c F.VIG_WAKE_PEND_PEND 128
  ({ s with
    pwr := { s.pwr with firedAt := s.pwr.firedAt.set 7 s.time.vtime }
    seq := { s.seq with restarted := true } }).seqStart 4

/-- RAIL_SETs on that wait for a rail end. -/
def State.endRailWaits (s : State) (k status : Nat) : State :=
  let ws := (s.rail k).waits
  ws.foldl (fun (s : State) (r : Option Nat) => s.seqEnd r status (s.seqResult k 0 0)) (s.modRail k (fun r => { r with waits := [] }))

end Sys2Proof.Machine
end

