-- ==== Sys2Proof/Machine/Power.lean ====
section
/-! DEFINITION. Power states and domains (chapter 16): waking and taking down domains, ordering a state, wake sources,
accounting, the ember loop, junction temperature (R536), and the end of start-up (R458, R461, R463). -/

namespace Sys2Proof.Machine

open Sys2Proof

def State.level (s : State) (d : Nat) : Nat := s.rd (F.PWR_DOM_LEVEL d)

def State.setLevel (s : State) (d x : Nat) : State := s.wr (F.PWR_DOM_LEVEL d) x

/-- R71, R422: BAND_STAT follows PD_MEM: its stacks are trained until it goes OFF, and in service while it is ON. -/
def State.syncBand (s : State) : State :=
  let lv := s.level 2
  let s := if lv = 0 then s.wr F.BAND_STAT_TRAINED 0 else if lv = 2 then s.wr F.BAND_STAT_TRAINED 3 else s
  s.wr F.BAND_STAT_IN_SERVICE (b2n (lv == 2))

/-! ### Domains going down (R422, R423, R426) -/

/-- The outputs the power-state controller starts and stops with a domain (R292, R422). -/
def domOuts : Nat → List Nat
  | 1 => [8, 14]
  | 2 => [9]
  | 3 => [11]
  | 4 => [11]
  | 5 => [10, 13]
  | 7 => [12]
  | _ => []

/-- Outputs start or stop; C11 runs while either island needs it. -/
def State.switchOuts (s : State) (d : Nat) (on : Bool) : State :=
  let cs := if !on && (d = 3 && s.level 4 == 2 || d = 4 && s.level 3 == 2) then [] else domOuts d
  (cs.foldl (fun (s : State) (c : Nat) => s.wr (F.CLK_OUT_CTL_EN c) (b2n on)) s).syncOuts

/-- PD_MEM OFF: the band store and every capture are lost. -/
def State.memLost (s : State) : State :=
  { s with band := { s.band with mem := [], faulty := [] }, codec := { s.codec with captures := [] } }

/-- The configuration and state of every loop slot are lost with the islands (R422). -/
def State.loopsLost (s : State) : State :=
  { s with
    regs := s.regs.filter (fun e => !(0x600000 ≤ e.1 / 32 && e.1 / 32 < 0x606000))
    staged := s.staged.filter (fun e => !(0x600000 ≤ e.1 / 32 && e.1 / 32 < 0x606000))
    loops := List.replicate 192 {} }

/-- PD_MOT down: gates, STEP and EN, HVPWM, FZ, drives at their clamps; axes and motors lose their state. -/
def State.motLost (s : State) : State :=
  let s := (s.motHold.axHold).loopsOff
  let s := (List.range 8).foldl (fun (s : State) (n : Nat) => 
    let s := s.wr (F.XD_VALUE_VALUE n) 0
    if s.emberZone n then s else s.fzOff n) s
  ({ s with clasps := s.clasps.map (fun (c : Clasp) => ({ c with value := 0 } : Clasp)) }).syncHvs

/-- PD_DATA down: pages, screening tables, drops (R223) and station data paths lose their state. Roll call goes OFF (R216),
the signatures are EMPTY (R160), no table is VALID and no station has an active bank that satisfies R144, so that ACTIVE_OK
reads 0 (R150, log 121). -/
def State.dataLost (s : State) : State :=
  let s := { s with
    alm := { s.alm with slots := List.replicate 160 {} }, regf := []
    tbl := { s.tbl with st := List.replicate 8 {}, txns := [] } }
  (List.range 8).foldl (fun (s : State) (st : Nat) =>
    let s := ((s.rollOff st).sigClear st).modSc st (fun _ => {})
    let s := ((s.wr (F.ST_DROP_MAP_DROPPED st) 0).wr (F.ST_ROLL_STAT_DROPS st) 0).wr (F.ST_RESTORE_PEND_PEND st) 0
    ((s.wr (F.ST_TBL_STAT_ACTIVE_OK st) 0).wr (F.ST_TBL_STAT_ACTIVE_BANK st) 0).syncTbl st) s

/-- R304: the spread settings of a core PLL return to their reset values. -/
def State.noSpread (s : State) (p : Nat) : State :=
  (((s.wr (F.PLL_SSC_SSC_EN p) 0).wr (F.PLL_SSC_MODE p) 0).wr (F.PLL_SSC_DEPTH p) 0).wr (F.PLL_SSC_RATE p) 31

/-- What a domain that leaves ON loses, and the clamps of R423 at its edge. -/
def State.domLost (s : State) (d : Nat) : State :=
  match d with
  | 1 =>
    let s := (List.range 4).foldl (fun (s : State) (p : Nat) => (s.pllDown p).noSpread p) s
    let s := s.hostReset 3
    { s with
      host := { s.host with linkUp := false, mach := [], kept := [], unserved := [] }
      rings := s.rings.map (fun g => { g with waiting := [], outstanding := 0 }) }
  | 2 => s.memLost
  | 3 => s.islDown 0
  | 4 => s.islDown 1
  | 5 => s.motLost
  | 6 => s.dataLost
  | 7 => { s with codec := { s.codec with jobs := [] } }
  | _ => if d < 16 then (if 8 ≤ d then s.pllDown (d - 4) else s) else s.wantOcts.syncOct (d - 16)

/-- R426: a domain goes down to RET or OFF. Its rail, if it has one, is released. -/
def State.domDown (s : State) (d lvl : Nat) : State :=
  if s.level d ≤ lvl then s else
  let s := (s.setLevel d lvl).switchOuts d false
  let s := if d = 2 then s.syncBand else s
  let s := if lvl = 0 then s.domLost d else s
  let s := if (d = 3 || d = 4) && s.level 3 = 0 && s.level 4 = 0 then s.loopsLost else s
  if s.on (F.PWR_DOM_RAIL_EN d) && lvl = 0 && s.seqState != 5 then s.railOff (s.rd (F.PWR_DOM_RAIL d)) else s

/-- Domains go down in descending order to the levels of a state (R422, R428). -/
def State.domsDown (s : State) (lvl : Nat → Nat) : State :=
  ((List.range 31).map (fun k => 31 - k)).foldl (fun (s : State) (d : Nat) => s.domDown d (lvl d)) s

/-- The level of a shared domain in a state (R422). -/
def stateLevel (st d : Nat) : Nat :=
  if d = 0 then 2 else if st = 0 then 0 else if st = 1 then (if d = 1 then 2 else if d ≤ 4 then 1 else 0)
  else if d ≤ 7 then 2 else 0

/-! ### Domains coming up (R422, R424) -/

/-- R430: the level AUTO or REQ asks of a domain in READY or RUN. -/
def State.wantLevel (s : State) (d : Nat) : Nat :=
  match s.rd (F.PWR_DOM_REQ d) with
  | 1 => 2
  | 2 => 1
  | 3 => 0
  | _ =>
    if d = 7 then s.level 7
    else if d < 16 then (if s.stationSet (d - 8) then 2 else 0)
    else match s.stationOf (d - 16) with | some _ => 2 | none => 0

/-- A domain's logic step is ready: it is ON. -/
def State.domUp (s : State) (d : Nat) : State :=
  let s := s.setLevel d 2
  match d with
  | 2 => s.syncBand
  | 3 => if s.islState 0 = 0 then s.islUp 0 else s.hearAgain
  | 4 => if s.islState 1 = 0 then s.islUp 1 else s.hearAgain
  | 1 =>
    let s := s.freeWakeN
    if s.pwr.xtalDue then ({ s with pwr := { s.pwr with xtalDue := false } } : State).post 1 0x8032 15 0 [] else s
  | 5 => ({ s with pwr := { s.pwr with emberTail := true } } : State).claspsUp
  | _ =>
    if 16 ≤ d then s.wantOcts.syncOct (d - 16)
    else if 8 ≤ d && s.on (F.PLL_CTL_EN (d - 4)) then s.pllEnable (d - 4) true else s

/-- The oscillator step: PLLs and outputs that the domain needs start. -/
def State.startOsc (s : State) (d : Nat) : State :=
  let s := if d = 1 then [0, 1, 2, 3].foldl (fun (s : State) (p : Nat) => if s.pllState p = 0 then s.coreAcquire p else s) s else s
  s.switchOuts d true

/-- R422: a step has something to do. -/
def stepBusy (d step : Nat) : Bool :=
  match step with
  | 2 => d ≤ 5 || d = 7
  | 3 => d ≤ 7
  | _ => true

/-- The next step with something to do. -/
def nextStep (d step : Nat) : Nat :=
  if stepBusy d (step + 1) then step + 1 else if stepBusy d (step + 2) then step + 2 else step + 3

/-- PWR_STAT shows the job. -/
def State.showJob (s : State) : State :=
  match s.pwr.job with
  | none => ((((s.wr F.PWR_STAT_TARGET 0).wr F.PWR_STAT_BUSY 0).wr F.PWR_STAT_ATTEMPT 0).wr F.PWR_STAT_STEP 0).wr F.PWR_STAT_DOMAIN 255
  | some j => ((((s.wr F.PWR_STAT_TARGET j.target).wr F.PWR_STAT_BUSY 1).wr F.PWR_STAT_ATTEMPT j.attempt).wr F.PWR_STAT_STEP j.step).wr
      F.PWR_STAT_DOMAIN (j.left.headD 255)

def State.setJob (s : State) (j : Option PowerJob) : State := ({ s with pwr := { s.pwr with job := j } }).showJob

/-- A step of the first domain starts. -/
def State.startStep (s : State) (j : PowerJob) (step : Nat) : State :=
  let d := j.left.headD 0
  let s := s.setJob (some { j with step := step, stepAt := s.now })
  match step with
  | 1 => if s.on (F.PWR_DOM_RAIL_EN d) && s.seqState = 2 then s.railStart (s.rd (F.PWR_DOM_RAIL d)) else s
  | 2 => s.startOsc d
  | _ => s

/-! ### The end of start-up (R458, R462, R463) -/

/-- R463: RESULT. PD_CODEC in AUTO may have gone to RET meanwhile (R430). -/
def State.bootResult (s : State) : Nat :=
  let st (u : Nat) : Nat := s.islState u
  let all := (List.range 8).all (fun d => s.level d == 2 || (d == 7 && s.level d == 1))
  if st 0 = 7 && st 1 = 7 then 3
  else if all && ((st 0 = 4 && st 1 = 5) || (st 0 = 5 && st 1 = 4)) then 1 else 2

/-- R458: the Host set-up stage. -/
def State.hostSetup (s : State) (result : Nat) : State :=
  let s := ((s.wr F.BOOT_STAT_STAGE 5).wr F.BOOT_STAT_RESULT result).wr F.BOOT_TIME_US (s.etime / 1000)
  s.post 0 0x9060 1 0 [(0, 1, result), (1, 4, s.etime / 1000), (5, 1, s.rd F.PATCH_STAT_SRC)]

/-- R458: the Islands stage ends when each island is ACTIVE, STANDBY or FAILED. -/
def State.bootIslands (s : State) : State :=
  let done (u : Nat) : Bool := let x := s.islState u; x == 4 || x == 5 || x == 7
  if s.rd F.BOOT_STAT_STAGE = 4 && done 0 && done 1 then s.hostSetup s.bootResult else s

/-! ### A change of state (R424–R428, R461) -/

/-- RESULT of a PWR_STATE or PWR_DOMAIN. -/
def powerResult (state attempts block step inst dom : Nat) : Nat :=
  packBytes [(0, 1, state), (1, 1, attempts), (2, 1, block), (3, 1, step), (4, 2, inst), (6, 1, dom)]

/-- A power command ends: a transaction part's, or PWR_CMD's. -/
def State.powerEnd (s : State) (ref : Option (Option Nat)) (status det result : Nat) : State :=
  match ref with
  | none => s
  | some (some r) => s.partDone r status det result
  | some none => (s.wr F.PWR_CMD_STAT_BUSY 0).wr F.PWR_CMD_STAT_STATUS status

/-- R432, R452, R457: what a wake from VIGIL or DOZE posts. -/
def State.postWake (s : State) (j : PowerJob) : State :=
  let s := match s.pwr.vigilFrom with
    | some f => ({ s with pwr := { s.pwr with vigilFrom := none } }).post 0 0x8001 15 0 [(0, 1, f), (1, 1, 0), (2, 1, 1)]
    | none => s
  let held := s.pwr.held
  let s := { s with pwr := { s.pwr with held := [] } }
  let s := held.foldl (fun (s : State) (e : Nat × Nat × Nat × Nat × BitVec 80) =>
    s.postRaw e.1 e.2.1 e.2.2.1 e.2.2.2.1 e.2.2.2.2 0 0) s
  match j.cause with
  | none => s
  | some (c, v) =>
    let s := s.post 0 0x8020 15 0 [(0, 1, c), (1, 6, v)]
    if c = 7 then
      s.post 0 0x8041 14 0x101 [(0, 2, min 65535 ((s.seq.endAt - s.seq.tripAt) / 100000)), (2, 1, b2n s.seq.back),
        (3, 2, s.rd F.SEQ_COUNT_PF_TRIPS)]
    else s

/-- R503: after the power-on wake in compatibility mode the boot controller sweeps every CAP code of SP0–SP3. -/
def State.bootSweeps (s : State) : State :=
  if !s.compat then s else
  [4, 5, 6, 7].foldl (fun (s : State) (p : Nat) => s.modPll p (fun x => { x with sweep := some ⟨0, false, 0, s.now, none, true⟩ })) s

/-- R422: the domains that a state holds at RET and that were OFF. -/
def State.retLevels (s : State) (target : Nat) : State :=
  if target = 1 then
    [2, 3, 4].foldl (fun (s : State) (d : Nat) => if s.level d = 0 then s.setLevel d 1 else s) s
  else if s.level 7 = 0 && s.rd (F.PWR_DOM_REQ 7) = 2 then s.setLevel 7 1 else s

/-- R430: in READY the levels that REQ asks of the station domains take effect. -/
def State.wantReqs (s : State) : State :=
  let ds := ((List.range 24).map (· + 8)).filter (fun d => s.rd (F.PWR_DOM_REQ d) = 1 && s.level d != 2 && !s.pwr.wanted.any (fun x => x.1 = d))
  { s with pwr := { s.pwr with wanted := s.pwr.wanted ++ ds.map (fun d => (d, none)) } }

/-- R429, R432: no wake is lost: once a job has ended, the sources that are pending are judged (State.wakeJudged). -/
def State.judgeWakes (s : State) (done : Bool) : State := { s with pwr := { s.pwr with recheck := some done } }

/-- Every domain of the attempt is ON. -/
def State.jobDone (s : State) (j : PowerJob) : State :=
  let s := (s.setJob none).judgeWakes true
  match j.dom with
  | some d =>
    (s.powerLog s.pstate s.pstate 0 j.attempt 0 d 0 0).powerEnd j.ref 0 0 (powerResult s.pstate j.attempt 0 0 0 d)
  | none =>
    let s := (s.retLevels j.target).powerLog j.frm j.target 0 j.attempt 0 255 0 0
    if j.powerOn then (((((s.setPstate 2).bootSweeps).wr F.BOOT_STAT_STAGE 4).postWake j).wantReqs).bootIslands
    else
      let s := (s.postWake j).changePstate j.target j.attempt
      let s := if j.target = 2 then s.wantReqs else s
      s.powerEnd j.ref 0 0 (powerResult j.target j.attempt 0 0 0 255)

/-- R424: a domain's step is ready, and the next step or domain starts. -/
def State.stepDone (s : State) (j : PowerJob) : State :=
  match j.left with
  | [] => s.jobDone j
  | d :: rest =>
    if j.step < 4 then s.startStep j (nextStep d j.step)
    else
      let j := { j with left := rest, changed := j.changed ++ [(d, s.level d)] }
      let s := s.domUp d
      if rest = [] then s.jobDone j else s.startStep j 1

/-- R422: a step's own ready, as far as the device's registers show it; none is ready while the domain's rail is not ON, so
that a domain whose rail faults as it wakes stays OFF (R444). -/
def State.stepReady (s : State) (j : PowerJob) : Bool :=
  let d := j.left.headD 0
  (!s.on (F.PWR_DOM_RAIL_EN d) || s.railState (s.rd (F.PWR_DOM_RAIL d)) == 3) &&
  match j.step with
  | 2 => (d != 1 || [0, 1, 2, 3].all (fun p => s.pllState p == 4)) && (domOuts d).all s.outRuns
  | _ => true

def State.wakeStepReady (s : State) : State :=
  match s.pwr.job with
  | none => s
  | some j => if j.retryAt.isSome || j.left = [] || !s.stepReady j then s else s.stepDone j

def execWakeStepReady (s : State) : Out State Fault Refusal := .next (s.live s.wakeStepReady)

/-- R425: the refuser of a failed step. `stack` is the stack of PD_MEM that did not become ready. -/
def State.refuser (s : State) (j : PowerJob) (stack : Nat) : Nat × Nat :=
  let d := j.left.headD 0
  let first : Nat := [15, 1, 16, 11, 12, 8, 3, 5].getD d (if d < 16 then 7 else 6)
  match (if s.on (F.PWR_DOM_RAIL_EN d) && s.railState (s.rd (F.PWR_DOM_RAIL d)) != 3 then 1 else j.step) with
  | 1 => if s.on (F.PWR_DOM_RAIL_EN d) then (14, s.rd (F.PWR_DOM_RAIL d)) else (15, 0)
  | 2 => match (if d = 1 then [0, 1, 2, 3].find? (fun p => s.pllState p != 4) else none) with
    | some p => (7, p)
    | none => (7, 0x100 + ((domOuts d).find? (fun c => !s.outRuns c)).getD ((domOuts d).headD 0))
  | 3 => if d = 2 then (16, stack) else (first, 0)
  | _ => (first, 0)

/-- R427: every domain the attempt changed returns to its level, and so does the one in its chain. -/
def State.rollBack (s : State) (j : PowerJob) (keepHost : Bool) : State :=
  let d := j.left.headD 0
  let s := if s.on (F.PWR_DOM_RAIL_EN d) && s.level d = 0 then s.railOff (s.rd (F.PWR_DOM_RAIL d)) else s
  let s := if j.step ≥ 2 then s.switchOuts d false else s
  let s := if d = 1 && j.step ≥ 2 then [0, 1, 2, 3].foldl (fun (s : State) (p : Nat) => s.pllOff p) s else s
  j.changed.reverse.foldl (fun (s : State) (x : Nat × Nat) => if keepHost && x.1 = 1 then s else s.domDown x.1 x.2) s

/-- R461: the power-on wake settles. -/
def State.degrade (s : State) (j : PowerJob) (block inst : Nat) : State :=
  let s := (s.setJob none).rollBack j true
  let s := (List.range 6).foldl (fun (s : State) (k : Nat) => s.domDown (7 - k) 0) s
  let s := ((s.setPstate 1).wr F.BOOT_STAT_BLOCK block).wr F.BOOT_STAT_INST inst
  let s := (s.postWake j).post 1 0x9063 1 0 [(0, 1, block), (1, 2, inst), (3, 1, j.step)]
  s.hostSetup 2

/-- R427: an attempt is aborted; after the third the previous state stays. -/
def State.abortJob (s : State) (j : PowerJob) (stack : Nat) : State :=
  let (b, i) := s.refuser j stack
  let d := j.left.headD 0
  let dst := if j.dom.isSome then s.pstate else j.target
  let last := j.attempt ≥ 3
  let det := [(0, 1, dst), (1, 1, j.attempt), (2, 1, j.step), (3, 1, d), (4, 1, b), (5, 2, i)]
  let degraded := last && j.powerOn && d != 1
  let s := s.rollBack j degraded
  let s := if j.dom.isSome then s else s.inc (F.PWR_CNT_ABORTED dst)
  let s := s.powerLog (if j.dom.isSome then s.pstate else j.frm) dst (if last then 3 else 2) j.attempt j.step d b i
  let s := s.postVig 0 0x8011 15 0 det
  if !last then
    s.setJob (some { j with attempt := j.attempt + 1, retryAt := some (s.now + 1000000), left := j.all, changed := [], step := 0 })
  else
    let s := s.postVig 1 0x8012 15 0 det
    if degraded then s.degrade j b i
    else
      let s := (s.setJob none).judgeWakes false
      let s := if j.powerOn then { s with pwr := { s.pwr with wakeAgain := some (s.now + 1000000000) } } else s
      s.powerEnd j.ref 8 0 (powerResult s.pstate j.attempt b j.step i d)

/-- R424: the timeout of a step, in ns. -/
def State.stepTmo (s : State) (j : PowerJob) : Nat :=
  match j.step with
  | 1 => max 1 (s.rd F.PWR_TMO_REG_TMO) * 100000
  | 2 => s.rd F.PWR_TMO_OSC_TMO * 10000
  | 3 => if j.left.headD 0 = 2 then s.rd F.PWR_TMO_BAND_MEM_TMO_BAND * 1000000 else s.rd F.PWR_TMO_MEM_TMO * 1000000
  | _ => s.rd F.PWR_TMO_LOG_TMO * 1000

def State.wakeStepTimeout (s : State) (stack : Nat) : State :=
  match s.pwr.job with
  | none => s
  | some j => if j.retryAt.isSome || j.left = [] || s.now < j.stepAt + s.stepTmo j then s else s.abortJob j stack

def execWakeStepTimeout (stack : Fin 2) (s : State) : Out State Fault Refusal := .next (s.live (s.wakeStepTimeout stack))

/-- R427: 1 ms after an aborted attempt. -/
def State.wakeRetry (s : State) : State :=
  match s.pwr.job with
  | none => s
  | some j => match j.retryAt with
    | some t => if t ≤ s.now then s.startStep { j with retryAt := none } 1 else s
    | none => s

def execWakeRetry (s : State) : Out State Fault Refusal := .next (s.live s.wakeRetry)

/-- A change of state to DOZE or READY starts waking, in ascending order. -/
def State.startWake (s : State) (target : Nat) (powerOn : Bool) (ref : Option (Option Nat)) (cause : Option (Nat × Nat)) : State :=
  let ds := (List.range 8).filter (fun d => s.level d < (if d = 7 && s.rd (F.PWR_DOM_REQ 7) = 3 then 0
    else if d = 7 && s.rd (F.PWR_DOM_REQ 7) = 2 then 0 else stateLevel target d))
  let ds := if target = 1 then ds.filter (· = 1) else ds
  let s := { s with pwr := { s.pwr with firedIn := [], recheck := none } }
  let j : PowerJob := { target := target, frm := s.pstate, powerOn := powerOn, all := ds, left := ds, ref := ref, cause := cause }
  if ds = [] then s.jobDone j else s.startStep j 1

/-- R458: the Wake stage; in test mode the device goes no further than Rails. -/
def State.wakeStage (s : State) : State :=
  if s.rd F.GLB_MODE_MODE = 3 then s else (s.wr F.BOOT_STAT_STAGE 3).startWake 2 true none none

/-- R461: the power-on wake starts again, 1.0 s after PD_HOST has failed three attempts. -/
def State.powerOnAgain (s : State) : State :=
  match s.pwr.wakeAgain with
  | some t =>
    if t ≤ s.now && s.seqState != 5 && s.seqState != 6 then ({ s with pwr := { s.pwr with wakeAgain := none } }).startWake 2 true none none else s
  | none => s

def execPowerOnWakeRetry (s : State) : Out State Fault Refusal := .next (s.live s.powerOnAgain)

/-! ### Wake sources (R429, R432) -/

/-- R432: a pending source that is enabled; bits 7 and 8 always are. -/
def State.wakeBits (s : State) : List Nat :=
  (bitsOf 9 (s.rd F.VIG_WAKE_PEND_PEND)).filter (fun b => b = 7 || b = 8 || (s.rd F.VIG_WAKE_EN_WAKE_EN).testBit b)

/-- R432: the state that wakes lead to: 2 READY, else DOZE. -/
def State.wakeTarget (s : State) : Nat := if s.rd F.VIG_WAKE_EN_WAKE_TGT = 2 then 2 else 1

/-- R432: an enabled pending source, of those that `ok` admits, wakes the device; in PF_OFF, while rails shut down, and in a
restart until the sequencer is ON it does not (R452). -/
def State.tryWakeOf (s : State) (ok : Nat → Bool) : State :=
  if s.pwr.job.isSome || s.seqState = 5 || s.seqState = 6 || (s.seq.restarted && s.seqState = 1) || s.rd F.BOOT_STAT_STAGE < 4 then s else
  match s.wakeBits.filter ok with
  | [] => s
  | b :: _ =>
    let c := some (b, s.pwr.firedAt.getD b 0)
    if s.pstate = 0 then
      let s := if b = 8 then s else { s with pwr := { s.pwr with wakeN := true } }
      s.startWake s.wakeTarget false none c
    else if s.pstate = 1 && s.on F.VIG_WAKE_EN_DOZE_WAKE then s.startWake 2 false none c
    else s

def State.tryWake (s : State) : State := s.tryWakeOf (fun _ => true)

/-- R429, R432: the sources that are pending when a job ends act; after a failed wake, which leaves the device in its state
(R427), those that fired during it (log 158). -/
def State.wakeJudged (s : State) : State :=
  match s.pwr.recheck with
  | none => s
  | some done =>
    let fired := s.pwr.firedIn
    ({ s with pwr := { s.pwr with recheck := none, firedIn := [] } } : State).tryWakeOf (fun b => done || fired.contains b)

/-- R432: of sources that fire on one Vigil cycle the lowest enabled bit is the cause of the wake that has started. -/
def State.sameCycle (s : State) (b : Nat) : State :=
  match s.pwr.job with
  | some j => match j.cause with
    | some (c, v) => if v = s.time.vtime && b < c && s.wakeBits.contains b then s.setJob (some { j with cause := some (b, v) }) else s
    | none => s
  | none => s

/-- A source fires: its bit is set whether or not it is enabled. In PF_OFF with AUTO_RESTART = 0 an enabled one restarts the
sequencer (R452). -/
def State.fire (s : State) (b : Nat) : State :=
  let s := s.setW1c F.VIG_WAKE_PEND_PEND (2 ^ b)
  let s := ({ s with pwr := { s.pwr with
    firedAt := s.pwr.firedAt.set b s.time.vtime
    firedIn := if s.pwr.job.isSome then b :: s.pwr.firedIn else s.pwr.firedIn } } : State).sameCycle b
  if s.seqState = 6 then
    (if !s.on F.SEQ_CTL_AUTO_RESTART && s.restartDue && s.wakeBits.contains b then s.restart else s)
  else s.tryWake

/-- R432: VTIME reaches VIG_ALARM. -/
def State.alarm (s : State) : State :=
  let a := s.rd F.VIG_ALARM_LO_ALARM + s.rd F.VIG_ALARM_HI_ALARM * 4294967296
  if s.time.vtime < a then { s with pwr := { s.pwr with alarmed := false } }
  else if s.pwr.alarmed then s
  else ({ s with pwr := { s.pwr with alarmed := true } }).fire 4

def execVigAlarm (s : State) : Out State Fault Refusal := .next (s.live s.alarm)

/-! ### Orders of the host (R428, R430, R431) -/

/-- R429, R432: the refuser a wake source names. -/
def wakeRefuser (b : Nat) : Nat × Nat :=
  if b < 4 then (15, 0x100 + b) else if b = 5 then (15, 0x300) else if b = 6 then (14, 0x100) else if b = 8 then (1, 0) else (15, 0)

/-- R428: checks 2 to 6 of an entry to a lower state. -/
def State.entryRefuser (s : State) (target : Nat) : Option (Nat × Nat) :=
  if s.on F.GLB_STATE_ARMED then some (1, 0)
  else match (s.slotsWhere (fun x => x.st != .free)).head? with
  | some p => some (3, p)
  | none => match s.codec.jobs.head? with
    | some j => some (5, j.engines.headD 0)
    | none => match s.tbl.txns.find? (fun t => t.started) with
      | some t => some (4, dField (t.descs.headD 0) 8 1 % 8)
      | none => match (if target = 0 then (List.range 32).find? (fun q => (s.ring q).waiting != []) else none) with
        | some q => some (2, q)
        | none => match (if target = 0 || s.on F.VIG_WAKE_EN_DOZE_WAKE then s.wakeBits.head? else none) with
          | some b => some (wakeRefuser b)
          | none => none

/-- R428: an entry is refused: counted, logged and posted. -/
def State.refuseEntry (s : State) (target block inst : Nat) : State :=
  let s := (s.inc (F.PWR_CNT_REFUSED target)).powerLog s.pstate target 1 0 0 255 block inst
  s.post 0 0x8010 15 0 [(0, 1, target), (1, 1, block), (2, 2, inst)]

/-- What a power order gives: the state, and where it has ended its STATUS, DETAIL and RESULT. -/
inductive Ordered where
  | waits (s : State)
  | ends (s : State) (status det result : Nat)
  /-- An entry to VIGIL: answered before PD_HOST goes down (R429). -/
  | vigil (s : State) (result : Nat)

/-- R428: PWR_STATE, from a transaction part or PWR_CMD. -/
def State.powerOrder (s : State) (target : Nat) (ref : Option Nat) : Ordered :=
  if s.pwr.job.isSome || s.pwr.wanted != [] then
    .ends (s.refuseEntry target 15 0) 5 0 (powerResult s.pstate 0 15 0 0 255)
  else if target = s.pstate || (target = 2 && s.pstate = 3) then .ends s 0 0 (powerResult s.pstate 0 0 0 0 255)
  else if target < s.pstate then
    match s.entryRefuser target with
    | some (b, i) => .ends (s.refuseEntry target b i) 4 i (powerResult s.pstate 0 b 0 i 255)
    | none =>
      let s := s.powerLog s.pstate target 0 1 0 255 0 0
      if target = 0 then .vigil s (powerResult 0 1 0 0 0 255)
      else .ends ((s.domsDown (stateLevel 1)).changePstate 1 1) 0 0 (powerResult 1 1 0 0 0 255)
  else .waits (s.startWake target false (some ref) none)

/-- R429: the entry to VIGIL completes; a source latched since acts at once. -/
def State.enterVigil (s : State) : State :=
  ((s.noTier.domsDown (stateLevel 0)).changePstate 0 1).tryWake

/-- R436: PWR_CMD acts as PWR_STATE. -/
def State.powerCmd (s : State) (target : Nat) : State :=
  if s.on F.PWR_CMD_STAT_BUSY then s else
  match s.powerOrder target none with
  | .waits s' => s'.wr F.PWR_CMD_STAT_BUSY (b2n (s'.pwr.job.isSome))
  | .ends s' st _ _ => s'.wr F.PWR_CMD_STAT_STATUS st
  | .vigil s' _ => (s'.wr F.PWR_CMD_STAT_STATUS 0).enterVigil

def execPwrCmdVigil (s : State) : Out State Fault Refusal := .next (s.live (s.powerCmd 0))
def execPwrCmdDoze (s : State) : Out State Fault Refusal := .next (s.live (s.powerCmd 1))
def execPwrCmdReady (s : State) : Out State Fault Refusal := .next (s.live (s.powerCmd 2))

/-- R269: a station runs: SCAN_EN, or a slot in flight holds it in its mask. -/
def State.stationRuns (s : State) (st : Nat) : Bool :=
  s.on (F.ST_SCANCTL_SCAN_EN st) || s.alm.slots.any (fun x => x.st.inFlight && x.mask.testBit st)
    || (st < 4 && (s.slot (160 + st)).runsOn st)

/-- The station that a domain serves. -/
def State.domStation (s : State) (d : Nat) : Option Nat :=
  if d < 8 then none else if d < 16 then some (d - 8) else s.stationOf (d - 16)

/-- R430: a REQ is refused: 0 a level not allowed for the domain, 1 its station runs. -/
def State.reqRefused (s : State) (d req : Nat) : Option Nat :=
  if 8 ≤ d && req = 2 then some 0
  else
    let down := (s.wr (F.PWR_DOM_REQ d) req).wantLevel d < s.level d
    match s.domStation d with
    | some st => if down && s.stationRuns st then some 1 else none
    | none => none

/-- The next domain that waits is woken, where nothing else is in progress. -/
def State.startWanted (s : State) : State :=
  match s.pwr.job, s.pwr.wanted with
  | none, (d, r) :: rest =>
    let s := { s with pwr := { s.pwr with wanted := rest } }
    let j : PowerJob := { target := s.pstate, frm := s.pstate, dom := some d, all := [d], left := [d], ref := r.map some }
    if s.level d = 2 then s.jobDone j else s.startStep j 1
  | _, _ => s

/-- R430: a domain takes the level asked of it, in READY and RUN. -/
def State.applyReq (s : State) (d : Nat) (ref : Option Nat) : State × Bool :=
  if s.pstate < 2 then (s, false) else
  let w := s.wantLevel d
  if s.level d < w then
    let s := if w = 2 then { s with pwr := { s.pwr with wanted := s.pwr.wanted ++ [(d, ref)] } } else s.setLevel d w
    (s.startWanted, w = 2)
  else (s.domDown d w, false)

/-- R430: the active island's management of the AUTO domains of the stations. -/
def State.autoDomain (s : State) (d : Nat) : State :=
  if s.rd (F.PWR_DOM_REQ d) != 0 || s.pwr.wanted.any (fun x => x.1 = d) || (match s.pwr.job with | some j => j.left.contains d | none => false)
  then s else
  let w := s.wantLevel d
  if s.level d < w then (s.applyReq d none).1
  else if w < s.level d && !(match s.domStation d with | some st => s.stationRuns st | none => false) then s.domDown d w else s

/-- Work for PD_CODEC (R430). -/
def State.codecBusy (s : State) : Bool := s.codec.jobs != [] || (s.slotsWhere (fun x => x.st = .staging)) != []

/-- R430: PD_CODEC wakes when work arrives; how long it has had none. -/
def State.autoCodec (s : State) : State :=
  if s.codecBusy then
    let s := { s with pwr := { s.pwr with codecIdle := none } }
    if s.rd (F.PWR_DOM_REQ 7) = 0 && s.level 7 != 2 && !s.pwr.wanted.any (fun x => x.1 = 7)
        && !(match s.pwr.job with | some j => j.left.contains 7 | none => false) then
      ({ s with pwr := { s.pwr with wanted := s.pwr.wanted ++ [(7, none)] } }).startWanted else s
  else if s.pwr.codecIdle.isNone then { s with pwr := { s.pwr with codecIdle := some s.now } } else s

def State.autoDomains (s : State) : State :=
  if s.pstate < 2 || !s.islandServes then s
  else ((List.range 24).foldl (fun (s : State) (k : Nat) => s.autoDomain (8 + k)) s.autoCodec).startWanted

/-- R430: 100 ms with no codec job queued and no slot in STAGING. -/
def State.codecRest (s : State) : State :=
  match s.pwr.codecIdle with
  | some t =>
    if t + 100000000 ≤ s.now && !s.codecBusy && s.rd (F.PWR_DOM_REQ 7) = 0 && s.level 7 = 2 && 2 ≤ s.pstate && s.islandServes
    then s.domDown 7 1 else s
  | none => s

def execCodecRetentionTimer (s : State) : Out State Fault Refusal := .next (s.live s.codecRest)

/-- R430: PWR_DOMAIN as transaction part `ref`. -/
def State.powerDomain (s : State) (ref d req : Nat) : Applied :=
  match s.reqRefused d req with
  | some k => .fail 0 (if k = 0 then 4 else 5) d (powerResult s.pstate 0 0 0 0 d) id
  | none =>
    let (s', w) := (s.wr (F.PWR_DOM_REQ d) req).applyReq d (some ref)
    .done s' (b2n w) (if w then 0 else powerResult s.pstate 0 0 0 0 d)

/-- R430, R436: a write of PWR_DOM_d.REQ. -/
def State.reqWrite (s : State) (d req : Nat) : State :=
  if d < 7 then s else
  match s.reqRefused d req with
  | some k => s.post 0 0x8013 15 0 [(0, 1, d), (1, 1, req), (2, 1, k)]
  | none => ((s.wr (F.PWR_DOM_REQ d) req).applyReq d none).1

def execPwrDomReqWrite (d : Fin 32) (req : Fin 4) (s : State) : Out State Fault Refusal := .next (s.live (s.reqWrite d req))

/-! ### The ember loop (R434, R435) -/

/-- R434: the ember loop stops at the first zero-cross after PD_MOT's logic step; a zone that is not enabled, which no
decision of R387 drives, goes inactive then. -/
def State.emberStops (s : State) : State :=
  if !s.pwr.emberTail then s else
  (List.range 8).foldl (fun (s : State) (n : Nat) => if s.on (F.FZ_CFG_EN n) then s else s.fzOff n)
    { s with pwr := { s.pwr with emberTail := false } }

/-- Vigil's drive of the zone, held inactive by R451 and R528. -/
def State.emberDrive (s : State) (go : Bool) : State :=
  s.fzPulse (s.rd F.VIG_EMBER_CFG_ZONE) (go && !s.emberBarred && !(s.seqState == 5 && s.seq.domsDown))

/-- R434, R435: the sample of every 1 s, as a ratio in 1/65,536 of the supply. -/
def State.emberSample (s : State) (r : Nat) : State :=
  let due := match s.pwr.emberAt with | none => true | some t => decide (t + 1000000000 ≤ s.now)
  if !s.emberOn || !due then s else
  let ts := (betaTemp (s.rd (F.TH_CFG_BETA (s.rd F.VIG_EMBER_CFG_TH))) r :: s.pwr.emberTemps).take 4
  let t := roundHalf (sumI ts) ts.length
  let s := ({ s with pwr := { s.pwr with emberTemps := ts, emberAt := some s.now } }).wrS F.VIG_EMBER_STAT_TEMP t
  if (sensorBad r || decide (16 * (s.rd F.VIG_EMBER_CFG_EMBER_TMAX : Int) ≤ t)) && !s.on F.VIG_EMBER_STAT_CUT then
    let s := (s.fzOff (s.rd F.VIG_EMBER_CFG_ZONE)).wr F.VIG_EMBER_STAT_CUT 1
    (s.postVig 1 0x8031 15 0x300 [(0, 2, uBits 16 t), (2, 1, b2n (sensorBad r))]).fire 5
  else s

def execEmberSample (r : Nat) (s : State) : Out State Fault Refusal := .next (s.live (s.emberSample r))

/-- R434, R387: the ember zone's decision at a zero-cross. -/
def State.emberCross (s0 : State) (rising : Bool) : State :=
  let s := s0.zcEdge
  let ratio := if s.on F.VIG_EMBER_STAT_CUT || 16 * (s.rd F.VIG_EMBER_CFG_EMBER_SET : Int) ≤ s.rdS F.VIG_EMBER_STAT_TEMP then 0
    else s.rd F.VIG_EMBER_CFG_EMBER_RATIO * 512
  let full := s.on (F.FZ_CFG_FULLCYC (s.rd F.VIG_EMBER_CFG_ZONE))
  if full && !rising then s.emberDrive (s.pwr.emberRising && !s.on F.VIG_EMBER_STAT_CUT) else
  let acc := s.pwr.emberAcc + ratio
  let go := decide (32768 ≤ acc)
  ({ s with pwr := { s.pwr with emberAcc := if go then acc - 32768 else acc, emberRising := go } }).emberDrive go

/-- R435: a clear, accepted only 10 °C below EMBER_TMAX. -/
def State.emberClr (s : State) : State :=
  if s.rdS F.VIG_EMBER_STAT_TEMP < 16 * ((s.rd F.VIG_EMBER_CFG_EMBER_TMAX : Int) - 10) then s.wr F.VIG_EMBER_STAT_CUT 0 else s

def execEmberClr (s : State) : Out State Fault Refusal := .next (s.live s.emberClr)

/-! ### Junction temperature and supplies (R528, R536) -/

/-- R536: four readings in 1/16 °C. -/
def State.junction (s : State) (t : Fin 4 → Int) : State :=
  if !s.domOn 1 then s else
  let l := [t 0, t 1, t 2, t 3]
  let hi := maxI 0 l
  let k := (l.findIdx? (· = hi)).getD 0
  let s := s.wrS F.VIG_TJ_TJ hi
  let s := if s.rdS F.VIG_TJ_PEAK_PEAK < hi then s.wrS F.VIG_TJ_PEAK_PEAK hi else s
  let w : Int := 16 * s.rd F.VIG_TJ_TJ_WARN
  let d := [(0, 2, uBits 16 hi), (2, 1, k)]
  let s :=
    if w ≤ hi && !s.pwr.tjWarned then ({ s with pwr := { s.pwr with tjWarned := true } }).post 1 0x8070 15 0x400 d
    else if hi ≤ w - 80 then { s with pwr := { s.pwr with tjWarned := false } } else s
  if 2000 ≤ hi && !s.pwr.tjHot then ({ s with pwr := { s.pwr with tjHot := true } }).post 3 0x8071 15 0x400 d
  else { s with pwr := { s.pwr with tjHot := decide (2000 ≤ hi) } }

def execJunctionSample (t0 t1 t2 t3 : Int) (s : State) : Out State Fault Refusal :=
  .next (s.live (s.junction (fun k => [t0, t1, t2, t3].getD k.val 0)))

def execVigTjPeakClr (s : State) : Out State Fault Refusal := .next (s.live (s.wr F.VIG_TJ_PEAK_PEAK 0))

/-- R528: the supplies of the mask are below 90 % of their nominal value. The zone of the ember loop goes by VDD_IO33 and
VDD_IO18 alone, in DOZE as in VIGIL (log 159). -/
def State.supply (s : State) (low : Nat) : State :=
  let s := { s with pwr := { s.pwr with low := low % 16 } }
  if s.undervolt then
    let s := (s.linesCut.beamsOff.motHold.axHold).syncHvs
    (List.range 8).foldl (fun (s : State) (n : Nat) => if s.emberZone n && !s.emberBarred then s else s.fzOff n) s
  else
    let s := if s.emberBarred && s.emberOn then s.fzOff (s.rd F.VIG_EMBER_CFG_ZONE) else s
    if s.on F.GLB_STATE_HOLD then s.syncHvs else s.syncHvs.axRelease

def execSupplyUndervoltage (low : Fin 16) (s : State) : Out State Fault Refusal := .next (s.live (s.supply low))

end Sys2Proof.Machine
end

