-- ==== Sys2Proof/Machine/Seq.lean ====
section
/-! DEFINITION. Rail sequencing, PMBus and the power-fail warning (chapter 17), and the wake sources' pins (R432). -/

namespace Sys2Proof.Machine

open Sys2Proof

/-! ### Requests (R441–R443) -/

/-- An on request is latched. -/
def State.seqPend (s : State) (cause : Nat) : State :=
  { s.wr F.SEQ_STAT_PEND_ON 1 with seq := { s.seq with pendCause := cause } }

/-- R443: PFI has tripped on the present Vigil cycle: requests of it are discarded. -/
def State.tripNow (s : State) : Bool := s.seq.tripCycle == some s.time.vtime

/-- R441–R443: an on request. -/
def State.onReq (s : State) (cause : Nat) : State :=
  if s.tripNow then s else
  let s := { s with seq := { s.seq with onAt := some (s.time.vtime, cause) } }
  match s.seqState with
  | 0 =>
    if s.seqMayStart && s.seq.offAt.all (fun x => x.1 != s.time.vtime) then
      ({ s with seq := { s.seq with upFrom := some (s.time.vtime, s.seq.stateAt) } } : State).seqStart cause
    else s.seqPend cause
  | 1 => if s.seq.off.isSome then s.seqPend cause else s
  | 2 => if s.seq.cascAt.isSome then s.seqPend cause else s
  | 3 => s.seqPend cause
  | _ => s

/-- R442: the programme rail of highest index that DOWN has still to release. A rail in FAULT with EN asserted is
released and stays in FAULT. -/
def State.highestOn (s : State) : Option Nat :=
  s.programme.reverse.find? (fun k => (s.rail k).on || (s.railState k != 0 && s.railState k != 4))

/-- R442: the last programme rail has been released. -/
def State.seqDowned (s : State) (cause : Nat) : State :=
  let abort (s : State) : State :=
    s.seq.ups.foldl (fun (s : State) (r : Option Nat) => s.seqEnd r 4 (s.seqResult ((s.programme.find? (fun k => s.railState k == 4)).getD 255) 0 0))
      { s with seq := { s.seq with ups := [] } }
  if s.programme.any (fun k => s.railState k == 4) then abort ((s.wr F.SEQ_STAT_PEND_ON 0).setSeq 4 cause)
  else
    let s := s.setSeq 0 cause
    (if s.on F.SEQ_STAT_PEND_ON then s else abort s).seqTry

/-- R442: DOWN begins: SEQ_DOWNs complete before any rail is released (R454). -/
def State.goDown (s : State) (cause : Nat) : State :=
  let s := { s with seq := { s.seq with relAt := s.now, relWait := none, off := none, topAt := none, cascAt := none, downCause := cause } }
  let s := (s.wr F.SEQ_STAT_SEQ_OUT 0).setSeq 3 cause
  let ds := s.seq.downs
  let s := ds.foldl (fun (s : State) (r : Option Nat) => s.seqEnd r 0 (s.seqResult 255 0 0)) { s with seq := { s.seq with downs := [] } }
  if s.highestOn.isNone then s.seqDowned cause else s

/-- R443: an on request of the Vigil cycle of an off request is latched. -/
def State.pendSame (s : State) : State :=
  match s.seq.onAt with
  | some (t, c) => if t = s.time.vtime then s.seqPend c else s
  | none => s

/-- R443: an on request that has taken the sequencer from OFF to UP on the present Vigil cycle is undone. -/
def State.undoOn (s : State) (cause : Nat) : State :=
  match s.seq.upFrom with
  | some (t, at0) =>
    if s.seqState = 1 && t = s.time.vtime then
      let s := ((s.programme.foldl State.railOff s).wr F.SEQ_STAT_SEQ_OUT 0).setSeq 0 cause
      { s with seq := { s.seq with stateAt := at0, upFrom := none, off := none, topAt := none } }
    else s
  | none => s

/-- R441–R443: an off request. -/
def State.offReq (s0 : State) (cause : Nat) : State :=
  if s0.tripNow then s0 else
  let s := { s0 with seq := { s0.seq with offAt := some (s0.time.vtime, s0.seqState) } }
  match s.seqState with
  | 1 =>
    let s := s.pendSame
    if s.seq.upFrom.any (fun x => x.1 = s.time.vtime) then s.undoOn cause
    else if s.programme.any (fun k => s.railState k == 2) then { s with seq := { s.seq with off := some (s.seq.off.getD cause) } }
    else s.goDown cause
  | 2 =>
    if s.seq.cascAt.isSome then s else
    let s := s.pendSame.wr F.SEQ_STAT_SEQ_OUT 0
    if s.rd F.SEQ_CASC_CASC_WAIT = 0 then s.goDown cause
    else { s with seq := { s.seq with cascAt := some (s.now, cause) } }
  | _ => s

/-! ### Rail events (R440, R442, R444) -/

/-- R440, R442: a rail reaches ON. -/
def State.railOn (s : State) (k : Nat) : State :=
  let s := (s.wr (F.SEQ_RAIL_STAT_RAMP_T k) (min 65535 ((s.now - (s.rail k).since) / 100000))).setRail k 3
  let s := (s.modRail k (fun r => { r with lost := false, badPolls := 0 })).endRailWaits k 0
  if s.railOwner k != 1 || s.seqState != 1 then s else
  match s.seq.off with
  | some c => s.goDown c
  | none => match s.programme.find? (fun j => k < j) with
    | some j => s.railStart j
    | none => { s with seq := { s.seq with topAt := some s.now } }

/-- R440: a rail in RAMP whose PG pin is qualified is ON. -/
def State.rampPg (s : State) (k : Nat) : State :=
  if s.railState k = 2 && !s.on (F.SEQ_RAIL_CFG_PG_SRC k) && (s.rd F.SEQ_PG_MAP_PG).testBit k then s.railOn k else s

/-- R440: ON_DLY has elapsed: RAMP entered. -/
def State.railOnDelay (s : State) (k : Nat) : State :=
  if s.railState k = 1 && decide ((s.rail k).since + vigNs (100000 * s.rd (F.SEQ_RAIL_CFG_ON_DLY k)) ≤ s.now) then
    (((s.switchRail k true).modRail k (fun r => { r with since := s.now })).setRail k 2).rampPg k
  else s

def execRailOnDelay (k : Fin 24) (s : State) : Out State Fault Refusal := .next (s.live (s.railOnDelay k))

/-- PG_TMO in ns; 0 acts as 1. -/
def State.pgTmo (s : State) (k : Nat) : Nat := vigNs (max 1 (s.rd (F.SEQ_RAIL_CFG_PG_TMO k)) * 1000000)

/-- R442: a rail has entered FAULT. -/
def State.railFaulted (s : State) (k : Nat) : State :=
  let s := (s.setRail k 4).endRailWaits k 8
  if s.seqState = 1 then s.goDown (s.seq.off.getD 5) else s

/-- R440: no PG within PG_TMO of EN. -/
def State.railTimeout (s : State) (k : Nat) : State :=
  if s.railState k != 2 || s.railOwner k == 2 || !decide ((s.rail k).since + s.pgTmo k ≤ s.now) then s else
  let s := (s.switchRail k false).postVig 1 0x8051 14 k
    [(0, 1, b2n (s.on (F.SEQ_RAIL_CFG_PG_SRC k))), (1, 1, s.railOwner k)]
  s.railFaulted k

def execRailTimeout (k : Fin 24) (s : State) : Out State Fault Refusal := .next (s.live (s.railTimeout k))

/-- R448: PM_ALERT_N asserts on a rail fault or a CML error in the slave role. -/
def State.pmAlert (s : State) : State :=
  if s.rd F.PMB_CFG_ROLE = 2 then { s with seq := { s.seq with alert := true } } else s

/-- R444: 0x8050, counted. -/
def State.postRailFault (s : State) (k sev : Nat) : State :=
  let pmb := s.on (F.SEQ_RAIL_CFG_PG_SRC k)
  let s := ({ (s.inc F.SEQ_COUNT_RAIL_FAULTS) with seq := { s.seq with railFault := true } }).pmAlert
  s.postVig sev 0x8050 14 k [(0, 1, b2n pmb), (1, 2, if pmb then (s.rail k).status else 0)]

/-- R444: a rail that is ON has lost PG. -/
def State.pgLost (s : State) (k : Nat) : State :=
  if s.railState k != 3 then s else
  let s := (s.setPg k false).modRail k (fun r => { r with lost := true })
  match s.railDomain k, s.railOwner k with
  | some d, 2 =>
    let s := (s.railFaulted k).postRailFault k 3
    s.domDown d 0
  | _, own =>
    match s.rd (F.SEQ_RAIL_CFG_FAULT_ACT k) with
    | 0 =>
      let due := match (s.rail k).warnAt with | none => true | some t => decide (t + 1000000000 ≤ s.now)
      if due then (s.modRail k (fun r => { r with warnAt := some s.now })).postRailFault k 1 else s
    | 1 => (s.postRailFault k 3).railFaulted k
    | _ =>
      let s := s.postRailFault k 3
      if own = 1 then (s.railFaulted k).offReq 5 else (s.switchRail k false).railFaulted k

/-- R440, R442: the PG pin of a rail has a qualified level, read under PG_POL (R438). A rail that is ON and loses PG acts under
R444. -/
def State.railPg (s : State) (k : Nat) (level : Bool) : State :=
  let s := s.modRail k (fun r => { r with pin := level })
  let good := level != s.on (F.SEQ_RAIL_CFG_PG_POL k)
  if s.on (F.SEQ_RAIL_CFG_PG_SRC k) then s
  else if good then
    let s := s.setPg k true
    if s.railState k = 2 then s.railOn k
    else if s.railState k = 3 then s.modRail k (fun r => { r with lost := false }) else s
  else if s.railState k = 3 then s.pgLost k
  else
    let s := s.setPg k false
    match s.seq.relWait with
    | some (j, _) => if j = k then { s with seq := { s.seq with relWait := none, relAt := s.now } } else s
    | none => s

def execRailPg (k : Fin 24) (level : Bool) (s : State) : Out State Fault Refusal := .next (s.live (s.railPg k level))

/-- R444: the PG pin of a rail that is ON is qualified inactive. -/
def State.railLost (s : State) (k : Nat) : State :=
  let s := s.modRail k (fun r => { r with pin := s.on (F.SEQ_RAIL_CFG_PG_POL k) })
  if s.on (F.SEQ_RAIL_CFG_PG_SRC k) then s else s.pgLost k

def execRailFault (k : Fin 24) (s : State) : Out State Fault Refusal := .next (s.live (s.railLost k))

/-- R441, R446: a qualified edge of SEQ_IN. -/
def State.seqInEdge (s : State) (rise : Bool) : State :=
  let s := s.wr F.SEQ_STAT_SEQ_IN (b2n rise)
  if !s.on F.SEQ_CTL_CASC_IN then s
  else if rise then s.onReq 2 else s.offReq 2

def execSeqInEdge (rise : Bool) (s : State) : Out State Fault Refusal := .next (s.live (s.seqInEdge rise))

/-- R442, R452, R458: SEQ_OUT is asserted and the sequencer is ON; a boot goes on to its Wake stage, a restart wakes. -/
def State.seqOutAssert (s : State) : State :=
  match s.seq.topAt with
  | none => s
  | some t =>
    if s.seqState != 1 || !decide (t + vigNs (s.rd F.SEQ_CASC_OUT_DLY * 100000) ≤ s.now) then s else
    let s := ({ s with seq := { s.seq with topAt := none } }).wr F.SEQ_STAT_SEQ_OUT 1
    let s := s.setSeq 2 s.seq.pendCause
    let ws := s.seq.ups
    let s := ws.foldl (fun (s : State) (r : Option Nat) => s.seqEnd r 0 (s.seqResult 255 0 0)) { s with seq := { s.seq with ups := [] } }
    if s.rd F.BOOT_STAT_STAGE = 2 then s.wakeStage
    else if s.seq.restarted then
      ({ s with seq := { s.seq with restarted := false } }).startWake s.wakeTarget false none (some (7, s.pwr.firedAt.getD 7 0))
    else s

def execSeqOutAssert (s : State) : Out State Fault Refusal := .next (s.live s.seqOutAssert)

/-- R442: CASC_WAIT after SEQ_OUT is released. -/
def State.cascExpiry (s : State) : State :=
  match s.seq.cascAt with
  | some (t, c) =>
    if s.seqState = 2 && decide (t + vigNs (s.rd F.SEQ_CASC_CASC_WAIT * 1000000) ≤ s.now) then s.goDown c else s
  | none => s

def execCascWaitExpiry (s : State) : Out State Fault Refusal := .next (s.live s.cascExpiry)

/-- R442: a rail is released in DOWN; the next counts from its PG's fall, or from its PG_TMO. -/
def State.downRelease (s : State) (k : Nat) : State :=
  let pg := (s.rd F.SEQ_PG_MAP_PG).testBit k
  let s := s.railOff k
  let s := { s with seq := { s.seq with relAt := s.now, relWait := if pg then some (k, s.now + s.pgTmo k) else none } }
  if s.highestOn.isNone then s.seqDowned s.seq.downCause else s

def State.railRelease (s : State) : State :=
  if s.seqState != 3 then s else
  let from? := match s.seq.relWait with
    | some (_, t) => if t ≤ s.now then some t else none
    | none => some s.seq.relAt
  match from?, s.highestOn with
  | some t, some k =>
    if t + vigNs (s.rd (F.SEQ_RAIL_CFG_OFF_DLY k) * 100000) ≤ s.now then s.downRelease k else s
  | _, _ => s

def execRailReleaseStep (s : State) : Out State Fault Refusal := .next (s.live s.railRelease)

def execMinOffExpiry (s : State) : Out State Fault Refusal := .next (s.live s.seqTry)

/-- R442, R443: a pending on request is acted on as soon as OFF allows it, from the Vigil cycle after its own on. -/
def State.pendTick (s : State) : State :=
  if s.seq.onAt.any (fun x => x.1 = s.time.vtime) then s else s.seqTry

/-- R438, R440: after a commit has read PG pins again, a rail in RAMP whose PG is good is ON. -/
def State.pgJudged (s : State) : State :=
  if s.seq.pgDue then (List.range 24).foldl State.rampPg { s with seq := { s.seq with pgDue := false } } else s

/-! ### Power fail (R449–R453) -/

/-- R451: the shutdown begins: beams OFF, frame stop, the duties in use start to fall. -/
def State.powerFail (s : State) (en : Nat) : State :=
  let duties := (List.range 24).map (fun n => s.rd (F.HV_STAT_DUTY n))
  let s := { s with seq := { s.seq with tripAt := s.now, back := false, domsDown := false, duties := duties } }
  (s.linesCut.beamsOff.setSeq 5 5).postVig 3 0x8040 14 0x101 [(0, 3, en)]

/-- R443: the off request of a trip's Vigil cycle is discarded: what it has begun is undone, where no rail has been released
yet. -/
def State.undoOff (s : State) : State :=
  match s.seq.offAt with
  | some (t, x) =>
    if t != s.time.vtime || s.tripNow then s
    else if s.seqState = x then
      if x = 2 && s.seq.cascAt.isSome then
        ({ s with seq := { s.seq with cascAt := none } } : State).wr F.SEQ_STAT_SEQ_OUT 1
      else if x = 1 then { s with seq := { s.seq with off := none } } else s
    else if s.seqState = 3 && (x = 1 || x = 2) then
      (if x = 2 then s.wr F.SEQ_STAT_SEQ_OUT 1 else s).setSeq x 5
    else s
  | none => s

/-- R443: a trip discards the requests of its Vigil cycle; a SEQ_UP that has asked for one ends REFUSED (log 160). -/
def State.tripDiscards (s : State) : State :=
  let s := s.undoOff
  let s := if s.seq.onAt.any (fun x => x.1 = s.time.vtime) then
      let s := (s.undoOn 5).wr F.SEQ_STAT_PEND_ON 0
      s.seq.ups.foldl (fun (s : State) (r : Option Nat) => s.seqEnd r 4 (s.seqResult 255 0 0)) { s with seq := { s.seq with ups := [] } }
    else s
  { s with seq := { s.seq with tripCycle := some s.time.vtime } }

/-- R449, R451: a filtered fall of PFI. -/
def State.pfiTrip (s : State) : State :=
  if !s.on F.SEQ_STAT_PFI_GOOD then s else
  let s := (({ s.wr F.SEQ_STAT_PFI_GOOD 0 with seq := { s.seq with pfw := true } } : State).inc F.SEQ_COUNT_PF_TRIPS).tripDiscards
  let en := s.rd F.SEQ_EN_MAP_EN
  if s.seqState = 5 || s.seqState = 6 then s
  else if s.on F.SEQ_CTL_PF_EN then s.powerFail en
  else s.postVig 1 0x8040 14 0x101 [(0, 3, en)]

def execPfiTrip (s : State) : Out State Fault Refusal := .next (s.live s.pfiTrip)

/-- R451: the highest rail to release in SHUTDOWN, whatever its owner. -/
def State.shutNext (s : State) : Option Nat :=
  (List.range 24).reverse.find? (fun k => (s.rail k).on || s.railState k == 1 || s.railState k == 2 || s.railState k == 3)

/-- R442, R451: the last rail is released: the device is in VIGIL, ARMED = 0 (R279). -/
def State.pfOff (s : State) : State :=
  let s := if s.pstate = 0 then s else s.powerLog s.pstate 0 0 1 0 255 0 0
  let s := ((s.wr F.GLB_STATE_ARMED 0).wr F.GLB_STATE_HOLD 1).wantOcts.noTier.changePstate 0 1
  ({ s with seq := { s.seq with endAt := s.now } }).setSeq 6 5

/-- R451: 2.0 ms after the trip. -/
def State.shutDomains (s : State) : State :=
  if s.seqState != 5 || s.seq.domsDown || !decide (s.seq.tripAt + 2000000 ≤ s.now) then s else
  let s := { s with
    seq := { s.seq with domsDown := true, relAt := s.seq.tripAt + 2200000 }
    pwr := { s.pwr with wanted := [], emberAcc := 0, emberRising := false } }
  let s := (((s.setJob none).fzsOff).wr F.PWR_CMD_STAT_BUSY 0).domsDown (stateLevel 0)
  if s.shutNext.isNone then s.pfOff else s

def execShutdownDomainsDown (s : State) : Out State Fault Refusal := .next (s.live s.shutDomains)

/-- R451: a release step. A step with OFF_DLY 0 takes one Vigil cycle. -/
def State.shutRelease (s : State) : State :=
  if s.seqState != 5 || !s.seq.domsDown then s else
  match s.shutNext with
  | none => s.pfOff
  | some k =>
    if !decide (s.seq.relAt + max (vigNs 1) (vigNs (s.rd (F.SEQ_RAIL_CFG_OFF_DLY k) * 100000)) ≤ s.now) then s else
    let s := { s.railOff k with seq := { (s.railOff k).seq with relAt := s.now } }
    if s.shutNext.isNone then s.pfOff else s

def execShutdownRailRelease (s : State) : Out State Fault Refusal := .next (s.live s.shutRelease)

/-- R449: PFI rises above 1.250 V. -/
def State.pfiGood (s : State) : State :=
  if s.on F.SEQ_STAT_PFI_GOOD then s else
  let s := s.wr F.SEQ_STAT_PFI_GOOD 1
  ({ s with seq := { s.seq with goodAt := s.now, back := s.seq.back || s.seqState == 5 } }).seqTry

def execPfiGood (s : State) : Out State Fault Refusal := .next (s.live s.pfiGood)

/-- R449: PFW_N is released. -/
def State.pfwRelease (s : State) : State :=
  if s.seqState != 5 && s.on F.SEQ_STAT_PFI_GOOD && decide (s.seq.goodAt + 1000000 ≤ s.now) then
    { s with seq := { s.seq with pfw := false } } else s

def execPfwRelease (s : State) : Out State Fault Refusal := .next (s.live s.pfwRelease)

/-- R452: the restart. -/
def execRestart (s : State) : Out State Fault Refusal :=
  .next (s.live (if s.restartDue && s.on F.SEQ_CTL_AUTO_RESTART then s.restart else s))

/-- R453: Vigil resets and nothing is kept: the next start is a power-on reset. -/
def execVigBrownout (s : State) : Out State Fault Refusal := .next { State.reset with pending := s.pending }

/-! ### PMBus, master role (R447) -/

/-- STATUS_WORD of a rail is read. -/
def State.addPoll (s : State) (k : Nat) : State :=
  (s.modRail k (fun r => { r with polledAt := some s.now })).addXfer
    ⟨s.rd (F.SEQ_RAIL_PMB_ADDR k), some (s.rd (F.SEQ_RAIL_PMB_PAGE k)), 0x79, 4, 0, some k, none, 0⟩

/-- The rails whose PG is polled: PG_SRC = 1, in RAMP or ON, in the master role. -/
def State.polled (s : State) : List Nat :=
  if s.rd F.PMB_CFG_ROLE != 1 then [] else
  (List.range 24).filter (fun k => s.on (F.SEQ_RAIL_CFG_PG_SRC k) && (s.railState k == 2 || s.railState k == 3))

def State.pmbusPoll (s : State) : State :=
  (s.polled.filter (fun k => match (s.rail k).polledAt with
    | none => true
    | some t => decide (t + max 1 (s.rd F.PMB_CFG_POLL) * 1000000 ≤ s.now))).foldl (fun (s : State) (k : Nat) => s.addPoll k) s

def execPmbusPoll (s : State) : Out State Fault Refusal := .next (s.live s.pmbusPoll)

/-- R444, R447: the result of a poll; `none` for one that failed after its retries. -/
def State.pollResult (s : State) (k : Nat) (w : Option Nat) : State :=
  let good := match w with | some x => !x.testBit 11 && !x.testBit 6 | none => false
  let s := match w with | some x => s.modRail k (fun r => { r with status := x }) | none => s
  if s.railState k = 2 then (if good then (s.setPg k true).railOn k else s.setPg k false)
  else if s.railState k = 3 then
    if good then (s.setPg k true).modRail k (fun r => { r with badPolls := 0, lost := false })
    else
      let s := s.modRail k (fun r => { r with badPolls := r.badPolls + 1 })
      if 2 ≤ (s.rail k).badPolls then s.pgLost k else s
  else s.setPg k good

/-- R447: the transfer on the bus ends: 0 well, else 1 NACK, 2 PEC, which only PEC = 1 checks, 3 timeout, 4 arbitration. In
SHUTDOWN the OPERATION 0x00 writes that wait go ahead of a retry. -/
def State.xferEnd (s : State) (code data : Nat) : State :=
  let fail := if code = 2 && !s.on F.PMB_CFG_PEC then 0 else code
  match s.seq.xfers with
  | [] => s
  | x :: rest =>
    let pop (s : State) : State := ({ s with seq := { s.seq with xfers := rest } }).pmBusy
    if fail = 0 then
      let s := pop s
      let s := match x.ref with
        | some r => s.partDone r 0 0 (s.seqResult 255 (if 3 ≤ x.kind then data else 0) 0)
        | none => s
      match x.rail with
      | some k => if x.cmd = 0x79 then s.pollResult k (some data) else s
      | none => s
    else
      let s := (s.inc F.PMB_STAT_ERRORS).postVig 1 0x8060 14 0x100 [(0, 1, x.addr), (1, 1, x.cmd), (2, 1, fail)]
      if x.tries < s.rd F.PMB_CFG_RETRIES then
        let x := { x with tries := x.tries + 1 }
        let l := if s.seqState = 5 && !x.isOff then rest.filter PmXfer.isOff ++ [x] ++ rest.filter (fun y => !y.isOff) else x :: rest
        { s with seq := { s.seq with xfers := l } }
      else
        let s := pop s
        let s := match x.ref with
          | some r => s.partDone r 4 0 (s.seqResult 255 0 fail)
          | none => s
        match x.rail with
        | some k => if x.cmd = 0x79 then s.pollResult k none else s
        | none => s

def execPmbusTransferComplete (fail : Fin 5) (data : BitVec 16) (s : State) : Out State Fault Refusal :=
  .next (s.live (s.xferEnd fail data.toNat))

/-! ### PMBus, slave role (R448) -/

/-- The device answers a transfer in the slave role; an access that R448 does not list is refused with NACK and sets
CML. -/
def State.slave (s : State) (listed : Bool) (f : State → State) : State :=
  if s.rd F.PMB_CFG_ROLE != 2 then s
  else if listed then f s
  else ({ s with seq := { s.seq with cml := true, reply := none } }).pmAlert

def State.answer (s : State) (v : Nat) : State := { s with seq := { s.seq with reply := some v } }

/-- R448: STATUS_BYTE. -/
def State.statusByte (s : State) : Nat := (if s.seqState = 2 then 0 else 64) + 2 * b2n s.seq.cml + b2n s.seq.railFault

/-- R448: OPERATION: a value written, or none for a read. -/
def State.operation (s : State) (w : Option Nat) : State :=
  match w with
  | none => s.slave true (fun s => s.answer (if s.seqState = 2 then 0x80 else 0))
  | some v => s.slave (v = 0x80 || v = 0 || v = 0x40) (fun s => if v = 0x80 then s.onReq 1 else s.offReq 1)

def execOperation (w : Option (BitVec 8)) (s : State) : Out State Fault Refusal := .next (s.live (s.operation (w.map (·.toNat))))

def State.clearFaults (s : State) : State := { s with seq := { s.seq with cml := false, railFault := false, alert := false } }

def execClearFaults (listed : Bool) (s : State) : Out State Fault Refusal := .next (s.live (s.slave listed State.clearFaults))

def execStatusByte (listed : Bool) (s : State) : Out State Fault Refusal := .next (s.live (s.slave listed (fun s => s.answer s.statusByte)))

def execStatusWord (listed : Bool) (s : State) : Out State Fault Refusal :=
  .next (s.live (s.slave listed (fun s =>
    s.answer (s.statusByte + (if s.seqState = 2 then 0 else 2048) + (if s.seq.railFault then 4096 else 0)))))

def execMfrPgLo (listed : Bool) (s : State) : Out State Fault Refusal :=
  .next (s.live (s.slave listed (fun s => s.answer (s.rd F.SEQ_PG_MAP_PG % 65536))))

def execMfrPgHi (listed : Bool) (s : State) : Out State Fault Refusal :=
  .next (s.live (s.slave listed (fun s => s.answer (s.rd F.SEQ_PG_MAP_PG / 65536))))

/-- R448: the Alert Response Address, answered while PM_ALERT_N is driven low. -/
def execAlertResponse (s : State) : Out State Fault Refusal :=
  .next (s.live (s.slave true (fun s => if s.seq.alert then s.answer (s.rd F.PMB_CFG_SLV_ADDR) else s)))

/-! ### Commands (R454) -/

/-- A command has ended with a STATUS and RESULT, or waits. -/
abbrev SeqAns := State × Option (Nat × Nat)

/-- 0x58 SEQ_UP. -/
def State.seqUp (s : State) (ref : Option Nat) : SeqAns :=
  if s.seqState = 4 || s.seqState = 5 || s.seqState = 6 then (s, some (5, s.seqResult 255 0 0))
  else
    let s := s.onReq 0
    if s.seqState = 2 && s.seq.cascAt.isNone then (s, some (0, s.seqResult 255 0 0))
    else ({ s with seq := { s.seq with ups := s.seq.ups ++ [ref] } }, none)

/-- 0x59 SEQ_DOWN. -/
def State.seqDown (s : State) (ref : Option Nat) : SeqAns :=
  if s.on F.GLB_STATE_ARMED || (List.range 24).any (fun k => s.railOwner k == 2 && s.railState k != 0) then
    (s, some (5, s.seqResult 255 0 0))
  else
    let was := s.seqState
    let s := s.offReq 0
    if was = 1 && s.seqState = 1 || was = 2 && s.seqState = 2 then
      ({ s with seq := { s.seq with downs := s.seq.downs ++ [ref] } }, none)
    else (s, some (0, s.seqResult 255 0 0))

/-- 0x5A RAIL_SET. -/
def State.railSet (s : State) (k : Nat) (on : Bool) (ref : Option Nat) : SeqAns :=
  if s.railOwner k != 0 then (s, some (5, s.seqResult k 0 0))
  else if !on then
    let s := (s.endRailWaits k 4).railOff k
    (s, some (0, s.seqResult k 0 0))
  else match s.railState k with
    | 3 => (s, some (0, s.seqResult k 0 0))
    | 4 => (s, some (8, s.seqResult k 0 0))
    | _ => ((s.modRail k (fun r => { r with waits := r.waits ++ [ref] })).railStart k, none)

/-- 0x5B RAIL_CLEAR. -/
def State.railClear (s : State) (k : Nat) : SeqAns :=
  if s.railState k != 4 then (s, some (5, s.seqResult k 0 0)) else
  let s := (s.setRail k 0).modRail k (fun r => { r with lost := false, badPolls := 0, warnAt := none })
  let s := if s.seqState = 4 && !s.programme.any (fun j => s.railState j == 4) then s.setSeq 0 0 else s
  (s, some (0, s.seqResult k 0 0))

/-- 0x5C PMB_XFER. -/
def State.pmbXfer (s : State) (addr cmd kind data : Nat) (ref : Nat) : SeqAns :=
  if s.rd F.PMB_CFG_ROLE != 1 then (s, some (5, s.seqResult 255 0 0))
  else (s.addXfer ⟨addr, none, cmd, kind, data, none, some ref, 0⟩, none)

/-- What a ring transaction gives for a command's answer. -/
def SeqAns.applied (a : SeqAns) : Applied :=
  match a.2 with
  | none => .done a.1 1 0
  | some (0, r) => .done a.1 0 r
  | some (st, r) => .fail 0 st 0 r id

/-- R454: a transaction of 0x58–0x5C as part `ref`. -/
def State.applySeq (s : State) (ref : Nat) (ds : List Desc) : Applied :=
  let d := ds.headD 0
  let b (i : Nat) : Nat := dField d i 1
  if ds.length ≠ 1 ∨ dCount d ≠ 0 ∨ !dZero d 16 63 then .fail 0 1 0 0 id else
  match dOpcode d with
  | 0x58 => if !dZero d 8 15 then .fail 0 1 0 0 id else (s.seqUp (some ref)).applied
  | 0x59 => if !dZero d 8 15 then .fail 0 1 0 0 id else (s.seqDown (some ref)).applied
  | 0x5A => if 23 < b 8 ∨ 1 < b 9 ∨ !dZero d 10 15 then .fail 0 1 0 0 id else (s.railSet (b 8) (b 9 = 1) (some ref)).applied
  | 0x5B => if 23 < b 8 ∨ !dZero d 9 15 then .fail 0 1 0 0 id else (s.railClear (b 8)).applied
  | _ =>
    if 127 < b 8 ∨ 4 < b 10 ∨ b 11 ≠ 0 ∨ !dZero d 14 15 then .fail 0 1 0 0 id
    else (s.pmbXfer (b 8) (b 9) (b 10) (dField d 12 2) ref).applied

/-- R454: SEQ_CMD acts as the opcodes; a command while one is under way is ignored. -/
def State.seqCmd (s : State) (f : State → SeqAns) : State :=
  if s.on F.SEQ_CMD_STAT_BUSY then s else
  match f (s.wr F.SEQ_CMD_STAT_BUSY 1) with
  | (s', some (st, _)) => (s'.wr F.SEQ_CMD_STAT_BUSY 0).wr F.SEQ_CMD_STAT_STATUS st
  | (s', none) => s'

def execSeqCmdUp (s : State) : Out State Fault Refusal := .next (s.live (s.seqCmd (fun s => s.seqUp none)))
def execSeqCmdDown (s : State) : Out State Fault Refusal := .next (s.live (s.seqCmd (fun s => s.seqDown none)))

def execSeqCmdRailOn (k : Fin 32) (s : State) : Out State Fault Refusal :=
  .next (s.live (s.seqCmd (fun s => if 23 < k.val then (s, some (1, 0)) else s.railSet k true none)))

def execSeqCmdRailOff (k : Fin 32) (s : State) : Out State Fault Refusal :=
  .next (s.live (s.seqCmd (fun s => if 23 < k.val then (s, some (1, 0)) else s.railSet k false none)))

def execSeqCmdRailClear (k : Fin 32) (s : State) : Out State Fault Refusal :=
  .next (s.live (s.seqCmd (fun s => if 23 < k.val then (s, some (1, 0)) else s.railClear k)))

/-! ### Wake pins (R432, R447) -/

/-- R432: a qualified edge of a source: 0–3 the WAKE pins, 5 the ember cut, 6 PM_ALERT_N in the master role, 8 PERST_N
in VIGIL. PM_ALERT_N also starts an immediate poll of every PMBus rail. -/
def State.wakeSource (s : State) (b : Nat) (rise : Bool) : State :=
  if b < 4 then (if rise == (s.rd F.VIG_WAKE_EN_WPOL).testBit b then s.fire b else s)
  else match b with
    | 5 => if s.on F.VIG_EMBER_STAT_CUT then s.fire 5 else s
    | 6 => if s.rd F.PMB_CFG_ROLE = 1 && !rise then (s.polled.foldl (fun (s : State) (k : Nat) => s.addPoll k) s).fire 6 else s
    | 8 => if rise && s.pstate = 0 then s.fire 8 else s
    | _ => s

def execWakeSource (b : Fin 9) (rise : Bool) (s : State) : Out State Fault Refusal := .next (s.live (s.wakeSource b rise))

end Sys2Proof.Machine
end

