-- ==== Sys2Proof/Machine/Faults.lean ====
section
/-! DEFINITION. Frame stops and their end, flushing, telemetry (chapter 19). -/

namespace Sys2Proof.Machine

open Sys2Proof

/-! ### Standing conditions (R481) -/

/-- FAULT_HOLD. -/
def State.faultHold (s : State) : Nat :=
  let c : List Bool := [
    [0, 1, 2, 3].any (fun p => s.pllState p != 4),
    s.on F.WEB_STAT_REVERSED,
    (List.range 24).any (fun k => s.railState k == 4 && s.rd (F.SEQ_RAIL_CFG_FAULT_ACT k) != 0),
    (List.range 104).any (fun k => s.rd (F.CLASP_STAT_STATE k) == 2),
    (List.range 16).any (fun m => s.motState m == 7),
    (List.range 32).any (fun a => s.axState a == 6 && (s.axis a).hard),
    (List.range 24).any (fun n => s.on (F.HV_CTL_TRIPPED n) && (s.hvs.getD n {}).hard),
    (List.range 8).any (fun n => s.on (F.FZ_STAT_OVERTEMP n)),
    (List.range 192).any (fun l => s.loopMode l == 3 && s.rd (F.LP_CFG_SUP_ACT l) == 2),
    !s.islandActive,
    s.seq.pfw]
  packBits c

/-- R481: FAULT_CTL.FS_CLR. -/
def State.fsClr (s : State) : State :=
  if !s.on F.FAULT_STAT_FRAME_STOP then s else
  let safe := s.on F.FAULT_STAT_SAFE
  let same := match s.flt.hardAt with | some t => t / 10 == s.now / 10 | none => false
  let hold := s.faultHold
  if hold != 0 || safe || same then s.post 0 0x9071 1 0 [(0, 2, hold), (2, 1, b2n safe + 2 * b2n same)]
  else
    let c := s.rd F.FAULT_STAT_FS_CAUSE
    let s := { s with flt := { s.flt with clr := some (s.now, c, s.rd F.FAULT_STAT_FLUSHABLE, s.flt.stopAt) } }
    let s := ((s.wr F.FAULT_STAT_FRAME_STOP 0).wr F.FAULT_STAT_FS_CAUSE 0).wr F.FAULT_STAT_FLUSHABLE 0
    (s.wr F.FAULT_STAT_WSTOP 0).post 0 0x9070 1 0 [(0, 2, c), (2, 4, min 4294967295 ((s.now - s.flt.stopAt) / 1000000))]

def execFsClr (s : State) : Out State Fault Refusal := .next (s.live s.fsClr)

/-! ### Flush (R482) -/

/-- VWEB has read 0 for 1 s during a frame stop. -/
def State.flushable (s : State) : State :=
  match s.flt.webZeroSince with
  | some t => if s.on F.FAULT_STAT_FRAME_STOP && decide (t + 1000000000 ≤ s.now) then s.wr F.FAULT_STAT_FLUSHABLE 1 else s
  | none => s

def execFlushable (s : State) : Out State Fault Refusal := .next (s.live s.flushable)

/-- A station's part of a flushed frame: the lines not written are absent and counted, its schedule ends. -/
def State.flushStation (s : State) (p st : Nat) : State :=
  let x := s.slot p
  if x.ended.testBit st then s.endCapture p st else
  let run := x.started.testBit st
  let rest := (List.range x.lines).filter (fun y => !run || !(s.sc st).accounted y)
  let s := if run then (s.stationOff st) else s
  let s := s.modSlot p (fun x => { x.blank rest.length with ended := setBit x.ended st })
  let s := s.modSc st (fun c => { c with
    asked := c.asked.filter (fun a => a.1 != p), next := c.next.filter (fun a => a.1 != p)
    held := c.held.filter (fun h => h.slot != p) })
  (s.syncFetch st).endCapture p st

/-- One slot in flight is composed as DELIVERED. -/
def State.flushSlot (s : State) (p : Nat) : State :=
  let s := (bitsOf 8 (s.slot p).mask).foldl (fun (s : State) (st : Nat) => s.flushStation p st) s
  let gs := (s.slot p).allGrans
  let s := s.modSlot p (fun x => { (x.worsen 2 (s.rd F.FAULT_STAT_FS_CAUSE)).flagRec 20 with
    delivClosed := true
    planes := x.planes.map (fun q => { q with grans := [], tagGrans := [] }) })
  let s := { s with leg := { s.leg with
    lvtOrder := s.leg.lvtOrder.filter (· != p)
    lvt := s.leg.lvt.map (fun (l : LvtStation) => if l.page == some p then { l with page := none } else l) } }
  ((s.releaseGrans gs).pageGone p).deliver p

/-- FAULT_CTL.FLUSH. -/
def State.flush (s : State) : State :=
  if !s.on F.FAULT_STAT_FLUSHABLE then s else
  let ps := sortBy (fun a b => decide ((s.slot a).fp ≤ (s.slot b).fp)) (s.slotsWhere (fun x => x.st.inFlight))
  let s := (ps.foldl (fun (s : State) (p : Nat) => s.flushSlot p) s).poolWaits
  let n := (ps.map (fun p => (s.slot p).blanked)).foldl (· + ·) 0
  s.post 0 0x9073 1 0 [(0, 1, ps.length), (1, 4, min 4294967295 n)]

def execFlush (s : State) : Out State Fault Refusal := .next (s.live s.flush)

/-! ### Telemetry (R484) -/

/-- The TELEMETRY record of this tick. -/
def State.telemetry (s : State) : Desc :=
  let on := (List.range 16).filter (fun n => s.domOn (16 + n))
  let tmax := match on with
    | [] => 0
    | _ => maxI 0 (on.map (fun n => s.rdS (F.OCT_TEMP_TEMP n)))
  mkEntry [(0, 1, 0xB8), (8, 1, s.rd F.GLB_STATE_PSTATE), (9, 1, s.rd F.GLB_STATE_TIER),
    (10, 1, s.rd F.FAULT_STAT_FRAME_STOP + 2 * s.rd F.FAULT_STAT_SAFE + 4 * s.rd F.FAULT_STAT_WSTOP + 8 * s.rd F.GLB_STATE_ACTIVE_ISL),
    (11, 1, s.inFlight), (12, 1, s.freeSlots), (14, 2, uBits 16 tmax), (16, 4, s.rd F.WEB_VEL_VWEB),
    (20, 4, s.poolFree), (24, 4, s.rprFree), (28, 4, s.rd F.ALM_VACANT_VACANT), (32, 4, s.rd F.ALM_SPOILED_SPOILED),
    (36, 4, s.rd F.EVT_DROPPED_DROPPED), (40, 8, s.etime), (48, 8, uBits 64 s.wpos)]

/-- Every PERIOD ms of ETIME a record is written to Q26, or discarded. -/
def State.telRecord (s : State) : State :=
  if s.on F.TEL_CFG_EN && decide (s.flt.telAt + max 1 (s.rd F.TEL_CFG_PERIOD) * 1000000 ≤ s.etime) then
    ({ s with flt := { s.flt with telAt := s.etime } }).putOrDrop 26 ⟨[s.telemetry], false, none, none, none⟩
  else s

def execTelemetryRecord (s : State) : Out State Fault Refusal := .next (s.live s.telRecord)

end Sys2Proof.Machine
end

