-- ==== Sys2Proof/Machine/Boot.lean ====
section
/-! DEFINITION. Start-up stages, microcode patches, island boots and the service tiers (chapter 18). -/

namespace Sys2Proof.Machine

open Sys2Proof

/-! ### Stages (R458, R459) -/

/-- R445, R458: the Rails stage. -/
def State.railsStage (s : State) : State :=
  let s := s.wr F.BOOT_STAT_STAGE 2
  if s.on F.SEQ_CTL_BOOT then s.onReq 3 else s.wakeStage

/-- R459: the crystal is qualified: VTIME starts. -/
def State.xtalOk (s : State) : State :=
  if s.boot.porst || s.rd F.BOOT_STAT_STAGE != 1 then s else
  ({ s with
    boot := { s.boot with xtal := true }
    time := { s.time with vtime := 0, vfrac := 0 } }).railsStage

def execXtalQualified (s : State) : Out State Fault Refusal := .next (s.live s.xtalOk)

/-- R459: 2.0 s without qualification: Vigil stays on the internal oscillator. -/
def State.xtalTimeout (s : State) : State :=
  if s.boot.porst || s.rd F.BOOT_STAT_STAGE != 1 || !decide (s.boot.releasedAt + 2000000000 ≤ s.now) then s else
  let s := { s with time := { s.time with vtime := 0, vfrac := 0 } }
  let s := s.wr F.BOOT_STAT_XTAL_FAIL 1
  let s := if s.domOn 1 then s.post 1 0x8032 15 0 [] else { s with pwr := { s.pwr with xtalDue := true } }
  s.railsStage

def execXtalQualifyTimeout (s : State) : Out State Fault Refusal := .next (s.live s.xtalTimeout)

/-- R283: 100 µs after PORST_N released, the source of the 25 MHz reference is fixed, and from then on its edges are monitored
(log 125). -/
def State.refLatch (s : State) (edges : Bool) : State :=
  if s.boot.porst || s.boot.refFixed || !decide (s.boot.releasedAt + 100000 ≤ s.now) then s else
  (({ s with boot := { s.boot with refFixed := true } }).wr F.CLK_REF_SRC (b2n edges)).wr F.CLK_REF_REF_OK 1

def execReferenceSourceLatch (edges : Bool) (s : State) : Out State Fault Refusal := .next (s.live (s.refLatch edges))

/-! ### Patch images (R464–R467) -/

/-- R465: PUBKEY and SIGNATURE of an image. -/
def patchKey (img : List Byte) : List Byte := (img.drop 16).take 32
def patchSignature (img : List Byte) : List Byte := (img.drop 48).take 64

/-- R466: the first check an image of `len` bytes fails, as REJECT; 0 for none. -/
def State.patchCheck (s : State) (img : List Byte) (len : Nat) (err : Bool) : Nat :=
  let body := bField img 12 4
  if !s.on F.BOOT_FUSE_KEY_SET then 8
  else if bField img 0 4 ≠ 0x3150584B ∨ bField img 4 2 ≠ 1 ∨ bField img 10 2 ≠ 0 ∨ bField img 112 16 ≠ 0 then 1
  else if body % 16 ≠ 0 ∨ body < 16 ∨ 262144 < body ∨ len ≠ 128 + body then 7
  else if bField img 6 2 ≠ s.rd F.GLB_REV_ROM_REV then 2
  else if bField img 8 2 < s.rd F.BOOT_FUSE_SVN_MIN then 3
  else if Config.sha512 (patchKey img) ≠ Config.keyHash then 4
  else if !Config.ed25519 (patchKey img) (patchSignature img) (Config.sha512 (img.take 16 ++ img.drop 128)) then 5
  else if err then 6 else 0

/-- 0x9061. -/
def State.patchRejected (s : State) (reject src svn : Nat) : State :=
  (s.wr F.PATCH_STAT_REJECT reject).post 1 0x9061 1 0 [(0, 1, reject), (1, 1, src), (2, 2, svn)]

/-- PATCH_STAT shows a patch in use, and 0x9062. -/
def State.patchApplied (s : State) (src svn isls : Nat) : State :=
  let s := (((s.wr F.PATCH_STAT_STATE 4).wr F.PATCH_STAT_SRC src).wr F.PATCH_STAT_SVN svn).wr F.PATCH_STAT_REJECT 0
  s.post 0 0x9062 1 0 [(0, 1, src), (1, 2, svn), (3, 1, isls)]

/-- R464: the flash is read once per boot of the islands: a header without MAGIC is no patch. -/
def State.readFlash (s : State) (img : List Byte) (err : Bool) : State :=
  if s.boot.flashRead then s else
  let s := { s with boot := { s.boot with flashRead := true, flashGood := false } }
  let s := (((s.wr F.PATCH_STAT_STATE 0).wr F.PATCH_STAT_SRC 0).wr F.PATCH_STAT_SVN 0).wr F.PATCH_STAT_REJECT 0
  if bField img 0 4 ≠ 0x3150584B then s else
  let svn := bField img 8 2
  match s.patchCheck img img.length err with
  | 0 => ({ s with boot := { s.boot with flashGood := true } }).patchApplied 1 svn 3
  | r => ((s.wr F.PATCH_STAT_STATE 5).wr F.PATCH_STAT_SRC 1).patchRejected r 1 svn

/-- R400, R464: an island's ROM boot is complete and its patch accepted, rejected or absent: the self-test starts. `flash`
is what the flash reads give. -/
def State.islandBoot (s : State) (u : Nat) (flash : List Byte) (err : Bool) : State :=
  if s.islState u != 1 || !s.domOn (3 + u) then s else
  let s := s.readFlash flash err
  let s := s.wr (F.ISL_STAT_PATCHED u) (b2n s.boot.flashGood)
  (s.modIsl u (fun x => { x with testAt := s.now })).setIsl u 2

def execIslandBootComplete (u : Fin 2) (flash : List Byte) (err : Bool) (s : State) : Out State Fault Refusal :=
  .next (s.live (s.islandBoot u flash err))

/-- R467: a host image is on its way to the islands: each step starts as the one before it ends. -/
def State.patchTick (s : State) : State :=
  let u := s.boot.isl
  let phase (s : State) (n : Nat) : State := { s with boot := { s.boot with phase := n } }
  match s.boot.phase with
  | 1 =>
    if s.islState u = 7 then phase (s.wr F.PATCH_STAT_STATE 5) 0
    else if s.islState u = 5 then phase (s.wr (F.ISL_STAT_PATCHED u) 1) 2 else s
  | 2 => if s.successor = some u then phase (s.handOver (1 - u)) 3 else s
  | 3 => if s.islState u = 4 && s.islState (1 - u) = 5 then phase (s.testAgain (1 - u)) 4 else s
  | 4 =>
    if s.islState (1 - u) = 5 then
      phase ((s.wr (F.ISL_STAT_PATCHED (1 - u)) 1).patchApplied 2 s.boot.newSvn 3) 0
    else if s.islState (1 - u) = 7 then phase (s.patchApplied 2 s.boot.newSvn (2 ^ u)) 0 else s
  | _ => s

/-- R467: PATCH_CMD.LOAD. -/
def State.patchLoad (s : State) : State :=
  let st := s.rd F.PATCH_STAT_STATE
  if s.on F.GLB_STATE_ARMED || (1 ≤ st && st ≤ 3) || !([0, 1].any (fun u => s.islState u == 5 && s.islReady u)) then
    s.patchRejected 9 (s.rd F.PATCH_STAT_SRC) (s.rd F.PATCH_STAT_SVN)
  else
    let a := s.rd F.PATCH_ADDR_LO_ADDR + s.rd F.PATCH_ADDR_HI_ADDR * 4294967296
    let len := s.rd F.PATCH_LEN_LEN
    let s := { s with boot := { s.boot with load := (len, s.inWindow false a len) } }
    ((s.wr F.PATCH_STAT_STATE 1).wr F.PATCH_STAT_SRC 2).wr F.PATCH_STAT_REJECT 0

def execPatchLoad (s : State) : Out State Fault Refusal := .next (s.live s.patchLoad)

/-- R466, R467: the image has been read. -/
def State.patchRead (s : State) (img : List Byte) (err : Bool) : State :=
  if s.rd F.PATCH_STAT_STATE != 1 then s else
  let (len, ok) := s.boot.load
  let svn := bField img 8 2
  match s.patchCheck img len (err || !ok || img.length != len) with
  | 0 =>
    match [0, 1].find? (fun u => s.islState u == 5 && s.islReady u) with
    | some u =>
      let s := s.wr F.PATCH_STAT_STATE 3
      ({ s with boot := { s.boot with phase := 1, isl := u, newSvn := svn } }).testAgain u
    | none => (s.wr F.PATCH_STAT_STATE 5).patchRejected 9 2 svn
  | r => (s.wr F.PATCH_STAT_STATE 5).patchRejected r 2 svn

def execPatchReadComplete (img : List Byte) (err : Bool) (s : State) : Out State Fault Refusal :=
  .next (s.live ((s.patchRead img err).endTransfer patchTransfer))

/-! ### Island events with the end of start-up (R400, R458) -/

def execSelftestComplete (u : Fin 2) (fail : Option (Fin 9)) (s : State) : Out State Fault Refusal :=
  .next (s.live ((s.selftest u fail).bootIslands.patchTick))

def execBidResolve (u : Fin 2) (s : State) : Out State Fault Refusal := .next (s.live ((s.bidResolve u).bootIslands.patchTick))

/-! ### Service tiers (R469, R470) -/

/-- R469: a station is in service. -/
def State.inService (s : State) (st : Nat) : Bool :=
  s.stationSet st && s.domOn (8 + st) && (s.octetsOf st).all (fun n => s.domOn (16 + n))

/-- The station's polygon drive shows AT_SPEED. -/
def State.polyAtSpeed (s : State) (st : Nat) : Bool :=
  (List.range 16).any (fun m => s.on (F.MOT_CFG_POLY_EN m) && s.rd (F.MOT_CFG_POLY_STATION m) = st && s.on (F.MOT_STAT_AT_SPEED m))
    || (List.range 8).any (fun n => s.on (F.XD_CFG_POLY_EN n) && s.rd (F.XD_CFG_STATION n) = st && s.on (F.XD_STAT_AT_SPEED n))

/-- Conditions of the device, as failing COND bits; `f` for tier F. -/
def State.tierDev (s : State) (f : Bool) : Nat :=
  let v := s.rdS F.WEB_VEL_VWEB
  let full : Int := s.rd F.TIER_CFG_VFULL * 1000
  let standby := [0, 1].any (fun u => s.islState u == 5 && s.islReady u)
  packBits [!s.on F.GLB_STATE_ARMED, !(List.range 8).any s.inService, false, false, false, false, false, false, false,
    !f && decide (full < 2 * v), f && decide (full < v), !s.on F.BAND_STAT_IN_SERVICE,
    f && s.on F.TIER_CFG_REQ_STANDBY && !standby]

/-- Conditions of a station, as failing COND bits. -/
def State.tierStation (s : State) (f : Bool) (st : Nat) : Nat :=
  let pll := s.pllState (4 + st)
  let other := s.rd (F.ST_REG_CTL_REF st) != st
  packBits [false, false, !s.polyAtSpeed st, !f && pll != 3 && pll != 4, f && pll != 4,
    !(s.on (F.ST_SCANCTL_SCAN_EN st) && !s.on (F.ST_SCANCTL_NOSCAN st) && s.rd (F.ST_ROLL_STAT_PHASE st) == 3),
    f && s.rd (F.ST_FACET_STAT_SIG_STATE st) != 2, f && !s.on (F.ST_PH_STAT_PH_LOCKED st),
    f && other && !s.on (F.ST_REG_STAT_CONVERGED st)]

/-- The lowest station in service that fails a condition, and the failing conditions of it and of the device. -/
def State.tierBlock (s : State) (f : Bool) : Nat × Nat :=
  let d := s.tierDev f
  match ((List.range 8).filter s.inService).find? (fun st => s.tierStation f st != 0) with
  | some st => (st, d + s.tierStation f st)
  | none => (0, d)

/-- How long a tier's conditions have held at every evaluation. -/
def State.qualified (s : State) (since : Option Nat) : Bool :=
  match since with
  | some t => decide (t + max 1 (s.rd F.TIER_CFG_RISE_MS) * 1000000 ≤ s.etime)
  | none => false

/-- R470: an evaluation, at a 10 µs boundary of ETIME. -/
def State.tierEval (s : State) : State :=
  let due := match s.tier.evalAt with | none => true | some t => t / 10000 != s.etime / 10000
  if !due then s else
  let (ps, pc) := s.tierBlock false
  let (fs, fc) := s.tierBlock true
  let s := (((s.wr F.TIER_BLOCK_P_STATION ps).wr F.TIER_BLOCK_P_COND pc).wr F.TIER_BLOCK_F_STATION fs).wr F.TIER_BLOCK_F_COND fc
  let next (c : Nat) (x : Option Nat) : Option Nat := if c != 0 then none else match x with | none => some s.etime | t => t
  let s := { s with tier := { s.tier with pSince := next pc s.tier.pSince, fSince := next fc s.tier.fSince, evalAt := some s.etime } }
  let v := if s.qualified s.tier.fSince then 3 else if s.qualified s.tier.pSince then 2 else if s.on F.GLB_STATE_ARMED then 1 else 0
  { s with tier := { s.tier with next := some (v, (s.now / 10 + 1) * 10) } }

/-- R470: the value of the last evaluation is written to TIER on the next 10 ns tick. -/
def State.tierTick (s : State) : State :=
  match s.tier.next with
  | some (v, t) => if t ≤ s.now then ({ s with tier := { s.tier with next := none } } : State).setTier v else s
  | none => s

def execTierEvaluation (s : State) : Out State Fault Refusal := .next (s.live s.tierEval)

end Sys2Proof.Machine
end

