-- ==== Sys2Proof/Machine/Rules.lean ====
section
/-! DEFINITION. When a commit group runs (R269), its must-write-together sets and rules (R267 and the group tables of the
later chapters), its boundary (R273), and the configuration-wide rules of ARM (R277). -/

namespace Sys2Proof.Machine

open Sys2Proof

/-! ### Running and boundaries (R269, R273) -/

/-- The station that an octet serves runs. -/
def State.octRuns (s : State) (n : Nat) : Bool := match s.stationOf n with | some st => s.stationRuns st | none => false

/-- A polygon of s0–s3 is RUNNING (R518). -/
def State.legacyTurns (s : State) : Bool :=
  [0, 1, 2, 3].any (fun n => if (s.rd F.COMPAT_CFG_NCOM).testBit n then s.motState n != 0 else s.on (F.XD_STAT_RUNNING n))

/-- A transfer or a PMBus rail is active (R456). -/
def State.pmbusActive (s : State) : Bool :=
  s.seq.xfers != [] || (List.range 24).any (fun k => (s.on (F.SEQ_RAIL_CFG_PMB k) || s.on (F.SEQ_RAIL_CFG_PG_SRC k)) && s.railState k != 0)

/-- Whether a group's block runs; `i` is its instance, `off` the register written. -/
def State.running (s : State) (g : GrpKind) (i _j off : Nat) : Bool :=
  match g with
  | .own => (off == 0x68 || off == 0x6C) && s.inFlight != 0
  | .band | .th | .clasp | .bandTbl | .almanac | .ember => g == .band && s.on F.GLB_STATE_ARMED
  | .ring => s.ringState i != 0
  | .fence => (List.range 32).any (fun q => s.ringState q != 0)
  | .stGeom | .stPlace | .stExpo | .slice => s.stationRuns i
  | .beam => s.octRuns (i / 8)
  | .octTherm | .octEct => s.octRuns i
  | .loop => s.loopOn i
  | .loopClass => (List.range 192).any s.loopOn
  | .pll => 4 ≤ i && s.stationRuns (i - 4)
  | .ramp => s.on (F.PLL_RAMP_STAT_RUN i)
  | .clkOut => if i < 8 then s.stationRuns i else s.on (F.CLK_OUT_CTL_EN i)
  | .motor => s.motState i != 0
  | .cmdPin => s.rd (F.CMD_CFG_MODE i) != 0
  | .xd => s.rd (F.XD_CFG_MODE i) != 0 && s.on F.GLB_STATE_ARMED
  | .axis => 2 ≤ s.axState i && s.axState i ≤ 5
  | .encoder => s.on (F.ENC_CFG_EN i)
  | .web => s.on F.WEB_CFG_EN
  | .hv => s.rd (F.HV_STAT_DUTY i) != 0
  | .fz => s.on (F.FZ_CFG_EN i) && s.on F.GLB_STATE_ARMED
  | .pwrDom => s.level i != 0
  | .seq => !(s.seqState == 0 || s.seqState == 4 || s.seqState == 6)
  | .rail => s.railState i != 0
  | .pmb => s.rd F.PMB_CFG_ROLE != 0 && s.pmbusActive
  | .compat => s.legacyTurns
  | .lvt => s.on F.GLB_STATE_ARMED

/-- A station is not in a frame (R145). -/
def State.outOfFrame (s : State) (st : Nat) : Bool := (s.slotOn st).isNone

/-- R273: whether a group's boundary is now: at once for some groups, and for every group on the 10 ns tick that reached its
boundary; elsewhere it waits for the event that its chapter names. -/
def State.boundaryNow (s : State) (g : GrpKind) (i : Nat) : Bool :=
  s.bezel.edge.contains (g, i, s.now / 10) ||
  match g with
  | .stGeom | .stPlace | .stExpo | .slice => s.outOfFrame i
  | .octEct => match s.stationOf i with | some st => s.outOfFrame st | none => true
  | .beam => match s.stationOf (i / 8) with | some st => !s.on (F.ST_SCANCTL_SCAN_EN st) | none => true
  | .octTherm | .loop | .bandTbl | .motor | .cmdPin | .hv | .fz | .th => false
  | .pll => 4 ≤ i
  | _ => true

/-- R71, R304: the groups that no commit may change while armed. -/
def armedCommit (g : GrpKind) (i : Nat) : Bool :=
  match g with
  | .band => false
  | .pll => 4 ≤ i
  | _ => true

/-! ### Must-write-together sets (R267, R382) -/

/-- The sets of a group, each in the order of its fields; `n` is the prospective NSTEPS. While a slot runs, NSTEPS is
frozen and entries may be changed one by one (log 50). -/
def togetherSets (g : GrpKind) (i n : Nat) (runs : Bool) : List (List Fld) :=
  match g with
  | .almanac => [[F.ALM_CTL_DELIV_MK_EN, F.ALM_CTL_DELIV_MK]]
  | .stGeom => [[F.ST_OCTETS_OCT_MASK i, F.ST_LMAP_PAIRED i]]
  | .beam => [[F.BM_MOD_LIM_MOD_MIN i, F.BM_MOD_LIM_MOD_MAX i]]
  | .octTherm => [[F.OCT_TLIM_T_CUT i, F.OCT_TLIM_T_DERATE i, F.OCT_TLIM_T_WARN i]]
  | .loop =>
    [[F.LP_PLAUS_PL_FB i, F.LP_PLAUS_PL_STEP i, F.LP_PLAUS_PL_EN i]] ++
      (if runs then [] else
        [F.LP_CFG_NSTEPS i :: (List.range n).flatMap (fun k => (List.range 4).map (fun j => progFld i k j))])
  | _ => []

/-! ### Clock rules (R284, R289, R293, R296, R301, R304) -/

/-- The whole divider from DCO to the output. -/
def State.outDiv (s : State) (c : Nat) : Nat := if c < 8 then 16 * s.sdiv c else max 1 (s.rd (F.CLK_OUT_CFG_DIV c))

/-- The highest FCW that R296 takes for an output of a PLL. -/
def State.topFcw (s : State) (p c : Nat) : Nat :=
  if c < 8 then (List.range (s.rd (F.PLL_RAMP_CTL_NSEG p))).foldl (fun a k => max a (s.rampF p k)) (s.rd (F.PLL_FCW_FCW p))
  else s.rd (F.PLL_FCW_FCW p)

/-- R304: the ends of the range that spread gives a frequency, in 1 / 2,000 of the unspread one: DEPTH to both sides, or down
spread's depth below. -/
def State.spreadRange (s : State) (p : Nat) : List Nat :=
  let d := s.rd (F.PLL_SSC_DEPTH p)
  if p < 3 && s.on (F.PLL_SSC_SSC_EN p) then (if s.on (F.PLL_SSC_MODE p) then [2000 - d, 2000] else [2000 - d, 2000 + d])
  else [2000]

/-- R296: CEIL (4 ps units) does not exceed the period of an output at any frequency of its spread, so not the shortest
(log 51). -/
def State.ceilOk (s : State) (c : Nat) : Bool :=
  let p := if c < 8 then 4 + c else s.rd (F.CLK_OUT_CFG_SRC c)
  (s.spreadRange p).all (fun m =>
    decide (s.rd (F.CLK_OUT_CEIL_CEIL c) * s.topFcw p c * m ≤ s.outDiv c * 10000 * 8388608 * 2000))

/-- The outputs of a PLL. -/
def State.outsOf (s : State) (p : Nat) : List Nat :=
  (List.range 24).filter (fun c => if c < 8 then 4 + c = p else s.rd (F.CLK_OUT_CFG_SRC c) = p)

def ceilRule (s : State) (p : Nat) (fs : List Fld) : Bool × List Fld :=
  ((s.outsOf p).all s.ceilOk, fs ++ (s.outsOf p).map F.CLK_OUT_CEIL_CEIL)

/-- R293: an FCW at a station's SDIV gives an f_pix of 20–250 MHz. -/
def State.pixRange (s : State) (st fcw : Nat) : Bool :=
  let d := 134217728 * s.sdiv st
  20 * d ≤ 25 * fcw && 25 * fcw ≤ 250 * d

/-- R289: the entries with a written field: an entry with VALID = 1 has 32,000 ≤ FMIN < FMAX ≤ 64,000. -/
def bandTblRules (old s : State) (p : Nat) : List (Bool × List Fld) :=
  let v (f : Fld) : Nat := if (amFind old.staged f.key).isSome then s.rd f else s.bandRd f
  let fs (k : Nat) : List Fld := [F.PLL_BAND_A_FMIN p k, F.PLL_BAND_A_FMAX p k, F.PLL_BAND_B_VALID p k]
  ((List.range 64).filter (fun k => (fs k).any (fun f => (amFind old.staged f.key).isSome))).map (fun k =>
    (v (F.PLL_BAND_B_VALID p k) != 1 || (decide (32000 ≤ v (F.PLL_BAND_A_FMIN p k))
      && decide (v (F.PLL_BAND_A_FMIN p k) < v (F.PLL_BAND_A_FMAX p k)) && decide (v (F.PLL_BAND_A_FMAX p k) ≤ 64000)), fs k))

/-- How far the usable ranges of the VALID band entries reach up from `x` without a break. -/
def State.bandReach (s : State) (p : Nat) : Nat → Nat → Nat
  | 0, x => x
  | n + 1, x =>
    let y := (List.range 64).foldl (fun a k => if s.bandRd (F.PLL_BAND_B_VALID p k) = 1 && s.bandLow p k ≤ x then max a (s.bandHigh p k) else a) x
    if y = x then x else s.bandReach p n y

/-- R301: every FCW from the least to the greatest of the profile lies in one unbroken interval of usable ranges. -/
def State.rampCovered (s : State) (p : Nat) : Bool :=
  let fs := (List.range (s.rd (F.PLL_RAMP_CTL_NSEG p))).map (fun k => dcoScaled (s.rampF p k) * 1000)
  let lo := fs.foldl min (fs.headD 0)
  (List.range 64).any (fun k => s.on (F.PLL_BAND_B_VALID p k) && s.bandLow p k ≤ lo && lo ≤ s.bandHigh p k)
    && fs.foldl max 0 ≤ s.bandReach p 64 lo

def rampRules (s : State) (p : Nat) : List (Bool × List Fld) :=
  let n := s.rd (F.PLL_RAMP_CTL_NSEG p)
  let fs := (List.range n).map (F.PLL_RAMP_F_FCW p)
  [ (1 ≤ n && n ≤ 32, [F.PLL_RAMP_CTL_NSEG p]),
    (!s.on (F.PLL_RAMP_CTL_MODE p) || (2 ≤ n && (List.range (n - 1)).all (fun k => s.rampX p k < s.rampX p (k + 1))),
      [F.PLL_RAMP_CTL_NSEG p, F.PLL_RAMP_CTL_MODE p] ++ (List.range n).map (F.PLL_RAMP_X_X p)),
    ((List.range n).all (fun k => s.pixRange (p - 4) (s.rampF p k)), fs),
    (s.rampCovered p, fs),
    ceilRule s p fs ]

/-! ### Loop slot rules (R368, R370, R373, R378, R379, R382) -/

/-- R368: a selector names a source. -/
def inputSel (sel : Nat) : Bool :=
  let i := sel % 4096
  match sel / 4096 with
  | 2 => i < 24 | 3 => i < 16 | 4 => i < 8 | 5 | 6 => i < 16 | 8 => i < 8 | 9 => i < 192
  | k => k ≤ 9

/-- R373: a selector names a sink. -/
def sinkSel (sel : Nat) : Bool :=
  let i := sel % 4096
  match sel / 4096 with
  | 1 => i < 24 | 2 => i < 8 | 3 | 4 => i < 16 | 5 => i < 8 | 6 => i < 192
  | k => k == 0

/-- R370: an entry is a step of the program; W0–W3 are inputs, so every register may be read (log 52). -/
def stepOk (p : ProgStep) : Bool :=
  let unused (n : Nat) : Bool := (List.range 6).all (fun i => i < n || p.co i == 0)
  match p.type with
  | 1 => unused 2
  | 2 => unused 2
  | 3 => unused 4
  | 4 => unused 5 && p.shift == 0
  | 5 => unused 3 && decide (p.co 0 ≤ p.co 1)
  | 6 => unused 2
  | 7 => unused 2
  | _ => false

def loopRules (old s : State) (l : Nat) : List (Bool × List Fld) :=
  let n := s.rd (F.LP_CFG_NSTEPS l)
  let words (k : Nat) : List Fld := (List.range 4).map (fun j => progFld l k j)
  let entry (k : Nat) : Bool × List Fld := (stepOk (progStep (s.progEntry l k)), words k)
  let same (k : Nat) : Bool × List Fld :=
    (k < n && s.rd (progFld l k 0) == old.rd (progFld l k 0) || s.progEntry l k == old.progEntry l k, words k)
  [ (1 ≤ n && n ≤ 32, [F.LP_CFG_NSTEPS l]),
    (s.rd (F.LP_CFG_RATE l) < 8, [F.LP_CFG_RATE l]),
    (s.rd (F.LP_CFG_ASSOC l) ≤ 8, [F.LP_CFG_ASSOC l]),
    (s.rd (F.LP_CFG_SUP_ACT l) ≠ 3, [F.LP_CFG_SUP_ACT l]),
    (inputSel (s.rd (F.LP_IN01_IN0 l)), [F.LP_IN01_IN0 l]),
    (inputSel (s.rd (F.LP_IN01_IN1 l)), [F.LP_IN01_IN1 l]),
    (inputSel (s.rd (F.LP_IN23_IN2 l)), [F.LP_IN23_IN2 l]),
    (inputSel (s.rd (F.LP_IN23_IN3 l)), [F.LP_IN23_IN3 l]),
    (sinkSel (s.rd (F.LP_SINK_SINK l)), [F.LP_SINK_SINK l]) ]
  ++ (List.range (min n 32)).map entry
  ++ (if old.loopOn l then (List.range 32).map same else [])
  ++ [ (!s.on (F.LP_PLAUS_PL_EN l) ||
        (s.rd (F.LP_PLAUS_PL_STEP l) < n && (progStep (s.progEntry l (s.rd (F.LP_PLAUS_PL_STEP l)))).type == 7),
        [F.LP_CFG_NSTEPS l, F.LP_PLAUS_PL_STEP l, F.LP_PLAUS_PL_EN l]) ]

/-! ### Rules of the groups -/

/-- R163. -/
def sliceRules (s : State) (st e : Nat) : List (Bool × List Fld) :=
  let n := s.rd (F.ST_SLICE_COUNT_SLICE_COUNT st e)
  let all := List.range (min n 64)
  let pos (i : Nat) : Nat := s.rd (F.ST_SLICE_POS st e i)
  let ord := all.map (fun i => s.rd (F.ST_SLICE_ORDER st e i))
  [ (n ≤ 64, [F.ST_SLICE_COUNT_SLICE_COUNT st e]),
    (all.all (fun i => pos i < s.rd (F.ST_GEOM_PIXELS st) && (i = 0 || pos (i - 1) < pos i)),
      F.ST_SLICE_COUNT_SLICE_COUNT st e :: all.map (F.ST_SLICE_POS st e)),
    (ord.eraseDups.length = ord.length, F.ST_SLICE_COUNT_SLICE_COUNT st e :: all.map (F.ST_SLICE_ORDER st e)),
    (all.all (fun i => s.rd (F.ST_SLICE_LIN st e i) ≠ 2), F.ST_SLICE_COUNT_SLICE_COUNT st e :: all.map (F.ST_SLICE_LIN st e)) ]

/-- R165, R181: the geometry of a station. -/
def geomRules (s : State) (st : Nat) : List (Bool × List Fld) :=
  let px := s.rd (F.ST_GEOM_PIXELS st)
  [ (px % 8 = 0 && 8 ≤ px && px ≤ 24576, [F.ST_GEOM_PIXELS st]),
    (4 ≤ s.facets st && s.facets st ≤ 16, [F.ST_GEOM_FACETS st]),
    (1 ≤ s.pitch st && (s.beamCount st = 0 || Nat.gcd (s.pitch st) (s.nAdv st) = 1),
      [F.ST_OCTETS_OCT_MASK st, F.ST_LMAP_PAIRED st, F.ST_LMAP_PITCH st]),
    (s.pLine st ≠ 0, [F.ST_PLINE_P_LINE st]) ]

/-- R71; the minimum of 65,536 granules is tested on POOL_GRAN, which leaves retired granules out (the model's choice, log 119). -/
def bandRules (s : State) : List (Bool × List Fld) :=
  let fs := [F.BAND_RPR_GRAN_RPR_GRAN, F.BAND_SCR_GRAN_SCR_GRAN]
  [ (s.poolBase ≤ 786432 && 65536 ≤ s.poolGran, fs),
    (s.rprUsed.all (fun g => g < s.rd F.BAND_RPR_GRAN_RPR_GRAN), [F.BAND_RPR_GRAN_RPR_GRAN]),
    (s.slotGrans.all (fun g => s.poolBase ≤ g), fs) ]

/-- R332. -/
def pinRules (s : State) (n : Nat) : List (Bool × List Fld) :=
  let t := s.rd (F.CMD_CFG_TARGET n)
  [ (s.rd (F.CMD_CFG_MODE n) = 0 ||
      (List.range 8).all (fun k => k = n || s.rd (F.CMD_CFG_MODE k) = 0 || s.rd (F.CMD_CFG_TARGET k) ≠ t),
      [F.CMD_CFG_TARGET n, F.CMD_CFG_MODE n]),
    (s.rd (F.CMD_IN_LO_IN_LO n) < s.rd (F.CMD_IN_HI_IN_HI n), [F.CMD_IN_LO_IN_LO n, F.CMD_IN_HI_IN_HI n]),
    (!(s.on (F.MOT_CFG_POLY_EN t) && s.on (F.CMD_CFG_KIND n)), [F.CMD_CFG_TARGET n, F.CMD_CFG_KIND n]) ]

/-- R343, R344, R360, R362: speeds are U24.8, STEP_W in 10 ns; the ranges that R360 gives are held here (log 154). -/
def axisRules (s : State) (a : Nat) : List (Bool × List Fld) :=
  let v := s.rd (F.AX_HOME_V_V_SEEK a)
  [ (2 ≤ s.rd (F.AX_TIMING_STEP_W a) && s.rd (F.AX_TIMING_STEP_W a) ≤ 2000, [F.AX_TIMING_STEP_W a]),
    (10 ≤ s.rd (F.AX_TIMING_DIR_SU a) && s.rd (F.AX_TIMING_DIR_SU a) ≤ 2000, [F.AX_TIMING_DIR_SU a]),
    (s.rd (F.AX_DEB_HOME_DEB a) ≤ 10000, [F.AX_DEB_HOME_DEB a]),
    (s.rd (F.AX_DEB_LIMIT_DEB a) ≤ 10000, [F.AX_DEB_LIMIT_DEB a]),
    (1 ≤ s.rd (F.AX_HOME_CFG_PASSES a) && s.rd (F.AX_HOME_CFG_PASSES a) ≤ 2, [F.AX_HOME_CFG_PASSES a]),
    (1 ≤ s.rd (F.AX_EMAX_EMAX a) && s.rd (F.AX_EMAX_EMAX a) ≤ 1000000000, [F.AX_EMAX_EMAX a]),
    (1 ≤ s.rd (F.AX_HOME_A_HOME_A a) && s.rd (F.AX_HOME_A_HOME_A a) ≤ 1000000000, [F.AX_HOME_A_HOME_A a]),
    (v ≤ 512000000 && v * 20 * s.rd (F.AX_TIMING_STEP_W a) ≤ 256000000000, [F.AX_TIMING_STEP_W a, F.AX_HOME_V_V_SEEK a]),
    (s.rd (F.AX_HOME_VL_V_LATCH a) ≤ v, [F.AX_HOME_V_V_SEEK a, F.AX_HOME_VL_V_LATCH a]) ]

/-- R362: the web tracker, with the prospective WEB_CFG.EN = 1. -/
def webRules (s : State) : List (Bool × List Fld) :=
  if !s.on F.WEB_CFG_EN then [] else
  let pri := s.rd F.WEB_CFG_PRI
  let sec := s.rd F.WEB_CFG_SEC
  let mode := s.rd F.WEB_CFG_MODE
  [ (s.on (F.ENC_CFG_EN pri), [F.WEB_CFG_PRI, F.WEB_CFG_EN]),
    (mode ≠ 3, [F.WEB_CFG_MODE]),
    (mode = 0 || (s.on (F.ENC_CFG_EN sec) && pri ≠ sec), [F.WEB_CFG_PRI, F.WEB_CFG_SEC, F.WEB_CFG_MODE]) ]

/-- R439: no rail is both a programme rail and a domain's, and no two domains name one rail. -/
def State.railsApart (s : State) : Bool :=
  let ds := (List.range 32).filter (fun d => s.on (F.PWR_DOM_RAIL_EN d))
  let ks := ds.map (fun d => s.rd (F.PWR_DOM_RAIL d))
  ks.all (fun k => !(k < 24 && s.on (F.SEQ_RAIL_CFG_SEQ k))) && ks.eraseDups.length = ks.length

/-- The group rules on the prospective bank `s` (ACTIVE bank `old`), in order: whether each holds, and its fields. -/
def groupRules (old s : State) (g : GrpKind) (i j off : Nat) : List (Bool × List Fld) :=
  match g with
  | .own => if 0x582400 ≤ off && off < 0x582600 && off % 8 = 0 then
      [(s.rd (F.REG_PLAN_KIND ((off - 0x582400) / 8)) ≠ 3, [F.REG_PLAN_KIND ((off - 0x582400) / 8)])] else []
  | .band => bandRules s
  | .ring => [(3 ≤ s.rd (F.RING_CFG_LOG2_SIZE i) && s.rd (F.RING_CFG_LOG2_SIZE i) ≤ 16, [F.RING_CFG_LOG2_SIZE i])]
  | .fence => [(!s.on (F.FW_BASE_LO_VALID i) || s.fwBase i ≤ s.fwLimit i,
      [F.FW_BASE_LO_VALID i, F.FW_BASE_LO_BASE_L i, F.FW_BASE_HI_BASE_H i, F.FW_LIMIT_LO_LIMIT_L i, F.FW_LIMIT_HI_LIMIT_H i])]
  | .almanac =>
    let m := s.rd F.ALM_EVE_MARGIN_EVE_MARGIN
    [(400000 ≤ m && m ≤ 16000000, [F.ALM_EVE_MARGIN_EVE_MARGIN])]
  | .stGeom => geomRules s i
  | .stExpo => [ (s.rd (F.ST_EXPO_ALIGN i) ≠ 3, [F.ST_EXPO_ALIGN i]),
      (s.rd (F.ST_ROLL_CTL_HEAL_PCT i) ≤ 50, [F.ST_ROLL_CTL_HEAL_PCT i]) ]
  | .slice => sliceRules s i j
  | .beam =>
    let hi := s.rd (F.BM_MOD_LIM_MOD_MAX i)
    [ (s.rd (F.BM_BIAS_BIAS i) * 10 + hi * 20 ≤ 30000, [F.BM_BIAS_BIAS i, F.BM_MOD_LIM_MOD_MAX i]),
      (s.rd (F.BM_MOD_LIM_MOD_MIN i) ≤ hi, [F.BM_MOD_LIM_MOD_MIN i, F.BM_MOD_LIM_MOD_MAX i]) ]
  | .octTherm =>
    [ (s.rd (F.OCT_TLIM_T_WARN i) < s.rd (F.OCT_TLIM_T_DERATE i) && s.rd (F.OCT_TLIM_T_DERATE i) < s.rd (F.OCT_TLIM_T_CUT i)
        && s.rd (F.OCT_TLIM_T_CUT i) ≤ 110, [F.OCT_TLIM_T_CUT i, F.OCT_TLIM_T_DERATE i, F.OCT_TLIM_T_WARN i]),
      (s.rd (F.OCT_TLIM_DERATE_PCT i) ≤ 50, [F.OCT_TLIM_DERATE_PCT i]),
      (s.rd (F.OCT_VBS_WIN_VBS_MIN i) < s.rd (F.OCT_VBS_WIN_VBS_MAX i), [F.OCT_VBS_WIN_VBS_MIN i, F.OCT_VBS_WIN_VBS_MAX i]) ]
  | .octEct => [(s.rd (F.OCT_ECT_AXES_TSTEP i) ≠ 0 && s.rd (F.OCT_ECT_AXES_VSTEP i) ≠ 0,
      [F.OCT_ECT_AXES_VSTEP i, F.OCT_ECT_AXES_TSTEP i])]
  | .loop => loopRules old s i
  | .loopClass => (List.range 8).map (fun k =>
      (10 ≤ s.rd (F.LOOP_CLASS_PERIOD k) && s.rd (F.LOOP_CLASS_PERIOD k) ≤ 10000, [F.LOOP_CLASS_PERIOD k]))
  | .pll =>
    if 4 ≤ i then
      [ (0x40000000 ≤ s.rd (F.PLL_FCW_FCW i) && s.rd (F.PLL_FCW_FCW i) < 0x80000000, [F.PLL_FCW_FCW i]),
        ceilRule s i [F.PLL_FCW_FCW i] ]
    else
      let fs := [F.PLL_SSC_DEPTH i, F.PLL_SSC_MODE i, F.PLL_SSC_SSC_EN i]
      [ (s.rd (F.PLL_SSC_DEPTH i) ≤ (if s.on (F.PLL_SSC_MODE i) then 20 else 10), fs),
        (30 ≤ s.rd (F.PLL_SSC_RATE i) && s.rd (F.PLL_SSC_RATE i) ≤ 33, [F.PLL_SSC_RATE i]), ceilRule s i fs ]
  | .ramp => rampRules s i
  | .bandTbl => bandTblRules old s i
  | .clkOut =>
    let d := s.rd (F.CLK_OUT_CFG_DIV i)
    [ (if i < 8 then 1 ≤ d && d ≤ 10 else i < 12 || (15 ≤ i && i < 20) || 2 ≤ d, [F.CLK_OUT_CFG_DIV i]),
      (s.ceilOk i, [F.CLK_OUT_CFG_DIV i, F.CLK_OUT_CFG_SRC i, F.CLK_OUT_CEIL_CEIL i]) ]
  | .motor =>
    [ (120 ≤ s.rd (F.MOT_PROT_WIN_MIN i), [F.MOT_PROT_WIN_MIN i]),
      (1 ≤ s.rd (F.MOT_HFI_HFI_FREQ i) && s.rd (F.MOT_HFI_HFI_FREQ i) ≤ 4, [F.MOT_HFI_HFI_FREQ i]),
      (s.rd (F.MOT_HFI_HYST i) < s.rd (F.MOT_HFI_HANDOVER i), [F.MOT_HFI_HYST i, F.MOT_HFI_HANDOVER i]),
      (s.rd (F.MOT_ISCALE_ISCALE i) != 0, [F.MOT_ISCALE_ISCALE i]),
      (s.rd (F.MOT_VSCALE_VSCALE i) != 0, [F.MOT_VSCALE_VSCALE i]) ]
  | .cmdPin => pinRules s i
  | .xd => [(1 ≤ s.rd (F.XD_CFG_CARRIER i) && s.rd (F.XD_CFG_CARRIER i) ≤ 50, [F.XD_CFG_CARRIER i])]
  | .axis => axisRules s i
  | .encoder => [(s.rd (F.ENC_SCALE_SCALE i) ≠ 0, [F.ENC_SCALE_SCALE i])]
  | .web => webRules s
  | .hv => [ (20 ≤ s.rd (F.HV_CFG_PWM_KHZ i) && s.rd (F.HV_CFG_PWM_KHZ i) ≤ 250, [F.HV_CFG_PWM_KHZ i]),
      (s.rd (F.HV_CFG_MAXDUTY i) ≤ 243, [F.HV_CFG_MAXDUTY i]) ]
  | .fz => [(s.on (F.TH_CFG_EN (s.rd (F.FZ_CFG_TSRC i))), [F.FZ_CFG_TSRC i])]
  | .th => [(s.rd (F.TH_CFG_BETA i) ≠ 0, [F.TH_CFG_BETA i])]
  | .clasp => [(50 ≤ s.rd (F.CLASP_CFG_HOLD_LIM i), [F.CLASP_CFG_HOLD_LIM i])]
  | .pwrDom => [ (s.railsApart, [F.PWR_DOM_RAIL i, F.PWR_DOM_RAIL_EN i]),
      (!s.on (F.PWR_DOM_RAIL_EN i) || decide (5 ≤ i ∧ i ≤ 7), [F.PWR_DOM_RAIL_EN i]) ]
  | .ember => [ (s.level 5 = 2, [F.VIG_EMBER_CFG_EMBER_RATIO]),
      (s.rd F.VIG_EMBER_CFG_EMBER_SET < s.rd F.VIG_EMBER_CFG_EMBER_TMAX, [F.VIG_EMBER_CFG_EMBER_SET, F.VIG_EMBER_CFG_EMBER_TMAX]) ]
  | .rail =>
    [ (s.railsApart, [F.SEQ_RAIL_CFG_SEQ i]),
      (((List.range 24).map (fun k => s.rd (F.SEQ_RAIL_CFG_OFF_DLY k))).sum ≤ 170, [F.SEQ_RAIL_CFG_OFF_DLY i]),
      (!(s.on (F.SEQ_RAIL_CFG_PMB i) || s.on (F.SEQ_RAIL_CFG_PG_SRC i)) || s.rd F.PMB_CFG_ROLE = 1,
        [F.SEQ_RAIL_CFG_PG_SRC i, F.SEQ_RAIL_CFG_PMB i]),
      (s.rd (F.SEQ_RAIL_CFG_FAULT_ACT i) ≠ 3, [F.SEQ_RAIL_CFG_FAULT_ACT i]) ]
  | .lvt => [(s.rd F.LVT_TH_T1 ≤ s.rd F.LVT_TH_T2 && s.rd F.LVT_TH_T2 ≤ s.rd F.LVT_TH_T3,
      [F.LVT_TH_T1, F.LVT_TH_T2, F.LVT_TH_T3])]
  | .stPlace | .seq | .pmb | .compat => []

/-! ### ARM (R277 order 4) -/

/-- The configured stations. -/
def State.stations (s : State) : List Nat := (List.range 8).filter s.configured

/-- R468. -/
def armHost (s : State) : List (Bool × Fld) :=
  let any := s.stations != []
  let v := s.rd F.TIER_CFG_VFULL
  let a := 1 - s.rd F.GLB_STATE_ACTIVE_ISL
  [ (s.pstate = 2 || s.pstate = 3, F.GLB_STATE_PSTATE),
    (s.islandActive, F.GLB_STATE_ACTIVE_ISL),
    (!s.on F.BOOT_FUSE_PATCH_REQ || s.on (F.ISL_STAT_PATCHED a), F.BOOT_FUSE_PATCH_REQ),
    (!any || s.on F.BAND_STAT_IN_SERVICE, F.BAND_STAT_IN_SERVICE),
    (!any || (v ≠ 0 && v ≤ 4000), F.TIER_CFG_VFULL) ]

/-- R68. -/
def armPage (s : State) : List (Bool × Fld) :=
  [(s.compat || s.stations.foldl (fun a st => max a (s.rd (F.ST_DS_NOM_DS_NOM st))) 0 < s.rd F.ALM_DELIV_POS_DELIV_POS,
    F.ALM_DELIV_POS_DELIV_POS)]

/-- Pixels per second of a station at the facet rate its polygon drive sets, × 10^6 s (R84, R120, log 53). -/
def State.pixRate (s : State) (st : Nat) : Nat :=
  match s.setPeriod st with
  | some t => s.beamCount st * s.rd (F.ST_GEOM_PIXELS st) * 250000000000 / max 1 t
  | none => 0

/-- R84, in bytes per 4 s. -/
def State.feedDemand (s : State) : Nat :=
  (s.stations.map (fun st =>
    s.pixRate st * (if s.rd F.RPR_CTL_CAP_STATIONS |>.testBit st then 7 else 5))).sum

/-- R84, R150, R153, R203 for one station. -/
def armData (s : State) (st : Nat) : List (Bool × Fld) :=
  if !s.configured st then [] else
  let oct := s.octetsOf st
  let on := s.rd (F.ST_WDOG_MAX_ON st) * 10
  let fcw := s.rd (F.PLL_FCW_FCW (4 + st))
  let rate := 134217728 * s.sdiv st
  [ (s.nAdv st + (s.beamCount st - 1) * s.pitch st + 1 ≤ 193, F.ST_LMAP_PITCH st),
    (s.beamCount st * 25000000 * fcw ≤ 8000000000 * rate, F.CLK_OUT_CFG_DIV st),
    (s.feedDemand ≤ 256000000000, F.ST_OCTETS_OCT_MASK st),
    (s.compat || s.on (F.ST_TBL_STAT_ACTIVE_OK st), F.ST_TBL_STAT_ACTIVE_OK st),
    (oct.length ≤ 4 && oct.all (fun n => s.stationOf n = some st), F.ST_OCTETS_OCT_MASK st),
    ((geomRules s st).all (·.1), F.ST_GEOM_PIXELS st),
    (on ≤ 200000 && 2000 ≤ on && s.rd (F.ST_GEOM_PIXELS st) * 1000000000 * rate ≤ (on - 2000) * 25000000 * fcw, F.ST_WDOG_MAX_ON st) ]

/-- R120. A paired-strike station counts with both its emitters of a line (the model's choice, log 142). -/
def armCodec (s : State) : List (Bool × Fld) :=
  let caps := s.stations.filter (fun st => (s.rd F.RPR_CTL_CAP_STATIONS).testBit st)
  [((caps.map s.pixRate).sum ≤ 24000000000, F.RPR_CTL_CAP_STATIONS)]

/-- R293, R296. -/
def armClk (s : State) (st : Nat) : List (Bool × Fld) :=
  if !s.configured st then [] else
  [ (s.pixRange st (s.rd (F.PLL_FCW_FCW (4 + st))), F.CLK_OUT_CFG_DIV st), (s.rd (F.CLK_OUT_CEIL_CEIL st) ≠ 0, F.CLK_OUT_CEIL_CEIL st) ]

/-- The polygon drives: station named and the field that names it. -/
def State.drives (s : State) : List (Nat × Fld) :=
  ((List.range 16).filter (fun m => s.on (F.MOT_CFG_POLY_EN m))).map (fun m => (s.rd (F.MOT_CFG_POLY_STATION m), F.MOT_CFG_POLY_STATION m))
    ++ ((List.range 8).filter (fun n => s.on (F.XD_CFG_POLY_EN n))).map (fun n => (s.rd (F.XD_CFG_STATION n), F.XD_CFG_STATION n))

/-- R338: a drive names a configured station, and no drive before it names the same. -/
def armDrives (s : State) : List Nat → List (Nat × Fld) → List (Bool × Fld)
  | _, [] => []
  | seen, (st, f) :: t => (s.configured st && !seen.contains st, f) :: armDrives s (st :: seen) t

/-- A sink other than none, with both kinds of a motor's set-point as one (log 54). -/
def State.sinkKey (s : State) (l : Nat) : Option Nat :=
  let k := s.rd (F.LP_SINK_SINK l)
  if k / 4096 = 0 then none else if k / 4096 = 4 then some (3 * 4096 + k % 4096) else some k

/-- R373: no slot before it names the same sink. -/
def armSinks (s : State) : List Nat → List Nat → List (Bool × Fld)
  | _, [] => []
  | seen, l :: t => match s.sinkKey l with
    | none => armSinks s seen t
    | some k => (!seen.contains k, F.LP_SINK_SINK l) :: armSinks s (k :: seen) t

/-- R374. -/
def armLock (s : State) (st : Nat) : List (Bool × Fld) :=
  if !s.on (F.ST_PH_CTL_LOCK_EN st) then [] else
  let l := s.rd (F.ST_PH_CTL_PH_LOOP st)
  let k := s.rd (F.LP_SINK_SINK l)
  [(l < 192 && k / 4096 == 3 && s.on (F.MOT_CFG_POLY_EN (k % 4096)) && s.rd (F.MOT_CFG_POLY_STATION (k % 4096)) == st,
    F.ST_PH_CTL_PH_LOOP st)]

/-- R381: the engine load in cycles per µs, as a fraction. -/
def State.loopLoad (s : State) : Nat × Nat :=
  (List.range 192).foldl (fun (n, d) l =>
    let steps := s.rd (F.LP_CFG_NSTEPS l)
    if steps = 0 then (n, d) else
    let q := max 1 (s.rd (F.LOOP_CLASS_PERIOD (s.rd (F.LP_CFG_RATE l)))) * max 1 (s.rd (F.LP_CFG_DECIM l))
    if d % q = 0 then (n + (8 + 4 * steps) * (d / q), d) else (n * q + (8 + 4 * steps) * d, d * q)) (0, 1)

def armLoops (s : State) : List (Bool × Fld) :=
  let (n, d) := s.loopLoad
  armSinks s [] (List.range 192) ++ (List.range 8).flatMap (armLock s) ++ [(decide (n * 2 ≤ 800 * d), F.LOOP_LOAD_LOAD)]

/-- R362. -/
def armWeb (s : State) : List (Bool × Fld) := [(s.stations == [] || s.on F.WEB_CFG_EN, F.WEB_CFG_EN)]

/-- R507: the load of eight packets of each station, in 1/RATE µs. -/
def linkLoad (ns : List Nat) : Nat := (ns.map (fun w => 8 * ceilDiv w 4 * 16)).sum

/-- R500: the legacy rules of ARM; a polygon at no frequency has no facet period to exceed (log 55). -/
def armCompat (s : State) : List (Bool × Fld) :=
  let en := [0, 1, 2, 3].filter (fun st => s.on (L.SC_CTL_EN st))
  let load := linkLoad (en.map (fun st => packetWords (s.rd (L.SC_PIXELS_PIXELS st)) (if s.on (L.SC_CTL_BPP2 st) then 2 else 1)))
  (s.on L.WEB_EN, L.WEB_EN) ::
  en.flatMap (fun st =>
    let f := s.rd (L.PG_FREQ_HI_FREQ st) * 65536 + s.rd (L.PG_FREQ_LO_FREQ st)
    [ (s.rd (L.SC_PIXELS_PIXELS st) ≤ 16384, L.SC_PIXELS_PIXELS st),
      (s.rd L.LINES_LINES * s.pLine st + s.tail st * 65536 ≤ s.rd L.PITCH_PITCH * 400 * 65536, L.PITCH_PITCH),
      (load * f * s.rd (L.SC_CTL_FACETS st) * 10 ≤ 9 * max 1 (s.rd (L.PG_CTL_RPR st)) * 1000000000 * s.rd L.LINK_RATE, L.LINK_RATE) ])

/-- R511. -/
def armLvt (s : State) : List (Bool × Fld) :=
  let st := s.lvtStations
  let load := linkLoad (st.map (fun k => packetWords (s.rd (F.ST_GEOM_PIXELS k)) (if s.on F.LVT_CFG_BPP2 then 2 else 1)))
  [ (st.all (fun k => k < 4) || st.all (fun k => 4 ≤ k), F.LVT_CFG_STATIONS),
    (st.all (fun k => s.rd (F.ST_OCTETS_OCT_MASK k) = 0), F.LVT_CFG_STATIONS),
    (st == [] || load * s.rd F.LVT_TH_FMAX * 10 ≤ 9 * 1000000 * s.rd F.LVT_CFG_RATE, F.LVT_TH_FMAX) ]

/-- The rules of order 4, in ascending block ID and instance. -/
def armRules (s : State) : List (Bool × Fld) :=
  armHost s ++ armPage s ++ (List.range 8).flatMap (armData s) ++ armCodec s ++ (List.range 8).flatMap (armClk s)
    ++ armDrives s [] s.drives ++ armWeb s ++ armLoops s
    ++ (if s.compat then armCompat s else armLvt s)

/-- The key of a field that the first failing rule of order 4 involves. -/
def State.armFail (s : State) : Option Nat := ((armRules s).find? (fun r => !r.1)).map (fun r => r.2.key)

end Sys2Proof.Machine
end

