-- ==== Sys2Proof/Machine/CommitEffects.lean ====
section
/-! DEFINITION. What a block does when a commit group of its reaches ACTIVE (R273 and the chapters of the blocks). -/

namespace Sys2Proof.Machine

open Sys2Proof

/-- R382: CRC-32C of the active entries 0 to NSTEPS − 1. -/
def State.progCrc (s : State) (l : Nat) : Nat :=
  crc32c ((List.range (s.rd (F.LP_CFG_NSTEPS l))).flatMap (fun k => leBytes 16 (s.progEntry l k)))

/-- R381: LOOP_LOAD shows the load of the committed configuration, in 0.1 % of 800 cycles per µs. -/
def State.showLoad (s : State) : State :=
  let x := s.loopLoad
  s.wr F.LOOP_LOAD_LOAD (min 1023 (x.1 * 1000 / (800 * x.2)))

/-- R273: MOD is set to MOD_INIT where that is written, and clamped. -/
def State.beamCommit (s : State) (b : Nat) (keys : List Nat) : State :=
  let m := if keys.contains (F.BM_MOD_MOD_INIT b).key then s.rd (F.BM_MOD_MOD_INIT b) else s.modNow b
  let m := min (max m (s.rd (F.BM_MOD_LIM_MOD_MIN b))) (s.rd (F.BM_MOD_LIM_MOD_MAX b))
  let s := (s.wr (F.BM_MOD_MOD b) m).modBeam b (fun x => { x with next := none })
  if s.bezel.edge.contains (.beam, b, s.now / 10) then s.latchCodes b else s

/-- R160, R169, R216: a commit of a station's geometry. -/
def State.geomCommit (s : State) (st : Nat) (keys : List Nat) : State :=
  let has (fs : List Fld) : Bool := fs.any (fun f => keys.contains f.key)
  let s := if has [F.ST_OCTETS_OCT_MASK st, F.ST_LMAP_REVERSE st, F.ST_LMAP_PAIRED st] then s.rollOff st else s
  let s := if has [F.ST_OCTETS_OCT_MASK st, F.ST_GEOM_FACETS st, F.ST_LMAP_PITCH st, F.ST_LMAP_REVERSE st, F.ST_LMAP_PAIRED st]
    then s.sigClear st else s
  let s := if has [F.ST_PLINE_P_LINE st] then (s.retarget st).showTarget st else s
  s.wantOcts.syncOcts

/-- R160, R173: a commit of a station's placement. -/
def State.placeCommit (s : State) (st : Nat) (keys : List Nat) : State :=
  let s := if keys.contains (F.ST_SCAN_REF_T_REF st).key then
    s.sigClear st else s
  if st = 0 && keys.contains (F.ST_PH_OFF_PH_OFF 0).key then
    (List.range 8).foldl (fun (s : State) (k : Nat) => if s.outOfFrame k || (k == 0 && s.boundaryNow .stPlace 0) then (s.retarget k).showTarget k else s) s
  else s

/-- R355, R358: a commit of the web tracker group. -/
def State.webCommit (s old : State) : State :=
  if !s.on F.WEB_CFG_EN then s.wr F.WEB_STAT_RUN 0
  else if old.on F.WEB_CFG_EN then s.webToPri else s.webEnable

/-- What follows a commit that has reached ACTIVE; `old` is the state before it. -/
def State.afterCommit (s old : State) (g : GrpKind) (i _j : Nat) (keys : List Nat) : State :=
  match g with
  | .pll => if 4 ≤ i && keys.contains (F.PLL_FCW_FCW i).key then s.hopStart i else s
  | .clkOut => s.syncOuts
  | .bandTbl => s.coreKeys i keys
  | .beam => s.beamCommit i keys
  | .stGeom => s.geomCommit i keys
  | .stPlace => s.placeCommit i keys
  | .loop => (s.wr (F.LP_PROG_CRC_CRC i) (s.progCrc i)).showLoad
  | .loopClass => s.showLoad
  | .web => s.webCommit old
  | .xd =>
    let anew := keys.contains (F.XD_CFG_MODE i).key || keys.contains (F.XD_CFG_CARRIER i).key
    (if anew then s.modXd i (fun x => { x with since := s.now, next := none }) else s).syncXd i
  | .clasp => s.syncXds
  | .hv => s.syncHv i
  | .fz =>
    if !s.on (F.FZ_CFG_EN i) then s.fzOff i
    else (if !old.on (F.FZ_CFG_EN i) then s.modFz i (fun z => { z with acc := 4096 * i }) else s).fzCut i
  | .pwrDom => s.syncOwners
  | .rail => ({ s.rereadPg i with seq := { s.seq with pgDue := true } } : State).syncOwners
  | .seq => s.seqTry
  | _ => s

end Sys2Proof.Machine
end

