-- ==== Sys2Proof/Machine/LegacyView.lean ====
section
/-! DEFINITION. What the legacy registers and the computed register fields read (R11–R14, R497, R502, R503, R505), and the
native fields that legacy fields drive (R498). -/

namespace Sys2Proof.Machine

open Sys2Proof

/-- The fields of a register put together from a value each. -/
def assemble (fs : List (Acc × Fld)) (v : Acc × Fld → Nat) : Nat :=
  fs.foldl (fun a x => a + v x % 2 ^ x.2.w * 2 ^ x.2.lo) 0

/-! ### Legacy reads -/

/-- R499: station `st` drives its motor channel, not its XD. -/
def State.ncom (s : State) (st : Nat) : Bool := (s.rd F.COMPAT_CFG_NCOM).testBit st

/-- PG_STAT.RUNNING. -/
def State.polyRuns (s : State) (st : Nat) : Bool :=
  s.on (L.PG_CTL_RUN st) && (if s.ncom st then s.motState st != 0 else s.on (F.XD_STAT_RUNNING st))

/-- PG_STAT.AT_SPEED. -/
def State.polyAt (s : State) (st : Nat) : Bool :=
  if s.ncom st then s.on (F.MOT_STAT_AT_SPEED st) else s.on (F.XD_STAT_AT_SPEED st)

/-- Bits `b n` of the numbers below `k`. -/
def bitsWhere (k : Nat) (b : Nat → Bool) : Nat := packBits ((List.range k).map b)

/-- The computed fields of L_STAT. -/
def State.legStat (s : State) : Nat :=
  2 ^ 15 * s.rd F.GLB_STATE_ARMED + 2 ^ 14 * s.rd F.FAULT_STAT_FRAME_STOP + 2 ^ 13 * s.rd F.FAULT_STAT_SAFE
    + 2 ^ 12 * s.rd F.GLB_STATE_ACTIVE_ISL + 2 ^ 9 * s.rd F.WEB_STAT_REVERSED

/-- The computed fields of L_SSTAT. -/
def State.legSstat (s : State) (st : Nat) : Nat :=
  2 ^ 15 * b2n (s.polyAt st) + 2 ^ 14 * b2n (s.coarse (4 + st))
    + 2 ^ 13 * b2n (s.phase st == 3 && !s.on (F.ST_SCANCTL_NOSCAN st))
    + 2 ^ 7 * s.rd (F.OCT_STAT_DERATED st) + 2 ^ 6 * s.rd (F.OCT_STAT_CUT_HELD st)
    + 2 ^ 5 * b2n ((List.range 8).any (fun k => s.on (F.BM_STAT_WD_CUT (8 * st + k)))) + s.rd (F.ST_ROLL_STAT_DROPS st)

/-- The part of a legacy register that shows native state. -/
def State.legNative (s : State) (n : Nat) : Nat :=
  if n = 2 then s.rd F.GLB_MODE_MODE
  else if n = 0xF then
    let a := s.rd L.AX_SEL_AXIS
    4096 * s.axState a + 2048 * s.rd (F.AX_STAT_HOMED a) + 1024 * s.rd (F.AX_STAT_LIMIT_ACT a)
      + 64 * min 15 (s.rd (F.AX_STAT_QUEUED a))
  else if 0x10 ≤ n ∧ n < 0x30 ∧ n % 8 = 7 then min 65535 (s.rd (F.ST_FACET_PERIOD_PERIOD ((n - 0x10) / 8)) / 25000)
  else if 0x70 ≤ n ∧ n < 0x80 ∧ n % 4 = 3 then
    let st := (n - 0x70) / 4
    2 * b2n (s.polyRuns st) + b2n (s.polyAt st)
  else if 0x80 ≤ n ∧ n < 0xC0 ∧ n % 4 = 3 then
    let c := (n - 0x80) / 4
    2 ^ 15 * s.rd (F.HV_CTL_TRIPPED c) + 2 ^ 14 * s.rd (F.LP_STAT_PL_TRIP c) + s.rd (F.HV_STAT_SENSE c)
  else if 0xC0 ≤ n ∧ n < 0xE0 ∧ n % 4 = 3 then
    let k := (n - 0xC0) / 4
    2 ^ 15 * s.rd (F.FZ_STAT_OVERTEMP k) + 2 ^ 14 * s.rd (F.TH_STAT_FAULT k) + uBits 12 (s.rdS (F.TH_STAT_TEMP k) / 4)
  else if n = 0xE0 then s.legStat
  else if 0xE1 ≤ n ∧ n < 0xE5 then s.legSstat (n - 0xE1)
  else if 0xE5 ≤ n ∧ n < 0xE9 then s.rd (F.ST_DROP_MAP_DROPPED (n - 0xE5)) % 256
  else if n = 0xE9 then bitsWhere 16 (fun c => s.on (F.HV_CTL_TRIPPED c) || s.loopMode c == 3)
  else if n = 0xEA then
    256 * bitsWhere 8 (fun k => s.on (F.TH_STAT_FAULT k)) + bitsWhere 8 (fun k => s.on (F.FZ_STAT_OVERTEMP k))
  else if n = 0xEE then s.rd F.LVR_STAT_UNDERRUN
  else if n = 0xEF then s.rd F.LVR_STAT_BAD
  else if n = 0xF0 then
    2 ^ 15 * s.rd F.LINK_LOOP_EN + 2 ^ 14 * s.rd F.LINK_LOOP_EXT + 2 ^ 12 * s.rd F.LINK_LOOP_BPP2 + s.rd F.LINK_LOOP_PACKETS
  else if n = 0xF1 then
    2 ^ 15 * s.rd F.LINK_LOOP_STAT_DONE + 2 ^ 14 * s.rd F.LINK_LOOP_STAT_PASS + min 16383 (s.rd F.LINK_LOOP_STAT_ERRORS)
  else if n = 0xFE then 256 * s.rd F.GLB_REV_STEPPING + s.rd F.GLB_REV_ROM_REV
  else 0

/-- R38, R502: a legacy register; it reads 0 outside compatibility mode, and SC_DS reads 0 on s0 (R503). -/
def State.legRead (s : State) (n : Nat) : Nat :=
  if !s.compat ∨ n = 0x15 then 0
  else
    let own := match findLeg n with
      | some h => assemble h.fields (fun (_, f) => s.rd f)
      | none => 0
    own + s.legNative n

/-! ### Computed native fields -/

/-- The fields of table registers whose content the machine computes from the rest of its state. -/
def State.viewField (s : State) (f : Fld) : Nat :=
  if 0x200000 ≤ f.off ∧ f.off < 0x208000 ∧ f.off % 0x100 = 0x14 ∧ f.lo = 6 then
    let b := (f.off - 0x200000) / 0x100
    b2n (match s.stationOf (b / 8) with | some st => s.excluded st b | none => false)
  else if 0x200000 ≤ f.off ∧ f.off < 0x208000 ∧ f.off % 0x100 = 0x18 ∧ f.lo = 0 then
    let b := (f.off - 0x200000) / 0x100
    match s.stationOf (b / 8) with
    | some st => (s.onRun b (s.lineRun st b (s.now * 250))).rd (F.BM_ONMAX_ONMAX b)
    | none => s.rd (F.BM_ONMAX_ONMAX b)
  else if f.off = F.PMB_STAT_STATUS_BYTE.off ∧ f.lo = F.PMB_STAT_STATUS_BYTE.lo then
    (if s.rd F.PMB_CFG_ROLE = 2 then s.statusByte else 0)
  else if f.off = F.VIG_EMBER_STAT_ACTIVE.off ∧ f.lo = F.VIG_EMBER_STAT_ACTIVE.lo then b2n s.emberOn
  else if f.off = F.FAULT_HOLD_HOLD.off then s.faultHold
  else s.bandRd f

/-! ### Native fields that legacy fields drive (R498, R505) -/

/-- R505: what a legacy control makes of its slot, as loop controls: OFF and CLEAR, AUTO, or MANUAL at a value. -/
def legCtls (en auto : Bool) (v : Nat) : List (Nat × Nat × Nat) :=
  if !en then [(0, 0, 0), (0, 5, 0)] else if auto then [(0, 3, 0)] else [(0, 1, v)]

def State.pushCtls (s : State) (l : Nat) (cs : List (Nat × Nat × Nat)) : State :=
  s.modLoop l (fun x => { x with ctls := x.ctls ++ cs })

/-- The mode of a high-voltage channel's slot follows HV_CTL; the value is SET × 8 in Q1.15. -/
def State.hvMode (s : State) (c : Nat) : State :=
  s.pushCtls c (legCtls (s.on (L.HV_CTL_EN c)) (s.on (L.HV_CTL_AUTO c)) (8 * s.rd (L.HV_SET_SET c)))

/-- The mode of a fuser zone's slot follows FZ_CTL; the value is SET × 32 in Q1.15. -/
def State.fzMode (s : State) (n : Nat) : State :=
  s.pushCtls (16 + n) (legCtls (s.on (L.FZ_CTL_EN n)) (s.on (L.FZ_CTL_AUTO n)) (32 * s.rd (L.FZ_SET_SET n)))

/-- R501, R505: what the legacy side does as an ARM is accepted: F_run, frame 0 next, the loops of enabled channels. -/
def State.legArmed (s : State) : State :=
  if !s.compat then s else
  let s := { s with leg := { s.leg with
    fRun := s.wpos + 2000000
    st := s.leg.st.map (fun (x : LegStation) => ({ x with next := 0 } : LegStation)) } }
  let s := ((List.range 16).filter (fun c => s.on (L.HV_CTL_EN c))).foldl State.hvMode s
  ((List.range 8).filter (fun n => s.on (L.FZ_CTL_EN n))).foldl State.fzMode s

/-- The commit group fields and register fields of s0–s3 and its blocks that only the legacy map writes. OCT_MASK of s4–s7
and every station's LOCK_EN, IT_EN, XT_EN and XS_EN stay 0 in this mode; of the encoders, L_WEB drives the one in use. -/
def State.legOwned (s : State) (f : Fld) : Bool :=
  let is (k : Nat) (g : Nat → List Fld) : Bool := (List.range k).any (fun i => (g i).contains f)
  is 4 (fun i => [F.ST_GEOM_PIXELS i, F.ST_GEOM_FACETS i, F.ST_LMAP_REVERSE i, F.ST_LMAP_PITCH i, F.ST_LMAP_PAIRED i,
      F.ST_PLINE_P_LINE i, F.ST_SCAN_SOS_OFS i, F.ST_DS_NOM_DS_NOM i, F.ST_XOFF_NOM_XOFF_NOM i, F.ST_ROLL_CTL_HEAL_EN i,
      F.XD_CFG_MODE i, F.XD_CFG_POLY_EN i, F.XD_CFG_STATION i, F.XD_RPR_REF_PER_REV i, F.PLL_FCW_FCW (4 + i),
      F.CLK_OUT_CFG_DIV i, F.CLK_OUT_CEIL_CEIL i])
  || is 8 (fun i => [F.ST_OCTETS_OCT_MASK i, F.ST_PH_CTL_LOCK_EN i, F.ST_REG_CTL_IT_EN i, F.ST_REG_CTL_XT_EN i,
      F.ST_REG_CTL_XS_EN i, F.FZ_CFG_EN i, F.FZ_CFG_TSRC i, F.FZ_TMAX_T_MAX i, F.TH_CFG_EN i])
  || is 32 (fun b => [F.BM_BIAS_BIAS b, F.BM_APC_APC_EN b, F.BM_APC_TGT b])
  || is 16 (fun c => [F.HV_CFG_MAXDUTY c])
  || (let p := s.rd F.WEB_CFG_PRI; [F.ENC_CFG_EN p, F.ENC_CFG_JW p, F.ENC_SCALE_SCALE p].contains f)
  || [F.WEB_CFG_EN, F.WEB_CFG_MODE, F.WEB_CFG_PRI, F.LINK_LOOP_EN, F.LINK_LOOP_EXT, F.LINK_LOOP_BPP2, F.LINK_LOOP_PACKETS].contains f
  || (0x600000 ≤ f.off && f.off < 0x600000 + 24 * 0x80)
  || (match progOf f.key with | some (l, _) => l < 24 | none => false)

end Sys2Proof.Machine
end

