-- ==== Sys2Proof/Machine/Bezel.lean ====
section
/-! DEFINITION. Register access and the bezel controller (R11–R14, chapter 10): writes by field type, STAGED and
ACTIVE banks, commits in two passes, discards, effects at boundaries, ARM and DISARM. -/

namespace Sys2Proof.Machine

open Sys2Proof

/-! ### Staged fields and groups (R267, R268) -/

/-- Whether a commit of a group is pending (R270). -/
def State.isPending (s : State) (g : Nat) : Bool := s.bezel.pending.any (fun p => p.group = g)

/-- The groups with written fields, ascending in GROUP_ID (R272). -/
def State.writtenGroups (s : State) : List Nat :=
  let gs := ((s.staged.map (fun e => groupOfKey e.1)).eraseDups).filter (fun g => !s.isPending g)
  sortBy (fun a b => decide (groupId a ≤ groupId b)) gs

/-- The kind and indices of the group a field's key belongs to. -/
def kindOfKey (key : Nat) : GrpKind × Nat × Nat :=
  match progOf key with
  | some (l, _) => (.loop, l, 0)
  | none =>
    match findReg (key / 32) with
    | some h => (h.desc.grp, h.gInst, h.ix.getD 1 0)
    | none => (.own, 0, 0)

/-- BEZEL_STATUS, BEZEL_FIELD and BEZEL_GROUP name a refusal (R280). -/
def State.noteRefusal (s : State) (reason source field group : Nat) : State :=
  (((((s.wr F.BEZEL_STATUS_REASON reason).wr F.BEZEL_STATUS_SOURCE source).inc F.BEZEL_STATUS_REFUSALS).wr
    F.BEZEL_FIELD_FIELD_ID field).wr F.BEZEL_GROUP_GROUP_ID group)

/-- R268: a value staged for a field; DS_NOM of s0 ignores writes (R31). -/
def State.stage (s : State) (f : Fld) (v : Nat) : State :=
  { s with staged := if f.key = (F.ST_DS_NOM_DS_NOM 0).key then s.staged
      else amPut s.staged f.key (BitVec.ofNat 32 (v % 2 ^ f.w)) }

/-- R269: the block that a register belongs to runs. -/
def State.frozen (s : State) (h : RegHit) : Bool := s.running h.desc.grp h.gInst (h.ix.getD 1 0) (h.desc.base + h.disp)

/-- R269, R270: why a write to a field is refused: 1 FROZEN, 4 PENDING, 0 not. -/
def State.writeRefusal (s : State) (h : RegHit) (a : Acc) : Nat :=
  match a with
  | .rws => if s.isPending h.group then 4 else 0
  | .rwf => if s.isPending h.group then 4 else if s.frozen h then 1 else 0
  | _ => 0

/-- Fields of type RW-L whose writes are commands of their own (RING_ENABLE and RING_DISABLE, PLL_ENABLE,
CLK_OUT_ENABLE, SCAN_EN_WRITE, PWR_DOM_REQ_WRITE). -/
def ownCommand (h : RegHit) (f : Fld) : Bool :=
  let b := h.desc.base
  (b = 0x10014) || (b = 0x31000 && f.lo = 0) || (b = 0x33284) || (b = 0x100808) || (b = 0x4002c && f.lo = (F.PWR_DOM_REQ 0).lo)

/-- One field written under R12, without the refusals of R269 and R270. -/
def State.putField (s : State) (a : Acc) (f : Fld) (v : Nat) : State :=
  match a with
  | .rwl => (s.putLive f v).slotsTake [f.key]
  | .rws => s.stage f v
  | .rwf =>
    let was := amFind s.staged f.key
    let s := s.stage f v
    { s with bezel := { s.bezel with fresh := (f.key, was) :: s.bezel.fresh } }
  | .w1c => s.clrW1c f v
  | .ro | .roh | .wo => s

/-- R269, R280: a write refused FROZEN is recorded and posted. -/
def State.noteFrozen (s : State) (source : Nat) (h : RegHit) (f : Fld) (tag : Nat := 0) : State :=
  (s.noteRefusal 1 source (fieldId f.key) (groupId h.group)).post 1 0x9051 1 0
    [(0, 4, fieldId f.key), (4, 4, groupId h.group)] tag

/-- One field of a BAR0 write: applied by its type, or refused, with the refusal recorded and, where FROZEN, posted. -/
def State.writeField (s : State) (source : Nat) (h : RegHit) (a : Acc) (f : Fld) (v : Nat) : State :=
  match s.writeRefusal h a with
  | 0 => if ownCommand h f then s else s.putField a f v
  | 1 => s.noteFrozen source h f
  | r => s.noteRefusal r source (fieldId f.key) (groupId h.group)

/-- R300, R308: CLK_CMD's hop, whose write of PLL_FCW is refused after all, ends REFUSED. -/
def State.hopFrozen (s : State) (key det : Nat) : State :=
  (List.range 12).foldl (fun (s : State) (p : Nat) =>
    if (F.PLL_FCW_FCW p).key == key && (s.pll p).hops.any (fun h => h.1.isNone) then
      (s.modPll p (fun x => { x with hops := x.hops.filter (fun h => h.1.isSome) })).clkEnd none 4 det 0
    else s) s

/-- R269: a block that starts to run in the SYS cycle of a BAR0 write counts as running: the RW-F field staged takes its value
before again, and the write is refused. A commit of the field in the same cycle has not taken effect yet (`cycleEnd`). -/
def State.frozenLate (s : State) (e : Nat × Option Word) : State :=
  match fieldAt e.1 with
  | none => s
  | some (h, a, f) =>
    if a = .rwf && s.frozen h && (amFind s.staged e.1).isSome then
      let old := match e.2 with
        | some w => amPut s.staged e.1 w
        | none => s.staged.filter (fun x => x.1 != e.1)
      (({ s with staged := old } : State).noteFrozen 0 h f).hopFrozen f.key (256 + groupId h.group % 256)
    else s

/-- R498: a write in compatibility mode of fields that legacy fields drive is ignored and posts 0xA012. -/
def State.nativeOwned (s : State) (off : Nat) (owned : Bool) : State :=
  if owned then s.post 0 0xA012 17 0 [(0, 4, off)] else s

/-- R12, R268: an aligned 32-bit BAR0 write, every field by its type; one refusal is recorded per reason and write. -/
def State.regWrite (s : State) (off v : Nat) : State :=
  match findReg off with
  | none => s
  | some h =>
    let part (f : Fld) : Nat := (v >>> f.lo) % 2 ^ f.w
    let mine (x : Acc × Fld) : Bool := s.compat && s.legOwned x.2
    let s := s.nativeOwned off (h.fields.any mine)
    let fs := h.fields.filter (fun x => !mine x)
    let s' := fs.foldl (fun t (a, f) => if s.writeRefusal h a = 0 then t.writeField 0 h a f (part f) else t) s
    match fs.reverse.find? (fun (a, _) => s.writeRefusal h a != 0) with
    | some (a, f) => s'.writeField 0 h a f (part f)
    | none => s'

/-! ### Reads (R11–R14, R37, R38) -/

/-- The fields of the registers whose content the machine computes from the rest of its state. -/
def State.viewWord (s : State) (off : Nat) : Option Nat :=
  let w := uBits 64 s.wpos
  let ev (k : Nat) : Nat := match s.host.evLast with
    | none => 0
    | some e => (packBytes [(0, 8, e.etime), (8, 8, uBits 64 e.wpos), (16, 2, e.code), (18, 1, e.sev), (19, 1, e.src),
        (20, 2, e.inst), (22, 10, e.detail.toNat)] >>> (32 * k)) % 2 ^ 32
  if off = 0x20 then some (s.time.etime % 2 ^ 32) else if off = 0x24 then some (s.time.etime / 2 ^ 32 % 2 ^ 32)
  else if off = 0x28 then some (s.time.vtime % 2 ^ 32) else if off = 0x2C then some (s.time.vtime / 2 ^ 32 % 2 ^ 16)
  else if off = 0x30 then some (w % 2 ^ 32) else if off = 0x34 then some (w / 2 ^ 32)
  else if off = 0x1020 then some (s.inFlight * 65536 + s.freeSlots)
  else if off = 0x1028 then some (uBits 32 s.almTail) else if off = 0x102C then some (uBits 32 (s.almTail / 4294967296))
  else if off = 0x1030 then some (match s.nextEve with | some e => uBits 32 e | none => 0xFFFFFFFF)
  else if off = 0x1034 then some (match s.nextEve with | some e => uBits 32 (e / 4294967296) | none => 0xFFFFFFFF)
  else if 0x1100 ≤ off ∧ off < 0x1150 then
    let r := (off - 0x1100) / 4
    some ((List.range 8).foldl (fun a k => a + (s.slot (8 * r + k)).st.code * 16 ^ k) 0)
  else if off = 0x2008 then some s.poolGran else if off = 0x200C then some s.poolFree
  else if off = 0x10C00 then some (s.host.evq.length * 65536 + s.host.seq)
  else if off = 0x300024 then some s.rprFree
  else if off = 0x300028 then some (s.codec.captures.filter (fun c => c.held)).length
  else if 0x10C20 ≤ off ∧ off < 0x10C40 then some (ev ((off - 0x10C20) / 4))
  else if off = 0x10C40 then some (match s.host.evLast with | none => 0 | some e => e.seq * 65536 + e.block)
  else if off = 0x2000C then some (s.bezel.pending.length * 65536 + s.writtenGroups.length)
  else none

/-- R280: the STAGED content of a register. -/
def State.peekData (s : State) (off : Nat) : Nat :=
  match findReg off with
  | none => 0
  | some h => assemble h.fields (fun (a, f) =>
      if a = .rws ∨ a = .rwf then (match amFind s.staged f.key with | some v => v.toNat | none => s.viewField f) else 0)

/-- R280: the bits of written fields of a register. -/
def State.peekWr (s : State) (off : Nat) : Nat :=
  match findReg off with
  | none => 0
  | some h => if s.isPending h.group then 0 else
      assemble h.fields (fun (_, f) => if (amFind s.staged f.key).isSome then 2 ^ f.w - 1 else 0)

/-- R37: an island's copy of a loop slot's register lies where the slot's does. -/
def slotCopy (off : Nat) : Nat :=
  if 0x62000 ≤ off ∧ off < 0x68000 then off - 0x62000 + 0x600000
  else if 0x6A000 ≤ off ∧ off < 0x70000 then off - 0x6A000 + 0x600000 else off

/-- R37: the state as a read at an offset sees it: an island's own copy of a slot through its block, the active island's in the
slot's own place. -/
def State.slotView (s : State) (off : Nat) : State :=
  if 0x62000 ≤ off ∧ off < 0x68000 then s.slotSeen 0 (slotCopy off)
  else if 0x6A000 ≤ off ∧ off < 0x70000 then s.slotSeen 1 (slotCopy off) else s

/-- A register read live: legacy registers, computed registers, then ACTIVE fields; WO fields and unused bits read 0. -/
def State.readLive (s0 : State) (off0 : Nat) : Nat :=
  if 0x800000 ≤ off0 ∧ off0 < 0x800400 then s0.legRead ((off0 - 0x800000) / 4) else
  let off := slotCopy off0
  let s := s0.slotView off0
  match s.viewWord off with
  | some v => v
  | none =>
    if off = 0x2001C then s.peekData (s.rd F.BEZEL_PEEK_ADDR_OFFSET * 4)
    else if off = 0x20020 then s.peekWr (s.rd F.BEZEL_PEEK_ADDR_OFFSET * 4)
    else match findReg off with
      | none => 0
      | some h => assemble h.fields (fun (a, f) => if a = .wo then 0 else s.viewField f)

/-- R14: a read of a register; the high word of a 64-bit RO-H value returns its snapshot once. -/
def State.readWord (s : State) (off : Nat) : Nat :=
  match amFind s.host.hiSnap off with
  | some v => v.toNat
  | none => s.readLive off

/-! ### Commit and discard (R272–R274) -/

/-- R272: the first failure of one group in the first pass: reason and FIELD_ID. While a ring is not DISABLED a fence window
changes only through Q31 (R263): values staged before are FROZEN at the commit (DEDUCED, log 124). DEDUCED (log 113): the prospective
bank takes the written values of every group `gs` of the commit. -/
def State.groupFail (s : State) (gs : List Nat) (g : Nat) : Option (Nat × Nat) :=
  let keys := s.stagedKeys g
  match keys with
  | [] => none
  | k :: _ =>
    let (kind, i, j) := kindOfKey k
    let new := s.prospect gs
    let part := (togetherSets kind i (new.rd (F.LP_CFG_NSTEPS i)) (s.running kind i j (k / 32))).find? (fun fs =>
      fs.any (fun f => keys.contains f.key) && !fs.all (fun f => keys.contains f.key))
    if s.isPending g then some (4, fieldId k)
    else if kind == .fence && s.running kind i j (k / 32) then some (1, fieldId k)
    else match part with
      | some fs => some (2, fieldId ((fs.find? (fun f => !keys.contains f.key)).map Fld.key |>.getD 0))
      | none =>
        match (groupRules s new kind i j (k / 32)).find? (fun r => !r.1) with
        | some r => some (3, fieldId ((keys.find? (fun k => (r.2.map Fld.key).contains k)).getD k))
        | none =>
          if s.on F.GLB_STATE_ARMED && !armedCommit kind i then some (8, fieldId k) else none

/-- R272: the first failure of a commit of groups, in two passes: reason, FIELD_ID, GROUP_ID. -/
def State.commitFail (s : State) (gs : List Nat) : Option (Nat × Nat × Nat) :=
  match gs.findSome? (fun g => (s.groupFail gs g).map (fun (r, f) => (r, f, groupId g))) with
  | some x => some x
  | none =>
    if s.on F.GLB_STATE_ARMED && gs.any (fun g => s.stagedKeys g != []) then
      (s.prospect gs).armFail.map (fun k => (5, fieldId k, groupId (groupOfKey k)))
    else none

/-- R273: a group copies STAGED to ACTIVE at its boundary, with what the block does then. -/
def State.applyCommit (s : State) (g : Nat) : State :=
  let keys := s.stagedKeys g
  let txns := s.pendingTxns g
  match keys with
  | [] => s
  | k :: _ =>
    let (kind, i, j) := kindOfKey k
    let s1 := (s.promote g).afterCommit s kind i j keys
    txns.foldl (fun t id => t.partDone id 0 0) s1

/-- R273, R282: the values of a group that legacy fields drive reach ACTIVE at its boundary. -/
def State.applyDue (s : State) (g : Nat) : State :=
  let es := s.leg.due.filter (fun e => groupOfKey e.1 = g)
  match es with
  | [] => s
  | (k, _) :: _ =>
    let (kind, i, j) := kindOfKey k
    let s1 := es.foldl (fun (t : State) (e : Nat × Nat) =>
      match fieldAt e.1 with | some (_, _, f) => t.wr f e.2 | none => t) s
    let s1 := { s1 with leg := { s1.leg with due := s1.leg.due.filter (fun e => groupOfKey e.1 != g) } }
    s1.afterCommit s kind i j (es.map (·.1))

/-- R273: a group's boundary. -/
def State.boundary (s : State) (g : Nat) : State :=
  let s := s.applyDue g
  if s.isPending g then s.applyCommit g else s

/-- The boundaries of the pending groups that meet a test. -/
def State.boundaries (s : State) (t : GrpKind → Nat → Bool) : State :=
  let ks := s.leg.due.map (·.1) ++ s.bezel.pending.filterMap (fun p => (s.stagedKeys p.group).head?)
  let gs := (ks.filter (fun k => let (kind, i, _) := kindOfKey k; t kind i)).map groupOfKey
  gs.eraseDups.foldl State.boundary s

/-- R273: groups reach their boundaries on this tick; a commit accepted later on the tick takes effect at them too. -/
def State.atEdge (s : State) (gs : List (GrpKind × Nat)) : State :=
  let n := s.now / 10
  let s := { s with bezel := { s.bezel with
    edge := s.bezel.edge.filter (fun (e : GrpKind × Nat × Nat) => e.2.2 == n) ++ gs.map (fun (g : GrpKind × Nat) => (g.1, g.2, n)) } }
  s.boundaries (fun g i => gs.contains (g, i))

/-- R273: the commit groups of a station that wait for its frame start. -/
def State.stationGroups (s : State) (st : Nat) : List (GrpKind × Nat) :=
  [(.stGeom, st), (.stPlace, st), (.stExpo, st), (.slice, st)] ++
    ((List.range 32).filter (fun n => s.stationOf n == some st)).map (fun n => (.octEct, n))

/-- R273: every pending group whose boundary is now takes effect. -/
def State.dueCommits (s : State) : State := s.boundaries (fun g i => s.boundaryNow g i)

/-- R273, R282: native fields that legacy fields drive take values, at once where their group's boundary is now. -/
def State.drive (s : State) (vs : List (Fld × Nat)) : State :=
  let due : List (Nat × Nat) := vs.map (fun v => (v.1.key, v.2 % 2 ^ v.1.w))
  let s := { s with leg := { s.leg with due := s.leg.due.filter (fun (e : Nat × Nat) => !(due.map (fun (x : Nat × Nat) => x.1)).contains e.1) ++ due } }
  s.dueCommits

/-- A key is that of a RW-F field. -/
def isRwf (key : Nat) : Bool := match fieldAt key with | some (_, a, _) => a = .rwf | none => false

/-- R273: whether an accepted commit of a group takes effect at once. A group with RW-F fields written does so at the end of
the cycle of acceptance (`cycleEnd`), when it is known whether its block starts to run in that cycle (R269). -/
def State.takesEffectNow (s : State) (g : Nat) : Bool :=
  let keys := s.stagedKeys g
  match keys with
  | [] => true
  | k :: _ =>
    let (kind, i, _) := kindOfKey k
    s.boundaryNow kind i && !keys.any isRwf

/-- R273: an accepted commit becomes pending; groups whose boundary is now take effect. `txn` is the part of the ring
transaction it answers. -/
def State.acceptCommit (s : State) (gs : List Nat) (txn : Option Nat) : State :=
  let gs := gs.filter (fun g => s.stagedKeys g != [])
  let s := { s with bezel := { s.bezel with pending := s.bezel.pending ++ gs.map (fun g => ⟨g, txn⟩) } }
  gs.foldl (fun t g => if t.takesEffectNow g then t.applyCommit g else t) s

/-- R273: the pending groups with RW-F fields written take effect; one of which a late refusal has left nothing is done. -/
def State.rwfCommits (s : State) : State :=
  (s.bezel.pending.filter (fun p => let keys := s.stagedKeys p.group; keys.isEmpty || keys.any isRwf)).foldl
    (fun (t : State) (p : Pend) => if (t.stagedKeys p.group).isEmpty then
      let u := { t with bezel := { t.bezel with pending := t.bezel.pending.filter (fun x => x.group != p.group) } }
      match p.txn with | some id => u.partDone id 0 0 | none => u
    else t.applyCommit p.group) s

/-- A refused commit or discard: recorded, and posted as 0x9050 (R274, R280). -/
def State.refuseCommit (s : State) (source reason field group : Nat) (tag : Nat := 0) : State :=
  (s.noteRefusal reason source field group).post 0 0x9050 1 0
    [(0, 4, field), (4, 4, group), (8, 1, reason), (9, 1, source)] tag

/-- R274: a discard of groups. -/
def State.discardFail (s : State) (gs : List Nat) : Option (Nat × Nat × Nat) :=
  (gs.find? s.isPending).map (fun g => (4, fieldId ((s.stagedKeys g).headD 0), groupId g))

def State.discard (s : State) (gs : List Nat) : State :=
  { s with staged := s.staged.filter (fun e => !gs.contains (groupOfKey e.1)) }

/-- R266: the group a FIELD_ID names, if it names a RW-S or RW-F field. -/
def groupOfFieldId (fid : Nat) : Option Nat :=
  let key := if 0x40 ≤ fid / 0x1000000 then (fid % 0x1000000 + 4 * (fid / 0x1000000 - 0x40) + 1) * 32
    else fid % 0x1000000 * 32 + fid / 0x1000000
  if fieldId key ≠ fid then none else
  match fieldAt key with
  | some (h, a, _) => if a = .rws ∨ a = .rwf then some h.group else none
  | none => none

/-! ### ARM and DISARM (R277–R279) -/

/-- R277: the first check that refuses an ARM: reason, FIELD_ID, GROUP_ID. -/
def State.armRefusal (s : State) : Option (Nat × Nat × Nat) :=
  if s.on F.GLB_MODE_STRAP_ERR then some (7, 0, 0)
  else match s.bezel.pending with
    | p :: _ => some (4, fieldId ((s.stagedKeys p.group).headD 0), groupId p.group)
    | [] =>
      match s.writtenGroups with
      | g :: _ => some (6, fieldId ((s.stagedKeys g).headD 0), groupId g)
      | [] => s.armFail.map (fun k => (5, fieldId k, groupId (groupOfKey k)))

/-- R433: a refused ARM counts for RUN and is logged (the refuser is HOST). -/
def State.armRefused (s : State) (r source f g : Nat) (tag : Nat := 0) : State :=
  let s := (s.noteRefusal r source f g).post 1 0x9052 1 0 [(0, 4, f), (4, 4, g), (8, 1, r)] tag
  (s.inc (F.PWR_CNT_REFUSED 3)).powerLog s.pstate 3 1 0 0 255 1 0

/-- R278: the engines follow the Clasps as HOLD is set or cleared. -/
def State.syncAll (s : State) : State := ((s.syncXds).syncOcts).syncHvs

/-- R277, R421: an accepted ARM: HOLD ends, READY becomes RUN. -/
def State.armed (s : State) (tag : Nat := 0) : State :=
  let held := s.on F.GLB_STATE_HOLD
  let was := s.pstate
  let s := ((s.wr F.GLB_STATE_ARMED 1).wr F.GLB_STATE_HOLD 0).post 0 0x9053 1 0 [] tag
  let s := (if held then s.axRelease.syncAll else s).wantOcts
  let s := if was = 3 then s else (s.powerLog was 3 0 1 0 255 0 0).changePstate 3 1
  s.legArmed

/-- R277: ARM. -/
def State.arm (s : State) (source : Nat) (tag : Nat := 0) : State :=
  match s.armRefusal with
  | some (r, f, g) => s.armRefused r source f g tag
  | none => s.armed tag

/-- R278: every Clasp presents its safe value. -/
def State.hold (s : State) : State :=
  let s := ((s.wr F.GLB_STATE_ARMED 0).wr F.GLB_STATE_HOLD 1)
  let s := ((s.motHold).axHold).loopsHold
  ((List.range 8).foldl (fun (s : State) (n : Nat) => if s.emberZone n then s else s.fzDrive n false) s).syncAll.wantOcts

/-- R279, R421, R470: DISARM, where no slot is in flight. An eve on its tick finds ARMED = 0. -/
def State.disarm (s : State) (tag : Nat := 0) : State :=
  let was := s.pstate
  let s := (s.hold.modEveTick (fun x =>
    if x.eveCause = 0x1024 ∨ x.eveCause = 0x1025 then x else { x with eveCause := 0x1023, eveDetail := 0 })).post 0 0x9054 1 0 [] tag
  let s := if was = 3 then (s.powerLog 3 2 0 1 0 255 0 0).changePstate 2 1 else s
  s.noTier

/-! ### BEZEL_CMD (R280) -/

/-- R280: a commit through BEZEL_CMD. -/
def State.cmdCommit (s : State) (gs : List Nat) : State :=
  match s.commitFail gs with
  | some (r, f, g) => s.refuseCommit 1 r f g
  | none => s.acceptCommit gs none

/-- R280: a discard through BEZEL_CMD. -/
def State.cmdDiscard (s : State) (gs : List Nat) : State :=
  match s.discardFail gs with
  | some (r, f, g) => s.refuseCommit 1 r f g
  | none => s.discard gs

/-- R266, R280: the group BEZEL_CMD_FIELD names, or a refusal with REASON FIELD. -/
def State.cmdOnGroup (s : State) (f : State → List Nat → State) : State :=
  let fid := s.rd F.BEZEL_CMD_FIELD_FIELD_ID
  match groupOfFieldId fid with
  | none => s.refuseCommit 1 9 fid 0
  | some g => f s [g]

/-! ### Bezel transactions (R276) -/

/-- R276: MASK covers whole fields of type RW-L, RW-S or RW-F, and no other bits. -/
def maskFields (off mask : Nat) : Option (RegHit × List (Acc × Fld)) :=
  match findReg off with
  | none => none
  | some h =>
    let fs := h.fields.filter (fun (a, f) => (a = .rwl || a = .rws || a = .rwf) && (mask >>> f.lo) % 2 ^ f.w = 2 ^ f.w - 1)
    if assemble fs (fun (_, f) => 2 ^ f.w - 1) = mask && mask != 0 then some (h, fs) else none

/-- R276: the shape of a bezel transaction. -/
def bezelShape (ds : List Desc) : Bool :=
  let ws := ds.filter (fun d => dOpcode d = 0x40)
  let body := ds.dropLast
  let last := dOpcode (ds.getLastD 0)
  ws.length ≤ 12 &&
    (ds.all (fun d => dOpcode d = 0x40)
      || (body.all (fun d => dOpcode d = 0x40) && (last = 0x41 || last = 0x44))
      || (ds.length = 1 && (last = 0x42 || last = 0x43)))

/-- The fields of one bezel descriptor are in range. -/
def bezelFormat (d : Desc) : Bool :=
  dCount d == 0 && dZero d 24 63 &&
  (match dOpcode d with
   | 0x40 => dField d 8 4 % 4 == 0 && dZero d 20 23 && (maskFields (dField d 8 4) (dField d 12 4)).isSome
   | 0x41 | 0x44 => dField d 8 1 ≤ 2 && dZero d 9 11 && dZero d 16 23 && (dField d 8 1 == 2 || dField d 12 4 == 0)
   | _ => dZero d 8 23)

/-- RESULT of a bezel transaction: FIELD_ID, GROUP_ID, groups committed or discarded. -/
def bezelResult (field group n : Nat) : Nat := packBytes [(0, 4, field), (4, 4, group), (8, 1, n)]

end Sys2Proof.Machine
end

