-- ==== Sys2Proof/Machine/ClockCmds.lean ====
section
/-! DEFINITION. The clock commands (R291, R300, R301, R308): CLK_HOP, CLK_RAMP, CLK_SWEEP and their CLK_CMD forms. -/

namespace Sys2Proof.Machine

open Sys2Proof

/-- R300: a hop acts as a write of PLL_FCW and a commit of its group, and waits for FINE. -/
def State.clkHop (s : State) (ref : Option Nat) (p fcw : Nat) (entry : Option Nat) (tag : Nat) : Applied :=
  let f := F.PLL_FCW_FCW p
  let src := if ref.isSome then 2 else 0
  if p < 4 then .fail 0 5 0 0 id
  else if (match entry with | some k => !s.on (F.PLL_HOP_B_VALID p k) | none => false) then .fail 0 4 (entry.getD 0) 0 id
  else match findReg f.off with
  | none => .fail 0 1 0 0 id
  | some h =>
    let g := h.group
    let v := match entry with | some k => s.rd (F.PLL_HOP_A_FCW p k) | none => fcw
    let r := s.writeRefusal h .rwf
    if r != 0 then
      .fail 0 4 (r * 256 + groupId g % 256) 0
        (fun t => if r = 1 then t.noteFrozen src h f tag else t.noteRefusal r src (fieldId f.key) (groupId g))
    else
      let s1 := if ref.isSome then s.stage f v else s.putField .rwf f v
      match s1.commitFail [g] with
      | some (r, fi, gi) => .fail 0 4 (r * 256 + gi % 256) 0 (fun t => t.refuseCommit src r fi gi tag)
      | none =>
        let s2 := s1.modPll p (fun x => { x with nextEntry := entry, nextTag := tag, hops := x.hops ++ [(ref, s.now)] })
        .done (s2.acceptCommit [g] none) 1 0

/-- A return of the FCW in use is given up for another ramp command. -/
def State.endReturn (s : State) (p : Nat) : State :=
  let bs := (s.pll p).backs
  bs.foldl (fun (s : State) (r : Option Nat) => s.clkEnd r 5 0 0) (s.modPll p (fun x => { x with returning := false, backs := [] }))

/-- R301: a ramp starts. -/
def State.rampStart (s : State) (p : Nat) : Applied :=
  if p < 4 ∨ s.pllState p ≠ 4 then .fail 0 5 0 0 id else
  let s := (s.endReturn p).modPll p (fun x => { x with
    rampFrom := s.fcwUse p, rampAt := s.now, rampNext := s.now + 10000, noBand := false })
  .done ((s.wr (F.PLL_RAMP_STAT_RUN p) 1).wr (F.PLL_RAMP_STAT_SEG p) 0) 0 0

/-- R300: OP 1, the FCW in use holds. -/
def State.rampHold (s : State) (p : Nat) : Applied :=
  if p < 4 then .fail 0 5 0 0 id else .done ((s.endReturn p).wr (F.PLL_RAMP_STAT_RUN p) 0) 0 0

/-- R300: OP 2, the FCW in use returns to PLL_FCW. -/
def State.rampReturn (s : State) (ref : Option Nat) (p : Nat) : Applied :=
  if p < 4 then .fail 0 5 0 0 id else
  let s := (s.endReturn p).wr (F.PLL_RAMP_STAT_RUN p) 0
  if s.fcwUse p = s.rd (F.PLL_FCW_FCW p) then .done s 0 0
  else .done (s.modPll p (fun x => { x with returning := true, rampNext := s.now + 10000, backs := [ref] })) 1 0

/-- R291: a sweep starts. -/
def State.clkSweep (s : State) (ref : Option Nat) (p cap : Nat) (stage : Bool) (entry : Nat) : Applied :=
  if p < 4 ∨ s.pllState p ≠ 0 ∨ (s.pll p).sweep.isSome then .fail 0 5 0 0 id
  else .done (s.modPll p (fun x => { x with sweep := some ⟨cap, stage, entry, s.now, ref, false⟩ })) 1 0

/-- R291, R268: the values of a sweep as staged writes of a band table entry. -/
def State.stageBand (s : State) (p k fmin fmax kdco cap : Nat) : State :=
  ((((s.stage (F.PLL_BAND_A_FMIN p k) fmin).stage (F.PLL_BAND_A_FMAX p k) fmax).stage (F.PLL_BAND_B_KDCO p k) kdco).stage
    (F.PLL_BAND_B_CAP p k) cap).stage (F.PLL_BAND_B_VALID p k) 1

/-- R503: the boot controller's sweep of one CAP code ends; every fourth code fills an entry of the band table (log 60). -/
def State.bootSweep (s : State) (p : Nat) (j : SweepJob) (fmin fmax kdco : Nat) : State :=
  let k := j.cap / 4
  let s := if j.cap % 4 != 0 then s else
    ((((s.wr (F.PLL_BAND_A_FMIN p k) fmin).wr (F.PLL_BAND_A_FMAX p k) fmax).wr (F.PLL_BAND_B_KDCO p k) kdco).wr
      (F.PLL_BAND_B_CAP p k) j.cap).wr (F.PLL_BAND_B_VALID p k) 1
  s.modPll p (fun x => { x with
    sweep := if j.cap < 255 then some { j with cap := j.cap + 1, start := s.now } else none })

/-- R291: a sweep ends, after two counts of 20 µs. -/
def State.sweepDone (s : State) (p fmin fmax kdco : Nat) : State :=
  match (s.pll p).sweep with
  | none => s
  | some j =>
    if s.now < j.start + 40000 then s
    else if j.boot then s.bootSweep p j fmin fmax kdco else
    let s := s.modPll p (fun x => { x with sweep := none })
    let res := packBytes [(0, 2, fmin), (2, 2, fmax), (4, 2, kdco), (6, 1, j.cap)]
    if s.pllState p ≠ 0 then s.clkEnd j.ref 5 0 0
    else if !j.stage then s.clkEnd j.ref 0 0 res
    else match findReg (F.PLL_BAND_A_FMIN p j.entry).off with
      | none => s.clkEnd j.ref 0 0 res
      | some h =>
        if s.isPending h.group then
          (s.noteRefusal 4 (if j.ref.isSome then 2 else 0) (fieldId (F.PLL_BAND_A_FMIN p j.entry).key) (groupId h.group)).clkEnd
            j.ref 4 (4 * 256 + groupId h.group % 256) res
        else (s.stageBand p j.entry fmin fmax kdco j.cap).clkEnd j.ref 0 0 res

def execSweepComplete (p : Fin 12) (fmin fmax kdco : Nat) (s : State) : Out State Fault Refusal :=
  .next (s.live (s.sweepDone p fmin fmax kdco))

/-- The format of a clock descriptor (R300). -/
def clkFormat (d : Desc) : Bool :=
  let b (i : Nat) : Nat := dField d i 1
  dCount d == 0 && dZero d 16 63 && b 8 ≤ 11 &&
  (match dOpcode d with
   | 0x3C => b 9 ≤ 1 && b 10 ≤ 15 && b 11 == 0 && (b 9 == 0 || dZero d 12 15)
   | 0x3D => b 9 ≤ 2 && dZero d 10 15
   | _ => b 10 ≤ 1 && b 11 ≤ 63 && dZero d 12 15)

/-- R300: the clock transaction of one descriptor, part `ref`. -/
def State.applyClk (s : State) (ref : Nat) (ds : List Desc) : Applied :=
  let d := ds.headD 0
  let p := dField d 8 1
  if ds.length ≠ 1 ∨ !clkFormat d then .fail 0 1 0 0 id else
  match dOpcode d with
  | 0x3C => s.clkHop (some ref) p (dField d 12 4) (if dField d 9 1 = 1 then some (dField d 10 1) else none) (dTag d)
  | 0x3D => match dField d 9 1 with
    | 0 => s.rampStart p
    | 1 => s.rampHold p
    | _ => s.rampReturn (some ref) p
  | _ => s.clkSweep (some ref) p (dField d 9 1) (dField d 10 1 == 1) (dField d 11 1)

/-! ### CLK_CMD (R308) -/

/-- A command given through CLK_CMD: BUSY until it ends, then its STATUS and RESULT. -/
def State.clkCmd (s : State) (p : Nat) (a : State → Applied) : State :=
  if s.on F.CLK_CMD_STAT_BUSY then s
  else if 11 < p then s.clkEnd none 1 0 0
  else
    let s := s.wr F.CLK_CMD_STAT_BUSY 1
    match a s with
    | .done s' 0 r => s'.clkEnd none 0 0 r
    | .done s' _ _ => s'
    | .fail _ st d _ note => (note s).clkEnd none st d 0

def execClkCmdHopFcw (p : Fin 16) (s : State) : Out State Fault Refusal :=
  .next (s.live (s.clkCmd p (fun s => s.clkHop none p (s.rd F.CLK_CMD_FCW_FCW) none 0)))

def execClkCmdHopEntry (p : Fin 16) (arg : Fin 256) (s : State) : Out State Fault Refusal :=
  .next (s.live (s.clkCmd p (fun s => if 15 < arg.val then .fail 0 1 0 0 id else s.clkHop none p 0 (some arg) 0)))

def execClkCmdRampStart (p : Fin 16) (s : State) : Out State Fault Refusal := .next (s.live (s.clkCmd p (fun s => s.rampStart p)))

def execClkCmdRampHold (p : Fin 16) (s : State) : Out State Fault Refusal := .next (s.live (s.clkCmd p (fun s => s.rampHold p)))

def execClkCmdRampReturn (p : Fin 16) (s : State) : Out State Fault Refusal :=
  .next (s.live (s.clkCmd p (fun s => s.rampReturn none p)))

def execClkCmdSweep (p : Fin 16) (arg sweepEnt : Fin 256) (s : State) : Out State Fault Refusal :=
  .next (s.live (s.clkCmd p (fun s => if 64 ≤ sweepEnt.val % 128 then .fail 0 1 0 0 id
    else s.clkSweep none p arg (128 ≤ sweepEnt.val) (sweepEnt.val % 64))))

end Sys2Proof.Machine
end

