-- ==== Sys2Proof/Machine/Legacy.lean ====
section
/-! DEFINITION. Compatibility mode (chapter 20, R494–R510, R515, R516): the legacy registers' writes and pairs, legacy
frames, the video receiver, the loopback test. -/

namespace Sys2Proof.Machine

open Sys2Proof

/-! ### ROM loop programs (R498, R505, log 61) -/

/-- A program entry (R369). -/
def mkStep (type track a b d shift : Nat) (cs : List Nat) : Nat :=
  packBytes ([(0, 1, type + 16 * track), (1, 1, a + 16 * b), (2, 1, d + 16 * shift)]
    ++ cs.zipIdx.map (fun x => (4 + 2 * x.2, 2, x.1)))

/-- The PI step with Kp = KP / 64 and Ki = KI / 1,024. -/
def romPi (kp ki : Nat) : Nat := mkStep 2 1 4 0 5 2 [128 * kp, 8 * ki]

/-- The four words of an entry as field values. -/
def entryVals (l k e : Nat) : List (Fld × Nat) := (List.range 4).map (fun j => (progFld l k j, e / 2 ^ (32 * j) % 2 ^ 32))

/-- The ROM program of a slot: error, PI, limit, model. -/
def romVals (l : Nat) : List (Fld × Nat) :=
  let hv := l < 16
  let i := if hv then l else l - 16
  let model (k : Nat) : Nat := (Config.romModel hv k).toNat
  [ (F.LP_CFG_RATE l, if hv then 3 else 7), (F.LP_CFG_DECIM l, if hv then 1 else 10), (F.LP_CFG_ASSOC l, 8),
    (F.LP_CFG_SUP_ACT l, 1), (F.LP_CFG_NSTEPS l, 4), (F.LP_CFG_OUTREG l, 6),
    (F.LP_IN01_IN0 l, 0x1000), (F.LP_IN01_IN1 l, (if hv then 0x2000 else 0x3000) + i),
    (F.LP_SINK_SINK l, (if hv then 0x1000 else 0x2000) + i),
    (F.LP_SUP_PL_CNT l, 16), (F.LP_SUP_SAT_LIM l, 0),
    (F.LP_PLAUS_PL_EN l, 1), (F.LP_PLAUS_PL_STEP l, 3), (F.LP_PLAUS_PL_FB l, 1), (F.LP_PLAUS_PL_THR l, 0x400) ]
  ++ entryVals l 0 (mkStep 1 0 0 1 4 1 [0x4000, 0xC000])
  ++ entryVals l 1 (if hv then romPi 32 8 else romPi 16 2)
  ++ entryVals l 2 (mkStep 5 0 5 0 6 0 [0, 0x7FFF, 0])
  ++ entryVals l 3 (mkStep 7 0 6 0 7 0 [model 0, model 1])

def State.wrs (s : State) (vs : List (Fld × Nat)) : State := vs.foldl (fun (s : State) (v : Fld × Nat) => s.wr v.1 v.2) s

/-- R498, R502, R503: the native fields as the legacy registers' reset values drive them. -/
def State.legacyInit (s : State) : State :=
  let st (i : Nat) : List (Fld × Nat) :=
    [ (F.ST_GEOM_PIXELS i, 12288), (F.ST_GEOM_FACETS i, 12), (F.ST_SCAN_SOS_OFS i, 726), (F.ST_PLINE_P_LINE i, 0x54AAAB),
      (F.XD_CFG_MODE i, 1), (F.XD_CFG_STATION i, i), (F.XD_RPR_REF_PER_REV i, 65536) ]
  let s := ((List.range 4).foldl (fun (s : State) (i : Nat) => s.wrs (st i)) s)
  let s := (List.range 24).foldl (fun (s : State) (l : Nat) => (s.wrs (romVals l)).wr (F.LP_PROG_CRC_CRC l) 0) s
  let s := (List.range 24).foldl (fun (s : State) (l : Nat) => s.wr (F.LP_PROG_CRC_CRC l) (s.progCrc l)) s
  ((List.range 8).foldl (fun (s : State) (n : Nat) => s.wr (F.FZ_CFG_TSRC n) n) s).showLoad.syncXds

/-! ### Polygons (R499, R503) -/

/-- f_ref in mHz, the one that the drive is to take (R506). -/
def State.pgFreq (s : State) (st : Nat) : Nat :=
  (s.legSt st).freq.getD (s.rd (L.PG_FREQ_HI_FREQ st) * 65536 + s.rd (L.PG_FREQ_LO_FREQ st))

/-- Reference periods per revolution; 0 acts as 1. -/
def State.pgRpr (s : State) (st : Nat) : Nat := max 1 (s.rd (L.PG_CTL_RPR st))

/-- R499: SETPT. -/
def State.ncomSetpt (s : State) (st : Nat) : Nat :=
  let d := 1000 * s.pgRpr st * max 1 (s.rd (F.MOT_RATED_RATED_SPD st))
  min 32767 ((2 * s.pgFreq st * 327680 + d) / (2 * d))

/-- R499, R503: the polygon of a station follows PG_CTL and PG_FREQ. -/
def State.polygon (s : State) (st : Nat) : State :=
  let run := s.on (L.PG_CTL_RUN st)
  let s := s.drive [(F.XD_RPR_REF_PER_REV st, s.pgRpr st * 65536), (F.XD_CFG_POLY_EN st, b2n (s.on (L.SC_CTL_EN st) && !s.ncom st))]
  let safe := s.rd (F.CLASP_SAFE_SAFE st)
  if s.ncom st then (s.setCmd (80 + st) safe).setCmd st (motValue (b2n run) 0 0 (s.ncomSetpt st))
  else s.setCmd (80 + st) (if run then (s.pgFreq st * 1024 + 500) / 1000 else safe)

/-! ### Frequency (R503, R506) -/

/-- SDIV: the smallest divider that puts the DCO at 3.2 GHz or above. -/
def legSdiv (f : Nat) : Nat := ((List.range 10).map (· + 1)).find? (fun d => 3200000000 ≤ 16 * d * f) |>.getD 10

/-- FCW of a pixel clock of `f` Hz. -/
def legFcw (f : Nat) : Nat := (2 * 16 * legSdiv f * f * 8388608 + 25000000) / 50000000

/-- R506: at the first tick on which the station is not in a frame, a new frequency is hopped to. -/
def State.freqHop (s : State) (st : Nat) : State :=
  match (s.legSt st).hop with
  | none => s
  | some f =>
    if !s.compat || !s.outOfFrame st then s else
    let s := (s.modLeg st (fun l => { l with hop := none, rescan := true })).scanEn st false
    let s := (s.wr (L.SC_FREQ_HI_FREQ st) (f / 65536)).wr (L.SC_FREQ_LO_FREQ st) (f % 65536)
    let s := (s.drive [(F.CLK_OUT_CFG_DIV st, legSdiv f), (F.CLK_OUT_CEIL_CEIL st, 245000000000 / max 1 f)]).wr (F.CLK_OUT_CTL_EN st) 1
    let s := s.drive [(F.PLL_FCW_FCW (4 + st), legFcw f)]
    if s.pllState (4 + st) = 0 then s.pllEnable (4 + st) true else s.syncOuts

def execLegacyFreqHop (st : Fin 4) (s : State) : Out State Fault Refusal := .next (s.live (s.freqHop st))

/-! ### Pairs (R282, R506) -/

/-- The addresses of the pair that an address belongs to, high half first. -/
def pairOf (n : Nat) : Option (Nat × Nat) :=
  let at_ (hi : Nat) : Option (Nat × Nat) := if n = hi ∨ n = hi + 1 then some (hi, hi + 1) else none
  ([0x08, 0x0C] ++ (List.range 4).flatMap (fun s => [0x12 + 8 * s, 0x71 + 4 * s])).findSome? at_

/-- The stored value of a half. -/
def State.halfVal (s : State) (n : Nat) : Nat := s.rd ⟨legOff n, 0, 16, match findLeg n with
  | some h => (h.fields.map (fun x => x.2.rst)).headD 0
  | none => 0⟩

/-- R506: a pair is consistent. -/
def State.pairOk (s : State) (hi : Nat) (v : Nat) : Bool :=
  if hi = 0x08 then v != 0 && !s.on F.GLB_STATE_ARMED
  else if hi = 0x0C then true
  else if hi < 0x30 then
    let f := v % 2 ^ 28
    20000000 ≤ f && f ≤ 250000000 && (s.bandFor (4 + (hi - 0x12) / 8) (legFcw f)).isSome
  else 10000 ≤ v && v ≤ 2000000000

/-- R282, R506: a consistent pair comes into use; a pixel frequency waits for LEGACY_FREQ_HOP. -/
def State.pairUse (s : State) (hi v : Nat) : State :=
  let h := v / 65536
  let l := v % 65536
  if hi = 0x08 then
    let s := (s.wr L.WEB_SCALE_HI_SCALE h).wr L.WEB_SCALE_LO_SCALE l
    s.drive [(F.ENC_SCALE_SCALE (s.rd L.WEB_PRI), v)]
  else if hi = 0x0C then { s with leg := { s.leg with axTgt := some v } }
  else if hi < 0x30 then s.modLeg ((hi - 0x12) / 8) (fun x => { x with hop := some (v % 2 ^ 28) })
  else
    let st := (hi - 0x71) / 4
    (s.modLeg st (fun x => { x with freq := some v })).polygon st

/-- R506: a polygon frequency is in use, and PG_FREQ reads it, once the drive has ended its reference period (R333). -/
def State.pgSettle (s : State) (st : Nat) : State :=
  match (s.legSt st).freq with
  | none => s
  | some v =>
    if (s.xd st).next.isSome || s.rd (F.XD_VALUE_VALUE st) != s.xdRead st && !s.ncom st then s else
    ((s.modLeg st (fun x => { x with freq := none })).wr (L.PG_FREQ_HI_FREQ st) (v / 65536)).wr (L.PG_FREQ_LO_FREQ st) (v % 65536)

/-- R506: an L_AX_CMD takes the target that waits. -/
def State.axTarget (s : State) : State :=
  match s.leg.axTgt with
  | none => s
  | some v =>
    (({ s with leg := { s.leg with axTgt := none } } : State).wr L.AX_TGT_HI_TGT (v / 65536)).wr L.AX_TGT_LO_TGT (v % 65536)

/-- R282: the latest consistent pair at an address, in use or about to be. -/
def State.pairNow (s : State) (hi : Nat) : Nat :=
  let own := s.halfVal hi * 65536 + s.halfVal (hi + 1)
  if hi = 0x08 then own
  else if hi = 0x0C then s.leg.axTgt.getD own
  else if hi < 0x30 then (s.legSt ((hi - 0x12) / 8)).hop.getD own
  else (s.legSt ((hi - 0x71) / 4)).freq.getD own

/-- The pair a hold stands for, with `old` for a half not written. -/
def PairHold.value (h : PairHold) (hi old : Nat) : Nat :=
  let b := h.val2.getD old
  if h.addr = hi then h.val * 65536 + b else b * 65536 + h.val

def State.dropHold (s : State) (hi : Nat) : State :=
  { s with leg := { s.leg with pairs := s.leg.pairs.filter (fun p => min p.addr p.other != hi) } }

/-- R282: a write of one half of a pair. -/
def State.pairWrite (s : State) (hi lo n v : Nat) : State :=
  let h : PairHold := match s.leg.pairs.find? (fun p => min p.addr p.other = hi) with
    | none => ⟨n, if n = hi then lo else hi, v, none, s.now⟩
    | some p => if p.addr = n then { p with val := v } else { p with val2 := some v }
  let s := s.dropHold hi
  if h.val2.isSome && s.pairOk hi (h.value hi 0) then s.pairUse hi (h.value hi 0)
  else { s with leg := { s.leg with pairs := s.leg.pairs ++ [h] } }

/-- R282: 64 µs after the first half was written. -/
def State.pairExpiry (s : State) (n : Nat) : State :=
  match s.leg.pairs.find? (fun p => p.addr = n || p.other = n) with
  | none => s
  | some p =>
    if s.now < p.start + 64000 then s else
    let hi := min p.addr p.other
    let old := if p.other = hi then s.pairNow hi / 65536 else s.pairNow hi % 65536
    let s := s.dropHold hi
    if s.pairOk hi (p.value hi old) then s.pairUse hi (p.value hi old)
    else s.post 1 0xA010 17 0 [(0, 1, p.addr), (1, 1, p.other), (2, 2, p.val), (4, 2, p.val2.getD old)]

def execPairHoldExpiry (n : Fin 256) (s : State) : Out State Fault Refusal := .next (s.live (s.pairExpiry n))

/-! ### RUN (R500) -/

/-- R500: the DISARM of a write of RUN = 0 takes effect when no station is in a frame. -/
def State.legStop (s : State) : State :=
  if s.leg.stopping && [0, 1, 2, 3].all s.outOfFrame then { s.disarm with leg := { s.disarm.leg with stopping := false } } else s

/-- R500: L_CTRL.RUN is written. 1 applies ARM, also where the device is armed, which validates again (R277); a refusal then
leaves ARMED = 1 and RUN 0 (log 62). -/
def State.legRun (s : State) (run : Bool) : State :=
  if !s.compat then s
  else if run then
    match s.armRefusal with
    | some (r, f, g) => (((s.wr L.CTRL_RUN 0).armRefused r 0 f g).setW1c L.STAT_CFG_FAULT 1).legIrq 12
    | none =>
      let s := (s.wr L.CTRL_RUN 1).armed
      { s with leg := { s.leg with stopping := false } }
  else
    let s := s.wr L.CTRL_RUN 0
    State.legStop { s with leg := { s.leg with stopping := s.on F.GLB_STATE_ARMED } }

def execLegacyRun (run : Bool) (s : State) : Out State Fault Refusal := .next (s.live (s.legRun run))

def execLCtrlFsClr (s : State) : Out State Fault Refusal := .next (s.live (if s.compat then s.fsClr else s))

def execLCtrlSafeClr (s : State) : Out State Fault Refusal := .next (s.live (if s.compat then s.lsafeClr else s))

/-! ### Axes (R502) -/

/-- A legacy axis command as a transaction of one descriptor. -/
def State.legAxis (s0 : State) (fs : List (Nat × Nat × Nat)) : State :=
  if !s0.compat then s0 else
  let s := s0.axTarget
  match s.applyAxis 0 [mkEntry ((8, 1, s.rd L.AX_SEL_AXIS) :: fs)] with
  | .done s _ _ => s
  | .fail _ _ _ _ note => note s

/-- OP 1: a trapezoidal move with AMAX = 10 × VMAX per second and BLEND 0. -/
def State.legMove (s0 : State) : State :=
  if !s0.compat then s0 else
  let s := s0.axTarget
  let v := 32 * s.rd L.AX_VMAX_VMAX
  let t := sInt 32 (s.rd L.AX_TGT_HI_TGT * 65536 + s.rd L.AX_TGT_LO_TGT)
  s.legAxis [(0, 1, 0x32), (10, 6, uBits 48 t), (16, 4, 256 * v), (20, 4, 10 * v)]

def execLAxCmdMove (s : State) : Out State Fault Refusal := .next (s.live s.legMove)

def State.legHome (s : State) : State := s.legAxis [(0, 1, 0x34)]

def execLAxCmdHome (s : State) : Out State Fault Refusal := .next (s.live s.legHome)

/-- OP 3, 4, 5: AX_CTL STOP, ESTOP, CLEAR. -/
def State.legAxCtl (s : State) (op : Nat) : State := s.legAxis [(0, 1, 0x35), (9, 1, op)]

def execLAxCmdStop (s : State) : Out State Fault Refusal := .next (s.live (s.legAxCtl 0))

def execLAxCmdEstop (s : State) : Out State Fault Refusal := .next (s.live (s.legAxCtl 1))

def execLAxCmdClear (s : State) : Out State Fault Refusal := .next (s.live (s.legAxCtl 2))

def State.legAxCmd (s : State) (op : Nat) : State :=
  match op with
  | 1 => s.legMove
  | 2 => s.legHome
  | 3 => s.legAxCtl 0
  | 4 => s.legAxCtl 1
  | 5 => s.legAxCtl 2
  | _ => s

/-! ### Register writes (R502–R505) -/

/-- The fields of a legacy register that hold a value of their own take a write by type. -/
def State.legStore (s : State) (n v : Nat) : State :=
  match findLeg n with
  | none => s
  | some h => h.fields.foldl (fun (s : State) (x : Acc × Fld) => s.putField x.1 x.2 ((v >>> x.2.lo) % 2 ^ x.2.w)) s

/-- L_CTRL.RES sets P_LINE of s0–s3. -/
def State.legRes (s : State) (r : Nat) : State :=
  if 1 < r then s
  else (s.wr L.CTRL_RES r).drive ((List.range 4).map (fun st => (F.ST_PLINE_P_LINE st, if r = 0 then 0xA95555 else 0x54AAAB)))

def State.legCtrl (s : State) (v : Nat) : State :=
  let s := s.legRes (v % 4)
  let s := if v.testBit 14 then s.fsClr else s
  let s := if v.testBit 13 then s.lsafeClr else s
  s.legRun (v.testBit 15)

/-- L_WEB: the web tracker and the encoder in use. -/
def State.legWeb (s : State) : State :=
  let p := s.rd L.WEB_PRI
  let en := s.rd L.WEB_EN
  s.drive ((if en = 1 then [(F.ENC_CFG_EN p, 1)] else []) ++ [(F.ENC_CFG_JW p, s.rd L.WEB_JW),
    (F.ENC_SCALE_SCALE p, s.rd L.WEB_SCALE_HI_SCALE * 65536 + s.rd L.WEB_SCALE_LO_SCALE),
    (F.WEB_CFG_MODE, 0), (F.WEB_CFG_PRI, p), (F.WEB_CFG_EN, en)])

/-- SC_CTL: the station's octet, direction, facets and concealment, and its polygon drive. -/
def State.legScan (s : State) (st : Nat) : State :=
  let en := s.on (L.SC_CTL_EN st)
  s.drive [(F.ST_OCTETS_OCT_MASK st, if en then 2 ^ st else 0), (F.ST_LMAP_REVERSE st, s.rd (L.SC_CTL_REVERSE st)),
    (F.ST_GEOM_FACETS st, s.rd (L.SC_CTL_FACETS st)), (F.ST_ROLL_CTL_HEAL_EN st, s.rd (L.SC_CTL_HEAL_EN st)),
    (F.XD_CFG_POLY_EN st, b2n (en && !s.ncom st))]

/-- BP_PWR: TGT, or MOD at the next line start. -/
def State.legPwr (s : State) (b : Nat) : State :=
  let p := s.rd (L.BP_PWR_PWR b)
  if s.on (L.BP_BIAS_APC_EN b) then s.drive [(F.BM_APC_TGT b, p)]
  else s.modBeam b (fun x => { x with
    next := some (min (max (p % 1024) (s.rd (F.BM_MOD_LIM_MOD_MIN b))) (s.rd (F.BM_MOD_LIM_MOD_MAX b))) })

/-- BP_BIAS, clamped under R504. -/
def State.legBias (s : State) (n b : Nat) : State :=
  let v := s.rd (L.BP_BIAS_BIAS b)
  let room := 30000 - 20 * s.rd (F.BM_MOD_LIM_MOD_MAX b)
  let u := if 10 * v ≤ room then v else room / 10
  let s := if u = v then s else (s.wr (L.BP_BIAS_BIAS b) u).post 0 0xA011 17 0 [(0, 1, n), (1, 2, v), (3, 2, u)]
  ((s.drive [(F.BM_BIAS_BIAS b, u)]).wr (F.BM_APC_APC_EN b) (s.rd (L.BP_BIAS_APC_EN b))).legPwr b

/-- HV_SET: the set-point, and the value in manual. -/
def State.legHvSet (s : State) (c : Nat) : State :=
  let s := s.putSetpt c (8 * s.rd (L.HV_SET_SET c))
  if s.on (L.HV_CTL_EN c) && !s.on (L.HV_CTL_AUTO c) then s.hvMode c else s

/-- R505: HV_CTL written. -/
def State.legHvCtl (s : State) (c : Nat) : State :=
  let d := min 243 (s.rd (L.HV_CTL_MAXDUTY c))
  let s := (s.wr (L.HV_CTL_MAXDUTY c) d).drive [(F.HV_CFG_MAXDUTY c, d)]
  (if s.on (L.HV_CTL_EN c) then s else s.hvClr c).hvMode c

def State.legFzSet (s : State) (n : Nat) : State :=
  let s := s.putSetpt (16 + n) (32 * s.rd (L.FZ_SET_SET n))
  if s.on (L.FZ_CTL_EN n) && !s.on (L.FZ_CTL_AUTO n) then s.fzMode n else s

/-- R505: FZ_CTL written. -/
def State.legFzCtl (s : State) (n : Nat) : State :=
  let en := s.rd (L.FZ_CTL_EN n)
  let s := s.drive [(F.TH_CFG_EN n, en), (F.FZ_CFG_EN n, en), (F.FZ_CFG_TSRC n, n), (F.FZ_TMAX_T_MAX n, s.rd (L.FZ_CTL_T_MAX n))]
  (if en = 1 then s else s.fzClr n).fzMode n

/-- R515: LINK_LOOP.START while ARMED = 0, with EN = 1: the test trains the link and sends. -/
def State.loopStartTest (s : State) : State :=
  if s.on F.GLB_STATE_ARMED || !s.on F.LINK_LOOP_EN || s.leg.looping then s else
  { ((s.wr F.LINK_LOOP_STAT_DONE 0).wr F.LINK_LOOP_STAT_PASS 0).wr F.LINK_LOOP_STAT_ERRORS 0 with
    leg := { s.leg with looping := true } }

def execLinkLoopStart (s : State) : Out State Fault Refusal := .next (s.live s.loopStartTest)

/-- R509, R515: packet `k` of the link test: BEAM cycles through 0–31, and the payload is the sequence seeded with BEAM + 1. -/
def State.loopPacket (s : State) (k : Nat) : List (BitVec 16) :=
  let beam := k % 32
  let n := Config.loopWords (if s.on F.LINK_LOOP_BPP2 then 2 else 1)
  let ws := packetHeader beam 0 :: (List.range n).map (fun i => (Config.prbs15 (beam + 1) i).toNat)
  (ws ++ [packetParity ws]).map (BitVec.ofNat 16)

/-- R515: the words that the test sends, PACKETS packets. -/
def State.loopSent (s : State) : List (BitVec 16) := (List.range (s.rd F.LINK_LOOP_PACKETS)).flatMap s.loopPacket

/-- The words sent that did not come back as sent; a word that did not come back is one of them. -/
def wordErrors : List (BitVec 16) → List (BitVec 16) → Nat
  | [], _ => 0
  | _ :: ws, [] => wordErrors ws [] + 1
  | w :: ws, g :: gs => wordErrors ws gs + b2n (w != g)

/-- R515: the test ends. `words` are the words received at the pins; LVR compares every word with the one sent. With EXT = 0 the
lanes are joined inside the device (log 133). -/
def State.loopDone (s : State) (words : List (BitVec 16)) : State :=
  if !s.leg.looping then s else
  let e := if s.on F.LINK_LOOP_EXT then min 65535 (wordErrors s.loopSent words) else 0
  let s := ((s.wr F.LINK_LOOP_STAT_DONE 1).wr F.LINK_LOOP_STAT_PASS (b2n (e == 0))).wr F.LINK_LOOP_STAT_ERRORS e
  (State.post { s with leg := { s.leg with looping := false } } 0 0xA040 17 1 [(0, 1, b2n (e == 0)), (1, 2, e)])

def execLinkLoopDone (words : List (BitVec 16)) (s : State) : Out State Fault Refusal := .next (s.live (s.loopDone words))

/-- L_LOOP acts as LINK_LOOP. -/
def State.legLoop (s : State) (v : Nat) : State :=
  let s := (((s.wr F.LINK_LOOP_EN (v / 2 ^ 15 % 2)).wr F.LINK_LOOP_EXT (v / 2 ^ 14 % 2)).wr F.LINK_LOOP_BPP2 (v / 2 ^ 12 % 2)).wr
    F.LINK_LOOP_PACKETS (v % 4096)
  if v.testBit 13 then s.loopStartTest else s

/-- What a legacy register's new content does, address by address. -/
def State.legEffect (s : State) (n v : Nat) : State :=
  if n = 0x07 then s.legWeb
  else if n = 0x0B then s.legAxCmd (v / 4096)
  else if 0x10 ≤ n ∧ n < 0x30 then
    let st := (n - 0x10) / 8
    match n % 8 with
    | 0 => s.legScan st
    | 1 => s.drive [(F.ST_GEOM_PIXELS st, s.rd (L.SC_PIXELS_PIXELS st))]
    | 4 => s.drive [(F.ST_SCAN_SOS_OFS st, s.rd (L.SC_SOS_SOS st))]
    | 5 => if st = 0 then s else s.drive [(F.ST_DS_NOM_DS_NOM st, 400 * s.rd (L.SC_DS_DS st))]
    | 6 => s.drive [(F.ST_XOFF_NOM_XOFF_NOM st, uBits 32 (256 * sInt 16 (s.rd (L.SC_XOFF_XOFF st))))]
    | _ => s
  else if 0x30 ≤ n ∧ n < 0x70 then
    let b := (n - 0x30) / 2
    if n % 2 = 0 then s.legBias n b else s.legPwr b
  else if 0x70 ≤ n ∧ n < 0x80 then (if n % 4 = 0 then s.polygon ((n - 0x70) / 4) else s)
  else if 0x80 ≤ n ∧ n < 0xC0 then
    let c := (n - 0x80) / 4
    match n % 4 with
    | 0 => s.legHvSet c
    | 1 => s.legHvCtl c
    | 2 => s.drive (entryVals c 1 (romPi (s.rd (L.HV_GAIN_KP c)) (s.rd (L.HV_GAIN_KI c))))
    | _ => s
  else if 0xC0 ≤ n ∧ n < 0xE0 then
    let k := (n - 0xC0) / 4
    match n % 4 with
    | 0 => s.legFzSet k
    | 1 => s.legFzCtl k
    | 2 => s.drive (entryVals (16 + k) 1 (romPi (s.rd (L.FZ_GAIN_KP k)) (s.rd (L.FZ_GAIN_KI k))))
    | _ => s
  else if 0xE5 ≤ n ∧ n < 0xE9 then s.dropClr (n - 0xE5) (v / 256)
  else if n = 0xF0 then s.legLoop v
  else s

/-- R502, R516: a write of a legacy register. A pair's halves wait for each other (R282). -/
def State.legWrite (s : State) (n v : Nat) : State :=
  if !s.compat then s
  else if n = 1 then s.legCtrl v
  else match pairOf n with
    | some (hi, lo) => s.pairWrite hi lo n (if hi < 0x30 && 0x10 ≤ hi && n = hi then v % 4096 else v)
    | none => ((s.legStore n v).legEffect n v).legInt

def execLegacyWrite (n : Fin 256) (v : BitVec 16) (s : State) : Out State Fault Refusal := .next (s.live (s.legWrite n v.toNat))

/-- R496: what the device sends after the address byte of a read frame, a byte lasting `byteNs`: 0x00 up to the first byte boundary
2.0 µs after it, the marker, the data. -/
def spiReply (byteNs v : Nat) : List Nat := List.replicate (ceilDiv 2000 (max 1 byteNs)) 0 ++ [0xA5, v / 256 % 256, v % 256]

/-- R496: a frame on the serial port, the bytes that the host sends before it expects data, as LEGACY_WRITE or as a read; a frame
of any other length or command is ignored. -/
def State.spiFrame (s : State) (byteNs : Nat) : List Byte → State × List Nat
  | [c, a, hi, lo] => (if c = 2 then s.legWrite a.toNat (hi.toNat * 256 + lo.toNat) else s, [])
  | [c, a] => (s, if c = 3 then spiReply byteNs (s.legRead a.toNat) else [])
  | _ => (s, [])

def execLDropRestore (st : Fin 4) (mask : BitVec 8) (s : State) : Out State Fault Refusal :=
  .next (s.live (if s.compat then s.dropClr st mask.toNat else s))

def execLegacyHvCtlWrite (c : Fin 16) (v : BitVec 16) (s : State) : Out State Fault Refusal :=
  .next (s.live (s.legWrite (0x81 + 4 * c) v.toNat))

def execLegacyFzCtlWrite (n : Fin 8) (v : BitVec 16) (s : State) : Out State Fault Refusal :=
  .next (s.live (s.legWrite (0xC1 + 4 * n) v.toNat))

/-! ### Frames (R501) -/

/-- R501: F_p of the next legacy frame of a station. -/
def State.legFp (s : State) (st : Nat) : Int := s.leg.fRun + ((s.legSt st).next * (s.rd L.PITCH_PITCH * 400) : Nat)

/-- R501: legacy frames start. -/
def State.legRuns (s : State) (st : Nat) : Bool :=
  s.compat && s.on F.GLB_STATE_ARMED && !s.leg.stopping && s.on (L.SC_CTL_EN st)

/-- R501: conditions 2, 3 and 5 of R469. -/
def State.legReady (s : State) (st : Nat) : Bool :=
  s.polyAt st && s.coarse (4 + st) && s.on (F.ST_SCANCTL_SCAN_EN st) && !s.on (F.ST_SCANCTL_NOSCAN st) && s.phase st == 3

/-- R501: WPOS reaches F_p + DS_EFF: the station starts the frame, or sets SKIP. -/
def State.legFrame (s : State) (st : Nat) : State :=
  if !s.legRuns st || decide (s.wpos < s.legFp st + s.dsNext st) then s else
  let fp := s.legFp st
  let s := s.frameEnd st
  let s := s.modLeg st (fun l => { l with next := l.next + 1 })
  if s.on F.FAULT_STAT_FRAME_STOP || !s.outOfFrame st then s
  else if !s.legReady st then s.legSst st L.SSTAT_SKIP
  else
    let s := s.atEdge (s.stationGroups st)
    let s := (s.dropHolds (160 + st)).modSlot (160 + st) (fun _ => {
      st := .admitted, mask := 2 ^ st, lines := s.rd L.LINES_LINES, frameLen := s.rd L.PITCH_PITCH * 400, fp := fp })
    (s.frameBegins st (160 + st)).modLeg st (fun l => { l with under := false })

def execLegacyFrameStart (st : Fin 4) (s : State) : Out State Fault Refusal := .next (s.live (s.legFrame st))

/-! ### The receiver (R507–R510) -/

/-- R510: LRDY. -/
def State.lrdy (s : State) : Bool := s.compat && s.on F.GLB_STATE_ARMED && !s.on F.FAULT_STAT_SAFE

/-- The next facet is the first of a frame (LTOP): of the frame on the station, or of the next one, which may start while the last
lines of the frame before are due. -/
def State.legTop (s : State) (st : Nat) : Bool :=
  match (s.sc st).m with
  | none => false
  | some m =>
    let next : Int := -((-((s.legFp st + s.dsNext st) * 65536 - (s.sc st).goal * 256)) / (max 1 (s.pLine st) : Nat))
    let g0s := (if (s.slotOn st).isSome then [(s.sc st).g0] else []) ++ (if s.legRuns st then [next] else [])
    g0s.any (fun g0 => decide (m < g0) && decide (g0 ≤ m + s.nAdv st))

/-- R510: at a facet reference LBD requests the packets of the next facet. -/
def State.legRequest (s : State) (st : Nat) : State :=
  if st < 4 && s.lrdy && s.on (L.SC_CTL_EN st) && (s.sc st).refDone then
    let f := (s.sc st).fno
    let top := s.legTop st
    s.modLeg st (fun l => { l with
      asked := some (f + 1), pulse := some (s.now, top), before := l.asked == some f, first := if top then f + 1 else l.first
      packets := l.packets.filter (fun p => f ≤ p.2.1) })
  else s

/-- R510: LBD[s] and LTOP[s], high for 200 ns. -/
def State.lbdPins (s : State) (st : Nat) : Bool × Bool :=
  match (s.legSt st).pulse with
  | some (t, top) => (decide (s.now < t + 200), top && decide (s.now < t + 200))
  | none => (false, false)

/-- When an emitter's line of the present facet starts, in 4 ps units (R162). -/
def State.lineTime (s : State) (st e : Nat) : Int :=
  ((s.sc st).tf.getD 0 : Int) + s.pixTime st (256 * s.rd (F.ST_SCAN_SOS_OFS st) + s.lineDelay st e)

/-- R510: a packet is discarded with a status bit and counted. -/
def State.badPacket (s : State) (st : Nat) (f : Nat → Fld) : State := (s.legSst st f).inc F.LVR_STAT_BAD

/-- R510: a packet is held for a line. -/
def State.holdPacket (s : State) (st e f : Nat) (payload : List Nat) : State :=
  let cs := unpackCodes (s.legBpp st) payload
  s.modLeg st (fun l => { l with packets := (e, f, cs) :: l.packets })

/-- R509: the N + 2 words that LVR takes for a packet of a station; a lane with nothing more to send is idle. -/
def State.packetTaken (s : State) (st : Nat) (ws : List Nat) : List Nat :=
  let n := packetWords (s.rd (L.SC_PIXELS_PIXELS st)) (s.legBpp st)
  (ws ++ List.replicate n 0xFFFF).take n

/-- R509, R510: a received packet: header, payload, parity word. A packet of the other parity of LPAR belongs to the
present facet if its emitter's packet has not come (log 63). -/
def State.lvrPacket (s : State) (got : List Nat) : State :=
  if !s.compat || !s.on L.STAT_LINK_OK || s.leg.looping then s else
  let h := got.headD 0
  let st := h / 8192 % 4
  let ws := s.packetTaken st got
  let e := h / 1024 % 8
  let lpar := h / 512 % 2
  let payload := (ws.drop 1).dropLast
  let l := s.legSt st
  if packetParity ws != 0 then s.badPacket st L.SSTAT_PARERR
  else match l.asked with
  | none => s.badPacket st L.SSTAT_LPARERR
  | some a =>
    if !s.on (L.SC_CTL_EN st) then s.badPacket st L.SSTAT_LPARERR
    else if lpar = (a + l.first) % 2 then
      if (s.legPacket st e a).isSome then s else s.holdPacket st e a payload
    else if !l.before || (s.legPacket st e (a - 1)).isSome then s.badPacket st L.SSTAT_LPARERR
    else if (s.sc st).begun.testBit e || decide (s.lineTime st e < s.now * 250 + 250000) then s
    else s.holdPacket st e (a - 1) payload

def execLvrPacket (ws : List (BitVec 16)) (s : State) : Out State Fault Refusal := .next (s.live (s.lvrPacket (ws.map (·.toNat))))

/-- R508: the training pattern aligns the lanes; up to 8 bit periods of skew are removed. -/
def State.linkTrained (s : State) (skew : Nat) : State :=
  if (s.lrdy || s.leg.looping) && !s.on L.STAT_LINK_OK && skew ≤ 8 then
    (s.wr L.STAT_LINK_OK 1).post 0 0xA001 17 1 [(0, 1, skew)]
  else s

def execLinkTrained (skew : Nat) (s : State) : Out State Fault Refusal := .next (s.live (s.linkTrained skew))

/-- R508: LINK_OK clears: 0 clock absent, 1 LRDY low. -/
def State.linkLost (s : State) (why : Nat) : State :=
  if s.on L.STAT_LINK_OK then (s.wr L.STAT_LINK_OK 0).post 1 0xA002 17 1 [(0, 1, why)] else s

def execLinkClockLost (s : State) : Out State Fault Refusal := .next (s.live (s.linkLost 0))

def execLrdyFall (s : State) : Out State Fault Refusal := .next (s.live (if s.lrdy then s else s.linkLost 1))

/-! ### The transmitter in native mode (R508, R511–R514) -/

def State.lvtSt (s : State) (st : Nat) : LvtStation := s.leg.lvt.getD st {}

def State.modLvt (s : State) (st : Nat) (f : LvtStation → LvtStation) : State :=
  { s with leg := { s.leg with lvt := s.leg.lvt.modify st f } }

/-- R508: training has sent its 64 word periods. -/
def State.lvtSettle (s : State) : State :=
  match s.leg.trainAt with
  | some t => if t ≤ s.now then { s.wr F.LVT_STAT_TRAINED 1 with leg := { s.leg with trainAt := none } } else s
  | none => s

/-- R508, R514: LVT_RDY rises: the training pattern starts. -/
def State.lvtRise (s : State) : State :=
  if s.compat || s.on F.LVT_STAT_RDY then s else
  let s := s.wr F.LVT_STAT_RDY 1
  if !s.on F.LVT_CFG_EN then s else
  { s with leg := { s.leg with trainAt := some (s.now + ceilDiv (64 * 16 * 1000) (max 1 (s.rd F.LVT_CFG_RATE))) } }

def execLvtRdyRise (s : State) : Out State Fault Refusal := .next (s.live s.lvtRise)

/-- R513: the link carries pages. -/
def State.lvtUp (s : State) : Bool := s.on F.LVT_STAT_RDY && s.on F.LVT_STAT_TRAINED

/-- The bands of a finished frame are checked (R87). -/
def State.lvtChecks (s : State) (st : Nat) : Nat → State
  | 0 => s
  | n + 1 => ((s.bandEnd st false).bandEnd st true).lvtChecks st n

/-- R513: the last packet of a page's frame on a station has been sent; after the last station it is DELIVERED. -/
def State.lvtEnd (s : State) (st p : Nat) : State :=
  let s := s.modLvt st (fun l => { l with page := none })
  let s := (s.lvtChecks st (s.sc st).held.length).frameEnds st p
  if (s.slot p).st = .transit then
    let s := s.modSlot p (fun x => { x with delivClosed := true })
    State.deliver { s with leg := { s.leg with lvtOrder := s.leg.lvtOrder.filter (· != p) } } p
  else s

/-- R273, R513: a station starts the frame of an admitted LVT page; its commits take effect. -/
def State.lvtBegin (s : State) (st p : Nat) : State :=
  ((s.atEdge (s.stationGroups st)).modLvt st (fun l => { l with page := some p, facet := 0 })).frameBegins st p

/-- R513: the next LVT page that a station may decide: the oldest undecided one, if this is the first station of its mask. -/
def State.lvtNext (s : State) (st : Nat) : Option Nat :=
  match s.leg.lvtWait.find? (fun p => (s.slot p).lvt && (s.slot p).st.waiting) with
  | some p => if (bitsOf 8 (s.slot p).mask).head? = some st then some p else none
  | none => none

/-- R513: an LVT page is decided under R52 orders 1–4, and F_P is the WPOS at admission. -/
def State.lvtDecide (s : State) (p : Nat) : State :=
  let down := !s.lvtUp
  let s := (s.modSlot p (fun x => { x with fp := s.wpos })).fireEve p (fun _ => down)
  let s := if (s.slot p).st = .staged then s.recordDecision p else s
  (if (s.slot p).st = .admitted then { s with leg := { s.leg with lvtOrder := s.leg.lvtOrder ++ [p] } } else s).poolWaits

/-- R513: LVT_TOP of a station; a frame not finished ends here, its remaining lines blank (log 64). -/
def State.lvtTop (s : State) (st : Nat) : State :=
  let s := s.lvtSettle
  if !s.lvtStations.contains st then s else
  let s := match (s.lvtSt st).page with | some p => s.lvtEnd st p | none => s
  let s := s.modLvt st (fun l => { l with facet := 0 })
  match s.leg.lvtOrder.find? (fun p => (s.slot p).mask.testBit st && !(s.slot p).started.testBit st) with
  | some p => s.lvtBegin st p
  | none => match s.lvtNext st with
    | none => s
    | some p =>
      let s := s.lvtDecide p
      if (s.slot p).st = .admitted then s.lvtBegin st p else s

def execLvtTop (st : Fin 8) (s : State) : Out State Fault Refusal := .next (s.live (s.lvtTop st))

/-- R512: the payload of one line of a page, and the state after it: zero where its data is late. -/
def State.lvtLine (s : State) (st p y : Nat) (n : Nat) : State × List Nat :=
  let zero := List.replicate n 0
  if (s.slot p).lines ≤ y then (s, zero)
  else if (s.slot p).aborted then
    (((s.countBlank st 0 p y).noCheck st p y), zero)
  else
    let s := s.useBands st p y
    match s.lineAbsent st p y with
    | some (tag, late) => ((s.absentLine st 0 p y tag late).inc F.LVT_STAT_BLANK_PKTS, zero)
    | none =>
      let cs := (s.lineLevels st p y).map s.lvtCode
      (s.modSc st (fun c => { c with wrote := (y, 1) :: c.wrote }), packCodes (if s.on F.LVT_CFG_BPP2 then 2 else 1) n cs)

/-- R509, R512: the eight packets of a facet of an LVT station. On facet k of its frame emitter e sends line 8 k + 7 − e
(log 65). -/
def State.lvtPackets (s : State) (st : Nat) : State :=
  let l := s.lvtSt st
  let n := packetWords (s.rd (F.ST_GEOM_PIXELS st)) (if s.on F.LVT_CFG_BPP2 then 2 else 1) - 2
  let step (acc : State × List (List Nat)) (e : Nat) : State × List (List Nat) :=
    let (s, ws) := match l.page with
      | some p => acc.1.lvtLine st p (8 * l.facet + 7 - e) n
      | none => (acc.1, List.replicate n 0)
    let body := packetHeader (8 * (st % 4) + e) l.facet :: ws
    (s, acc.2 ++ [body ++ [packetParity body]])
  let (s, ps) := (List.range 8).foldl step (s, [])
  s.modLvt st (fun x => { x with facet := x.facet + 1, sent := ps })

/-- R511, R512: a rising edge of LVT_BD is a facet reference and starts the packets of the station. -/
def State.lvtRequest (s : State) (st : Nat) : State :=
  let s := s.lvtSettle
  if !s.lvtStations.contains st || !s.lvtUp then s else
  let s := match (s.sc st).tf with
    | some t => s.wr (F.ST_FACET_PERIOD_PERIOD st) (s.now * 250 - t)
    | none => s
  let s := (s.modSc st (fun c => { c with tf := some (s.now * 250), fno := c.fno + 1 })).lvtPackets st
  match (s.lvtSt st).page with
  | some p => if (s.slot p).lines ≤ 8 * (s.lvtSt st).facet then s.lvtEnd st p else s
  | none => s

def execLvtBdRequest (st : Fin 8) (s : State) : Out State Fault Refusal := .next (s.live (s.lvtRequest st))

/-- R514: LVT_RDY falls: pages in a frame are SPOILED with BLANK_LINES, and their frames end with the rest blank (R56). -/
def State.lvtLost (s : State) : State :=
  if !s.on F.LVT_STAT_RDY then s else
  let s := (s.wr F.LVT_STAT_RDY 0).wr F.LVT_STAT_TRAINED 0
  let s := { s with leg := { s.leg with trainAt := none } }
  let inFrame := (List.range 8).filterMap (fun st => ((s.lvtSt st).page).map (fun p => (st, p)))
  let sts (p : Nat) : List Nat := (inFrame.filter (fun x => x.2 = p)).map (·.1)
  let s := ((inFrame.map (·.2)).eraseDups).foldl (fun (s : State) (p : Nat) =>
    let s := s.modSlot p (fun x => (sts p).foldl (fun (x : Slot) (st : Nat) => x.flagSt st 32) (x.worsen 2 0xA031))
    s.post 2 0xA031 17 2 [(0, 1, ((sts p).map (fun st => 2 ^ st)).sum), (1, 1, p)] (s.slot p).tag) s
  inFrame.foldl (fun (s : State) (x : Nat × Nat) => s.lvtEnd x.1 x.2) s

def execLvtEngineLost (s : State) : Out State Fault Refusal := .next (s.live s.lvtLost)

end Sys2Proof.Machine
end

