-- ==== Sys2Proof/Machine/MachTxn.lean ====
section
/-! DEFINITION. The transactions of the machine rings Q16–Q19 (R253, R276, R300, R335, R345, R382, R416, R428, R430,
R454): how each is taken, applied by the chapter of its opcode and answered. -/

namespace Sys2Proof.Machine

open Sys2Proof

/-! ### Bezel transactions (R276) -/

/-- A RW-L field whose write is a command of its own takes effect as that command. -/
def State.ownWrite (s : State) (h : RegHit) (v : Nat) : State :=
  let i := h.gInst
  let b := h.desc.base
  if b = 0x10014 then (if v = 0 then s.ringDisable i else s.ringEnable i)
  else if b = 0x31000 then s.pllEnable i (v != 0)
  else if b = 0x33284 then s.outEnable i (v != 0)
  else if b = 0x100808 then s.scanEn i (v != 0)
  else s.reqWrite i v

/-- One field of a BZ_WRITE. -/
def State.bezelPut (s : State) (h : RegHit) (a : Acc) (f : Fld) (v : Nat) : State :=
  let t := if ownCommand h f then s.ownWrite h v else s.putField a f v
  if f.off = F.VIG_WAKE_EN_WAKE_EN.off then { t with pwr := { t.pwr with recheck := some true } } else t

/-- R276: the BZ_WRITEs of a transaction in descriptor order; the first refused write refuses the whole. -/
def bezelWrites (tag : Nat) : Nat → List Desc → State → Applied
  | _, [], s => .done s 0 0
  | i, d :: t, s =>
    if dOpcode d != 0x40 then .done s 0 0 else
    match maskFields (dField d 8 4) (dField d 12 4) with
    | none => .fail i 1 0 0 id
    | some (h, fs) =>
      match fs.find? (fun (a, _) => s.writeRefusal h a != 0) with
      | some (a, f) =>
        let r := s.writeRefusal h a
        .fail i 4 (r * 256 + groupId h.group % 256) (bezelResult (fieldId f.key) (groupId h.group) 0)
          (fun t => if r = 1 then t.noteFrozen 2 h f tag else t.noteRefusal r 2 (fieldId f.key) (groupId h.group))
      | none =>
        bezelWrites tag (i + 1) t (fs.foldl (fun s (a, f) => s.bezelPut h a f ((dField d 16 4 >>> f.lo) % 2 ^ f.w)) s)

/-- R269: the first RW-F write of a transaction whose block runs after its writes: a write of the same transaction started it. -/
def lateWrite (ds : List Desc) (s : State) : Option (Nat × RegHit × Fld) :=
  (List.range ds.length).findSome? (fun i =>
    let d := ds.getD i 0
    if dOpcode d != 0x40 then none else
    match maskFields (dField d 8 4) (dField d 12 4) with
    | none => none
    | some (h, fs) => if s.frozen h then (fs.find? (fun x => x.1 == .rwf)).map (fun x => (i, h, x.2)) else none)

/-- R269, R276: the writes of a transaction, all or none: one that starts the block of an RW-F field it writes is refused. -/
def bezelAll (tag : Nat) (ds : List Desc) (s : State) : Applied :=
  match bezelWrites tag 0 ds s with
  | .done t w r =>
    match lateWrite ds t with
    | some (i, h, f) => .fail i 4 (256 + groupId h.group % 256) (bezelResult (fieldId f.key) (groupId h.group) 0)
        (fun t => t.noteFrozen 2 h f tag)
    | none => .done t w r
  | a => a

/-- The groups of staged fields that a transaction wrote (SCOPE 0x1). -/
def wroteGroups (ds : List Desc) : List Nat :=
  ((ds.filter (fun d => dOpcode d = 0x40)).filterMap (fun d =>
    match maskFields (dField d 8 4) (dField d 12 4) with
    | some (h, fs) => if fs.any (fun (a, _) => a = .rws || a = .rwf) then some h.group else none
    | none => none)).eraseDups

/-- R276: a bezel transaction, part `ref0` of the machine transaction that carries it. -/
def State.applyBezel (s : State) (ref0 : Nat) (ds : List Desc) : Applied :=
  if !bezelShape ds then .fail 0 1 0 0 id else
  match (List.range ds.length).find? (fun i => !bezelFormat (ds.getD i 0)) with
  | some i => .fail i 1 0 0 id
  | none =>
    let last := ds.getLastD 0
    let n := ds.length - 1
    let tag := dTag (ds.headD 0)
    match dOpcode last with
    | 0x42 =>
      match s.armRefusal with
      | some (r, f, g) => .fail 0 4 (r * 256 + g % 256) (bezelResult f g 0) (fun t => t.arm 2 tag)
      | none => .done (s.arm 2 tag) 0 0
    | 0x43 => if 0 < s.inFlight then .fail 0 5 0 0 id else .done (s.disarm tag) 0 0
    | _ =>
      match bezelAll tag ds s with
      | .fail i st d r s' => .fail i st d r s'
      | .done s1 _ _ =>
        if dOpcode last = 0x40 then .done s1 0 0 else
        let gs : Option (List Nat) := match dField last 8 1 with
          | 0 => some s1.writtenGroups
          | 1 => some (sortBy (fun a b => decide (groupId a ≤ groupId b)) (wroteGroups ds))
          | _ => (groupOfFieldId (dField last 12 4)).map (fun g => [g])
        match gs with
        | none => .fail n 4 (9 * 256) (bezelResult (dField last 12 4) 0 0) (fun t => t.refuseCommit 2 9 (dField last 12 4) 0 tag)
        | some gs =>
          if dOpcode last = 0x41 then
            match s1.commitFail gs with
            | some (r, f, g) => .fail n 4 (r * 256 + g % 256) (bezelResult f g 0) (fun t => t.refuseCommit 2 r f g tag)
            | none =>
              let gs := gs.filter (fun g => s1.stagedKeys g != [])
              let later := gs.filter (fun g => !s1.takesEffectNow g)
              let pend : List Pend := gs.map (fun g => ⟨g, if later.contains g then some (ref0 + n) else none⟩)
              let s2 : State := { s1 with bezel := { s1.bezel with pending := s1.bezel.pending ++ pend } }
              .done ((gs.filter (fun g => !later.contains g)).foldl (fun t g => t.applyCommit g) s2)
                later.length (bezelResult 0 0 gs.length)
          else
            match s1.discardFail gs with
            | some (r, f, g) => .fail n 4 (r * 256 + g % 256) (bezelResult f g 0) (fun t => t.refuseCommit 2 r f g tag)
            | none => .done (s1.discard gs) 0 (bezelResult 0 0 (gs.filter (fun g => s1.stagedKeys g != [])).length)

/-! ### Loop programs (R382) -/

/-- R382: the slots whose programs a transaction writes. -/
def progSlots (ds : List Desc) : List Nat := (ds.map (fun d => dField d 8 2)).eraseDups

/-- The group of a loop slot. -/
def State.slotGroup (l : Nat) : Nat := groupOfKey (progFld l 0 0).key

/-- R382: a transaction of LOOP_PROGs stages its entries; a slot whose commit is pending refuses the whole. -/
def State.applyProgs (s : State) (ds : List Desc) : Applied :=
  match ds.findIdx? (fun d => dOpcode d != 0x37 || !progFormat d) with
  | some i => .fail i 1 0 0 id
  | none =>
    match ds.findIdx? (fun d => s.isPending (State.slotGroup (dField d 8 2))) with
    | some i =>
      let l := dField (ds.getD i 0) 8 2
      let g := groupId (State.slotGroup l)
      let f := fieldId (progFld l (dField (ds.getD i 0) 10 1) 0).key
      .fail i 4 (4 * 256 + g % 256) 0 (fun t => t.noteRefusal 4 2 f g)
    | none =>
      .done (ds.foldl (fun (s : State) (d : Desc) =>
        (progEntries d).foldl (fun (s : State) (e : Nat × Nat) => s.stageProg (dField d 8 2) e.1 e.2) s) s) 0 0

/-! ### Power transactions (R428–R430) -/

/-- R428: PWR_STATE as transaction part `ref`; an entry to VIGIL is answered before PD_HOST goes down (R429). -/
def State.applyPwrState (s : State) (ref : Nat) (ds : List Desc) : Applied :=
  let d := ds.headD 0
  if ds.length ≠ 1 ∨ dCount d ≠ 0 ∨ 2 < dField d 8 1 ∨ !dZero d 9 63 then .fail 0 1 0 0 id else
  match s.powerOrder (dField d 8 1) (some ref) with
  | .waits s' => .done s' 1 0
  | .ends s' st det res => if st = 0 then .done s' 0 res else .fail 0 st det res (fun _ => s')
  | .vigil s' res => .done s' 0 res

/-- The transaction enters VIGIL. -/
def State.entersVigil (s : State) (ds : List Desc) : Bool :=
  let d := ds.headD 0
  ds.length = 1 && dOpcode d == 0x50 && dCount d == 0 && dZero d 8 63 &&
    (match s.powerOrder 0 none with | .vigil _ _ => true | _ => false)

/-- R430: PWR_DOMAIN as transaction part `ref`. -/
def State.applyPwrDomain (s : State) (ref : Nat) (ds : List Desc) : Applied :=
  let d := ds.headD 0
  let n := dField d 8 1
  if ds.length ≠ 1 ∨ dCount d ≠ 0 ∨ n < 7 ∨ 31 < n ∨ 3 < dField d 9 1 ∨ !dZero d 10 63 then .fail 0 1 0 0 id
  else s.powerDomain ref n (dField d 9 1)

/-! ### A machine transaction -/

/-- The effect of a transaction, by the opcode of its first descriptor. -/
def State.applyMach (s : State) (ref : Nat) (ds : List Desc) : Applied :=
  let op := dOpcode (ds.headD 0)
  if op ≤ 0x31 then s.applyMot ref ds
  else if op ≤ 0x35 then s.applyAxis ref ds
  else if op = 0x36 then (if ds.length = 1 then s.applyLoopCtl ref (ds.headD 0) else .fail 0 1 0 0 id)
  else if op = 0x37 then s.applyProgs ds
  else if op = 0x38 then s.applyIsl ref ds
  else if op ≤ 0x3E then s.applyClk ref ds
  else if op ≤ 0x44 then s.applyBezel ref ds
  else if op = 0x50 then s.applyPwrState ref ds
  else if op = 0x51 then s.applyPwrDomain ref ds
  else s.applySeq ref ds

/-- What a transaction holds while it is applied, so that parts that end within it do not finish it. -/
def applyGuard : Nat := 1000

/-- R244, R253: the answer of a transaction: parts that still run, or its end. -/
def State.answerTxn (s : State) (m : MTxn) (a : Applied) : State :=
  match a with
  | .done s' waits result =>
    (s'.modTxn m.id (fun x => { x with
      waits := x.waits + waits - applyGuard, result := x.result ||| BitVec.ofNat 128 result })).settleTxn m.id
  | .fail i st det result note =>
    (note s).finishTxn { m with
      status := st, detail := det, failIndex := i, failOp := dOpcode (m.descs.getD i 0), result := BitVec.ofNat 128 result }

/-- R428: a transaction that the islands take no part in is covered at once (R406). -/
def State.covered (s : State) (tseq : Nat) : State :=
  { s with host := { s.host with kept := s.host.kept.filter (fun k => k.1 != tseq) } }

/-- R247, R406, R485: a transaction is taken from its ring, a copy kept, traced, and given its record. -/
def State.machTaken (s : State) (q : Nat) (ds : List Desc) : MTxn × State :=
  let k := (s.passTxn q ds.length).keep ds
  (k.2.trace 0 q ds k.1).newTxn q ds k.1

/-- The state in which a transaction has its effect. -/
def State.machState (s : State) (q : Nat) (ds : List Desc) : State :=
  (s.machTaken q ds).2.modTxn (s.machTaken q ds).1.id (fun x => { x with waits := applyGuard })

/-- The name of a transaction's first part. -/
def State.machRef (s : State) (q : Nat) (ds : List Desc) : Nat := (s.machTaken q ds).1.id * 16

/-- A bezel transaction that writes an RW-F field. -/
def writesRwf (ds : List Desc) : Bool :=
  ds.any (fun d => dOpcode d == 0x40 && (match maskFields (dField d 8 4) (dField d 12 4) with
    | some (_, fs) => fs.any (fun x => x.1 == .rwf)
    | none => false))

/-- R269, R276: a bezel transaction acts at the end of its SYS cycle if it writes RW-F fields, as a CLK_HOP does (R300), so that it is refused whole
where a block starts to run in the cycle, or if one before it waits so (log 145). -/
def State.endsCycle (s : State) (ds : List Desc) : Bool :=
  let op := dOpcode (ds.headD 0)
  (op == 0x3C || (0x40 ≤ op && op ≤ 0x44)) && (op == 0x3C || writesRwf ds || !s.bezel.late.isEmpty)

/-- The state in which a transaction waits for the end of its SYS cycle. -/
def State.machLate (s : State) (q : Nat) (ds : List Desc) : State :=
  let u := s.machState q ds
  { u with bezel := { u.bezel with late := u.bezel.late ++ [(s.machTaken q ds).1.id] } }

/-- R269, R273: a transaction that has waited acts, and the RW-F groups it commits take effect. -/
def State.lateTxn (s : State) (id : Nat) : State :=
  match s.mtxn id with
  | some m =>
    let s := (s.answerTxn m (s.applyMach (m.id * 16) m.descs)).rwfCommits
    { s with bezel := { s.bezel with fresh := [] } }
  | none => s

/-- R269, R273: the end of a SYS cycle: RW-F writes of the cycle to blocks that have started to run in it are refused, then the
commits of RW-F fields accepted in it take effect, and the others whose boundary has come, and the transactions that wait act. -/
def State.cycleEnd (s : State) : State :=
  let fresh := s.bezel.fresh
  let late := s.bezel.late
  let s := { s with bezel := { s.bezel with fresh := [], late := [] } }
  late.foldl State.lateTxn (fresh.foldl State.frozenLate s).rwfCommits.dueCommits

/-- R407: one transaction that has waited for an island is applied, each effect once. -/
def State.serveOne (s : State) (x : Nat × List Desc × Nat) : State :=
  if classOf x.1 = 0 then
    (if dOpcode (x.2.1.headD 0) = 4 then s.serveCancel x.1 x.2.1 x.2.2 else s.servePage x.1 x.2.1 x.2.2)
  else match s.host.mach.find? (fun m => m.tseq == x.2.2) with
    | some m => s.answerTxn m (s.applyMach (m.id * 16) m.descs)
    | none => s

/-- R406, R407: an island serves that has resumed: within 1 ms the kept transactions that none has applied are applied, in order
of TSEQ. -/
def State.serveKept (s : State) : State :=
  if s.host.unserved.isEmpty || !s.islandServes || s.isl.isls.any (fun x => x.resuming) then s else
  s.host.unserved.foldl State.serveOne { s with host := { s.host with unserved := [] } }

/-- R244, R247, R253, R406: a transaction is taken from its ring, applied all or nothing, and answered. -/
def State.takeMach (s : State) (q : Nat) (ds : List Desc) : State :=
  if s.islandLacks q ds then (s.machState q ds).unserve q ds (s.machTaken q ds).1.tseq else
  if s.endsCycle ds then s.machLate q ds else
  let m := (s.machTaken q ds).1
  let u := (s.machState q ds).answerTxn m ((s.machState q ds).applyMach (s.machRef q ds) ds)
  let u := if dOpcode (ds.headD 0) = 0x50 ∨ dOpcode (ds.headD 0) = 0x51 then u.covered m.tseq else u
  if s.entersVigil ds then (u.writeDone 24).enterVigil else u

/-- The machine transaction next in turn on a ring, where it meets a test. -/
def State.machOp (s : State) (q : Nat) (t : List Desc → Bool) : State :=
  s.takeWhen q (fun ds => classOf q == 3 && t ds) (fun ds s => s.takeMach q ds)

/-- The first descriptor has an opcode, and a byte of it a value. -/
def opSub (op at_ v : Nat) (ds : List Desc) : Bool := opIs op ds && dField (ds.headD 0) at_ 1 == v

/-- The row of a bezel transaction: ARM, DISARM, else the commit or discard that ends it, else its writes. -/
def bezelRow (ds : List Desc) : Nat :=
  let first := dOpcode (ds.headD 0)
  let last := dOpcode (ds.getLastD 0)
  if first = 0x42 ∨ first = 0x43 then first
  else if 0x40 ≤ first ∧ first ≤ 0x44 then (if last = 0x41 ∨ last = 0x44 then last else first)
  else 0

/-! ### The rows -/


def execBzWrite (ring : Fin 32) (s : State) : Out State Fault Refusal := .next (s.live (s.machOp ring (fun ds => bezelRow ds == 0x40)))

def execBzCommit (ring : Fin 32) (s : State) : Out State Fault Refusal := .next (s.live (s.machOp ring (fun ds => bezelRow ds == 0x41)))

def execBzDiscard (ring : Fin 32) (s : State) : Out State Fault Refusal := .next (s.live (s.machOp ring (fun ds => bezelRow ds == 0x44)))

def execArm (ring : Fin 32) (s : State) : Out State Fault Refusal := .next (s.live (s.machOp ring (fun ds => bezelRow ds == 0x42)))

def execDisarm (ring : Fin 32) (s : State) : Out State Fault Refusal := .next (s.live (s.machOp ring (fun ds => bezelRow ds == 0x43)))

def execClkHop (ring : Fin 32) (s : State) : Out State Fault Refusal := .next (s.live (s.machOp ring (opIs 0x3C)))

def execClkRampStart (ring : Fin 32) (s : State) : Out State Fault Refusal := .next (s.live (s.machOp ring (opSub 0x3D 9 0)))

def execClkRampStopHold (ring : Fin 32) (s : State) : Out State Fault Refusal := .next (s.live (s.machOp ring (opSub 0x3D 9 1)))

def execClkRampStopReturn (ring : Fin 32) (s : State) : Out State Fault Refusal := .next (s.live (s.machOp ring (opSub 0x3D 9 2)))

def execClkSweep (ring : Fin 32) (s : State) : Out State Fault Refusal := .next (s.live (s.machOp ring (opIs 0x3E)))

def execMotCmdRun (ring : Fin 32) (s : State) : Out State Fault Refusal := .next (s.live (s.machOp ring (opSub 0x30 9 0)))

def execMotCmdSetpoint (ring : Fin 32) (s : State) : Out State Fault Refusal := .next (s.live (s.machOp ring (opSub 0x30 9 1)))

def execMotCmdStop (ring : Fin 32) (s : State) : Out State Fault Refusal := .next (s.live (s.machOp ring (opSub 0x30 9 2)))

def execMotCmdCoast (ring : Fin 32) (s : State) : Out State Fault Refusal := .next (s.live (s.machOp ring (opSub 0x30 9 3)))

def execMotCmdClear (ring : Fin 32) (s : State) : Out State Fault Refusal := .next (s.live (s.machOp ring (opSub 0x30 9 4)))

def execXdCmd (ring : Fin 32) (s : State) : Out State Fault Refusal := .next (s.live (s.machOp ring (opIs 0x31)))

def execAxMove (ring : Fin 32) (s : State) : Out State Fault Refusal := .next (s.live (s.machOp ring (opIs 0x32)))

def execAxRetarget (ring : Fin 32) (s : State) : Out State Fault Refusal := .next (s.live (s.machOp ring (opIs 0x33)))

def execAxHome (ring : Fin 32) (s : State) : Out State Fault Refusal := .next (s.live (s.machOp ring (opIs 0x34)))

def execAxCtlStop (ring : Fin 32) (s : State) : Out State Fault Refusal := .next (s.live (s.machOp ring (opSub 0x35 9 0)))

def execAxCtlEstop (ring : Fin 32) (s : State) : Out State Fault Refusal := .next (s.live (s.machOp ring (opSub 0x35 9 1)))

def execAxCtlClear (ring : Fin 32) (s : State) : Out State Fault Refusal := .next (s.live (s.machOp ring (opSub 0x35 9 2)))

def execAxCtlSetPos (ring : Fin 32) (s : State) : Out State Fault Refusal := .next (s.live (s.machOp ring (opSub 0x35 9 3)))

def execLoopCtlOff (ring : Fin 32) (s : State) : Out State Fault Refusal := .next (s.live (s.machOp ring (opSub 0x36 10 0)))

def execLoopCtlManual (ring : Fin 32) (s : State) : Out State Fault Refusal := .next (s.live (s.machOp ring (opSub 0x36 10 1)))

def execLoopCtlManualHold (ring : Fin 32) (s : State) : Out State Fault Refusal := .next (s.live (s.machOp ring (opSub 0x36 10 2)))

def execLoopCtlAuto (ring : Fin 32) (s : State) : Out State Fault Refusal := .next (s.live (s.machOp ring (opSub 0x36 10 3)))

def execLoopCtlSetpoint (ring : Fin 32) (s : State) : Out State Fault Refusal := .next (s.live (s.machOp ring (opSub 0x36 10 4)))

def execLoopCtlClear (ring : Fin 32) (s : State) : Out State Fault Refusal := .next (s.live (s.machOp ring (opSub 0x36 10 5)))

def execLoopProg (ring : Fin 32) (s : State) : Out State Fault Refusal := .next (s.live (s.machOp ring (opIs 0x37)))

def execIslCmdSwitch (ring : Fin 32) (s : State) : Out State Fault Refusal := .next (s.live (s.machOp ring (opSub 0x38 8 0)))

def execIslCmdRetest (ring : Fin 32) (s : State) : Out State Fault Refusal := .next (s.live (s.machOp ring (opSub 0x38 8 1)))

def execPwrState (ring : Fin 32) (s : State) : Out State Fault Refusal := .next (s.live (s.machOp ring (opIs 0x50)))

def execPwrDomain (ring : Fin 32) (s : State) : Out State Fault Refusal := .next (s.live (s.machOp ring (opIs 0x51)))

def execSeqUp (ring : Fin 32) (s : State) : Out State Fault Refusal := .next (s.live (s.machOp ring (opIs 0x58)))

def execSeqDown (ring : Fin 32) (s : State) : Out State Fault Refusal := .next (s.live (s.machOp ring (opIs 0x59)))

def execRailSet (ring : Fin 32) (s : State) : Out State Fault Refusal := .next (s.live (s.machOp ring (opIs 0x5A)))

def execRailClear (ring : Fin 32) (s : State) : Out State Fault Refusal := .next (s.live (s.machOp ring (opIs 0x5B)))

def execPmbXfer (ring : Fin 32) (s : State) : Out State Fault Refusal := .next (s.live (s.machOp ring (opIs 0x5C)))

end Sys2Proof.Machine
end

