-- ==== Sys2Proof/Machine/Late.lean ====
section
/-! DEFINITION. Commands that involve several chapters: power-on reset, host register access, failed reads of host
memory, commits at their boundaries and the sample ticks they wait for, BEZEL_CMD, and the tick of an idle block. -/

namespace Sys2Proof.Machine

open Sys2Proof

/-! ### Power-on reset (R4, R445, R458, R494, R527) -/

/-- R458: PORST_N releases with MODE[1:0], the SEQ_OUT strap and LP_SEL as sampled; the Vigil stage begins. -/
def State.porstRelease (s : State) (mode : Nat) (boot lpSel : Bool) : State :=
  if !s.boot.porst then s else
  let s := { s with
    boot := { s.boot with porst := false, releasedAt := s.now, refFixed := false, xtal := false }
    time := { s.time with vtime := 0, vfrac := 0 } }
  let s := (s.wr F.GLB_MODE_MODE mode).wr F.GLB_MODE_STRAP_ERR (b2n (mode = 2))
  let s := (s.wr F.SEQ_CTL_BOOT (b2n boot)).wr F.SEQ_CTL_AUTO_RESTART (b2n boot)
  let s := ((((s.wr F.BOOT_STAT_STAGE 1).setPstate 0).setLevel 0 2).syncOwners)
  if mode = 1 then (s.wr L.MODE_PORT (b2n lpSel)).legacyInit else s

def execPorstRelease (mode : Fin 4) (boot lpSel : Bool) (s : State) : Out State Fault Refusal :=
  .next (s.porstRelease mode boot lpSel)

/-- R527: PORST_N low, or VDD_VIG low (R453), holds the whole device in reset. -/
def State.porstAssert (s : State) : State := { State.reset with pending := s.pending }

def execPorstAssert (s : State) : Out State Fault Refusal := .next s.porstAssert

/-! ### Register access (R12, R14, R27, R36, R497) -/

/-- The legacy window of BAR0: one legacy register in each dword (R498, R502). -/
def legWindow (off : Nat) : Bool := 0x800000 ≤ off && off < 0x800400

/-- R12: a 32-bit BAR0 write. Enabling a source that is pending wakes the device (R432). -/
def State.hostWrite (s : State) (off v : Nat) : State :=
  if off % 4 ≠ 0 then s
  else if legWindow off then s.legWrite ((off - 0x800000) / 4) (v % 65536)
  else
    let t := if 0x200000 ≤ off && off < 0x208000 && off % 0x100 = 0x14 then s.bmStatWrite ((off - 0x200000) / 0x100) v
      else s.regWrite off v
    if off = F.VIG_WAKE_EN_WAKE_EN.off then t.tryWake else t

/-- R11, R234: an aligned 32-bit write of a BAR. -/
def State.barWrite (s : State) (bar : Bar) (off v : Nat) : State :=
  match bar with
  | .bar0 => s.hostWrite off v
  | .bar2 => s.bar2Write off v
  | .bar4 => s.bar4Write off v

def execRegisterWrite (bar : Bar) (off : BitVec 24) (v : Word) (s : State) : Out State Fault Refusal :=
  .next (s.live (s.barWrite bar off.toNat v.toNat))

/-- The register at an offset is the low word of a 64-bit RO-H value. -/
def isLow (off : Nat) : Bool := match findReg off with | some h => h.desc.lo64 | none => false

/-- R14: a read. One of a low word keeps the high word; one of a high word uses up what is kept. -/
def State.hostRead (s : State) (off : Nat) : State :=
  let data := s.readWord off
  let snap := if isLow off then amPut s.host.hiSnap (off + 4) (BitVec.ofNat 32 (s.readLive (off + 4)))
    else s.host.hiSnap.filter (fun e => e.1 != off)
  { s with host := { s.host with readData := BitVec.ofNat 32 data, hiSnap := snap } }

/-- R11, R234, R241: an aligned 32-bit read of a BAR. -/
def State.barRead (s : State) (bar : Bar) (off : Nat) : State :=
  match bar with
  | .bar0 => s.hostRead off
  | .bar2 => { s with host := { s.host with readData := BitVec.ofNat 32 (s.bar2Read off) } }
  | .bar4 => { s with host := { s.host with readData := BitVec.ofNat 32 (s.bar4Read off) } }

def execLowWordRead (bar : Bar) (off : BitVec 24) (s : State) : Out State Fault Refusal :=
  .next (s.live (s.barRead bar off.toNat))

/-- WPOS_PRESET, in force or as written. -/
def State.presetValue (s : State) : Int := s.rd64 F.WPOS_PRESET_LO_VALUE F.WPOS_PRESET_HI_VALUE

/-- R27: WPOS_CTL.PRESET. -/
def State.presetWpos (s : State) : State :=
  if s.inFlight = 0 then s.webPreset s.presetValue
  else s.post 1 0x9030 1 0 [(0, 1, s.inFlight), (1, 4, s.peekData 0x68), (5, 4, s.peekData 0x6C)]

def execWposPreset (s : State) : Out State Fault Refusal := .next (s.live s.presetWpos)

/-! ### Failed reads of host memory (R242, R243, R540) -/

/-- R242, R540: the read of a ring's next descriptor completes with an error. -/
def State.descError (s : State) (q : Nat) (again : Bool) : State :=
  let g := s.ring q
  if !isH2D q || s.ringState q != 1 || g.errAt.isSome || s.produced q ≤ g.fetched.length || (q = 28 && !s.q28Below) then s
  else if g.retry != again then s
  else if again then s.readFailed q 2 0
  else s.modRing q (fun g => { g with retry := true })

/-- R83, R540: a read of a slot's source completes with an error. -/
def State.stageError (s : State) (p st : Nat) (tag again : Bool) : State :=
  let x := s.slot p
  if x.st != .staging || !x.mask.testBit st then s
  else if again then (if x.retries.contains (st, tag) then s.stageFail p st tag 0x1010 3 else s)
  else s.modSlot p (fun x => { x with retries := x.retries ++ [(st, tag)] })

/-- R116, R540: a read of a running job completes with an error; `chain` are the entries read so far (R107). -/
def State.codecError (s : State) (id : Nat) (chain : List ChainEnt) (again : Bool) : State :=
  match s.job id with
  | none => s
  | some j =>
    if !j.started || j.retry != again then s
    else if again then
      s.failJob j (s.jobChain j chain (2 ^ 64)).1 {
        op := j.op, status := 7, engine := j.engines.headD 255, suspends := j.suspends, start := j.etimeStart
        capture := jobCapture j.desc }
    else s.modJob id (fun j => { j with retry := true })

/-- R540: a read completes with an error: the first is retried, the retry's (`again`) makes the read fail. -/
def State.readError (s : State) (r : ReadRef) (again : Bool) : State :=
  match r with
  | .desc q => s.descError q again
  | .stage p st tag => s.stageError p st tag again
  | .codec id chain => s.codecError id chain again
  | .other => s

def execReadErrorRetry (r : ReadRef) (again : Bool) (s : State) : Out State Fault Refusal := .next (s.live (s.readError r again))

/-! ### Boundaries (R273) -/

/-- A group's boundary is now, or is the sample tick or period end that COMMIT_EFFECT itself reports. -/
def State.effectDue (s : State) (g : GrpKind) (i : Nat) : Bool :=
  match g with
  | .stGeom | .stPlace | .stExpo | .slice | .octEct => s.boundaryNow g i
  | .bandTbl => false
  | .pll => 4 ≤ i || s.now % 40 = 0
  | _ => true

/-- R273: the pending commit of the group that a FIELD_ID names takes effect at its boundary. -/
def State.commitEffect (s : State) (fid : Nat) : State :=
  match groupOfFieldId fid with
  | none => s
  | some g =>
    let keys := s.stagedKeys g ++ (s.leg.due.map (·.1)).filter (fun k => groupOfKey k = g)
    match keys with
    | [] => s
    | k :: _ =>
      let (kind, i, _) := kindOfKey k
      if s.effectDue kind i then s.boundary g else s

def execCommitEffect (fid : Word) (s : State) : Out State Fault Refusal := .next (s.live (s.commitEffect fid.toNat))

/-! ### Frames, lines and facets with the commits they admit -/

/-- R145, R273: a station reaches the frame start of a slot. -/
def State.frameStart (s : State) (st p : Nat) : State :=
  if s.startsNow st p then (s.atEdge (s.stationGroups st)).frameBegins st p else s

def execFrameStart (st : Fin 8) (slot : Fin 160) (s : State) : Out State Fault Refusal := .next (s.live (s.frameStart st slot))

def execFrameEnd (st : Fin 8) (s : State) : Out State Fault Refusal := .next (s.live (s.frameEnd st).legStop.dueCommits)

/-- R162, R273: an emitter starts a line; commits of its beam take effect. -/
def execLineStart (st : Fin 8) (e : Fin 32) (s : State) : Out State Fault Refusal :=
  .next (s.live ((s.atEdge [(.beam, s.beamOf st e)]).lineStart st e))

/-- R334: an external polygon drive's rate 1 / PERIOD against the one expected: R330 with it in place of the speed (log 71). -/
def State.xdAtSpeed (s : State) (n : Nat) : State :=
  if !s.on (F.XD_CFG_POLY_EN n) then s else
  let st := s.rd (F.XD_CFG_STATION n)
  let p := s.period st
  let near := match s.setPeriodQ st with
    | some (a, b) => p != 0 && ((a : Int) - p * b).natAbs * 10000 ≤ s.rd (F.MOT_AT_AT_WIN n) * p * b
    | none => false
  if !near then (s.wr (F.XD_STAT_AT_SPEED n) 0).modXd n (fun x => { x with atSince := none })
  else
    let t := ((s.xd n).atSince).getD s.now
    let s := s.modXd n (fun x => { x with atSince := some t })
    if s.on (F.XD_STAT_AT_SPEED n) || s.now < t + s.rd (F.MOT_AT_AT_TIME n) * 1000000 then s else
    (s.wr (F.XD_STAT_AT_SPEED n) 1).post 0 0x5002 8 (0x100 + n)
      [(0, 4, 250000000000000 / max 1 p)]

/-- R156, R510: a facet reference, and the request of the next facet's packets. -/
def State.facetTick (s : State) (st : Nat) (w : Int) : State :=
  let fno := (s.sc st).fno
  let s := s.facetRef st w
  if (s.sc st).fno = fno then s else s.legRequest st

def execFacetReference (st : Fin 8) (w : Int) (s : State) : Out State Fault Refusal := .next (s.live (s.facetTick st w))

/-! ### Sample ticks with the commits they admit -/

def execThermalSample (n : Fin 16) (r : Nat) (s : State) : Out State Fault Refusal :=
  .next (s.live ((s.atEdge [(.octTherm, n)]).thermal n r))

def execMotorLoopTick (m : Fin 16) (x : MotSample) (s : State) : Out State Fault Refusal :=
  .next (s.live ((s.atEdge [(.motor, m)]).motorTick m x))

def execCmdPinMeasure (n : Fin 8) (codes : List Nat) (high period : Nat) (s : State) : Out State Fault Refusal :=
  .next (s.live ((s.atEdge [(.cmdPin, n)]).pinMeasure n codes high period))

/-- ETIME is a tick of a slot's class that has not been taken. -/
def State.loopDue (s : State) (l : Nat) : Bool :=
  let t := s.etime / 10 * 10
  t % (max 10 (s.rd (F.LOOP_CLASS_PERIOD (s.rd (F.LP_CFG_RATE l)))) * 1000) == 0 && (s.loop l).tickAt != some t

/-- R366, R392: a tick of a slot's class is a tick of the slot: a running slot's every DECIM-th. -/
def State.slotTick (s : State) (l : Nat) : Bool :=
  !s.loopOn l || decide (max 1 (s.rd (F.LP_CFG_DECIM l)) ≤ (s.loop l).count + 1)

def execLoopTick (l : Fin 192) (s : State) : Out State Fault Refusal :=
  .next (s.live (if s.loopDue l then (if s.slotTick l then s.atEdge [(.loop, l)] else s).loopTick l else s))

/-- R387, R434: a qualified zero-cross, for the loops in RUN and READY or for the ember zone. -/
def State.zeroCrossing (s : State) (rising : Bool) : State :=
  if s.domOn 5 then ((s.atEdge ((List.range 8).map (fun n => (.fz, n)))).emberStops).zeroCross rising
  else if s.emberOn then s.emberCross rising else s

/-- R386: an edge of ZC_IN that the pin has held for `held` ns: once that is ZC_FILT it is a zero-cross. -/
def execZeroCross (rising : Bool) (held : Nat) (s : State) : Out State Fault Refusal :=
  .next (s.live (if s.zcFilt ≤ held then s.zeroCrossing rising else s))

def execThermistorSample (n : Fin 16) (r : Nat) (s : State) : Out State Fault Refusal :=
  .next (s.live ((s.atEdge [(.th, n)]).thSample n r))

/-! ### BEZEL_CMD (R280) -/

def execBezelCmdCommitAll (s : State) : Out State Fault Refusal := .next (s.live (s.cmdCommit s.writtenGroups))

def execBezelCmdCommitGroup (s : State) : Out State Fault Refusal := .next (s.live (s.cmdOnGroup State.cmdCommit))

def execBezelCmdDiscardAll (s : State) : Out State Fault Refusal := .next (s.live (s.cmdDiscard s.writtenGroups))

def execBezelCmdDiscardGroup (s : State) : Out State Fault Refusal := .next (s.live (s.cmdOnGroup State.cmdDiscard))

def execBezelCmdArm (s : State) : Out State Fault Refusal := .next (s.live (s.arm 1))

def execBezelCmdDisarm (s : State) : Out State Fault Refusal := .next (s.live (if s.inFlight = 0 then s.disarm else s))

/-! ### The tick of an idle block (log 70) -/

/-- 1 ns passes: ETIME while SYS runs (R21), VTIME from the end of the Vigil stage (R24, R458). -/
def State.clockTick (s : State) : State :=
  let t := s.time
  let f := if 2 ≤ s.rd F.BOOT_STAT_STAGE then t.vfrac + 32768 else t.vfrac
  let wrap := decide (1000000000 ≤ f)
  { s with time := { t with
    now := t.now + 1
    etime := if t.sysStopped then t.etime else t.etime + 1
    vtime := if wrap then (t.vtime + 1) % 2 ^ 48 else t.vtime
    vfrac := if wrap then f - 1000000000 else f } }

/-- VTIME is below VIG_ALARM: the alarm can fire again (R432). -/
def State.alarmReady (s : State) : State :=
  if s.time.vtime < s.rd F.VIG_ALARM_LO_ALARM + s.rd F.VIG_ALARM_HI_ALARM * 4294967296 then
    { s with pwr := { s.pwr with alarmed := false } } else s

/-- What happens on a 10 ns tick once WPOS is published: eves of the last tick are settled (R53), islands test ACK
(R400), the active island manages the AUTO domains (R430), start-up and a patch go on (R458, R467). -/
def State.tick10 (s : State) : State :=
  let s := s.serveKept.settleEves.tierTick.markTick
  let s := ((List.range 8).foldl State.xdAtSpeed s).switchTick
  let s := ((((s.ackTick 0).ackTick 1).autoDomains).wakeJudged.pgJudged).pendTick
  let s := (((s.bootIslands).patchTick).lvtSettle).settleHeads
  [4, 5, 6, 7, 8, 9, 10, 11].foldl State.returnDone s

/-- A reference cycle: commits of core PLLs take effect (R304), and the lock pins follow ERR (R287). -/
def State.refTick (s : State) : State := (s.atEdge ((List.range 4).map (fun n => (.pll, n)))).lockPins

/-- What the block does by itself in 1 ns: time passes, WPOS is published on a 10 ns tick (R25), outputs reach the ends of their periods (R333, R383), and on the tracker's
ticks what State.tick10 says. -/
def State.tick (s : State) : State :=
  if s.boot.porst then s else
  let s := if s.now % 10 = 9 then s.cycleEnd else s
  let s := s.clockTick.alarmReady
  let s := if s.now % 10 = 0 then s.webTick else s
  let s := ([0, 1, 2, 3].foldl State.pgSettle s.syncXds).xdDones.syncHvs.fzTicks
  let s := if s.now % 5 = 0 then s.encSettles.axTick else s
  let s := if s.now % 40 = 0 then s.refTick else s
  if s.now % 10 = 0 then s.tick10 else s

end Sys2Proof.Machine
end

