-- ==== Sys2Proof/Machine/Dispatch.lean ====
section
/-! DEFINITION. The meaning of each command: one arm per constructor. -/

namespace Sys2Proof.Machine

open Sys2Proof

def exec (i : Instr) (s : State) : Host.Outcome State Fault Refusal :=
  match i with
  | .porstRelease mode boot lpSel => Sys2Proof.Machine.execPorstRelease mode boot lpSel s
  | .registerWrite bar off v => Sys2Proof.Machine.execRegisterWrite bar off v s
  | .barMissizedAccess bar off be write len => Sys2Proof.Machine.execBarMissizedAccess bar off be write len s
  | .lowWordRead bar off => Sys2Proof.Machine.execLowWordRead bar off s
  | .pageTransaction ring => Sys2Proof.Machine.execPageTransaction ring s
  | .pageCancel ring => Sys2Proof.Machine.execPageCancel ring s
  | .granuleAllocation slot => Sys2Proof.Machine.execGranuleAllocation slot s
  | .stagingComplete slot srcs => Sys2Proof.Machine.execStagingComplete slot srcs s
  | .stageFail slot station tag codec sub => Sys2Proof.Machine.execStageFail slot station tag codec sub s
  | .eve slot => Sys2Proof.Machine.execEve slot s
  | .admissionDecision slot => Sys2Proof.Machine.execAdmissionDecision slot s
  | .eveBackstop slot => Sys2Proof.Machine.execEveBackstop slot s
  | .frameStart st slot => Sys2Proof.Machine.execFrameStart st slot s
  | .frameEnd st => Sys2Proof.Machine.execFrameEnd st s
  | .delivery slot => Sys2Proof.Machine.execDelivery slot s
  | .delivWindowClose slot => Sys2Proof.Machine.execDelivWindowClose slot s
  | .bandFetchRequest st slot tag => Sys2Proof.Machine.execBandFetchRequest st slot tag s
  | .bandFetchComplete st tag ce ue => Sys2Proof.Machine.execBandFetchComplete st tag ce ue s
  | .lineStart st e => Sys2Proof.Machine.execLineStart st e s
  | .bandEndCheck st tag => Sys2Proof.Machine.execBandEndCheck st tag s
  | .stFetchClr st => Sys2Proof.Machine.execStFetchClr st s
  | .compress ring => Sys2Proof.Machine.execCompress ring s
  | .decompress ring => Sys2Proof.Machine.execDecompress ring s
  | .frcEncode ring => Sys2Proof.Machine.execFrcEncode ring s
  | .transcode ring => Sys2Proof.Machine.execTranscode ring s
  | .replay ring => Sys2Proof.Machine.execReplay ring s
  | .codecJobStart id empty => Sys2Proof.Machine.execCodecJobStart id empty s
  | .chainPoll id valid empty => Sys2Proof.Machine.execChainPoll id valid empty s
  | .codecJobComplete id frags input chain mismatches rerunAt ce ue => Sys2Proof.Machine.execCodecJobComplete id frags input chain mismatches rerunAt ce ue s
  | .reprintHold ring => Sys2Proof.Machine.execReprintHold ring s
  | .reprintFree ring => Sys2Proof.Machine.execReprintFree ring s
  | .tableLoad ring => Sys2Proof.Machine.execTableLoad ring s
  | .tableSwitch ring => Sys2Proof.Machine.execTableSwitch ring s
  | .tableTxnStart id => Sys2Proof.Machine.execTableTxnStart id s
  | .tableTxnComplete id srcs => Sys2Proof.Machine.execTableTxnComplete id srcs s
  | .bdEdge st t w => Sys2Proof.Machine.execBdEdge st t w s
  | .eosEdge st t => Sys2Proof.Machine.execEosEdge st t s
  | .facetReference st w => Sys2Proof.Machine.execFacetReference st w s
  | .facetGap st => Sys2Proof.Machine.execFacetGap st s
  | .sigClear st => Sys2Proof.Machine.execSigClear st s
  | .markEdge k level => Sys2Proof.Machine.execMarkEdge k level s
  | .registrationUpdate st => Sys2Proof.Machine.execRegistrationUpdate st s
  | .stPhClr st => Sys2Proof.Machine.execStPhClr st s
  | .thermalSample n r => Sys2Proof.Machine.execThermalSample n r s
  | .energyScaleUpdate n vbs => Sys2Proof.Machine.execEnergyScaleUpdate n vbs s
  | .apcSample n m => Sys2Proof.Machine.execApcSample n m s
  | .beamWdCut b run => Sys2Proof.Machine.execBeamWdCut b run s
  | .cutFail b => Sys2Proof.Machine.execCutFail b s
  | .bmStatClear b v amps again => Sys2Proof.Machine.execBmStatClear b v amps again s
  | .bmOnmaxClr b => Sys2Proof.Machine.execBmOnmaxClr b s
  | .octClr n => Sys2Proof.Machine.execOctClr n s
  | .vbsOk n vbs => Sys2Proof.Machine.execVbsOk n vbs s
  | .noScanCut st => Sys2Proof.Machine.execNoScanCut st s
  | .noscanClr st => Sys2Proof.Machine.execNoscanClr st s
  | .scanEnWrite st on => Sys2Proof.Machine.execScanEnWrite st on s
  | .lsafeTrip b => Sys2Proof.Machine.execLsafeTrip b s
  | .beamSupply n vbs => Sys2Proof.Machine.execBeamSupply n vbs s
  | .rollCallWindowClose st => Sys2Proof.Machine.execRollCallWindowClose st s
  | .stDropClr st v => Sys2Proof.Machine.execStDropClr st v s
  | .stRollClr st => Sys2Proof.Machine.execStRollClr st s
  | .doorbell ring v => Sys2Proof.Machine.execDoorbell ring v s
  | .ringEnable ring => Sys2Proof.Machine.execRingEnable ring s
  | .ringDisable ring => Sys2Proof.Machine.execRingDisable ring s
  | .descriptorRead ring d => Sys2Proof.Machine.execDescriptorRead ring d s
  | .phaseReread ring d => Sys2Proof.Machine.execPhaseReread ring d s
  | .readErrorRetry r again => Sys2Proof.Machine.execReadErrorRetry r again s
  | .q28Poll d => Sys2Proof.Machine.execQ28Poll d s
  | .ringWbWrite ring => Sys2Proof.Machine.execRingWbWrite ring s
  | .msixModTimer v => Sys2Proof.Machine.execMsixModTimer v s
  | .msixUnmask v => Sys2Proof.Machine.execMsixUnmask v s
  | .bzWrite ring => Sys2Proof.Machine.execBzWrite ring s
  | .bzCommit ring => Sys2Proof.Machine.execBzCommit ring s
  | .bzDiscard ring => Sys2Proof.Machine.execBzDiscard ring s
  | .commitEffect fid => Sys2Proof.Machine.execCommitEffect fid s
  | .arm ring => Sys2Proof.Machine.execArm ring s
  | .disarm ring => Sys2Proof.Machine.execDisarm ring s
  | .pairHoldExpiry n => Sys2Proof.Machine.execPairHoldExpiry n s
  | .refLost means => Sys2Proof.Machine.execRefLost means s
  | .pllEnable p on => Sys2Proof.Machine.execPllEnable p on s
  | .pllSearchDone p cap => Sys2Proof.Machine.execPllSearchDone p cap s
  | .pllCoarseLock p err => Sys2Proof.Machine.execPllCoarseLock p err s
  | .pllFine p err mean => Sys2Proof.Machine.execPllFine p err mean s
  | .pllFineLost p err => Sys2Proof.Machine.execPllFineLost p err s
  | .pllLockLost p err => Sys2Proof.Machine.execPllLockLost p err s
  | .pllCodeLimit p => Sys2Proof.Machine.execPllCodeLimit p s
  | .pllPullTimeout p => Sys2Proof.Machine.execPllPullTimeout p s
  | .pllClr p => Sys2Proof.Machine.execPllClr p s
  | .pllHopClr p m => Sys2Proof.Machine.execPllHopClr p m s
  | .clkHop ring => Sys2Proof.Machine.execClkHop ring s
  | .clkRampStart ring => Sys2Proof.Machine.execClkRampStart ring s
  | .clkRampStopHold ring => Sys2Proof.Machine.execClkRampStopHold ring s
  | .clkRampStopReturn ring => Sys2Proof.Machine.execClkRampStopReturn ring s
  | .clkSweep ring => Sys2Proof.Machine.execClkSweep ring s
  | .sweepComplete p fmin fmax kdco => Sys2Proof.Machine.execSweepComplete p fmin fmax kdco s
  | .rampUpdate p g => Sys2Proof.Machine.execRampUpdate p g s
  | .clkOutEnable c on => Sys2Proof.Machine.execClkOutEnable c on s
  | .clkCmdHopFcw p => Sys2Proof.Machine.execClkCmdHopFcw p s
  | .clkCmdHopEntry p arg => Sys2Proof.Machine.execClkCmdHopEntry p arg s
  | .clkCmdRampStart p => Sys2Proof.Machine.execClkCmdRampStart p s
  | .clkCmdRampHold p => Sys2Proof.Machine.execClkCmdRampHold p s
  | .clkCmdRampReturn p => Sys2Proof.Machine.execClkCmdRampReturn p s
  | .clkCmdSweep p arg sweepEnt => Sys2Proof.Machine.execClkCmdSweep p arg sweepEnt s
  | .motorLoopTick m x => Sys2Proof.Machine.execMotorLoopTick m x s
  | .catchComplete m => Sys2Proof.Machine.execCatchComplete m s
  | .brakeMeasure m => Sys2Proof.Machine.execBrakeMeasure m s
  | .brakeTimeout m => Sys2Proof.Machine.execBrakeTimeout m s
  | .alignComplete m pulses => Sys2Proof.Machine.execAlignComplete m pulses s
  | .rotorLoss m => Sys2Proof.Machine.execRotorLoss m s
  | .reacquired m => Sys2Proof.Machine.execReacquired m s
  | .rotorLost m => Sys2Proof.Machine.execRotorLost m s
  | .atSpeed m => Sys2Proof.Machine.execAtSpeed m s
  | .motCmdRun ring => Sys2Proof.Machine.execMotCmdRun ring s
  | .motCmdSetpoint ring => Sys2Proof.Machine.execMotCmdSetpoint ring s
  | .motCmdStop ring => Sys2Proof.Machine.execMotCmdStop ring s
  | .motCmdCoast ring => Sys2Proof.Machine.execMotCmdCoast ring s
  | .motCmdClear ring => Sys2Proof.Machine.execMotCmdClear ring s
  | .xdCmd ring => Sys2Proof.Machine.execXdCmd ring s
  | .motClr m => Sys2Proof.Machine.execMotClr m s
  | .cmdPinMeasure n codes high period => Sys2Proof.Machine.execCmdPinMeasure n codes high period s
  | .cmdPinTimeout n => Sys2Proof.Machine.execCmdPinTimeout n s
  | .axMove ring => Sys2Proof.Machine.execAxMove ring s
  | .axRetarget ring => Sys2Proof.Machine.execAxRetarget ring s
  | .axHome ring => Sys2Proof.Machine.execAxHome ring s
  | .axCtlStop ring => Sys2Proof.Machine.execAxCtlStop ring s
  | .axCtlEstop ring => Sys2Proof.Machine.execAxCtlEstop ring s
  | .axCtlClear ring => Sys2Proof.Machine.execAxCtlClear ring s
  | .axCtlSetPos ring => Sys2Proof.Machine.execAxCtlSetPos ring s
  | .stepPulse a => Sys2Proof.Machine.execStepPulse a s
  | .switchEdgeQualified a limit level => Sys2Proof.Machine.execSwitchEdgeQualified a limit level s
  | .axLatchClr a => Sys2Proof.Machine.execAxLatchClr a s
  | .encoderCount n a b => Sys2Proof.Machine.execEncoderCount n a b s
  | .encoderZEdge n z => Sys2Proof.Machine.execEncoderZEdge n z s
  | .loopTick l => Sys2Proof.Machine.execLoopTick l s
  | .loopCtlOff ring => Sys2Proof.Machine.execLoopCtlOff ring s
  | .loopCtlManual ring => Sys2Proof.Machine.execLoopCtlManual ring s
  | .loopCtlManualHold ring => Sys2Proof.Machine.execLoopCtlManualHold ring s
  | .loopCtlAuto ring => Sys2Proof.Machine.execLoopCtlAuto ring s
  | .loopCtlSetpoint ring => Sys2Proof.Machine.execLoopCtlSetpoint ring s
  | .loopCtlClear ring => Sys2Proof.Machine.execLoopCtlClear ring s
  | .loopProg ring => Sys2Proof.Machine.execLoopProg ring s
  | .hvSenseSample n code => Sys2Proof.Machine.execHvSenseSample n code s
  | .hvTripClr n => Sys2Proof.Machine.execHvTripClr n s
  | .zeroCross rising held => Sys2Proof.Machine.execZeroCross rising held s
  | .thermistorSample n r => Sys2Proof.Machine.execThermistorSample n r s
  | .fuserClr n => Sys2Proof.Machine.execFuserClr n s
  | .claspPresentation c u shadow => Sys2Proof.Machine.execClaspPresentation c u shadow s
  | .claspHold c => Sys2Proof.Machine.execClaspHold c s
  | .claspSafe c => Sys2Proof.Machine.execClaspSafe c s
  | .heartbeatSend u advanced => Sys2Proof.Machine.execHeartbeatSend u advanced s
  | .heartbeat u crcOk => Sys2Proof.Machine.execHeartbeat u crcOk s
  | .peerLost u => Sys2Proof.Machine.execPeerLost u s
  | .islandBootComplete u flash err => Sys2Proof.Machine.execIslandBootComplete u flash err s
  | .selftestComplete u fail => Sys2Proof.Machine.execSelftestComplete u fail s
  | .bidResolve u => Sys2Proof.Machine.execBidResolve u s
  | .takeoverResume u => Sys2Proof.Machine.execTakeoverResume u s
  | .islandInternalFault u cause core => Sys2Proof.Machine.execIslandInternalFault u cause core s
  | .locketValidate u ok => Sys2Proof.Machine.execLocketValidate u ok s
  | .bistSlice u bist ok n corrected => Sys2Proof.Machine.execBistSlice u bist ok n corrected s
  | .healthRecord u => Sys2Proof.Machine.execHealthRecord u s
  | .rejoinComplete u => Sys2Proof.Machine.execRejoinComplete u s
  | .islCmdSwitch ring => Sys2Proof.Machine.execIslCmdSwitch ring s
  | .islCmdRetest ring => Sys2Proof.Machine.execIslCmdRetest ring s
  | .pwrState ring => Sys2Proof.Machine.execPwrState ring s
  | .pwrDomain ring => Sys2Proof.Machine.execPwrDomain ring s
  | .pwrDomReqWrite d req => Sys2Proof.Machine.execPwrDomReqWrite d req s
  | .wakeStepTimeout stack => Sys2Proof.Machine.execWakeStepTimeout stack s
  | .wakeSource b rise => Sys2Proof.Machine.execWakeSource b rise s
  | .emberSample r => Sys2Proof.Machine.execEmberSample r s
  | .railOnDelay k => Sys2Proof.Machine.execRailOnDelay k s
  | .railPg k good => Sys2Proof.Machine.execRailPg k good s
  | .railTimeout k => Sys2Proof.Machine.execRailTimeout k s
  | .railFault k => Sys2Proof.Machine.execRailFault k s
  | .seqInEdge rise => Sys2Proof.Machine.execSeqInEdge rise s
  | .pmbusTransferComplete fail data => Sys2Proof.Machine.execPmbusTransferComplete fail data s
  | .operation w => Sys2Proof.Machine.execOperation w s
  | .clearFaults listed => Sys2Proof.Machine.execClearFaults listed s
  | .statusByte listed => Sys2Proof.Machine.execStatusByte listed s
  | .statusWord listed => Sys2Proof.Machine.execStatusWord listed s
  | .mfrPgLo listed => Sys2Proof.Machine.execMfrPgLo listed s
  | .mfrPgHi listed => Sys2Proof.Machine.execMfrPgHi listed s
  | .seqUp ring => Sys2Proof.Machine.execSeqUp ring s
  | .seqDown ring => Sys2Proof.Machine.execSeqDown ring s
  | .railSet ring => Sys2Proof.Machine.execRailSet ring s
  | .railClear ring => Sys2Proof.Machine.execRailClear ring s
  | .pmbXfer ring => Sys2Proof.Machine.execPmbXfer ring s
  | .seqCmdRailOn k => Sys2Proof.Machine.execSeqCmdRailOn k s
  | .seqCmdRailOff k => Sys2Proof.Machine.execSeqCmdRailOff k s
  | .seqCmdRailClear k => Sys2Proof.Machine.execSeqCmdRailClear k s
  | .patchReadComplete img err => Sys2Proof.Machine.execPatchReadComplete img err s
  | .junctionSample t0 t1 t2 t3 => Sys2Proof.Machine.execJunctionSample t0 t1 t2 t3 s
  | .legacyWrite n v => Sys2Proof.Machine.execLegacyWrite n v s
  | .legacyRun run => Sys2Proof.Machine.execLegacyRun run s
  | .lDropRestore st mask => Sys2Proof.Machine.execLDropRestore st mask s
  | .legacyHvCtlWrite c v => Sys2Proof.Machine.execLegacyHvCtlWrite c v s
  | .legacyFzCtlWrite n v => Sys2Proof.Machine.execLegacyFzCtlWrite n v s
  | .legacyFreqHop st => Sys2Proof.Machine.execLegacyFreqHop st s
  | .legacyFrameStart st => Sys2Proof.Machine.execLegacyFrameStart st s
  | .lvrPacket ws => Sys2Proof.Machine.execLvrPacket ws s
  | .linkTrained skew => Sys2Proof.Machine.execLinkTrained skew s
  | .lvtBdRequest st => Sys2Proof.Machine.execLvtBdRequest st s
  | .lvtTop st => Sys2Proof.Machine.execLvtTop st s
  | .linkLoopDone words => Sys2Proof.Machine.execLinkLoopDone words s
  | .referenceSourceLatch edges => Sys2Proof.Machine.execReferenceSourceLatch edges s
  | .clkHopTimeout p => Sys2Proof.Machine.execClkHopTimeout p s
  | .motCmdRunTimeout m => Sys2Proof.Machine.execMotCmdRunTimeout m s
  | .lsafeInputHigh b => Sys2Proof.Machine.execLsafeInputHigh b s
  | .supplyUndervoltage low => Sys2Proof.Machine.execSupplyUndervoltage low s
  | .xtalQualified => Sys2Proof.Machine.execXtalQualified s
  | .xtalQualifyTimeout => Sys2Proof.Machine.execXtalQualifyTimeout s
  | .powerOnWakeRetry => Sys2Proof.Machine.execPowerOnWakeRetry s
  | .tsnapSnap => Sys2Proof.Machine.execTsnapSnap s
  | .wposPreset => Sys2Proof.Machine.execWposPreset s
  | .pageRecordWrite => Sys2Proof.Machine.execPageRecordWrite s
  | .priPageAbort => Sys2Proof.Machine.execPriPageAbort s
  | .priFrameStop => Sys2Proof.Machine.execPriFrameStop s
  | .priSafeState => Sys2Proof.Machine.execPriSafeState s
  | .priPing => Sys2Proof.Machine.execPriPing s
  | .reprintIndexWrite => Sys2Proof.Machine.execReprintIndexWrite s
  | .codecDoneWrite => Sys2Proof.Machine.execCodecDoneWrite s
  | .tableDoneWrite => Sys2Proof.Machine.execTableDoneWrite s
  | .lsafeDisagree => Sys2Proof.Machine.execLsafeDisagree s
  | .disagreeClear => Sys2Proof.Machine.execDisagreeClear s
  | .lsafeClr => Sys2Proof.Machine.execLsafeClr s
  | .eventRecordWrite => Sys2Proof.Machine.execEventRecordWrite s
  | .machDoneWrite => Sys2Proof.Machine.execMachDoneWrite s
  | .ringStop => Sys2Proof.Machine.execRingStop s
  | .ringStart => Sys2Proof.Machine.execRingStart s
  | .ringReset => Sys2Proof.Machine.execRingReset s
  | .ringResize => Sys2Proof.Machine.execRingResize s
  | .fenceSet => Sys2Proof.Machine.execFenceSet s
  | .fenceClear => Sys2Proof.Machine.execFenceClear s
  | .perstAssert => Sys2Proof.Machine.execPerstAssert s
  | .linkDown => Sys2Proof.Machine.execLinkDown s
  | .functionLevelReset => Sys2Proof.Machine.execFunctionLevelReset s
  | .flrComplete => Sys2Proof.Machine.execFlrComplete s
  | .linkUp => Sys2Proof.Machine.execLinkUp s
  | .bezelCmdCommitAll => Sys2Proof.Machine.execBezelCmdCommitAll s
  | .bezelCmdCommitGroup => Sys2Proof.Machine.execBezelCmdCommitGroup s
  | .bezelCmdDiscardAll => Sys2Proof.Machine.execBezelCmdDiscardAll s
  | .bezelCmdDiscardGroup => Sys2Proof.Machine.execBezelCmdDiscardGroup s
  | .bezelCmdArm => Sys2Proof.Machine.execBezelCmdArm s
  | .bezelCmdDisarm => Sys2Proof.Machine.execBezelCmdDisarm s
  | .refRestored => Sys2Proof.Machine.execRefRestored s
  | .vwebUpdate => Sys2Proof.Machine.execVwebUpdate s
  | .zcLost => Sys2Proof.Machine.execZcLost s
  | .claspClr => Sys2Proof.Machine.execClaspClr s
  | .claspMonitorSilence => Sys2Proof.Machine.execClaspMonitorSilence s
  | .locketWrite => Sys2Proof.Machine.execLocketWrite s
  | .claspIslCmdSwitch => Sys2Proof.Machine.execClaspIslCmdSwitch s
  | .claspIslCmdRetestA => Sys2Proof.Machine.execClaspIslCmdRetestA s
  | .claspIslCmdRetestB => Sys2Proof.Machine.execClaspIslCmdRetestB s
  | .pwrCmdVigil => Sys2Proof.Machine.execPwrCmdVigil s
  | .pwrCmdDoze => Sys2Proof.Machine.execPwrCmdDoze s
  | .pwrCmdReady => Sys2Proof.Machine.execPwrCmdReady s
  | .codecRetentionTimer => Sys2Proof.Machine.execCodecRetentionTimer s
  | .wakeStepReady => Sys2Proof.Machine.execWakeStepReady s
  | .wakeRetry => Sys2Proof.Machine.execWakeRetry s
  | .vigAlarm => Sys2Proof.Machine.execVigAlarm s
  | .pwrLogClr => Sys2Proof.Machine.execPwrLogClr s
  | .emberClr => Sys2Proof.Machine.execEmberClr s
  | .seqOutAssert => Sys2Proof.Machine.execSeqOutAssert s
  | .cascWaitExpiry => Sys2Proof.Machine.execCascWaitExpiry s
  | .railReleaseStep => Sys2Proof.Machine.execRailReleaseStep s
  | .minOffExpiry => Sys2Proof.Machine.execMinOffExpiry s
  | .pfiTrip => Sys2Proof.Machine.execPfiTrip s
  | .shutdownDomainsDown => Sys2Proof.Machine.execShutdownDomainsDown s
  | .shutdownRailRelease => Sys2Proof.Machine.execShutdownRailRelease s
  | .pfiGood => Sys2Proof.Machine.execPfiGood s
  | .pfwRelease => Sys2Proof.Machine.execPfwRelease s
  | .restart => Sys2Proof.Machine.execRestart s
  | .vigBrownout => Sys2Proof.Machine.execVigBrownout s
  | .pmbusPoll => Sys2Proof.Machine.execPmbusPoll s
  | .alertResponse => Sys2Proof.Machine.execAlertResponse s
  | .seqCmdUp => Sys2Proof.Machine.execSeqCmdUp s
  | .seqCmdDown => Sys2Proof.Machine.execSeqCmdDown s
  | .patchLoad => Sys2Proof.Machine.execPatchLoad s
  | .tierEvaluation => Sys2Proof.Machine.execTierEvaluation s
  | .fsClr => Sys2Proof.Machine.execFsClr s
  | .flushable => Sys2Proof.Machine.execFlushable s
  | .flush => Sys2Proof.Machine.execFlush s
  | .telemetryRecord => Sys2Proof.Machine.execTelemetryRecord s
  | .vigTjPeakClr => Sys2Proof.Machine.execVigTjPeakClr s
  | .lCtrlFsClr => Sys2Proof.Machine.execLCtrlFsClr s
  | .lCtrlSafeClr => Sys2Proof.Machine.execLCtrlSafeClr s
  | .lAxCmdMove => Sys2Proof.Machine.execLAxCmdMove s
  | .lAxCmdHome => Sys2Proof.Machine.execLAxCmdHome s
  | .lAxCmdStop => Sys2Proof.Machine.execLAxCmdStop s
  | .lAxCmdEstop => Sys2Proof.Machine.execLAxCmdEstop s
  | .lAxCmdClear => Sys2Proof.Machine.execLAxCmdClear s
  | .linkClockLost => Sys2Proof.Machine.execLinkClockLost s
  | .lrdyFall => Sys2Proof.Machine.execLrdyFall s
  | .lvtEngineLost => Sys2Proof.Machine.execLvtEngineLost s
  | .linkLoopStart => Sys2Proof.Machine.execLinkLoopStart s
  | .porstAssert => Sys2Proof.Machine.execPorstAssert s
  | .lvtRdyRise => Sys2Proof.Machine.execLvtRdyRise s

end Sys2Proof.Machine
end

