-- ==== Sys2Proof/Safety.lean ====
section
/-! DEFINITION. What claims about the block are stated in: the canonical forms of its maps, what being held in power-on
reset means, and a step that stops nowhere. -/

namespace Sys2Proof.Machine

open Sys2Proof

/-- The canonical form of the band store (R70): addresses strictly rising, no listed byte equal to 0, what an unlisted
address reads as. -/
abbrev Memory.wf (m : List Host.Cell) : Prop := amSorted none m = true ∧ m.all (fun c => c.2 != 0#8) = true

/-- R527: the device is held in power-on reset: its state is the state after reset, whatever commands wait, none of
them a release of PORST_N. -/
def State.HeldInReset (s : State) : Prop :=
  { s with pending := [] } = State.reset ∧ ∀ mode boot lpSel, Instr.porstRelease mode boot lpSel ∉ s.pending

/-- A step goes on: it neither faults nor is refused. -/
def goesOn (o : Host.Outcome State Fault Refusal) : Prop := ∃ t, o = .next t

/-- A command answers a next state, and that state meets `P`. -/
def Gives (c : Instr) (s : State) (P : State → Prop) : Prop := ∃ t, exec c s = .next t ∧ P t

/-- PORST_N is high (R527). -/
abbrev State.up (s : State) : Prop := s.boot.porst = false

/-- PORST_N is high and the device is in native mode (R4). -/
abbrev State.native (s : State) : Prop := s.boot.porst = false ∧ s.rd F.GLB_MODE_MODE = 0

/-- `t` differs from `s` in registers alone, and there in none but the listed fields. -/
def RegsOnly (s t : State) (fs : List Fld) : Prop :=
  t = { s with regs := t.regs } ∧ ∀ g : Fld, (∀ f ∈ fs, f.key ≠ g.key) → t.rd g = s.rd g

/-- `t` differs from `s` in registers and in what the host side holds (events, vectors), and in no register but the
listed fields. -/
def RegsAndHost (s t : State) (fs : List Fld) : Prop :=
  t = { s with regs := t.regs, host := t.host } ∧ ∀ g : Fld, (∀ f ∈ fs, f.key ≠ g.key) → t.rd g = s.rd g

/-- `t` holds an event that has come since `s`, where the event queue of `s` has room (R251): its severity, code, block, instance
and detail. -/
abbrev Posts (s t : State) (sev code block inst : Nat) (d : BitVec 80) : Prop :=
  s.host.evq.length < 256 → (t.host.evq.any (fun e => e.etime == s.etime && e.wpos == s.wpos && e.sev == sev && e.code == code &&
    e.block == block && e.inst == inst && e.detail == d)) = true

/-- Encoder `n` counts with no filter delay (R353): it is enabled, FILT is 0, and its inputs stand as its pins do. -/
abbrev State.encReady (s : State) (n : Nat) : Prop :=
  n < s.encs.length ∧ s.on (F.ENC_CFG_EN n) = true ∧ s.rd (F.ENC_CFG_FILT n) = 0 ∧ (s.enc n).a.level = (s.enc n).a.raw ∧
    (s.enc n).b.level = (s.enc n).b.raw ∧ (s.enc n).z.level = (s.enc n).z.raw

/-! ### A machine transaction (R244, R253) -/

/-- The state after the transaction's effect `v` with `waits` parts that still run and RESULT `res`: its answer, and the
next transaction of the ring. -/
def State.machAnswer (s : State) (q : Nat) (ds : List Desc) (v : State) (waits res : Nat) : State :=
  let m := (s.machTaken q ds).1
  let u := v.answerTxn m (.done v waits res)
  (if dOpcode (ds.headD 0) = 0x50 ∨ dOpcode (ds.headD 0) = 0x51 then u.covered m.tseq else u).settleHead q ds.length

/-- A transaction stands at the head of ring `q`, it is the ring's turn, and the generic checks pass (R245, R247). -/
abbrev State.ringReady (s : State) (q : Nat) (ds : List Desc) : Prop :=
  s.boot.porst = false ∧ s.takeable q = some ds ∧ genericFail q ds = none

/-- Such a transaction of a machine ring, which an island applies where that is its part (R406). -/
abbrev State.machReady (s : State) (q : Nat) (ds : List Desc) : Prop :=
  s.boot.porst = false ∧ s.takeable q = some ds ∧ classOf q = 3 ∧ genericFail q ds = none ∧ s.islandLacks q ds = false

/-- A transaction of the priority ring Q28 (R256): its record, and the state in which it has its effect. -/
def State.priTaken (s : State) (d : Desc) : MTxn × State := ((s.passTxn 28 1).trace 0 28 [d] 0).newTxn 28 [d] 0

/-- The answer to a transaction of Q28 that has had its effect. -/
def State.priAnswer (s : State) (d : Desc) (v : State) (status res : Nat) : State :=
  (v.finishTxn { (s.priTaken d).1 with
    status := status, result := BitVec.ofNat 128 res, failIndex := if status = 0 then 255 else 0,
    failOp := if status = 0 then 0 else dOpcode d }).settleHead 28 1

end Sys2Proof.Machine
end

