-- ==== Sys2Proof/Certificates/Slice0/Obligations.lean ====
section
/-! DEFINITION. The statements about the block. Every one holds of every state, reachable or not, that meets its premises; a
statement of the form `Gives c s P` says that the command answers a next state that meets `P`. Rules are those of spec/. -/

open Sys2Proof Sys2Proof.Machine

/-- The row's cut: a step takes the command at the front of the queue and runs it on the state with the queue's rest. -/
def Obligations.StepRunsTheFrontCommand : Prop :=
  ∀ (c : Instr) (rest : List Instr) (s : State), s.pending = c :: rest →
    step s = exec c { s with pending := rest }

/-- The model's choice (log 70): with an empty queue a step is 1 ns of SYS: `now` advances by 1, ETIME too while SYS runs. While
PORST_N is low nothing happens (R527). -/
def Obligations.IdleStepIsOneNanosecond : Prop :=
  (∀ s : State, s.pending = [] → step s = .next s.tick) ∧
  (∀ s : State, s.boot.porst = true → s.tick = s) ∧
  (∀ s : State, s.clockTick.time.now = s.time.now + 1 ∧
    s.clockTick.time.etime = (if s.time.sysStopped then s.time.etime else s.time.etime + 1) ∧
    s.clockTick.regs = s.regs ∧ s.clockTick.band = s.band ∧ s.clockTick.alm = s.alm)

/-- R527: while PORST_N is low the device holds itself in power-on reset: no command but the release, the assertion and the
brown-out of Vigil acts, whatever the state. -/
def Obligations.ResetHoldsEveryCommand : Prop :=
  ∀ (c : Instr) (s : State), s.boot.porst = true →
    (∀ m b l, c ≠ .porstRelease m b l) → c ≠ .porstAssert → c ≠ .vigBrownout → exec c s = .next s

/-- R527: the state after reset is held in reset. -/
def Obligations.ResetIsHeld : Prop :=
  State.HeldInReset State.reset

/-- R527: every step keeps a device that is held in reset in the state after reset, whatever commands wait, until its
PORST_N is released. -/
def Obligations.HeldInResetIsKept : Prop :=
  ∀ s t : State, State.HeldInReset s → step s = .next t → State.HeldInReset t

/-- No step of the block faults or is refused: every command has a meaning in every state. -/
def Obligations.EveryCommandGoesOn : Prop :=
  ∀ (c : Instr) (s : State), goesOn (exec c s)

/-- R4, R458, R527, R453, R459, R283, R461: PORST_N released, asserted; VDD_VIG low; the Vigil and Rails stages: the crystal, its
timeout, whose 0x8032 waits for PD_HOST, the 25 MHz reference (REF_OK reads 1 from its latch on: log 125), another power-on wake,
which waits where a shutdown is under way. -/
def Obligations.PowerOnReset : Prop :=
  (∀ (s : State) (mode : Fin 4) (boot lp : Bool), s.boot.porst = true → mode.val ≠ 1 →
    Gives (.porstRelease mode boot lp) s (fun t => t.boot.porst = false ∧ t.rd F.GLB_MODE_MODE = mode.val ∧
      t.rd F.GLB_MODE_STRAP_ERR = b2n (mode.val = 2) ∧ t.rd F.BOOT_STAT_STAGE = 1 ∧
      t.rd F.SEQ_CTL_BOOT = b2n boot ∧ t.rd F.SEQ_CTL_AUTO_RESTART = b2n boot ∧ t.rd F.PWR_STAT_STATE = 0 ∧
      t.alm = s.alm ∧ t.band = s.band ∧ t.pending = s.pending)) ∧
  (∀ (s : State) (boot lp : Bool), s.boot.porst = true →
    ∃ u : State, u.boot.porst = false ∧ u.rd F.GLB_MODE_MODE = 1 ∧ u.rd F.BOOT_STAT_STAGE = 1 ∧
      exec (.porstRelease 1 boot lp) s = .next ((u.wr L.MODE_PORT (b2n lp)).legacyInit)) ∧
  (∀ s : State, exec .porstAssert s = .next { State.reset with pending := s.pending }) ∧
  (∀ s : State, exec .vigBrownout s = .next { State.reset with pending := s.pending }) ∧
  (∀ s : State, s.up → s.rd F.BOOT_STAT_STAGE = 1 →
    exec .xtalQualified s = .next ({ s with
      boot := { s.boot with xtal := true }, time := { s.time with vtime := 0, vfrac := 0 } }).railsStage) ∧
  (∀ s : State, s.up → s.rd F.BOOT_STAT_STAGE = 1 → s.boot.releasedAt + 2000000000 ≤ s.now →
    s.domOn 1 = false →
    exec .xtalQualifyTimeout s = .next (({ (({ s with time := { s.time with vtime := 0, vfrac := 0 } } : State).wr
      F.BOOT_STAT_XTAL_FAIL 1) with pwr := { s.pwr with xtalDue := true } } : State).railsStage)) ∧
  (∀ s : State, s.up → s.rd F.BOOT_STAT_STAGE = 1 → s.boot.releasedAt + 2000000000 ≤ s.now → s.domOn 1 = true →
    exec .xtalQualifyTimeout s = .next (((({ s with time := { s.time with vtime := 0, vfrac := 0 } }).wr
      F.BOOT_STAT_XTAL_FAIL 1).post 1 0x8032 15 0 []).railsStage)) ∧
  (∀ s : State, s.rd F.GLB_MODE_MODE = 3 → s.rd F.SEQ_CTL_BOOT = 0 → s.railsStage.rd F.BOOT_STAT_STAGE = 2) ∧
  (∀ (s : State) (edges : Bool), s.up → s.boot.refFixed = false → s.boot.releasedAt + 100000 ≤ s.now →
    Gives (.referenceSourceLatch edges) s (fun t => t.rd F.CLK_REF_SRC = b2n edges ∧ t.rd F.CLK_REF_REF_OK = 1 ∧
      t.boot.refFixed = true ∧ RegsOnly { s with boot := t.boot } t [F.CLK_REF_SRC, F.CLK_REF_REF_OK])) ∧
  (∀ (s : State) (t0 : Nat), s.up → s.pwr.wakeAgain = some t0 → t0 ≤ s.now → s.seqState ≠ 5 → s.seqState ≠ 6 →
    exec .powerOnWakeRetry s =
      .next (({ s with pwr := { s.pwr with wakeAgain := none } }).startWake 2 true none none))

/-- R11, R12, R13, R14, R28, R37, R241, R269, R270: accesses of the host to registers, each type of field by its rule, to the
islands' copies of the loop slots, and to the doorbell pages; the accesses that R11 discards post 0x9010. -/
def Obligations.RegisterAccess : Prop :=
  (∀ (s : State) (v : Word), s.native →
    Gives (.registerWrite .bar0 0x1008 v) s (fun t => t.rd F.ALM_GAP_GAP = v.toNat ∧ RegsOnly s t [F.ALM_GAP_GAP])) ∧
  (∀ (s : State) (v : Word), s.native → s.isPending (groupOfKey (F.ST_DS_NOM_DS_NOM 1).key) = false →
    Gives (.registerWrite .bar0 0x110100 v) s (fun t => amFind t.staged (F.ST_DS_NOM_DS_NOM 1).key = some v ∧
      t = { s with staged := t.staged })) ∧
  (∀ (s : State) (off : BitVec 24) (v : Word), s.up → legWindow off.toNat = false → findReg off.toNat = none →
    off.toNat % 4 = 0 → off.toNat ≠ F.VIG_WAKE_EN_WAKE_EN.off → exec (.registerWrite .bar0 off v) s = .next s) ∧
  (∀ (s : State) (off : BitVec 24) (v : Word), s.up →
    ∀ q : Fin 32, off.toNat = q.val * 4096 → exec (.registerWrite .bar2 off v) s = exec (.doorbell q v.toNat) s) ∧
  (∀ (s : State) (off : BitVec 24) (v : Word), s.up → off.toNat % 4096 ≠ 0 → exec (.registerWrite .bar2 off v) s = .next s) ∧
  (∀ (s : State) (off : BitVec 24), s.up →
    Gives (.lowWordRead .bar2 off) s (fun t => t = { s with host := t.host } ∧ t.host.hiSnap = s.host.hiSnap ∧
      (∀ q : Fin 32, off.toNat = q.val * 4096 → t.host.readData = BitVec.ofNat 32 (s.rd (if isH2D q then F.RING_IDX_CI q
        else F.RING_IDX_PI q))))) ∧
  (∀ (s : State) (off : BitVec 24), s.up →
    Gives (.lowWordRead .bar0 off) s (fun t => t.host.readData = BitVec.ofNat 32 (s.readWord off.toNat) ∧
      (isLow off.toNat = true → amFind t.host.hiSnap (off.toNat + 4) = some (BitVec.ofNat 32 (s.readLive (off.toNat + 4)))) ∧
      t = { s with host := t.host })) ∧
  (∀ (s : State) (bar off be len : Nat), s.native →
    let d := detail [(0, 4, off), (4, 1, bar), (5, 1, be), (6, 1, 1), (7, 2, len)]
    Gives (.barMissizedAccess bar off be true len) s (fun t => RegsAndHost s t [F.EVT_DROPPED_DROPPED] ∧
      t.host.readData = s.host.readData ∧ t = s.postBy 0 1 0x9010 1 0 d ∧ Posts s t 1 0x9010 1 0 d)) ∧
  (∀ (s : State) (bar off be len : Nat), s.native →
    let d := detail [(0, 4, off), (4, 1, bar), (5, 1, be), (6, 1, 0), (7, 2, len)]
    Gives (.barMissizedAccess bar off be false len) s (fun t => RegsAndHost s t [F.EVT_DROPPED_DROPPED] ∧
      t.host.readData = 0#32 ∧ t = ({ s with host := { s.host with readData := 0#32 } } : State).postBy 0 1 0x9010 1 0 d ∧
      Posts s t 1 0x9010 1 0 d)) ∧
  (∀ (s : State) (off : BitVec 24) (v : Word) (h : RegHit), s.native → off.toNat % 4 = 0 → legWindow off.toNat = false →
    findReg off.toNat = some h → (∀ x ∈ h.fields, x.1 = .ro ∨ x.1 = .roh) → exec (.registerWrite .bar0 off v) s = .next s) ∧
  (∀ (s : State) (off : BitVec 24) (h : RegHit), s.native → off.toNat % 4 = 0 → slotCopy off.toNat = off.toNat →
    legWindow off.toNat = false → amFind s.host.hiSnap off.toNat = none → s.viewWord off.toNat = none →
    off.toNat ≠ 0x2001C → off.toNat ≠ 0x20020 →
    findReg off.toNat = some h → (∀ x ∈ h.fields, x.1 = .wo) →
    Gives (.lowWordRead .bar0 off) s (fun t => t.host.readData = 0#32)) ∧
  (∀ (s : State) (off : BitVec 24) (v : Word) (h : RegHit) (f : Fld), s.native → off.toNat % 4 = 0 → legWindow off.toNat = false →
    findReg off.toNat = some h → (∀ x ∈ h.fields, x.1 = .rwf) → h.fields.getLast? = some (.rwf, f) → s.frozen h = true →
    s.isPending h.group = false →
    Gives (.registerWrite .bar0 off v) s (fun t => t = s.noteFrozen 0 h f ∧ t.staged = s.staged ∧
      t.rd F.BEZEL_STATUS_REASON = 1 ∧ t.rd F.BEZEL_FIELD_FIELD_ID = fieldId f.key % 2 ^ 32 ∧
      Posts s t 1 0x9051 1 0 (detail [(0, 4, fieldId f.key), (4, 4, groupId h.group)]))) ∧
  (∀ (s : State) (off : BitVec 24) (v : Word) (h : RegHit) (f : Fld), s.native → off.toNat % 4 = 0 → legWindow off.toNat = false →
    findReg off.toNat = some h → h.fields = [(.rws, f)] → ownCommand h f = false → s.isPending h.group = true →
    off.toNat ≠ F.VIG_WAKE_EN_WAKE_EN.off →
    Gives (.registerWrite .bar0 off v) s (fun t => t = s.noteRefusal 4 0 (fieldId f.key) (groupId h.group) ∧
      t.staged = s.staged ∧ t.rd F.BEZEL_STATUS_REASON = 4 ∧ t.host = s.host)) ∧
  (∀ (s : State) (v : Word), s.native → v.getLsbD 0 = true → (∀ e ∈ s.justSet, e.1 ≠ F.GLB_STATE_ETIME_RESEEDED.key) →
    Gives (.registerWrite .bar0 0x10 v) s (fun t => t.rd F.GLB_STATE_ETIME_RESEEDED = 0 ∧
      RegsOnly s t [F.GLB_STATE_ETIME_RESEEDED])) ∧
  (∀ (s : State) (v : Word), s.native → v.getLsbD 0 = true → s.rd F.GLB_STATE_ETIME_RESEEDED = 1 →
    (F.GLB_STATE_ETIME_RESEEDED.key, 1, s.time.now) ∈ s.justSet →
    Gives (.registerWrite .bar0 0x10 v) s (fun t => t.rd F.GLB_STATE_ETIME_RESEEDED = 1)) ∧
  (∀ (s : State) (v : Word), s.native → v.getLsbD 0 = false →
    Gives (.registerWrite .bar0 0x10 v) s (fun t => t.rd F.GLB_STATE_ETIME_RESEEDED = s.rd F.GLB_STATE_ETIME_RESEEDED ∧
      RegsOnly s t [F.GLB_STATE_ETIME_RESEEDED])) ∧
  (∀ (s : State) (l : Fin 192) (off : BitVec 24) (v : Word), s.native → off.toNat = 0x600018 + l.val * 0x80 →
    Gives (.registerWrite .bar0 off v) s (fun t => t.rd (F.LP_SETPT_SETPT l) = v.toNat % 2 ^ (F.LP_SETPT_SETPT l).w ∧
      (∀ x ∈ t.isl.isls, ∀ c ∈ x.slots, c.slot = l.val →
        amFind c.regs (F.LP_SETPT_SETPT l).key = amFind t.regs (F.LP_SETPT_SETPT l).key))) ∧
  (∀ (s : State) (l : Fin 192), s.readLive (0x600018 + l.val * 0x80) = s.rd (F.LP_SETPT_SETPT l)) ∧
  (∀ (s : State) (l : Fin 192) (u : Fin 2) (c : SlotCopy),
    (s.isl.isls.getD u {}).slots.find? (fun c => c.slot == l.val) = some c →
    s.readLive (0x62018 + u.val * 0x8000 + l.val * 0x80) = (s.putSlot c).rd (F.LP_SETPT_SETPT l)) ∧
  (∀ s : State, s.up → Gives .tsnapSnap s (fun t =>
      t.rd F.TSNAP_ETIME_LO_VALUE = s.etime % 2 ^ 32 ∧ t.rd F.TSNAP_VTIME_LO_VALUE = s.vtimeTick.1 % 2 ^ 32 ∧
      t.rd F.TSNAP_WPOS_LO_VALUE = uBits 32 s.wpos ∧ t.rd F.TSNAP_CTL_SNAP_VALID = 1 ∧ t = { s with regs := t.regs }))

/-- R27, R356: a preset of WPOS, with no page in flight, which WPOS reads on the next 10 ns tick, and with some. -/
def Obligations.WposPreset : Prop :=
  (∀ s : State, s.up → s.inFlight = 0 → exec .wposPreset s = .next (s.modWeb (fun w => { w with preset := some s.presetValue }))) ∧
  (∀ (s : State) (v : Int), s.web.preset = some v → s.webTick.wpos = v ∧ s.webTick.web.preset = none) ∧
  (∀ s : State, s.native → s.inFlight ≠ 0 →
    let d := detail [(0, 1, s.inFlight), (1, 4, s.peekData 0x68), (5, 4, s.peekData 0x6C)]
    Gives .wposPreset s (fun t => t.web = s.web ∧ t = s.postBy 0 1 0x9030 1 0 d ∧ Posts s t 1 0x9030 1 0 d ∧
      RegsAndHost s t [F.EVT_DROPPED_DROPPED]))

/-- R428, R429, R436: a power state is ordered by the transaction PWR_STATE or by PWR_CMD: a lower state that no check refuses is
entered at once and logged, a higher one starts to wake; an entry to VIGIL is answered before PD_HOST goes down. -/
def Obligations.PowerOrders : Prop :=
  (∀ (s : State) (q : Fin 32) (d : Desc), s.machReady q [d] → dOpcode d = 0x50 → dCount d = 0 → dField d 8 1 = 1 →
    dZero d 9 63 = true →
    (s.machState q [d]).pwr.job = none → (s.machState q [d]).pwr.wanted = [] → 1 < (s.machState q [d]).pstate →
    (s.machState q [d]).entryRefuser 1 = none →
    exec (.pwrState q) s = .next (s.machAnswer q [d]
      ((((s.machState q [d]).powerLog (s.machState q [d]).pstate 1 0 1 0 255 0 0).domsDown (stateLevel 1)).changePstate 1 1)
      0 (powerResult 1 1 0 0 0 255))) ∧
  (∀ (s : State) (q : Fin 32) (d : Desc), s.machReady q [d] → dOpcode d = 0x50 → dCount d = 0 → dField d 8 1 = 2 →
    dZero d 9 63 = true →
    (s.machState q [d]).pwr.job = none → (s.machState q [d]).pwr.wanted = [] → (s.machState q [d]).pstate < 2 →
    exec (.pwrState q) s = .next (s.machAnswer q [d]
      ((s.machState q [d]).startWake 2 false (some (some (s.machRef q [d]))) none) 1 0)) ∧
  (∀ (s : State) (q : Fin 32) (d : Desc), s.machReady q [d] → s.entersVigil [d] = true →
    (s.machState q [d]).pwr.job = none → (s.machState q [d]).pwr.wanted = [] → 0 < (s.machState q [d]).pstate →
    (s.machState q [d]).entryRefuser 0 = none →
    let m := (s.machTaken q [d]).1
    let v := (s.machState q [d]).powerLog (s.machState q [d]).pstate 0 0 1 0 255 0 0
    exec (.pwrState q) s = .next
      (((((v.answerTxn m (.done v 0 (powerResult 0 1 0 0 0 255))).covered m.tseq).writeDone 24).enterVigil).settleHead q 1)) ∧
  (∀ (s : State) (x : Nat), s.entryRefuser x = none ↔
    (s.on F.GLB_STATE_ARMED = false ∧ s.slotsWhere (fun y => y.st != .free) = [] ∧ s.codec.jobs = [] ∧
      (∀ y ∈ s.tbl.txns, y.started = false) ∧ (x = 0 → ∀ q : Fin 32, (s.ring q).waiting = []) ∧
      (x = 0 ∨ s.on F.VIG_WAKE_EN_DOZE_WAKE = true → s.wakeBits = []))) ∧
  (∀ s : State, s.up → s.rd F.PWR_CMD_STAT_BUSY = 0 → s.pwr.job = none → s.pwr.wanted = [] → s.pstate = 2 →
    s.rd F.GLB_STATE_ARMED = 0 → s.slotsWhere (fun y => y.st != .free) = [] → s.codec.jobs = [] → s.tbl.txns = [] →
    (∀ q : Fin 32, (s.ring q).waiting = []) → s.wakeBits = [] →
    (Gives .pwrCmdVigil s (fun t => t =
      ((((((s.powerLog 2 0 0 1 0 255 0 0).wr F.PWR_CMD_STAT_STATUS 0).noTier).domsDown (stateLevel 0)).changePstate 0 1).tryWake))) ∧
    (Gives .pwrCmdDoze s (fun t => t = ((((s.powerLog 2 1 0 1 0 255 0 0).domsDown (stateLevel 1)).changePstate 1 1).wr
      F.PWR_CMD_STAT_STATUS 0) ∧ t.rd F.PWR_CMD_STAT_STATUS = 0 ∧ t.pstate = 1))) ∧
  (∀ (s : State) (x : Fin 4) (n : Nat), (s.changePstate x n).pstate = x) ∧
  (∀ s : State, s.up → s.rd F.PWR_CMD_STAT_BUSY = 0 → s.pwr.job = none → s.pwr.wanted = [] → 0 < s.pstate →
    s.entryRefuser 0 = none →
    exec .pwrCmdVigil s =
      .next (((s.powerLog s.pstate 0 0 1 0 255 0 0).wr F.PWR_CMD_STAT_STATUS 0).enterVigil)) ∧
  (∀ s : State, s.up → s.rd F.PWR_CMD_STAT_BUSY = 0 → s.pwr.job = none → s.pwr.wanted = [] → 1 < s.pstate →
    s.entryRefuser 1 = none →
    exec .pwrCmdDoze s = .next ((((s.powerLog s.pstate 1 0 1 0 255 0 0).domsDown (stateLevel 1)).changePstate 1 1).wr
      F.PWR_CMD_STAT_STATUS 0)) ∧
  (∀ s : State, s.up → s.rd F.PWR_CMD_STAT_BUSY = 0 → s.pwr.job = none → s.pwr.wanted = [] → s.pstate < 2 →
    exec .pwrCmdReady s = .next ((s.startWake 2 false (some none) none).wr F.PWR_CMD_STAT_BUSY
      (b2n (s.startWake 2 false (some none) none).pwr.job.isSome))) ∧
  (∀ s : State, s.up → s.rd F.PWR_CMD_STAT_BUSY = 0 → s.pwr.job = none → s.pwr.wanted = [] → 2 ≤ s.pstate → s.pstate ≤ 3 →
    Gives .pwrCmdReady s (fun t => t.rd F.PWR_CMD_STAT_STATUS = 0 ∧ RegsOnly s t [F.PWR_CMD_STAT_STATUS])) ∧
  (∀ s : State, s.up → Gives .pwrLogClr s (fun t => t.rd F.PWR_LOG_PTR_NEXT = 0 ∧ t.rd F.PWR_LOG_PTR_TOTAL = 0 ∧
    t.rd (F.PWR_LOG_TO 15) = 0 ∧ t.rd (F.PWR_LOG_FROM 0) = 0 ∧ t.rd (F.PWR_CNT_REFUSED 3) = 0 ∧ t = { s with regs := t.regs }))

/-- R430: the level of a domain: PWR_DOMAIN, a write of REQ, and the refusals of both. -/
def Obligations.DomainLevels : Prop :=
  (∀ (s : State) (q : Fin 32) (d : Desc), s.machReady q [d] → dOpcode d = 0x51 → dCount d = 0 → 7 ≤ dField d 8 1 →
    dField d 8 1 ≤ 31 → dField d 9 1 ≤ 3 → dZero d 10 63 = true →
    (s.machState q [d]).reqRefused (dField d 8 1) (dField d 9 1) = none →
    exec (.pwrDomain q) s =
      let u := ((s.machState q [d]).wr (F.PWR_DOM_REQ (dField d 8 1)) (dField d 9 1)).applyReq (dField d 8 1)
        (some (s.machRef q [d]))
      .next (s.machAnswer q [d] u.1 (b2n u.2)
        (if u.2 then 0 else powerResult (s.machState q [d]).pstate 0 0 0 0 (dField d 8 1)))) ∧
  (∀ (s : State) (d : Fin 32) (req : Fin 4), s.up → 7 ≤ d.val → s.reqRefused d req = none →
    exec (.pwrDomReqWrite d req) s = .next ((s.wr (F.PWR_DOM_REQ d) req).applyReq d none).1) ∧
  (∀ (s : State) (d : Fin 32) (req : Fin 4) (k : Nat), s.native → 7 ≤ d.val → s.reqRefused d req = some k →
    let e := detail [(0, 1, d.val), (1, 1, req.val), (2, 1, k)]
    Gives (.pwrDomReqWrite d req) s (fun t => t.rd (F.PWR_DOM_REQ d) = s.rd (F.PWR_DOM_REQ d) ∧
      t = s.postBy 0 0 0x8013 15 0 e ∧ Posts s t 0 0x8013 15 0 e ∧ RegsAndHost s t [F.EVT_DROPPED_DROPPED])) ∧
  (∀ (s : State) (d : Fin 32), 8 ≤ d.val → s.reqRefused d 2 = some 0) ∧
  (∀ (s : State) (d : Fin 32) (req : Fin 4), s.up → 7 ≤ d.val → s.reqRefused d req = none → s.pstate < 2 →
    Gives (.pwrDomReqWrite d req) s (fun t => t.rd (F.PWR_DOM_REQ d) = req.val ∧ RegsOnly s t [F.PWR_DOM_REQ d])) ∧
  (∀ (s : State) (t0 : Nat), s.up → s.pwr.codecIdle = some t0 → t0 + 100000000 ≤ s.now → s.codecBusy = false →
    s.rd (F.PWR_DOM_REQ 7) = 0 → s.level 7 = 2 → 2 ≤ s.pstate → s.islandServes = true →
    exec .codecRetentionTimer s = .next (s.domDown 7 1)) ∧
  (∀ s : State, s.level 7 = 2 → s.domDown 7 1 = (s.setLevel 7 1).switchOuts 7 false)

/-- R424, R427, R432: wake chains and wake sources. -/
def Obligations.Waking : Prop :=
  (∀ (s : State) (j : PowerJob), s.up → s.pwr.job = some j → j.retryAt = none → j.left ≠ [] → s.stepReady j = true →
    exec .wakeStepReady s = .next (s.stepDone j)) ∧
  (∀ (s : State) (j : PowerJob) (d : Nat) (rest : List Nat), j.left = d :: rest → j.step < 4 →
    s.stepDone j = s.startStep j (nextStep d j.step)) ∧
  (∀ (s : State) (j : PowerJob) (k : Fin 2), s.up → s.pwr.job = some j → j.retryAt = none → j.left ≠ [] →
    j.stepAt + s.stepTmo j ≤ s.now → exec (.wakeStepTimeout k) s = .next (s.abortJob j k)) ∧
  (∀ (s : State) (j : PowerJob) (t0 : Nat), s.up → s.pwr.job = some j → j.retryAt = some t0 → t0 ≤ s.now →
    exec .wakeRetry s = .next (s.startStep { j with retryAt := none } 1)) ∧
  (∀ (s : State) (b : Fin 9) (rise : Bool), s.up → b.val < 4 → rise = (s.rd F.VIG_WAKE_EN_WPOL).testBit b.val →
    exec (.wakeSource b rise) s = .next (s.fire b)) ∧
  (∀ (s : State) (b : Fin 9) (rise : Bool), s.up → b.val < 4 → rise = (s.rd F.VIG_WAKE_EN_WPOL).testBit b.val →
    2 ≤ s.pstate → s.seqState ≠ 6 → s.pwr.job = none →
    Gives (.wakeSource b rise) s (fun t =>
      t.rd F.VIG_WAKE_PEND_PEND = setBit (s.rd F.VIG_WAKE_PEND_PEND) b.val % 2 ^ F.VIG_WAKE_PEND_PEND.w ∧
      t.pwr.firedAt = s.pwr.firedAt.set b.val s.time.vtime ∧ t.pwr.job = s.pwr.job ∧ t.alm = s.alm)) ∧
  (∀ s : State, s.up → s.pwr.alarmed = false →
    s.rd F.VIG_ALARM_LO_ALARM + s.rd F.VIG_ALARM_HI_ALARM % 65536 * 4294967296 ≤ s.time.vtime →
    exec .vigAlarm s = .next (({ s with pwr := { s.pwr with alarmed := true } }).fire 4))

/-- R434, R435, R536, R528: the ember zone, the junction temperature's peak, the supplies. -/
def Obligations.EmberAndJunction : Prop :=
  (∀ (s : State) (r : Nat), s.up → s.emberOn = true → s.pwr.emberAt = none → s.pwr.emberTemps = [] → sensorBad r = false →
    betaTemp (s.rd (F.TH_CFG_BETA (s.rd F.VIG_EMBER_CFG_TH))) r < 16 * (s.rd F.VIG_EMBER_CFG_EMBER_TMAX : Int) →
    Gives (.emberSample r) s (fun t =>
      t.pwr.emberTemps = [betaTemp (s.rd (F.TH_CFG_BETA (s.rd F.VIG_EMBER_CFG_TH))) r] ∧ t.pwr.emberAt = some s.now ∧
      t.rd F.VIG_EMBER_STAT_TEMP = uBits F.VIG_EMBER_STAT_TEMP.w (betaTemp (s.rd (F.TH_CFG_BETA (s.rd F.VIG_EMBER_CFG_TH))) r) ∧
      t.rd F.VIG_EMBER_STAT_CUT = s.rd F.VIG_EMBER_STAT_CUT)) ∧
  (∀ s : State, s.up → s.rdS F.VIG_EMBER_STAT_TEMP < 16 * ((s.rd F.VIG_EMBER_CFG_EMBER_TMAX : Int) - 10) →
    Gives .emberClr s (fun t => t.rd F.VIG_EMBER_STAT_CUT = 0 ∧ RegsOnly s t [F.VIG_EMBER_STAT_CUT])) ∧
  (∀ s : State, s.up → ¬ s.rdS F.VIG_EMBER_STAT_TEMP < 16 * ((s.rd F.VIG_EMBER_CFG_EMBER_TMAX : Int) - 10) →
    exec .emberClr s = .next s) ∧
  (∀ s : State, s.up → Gives .vigTjPeakClr s (fun t => t.rd F.VIG_TJ_PEAK_PEAK = 0 ∧ RegsOnly s t [F.VIG_TJ_PEAK_PEAK])) ∧
  (∀ (s : State) (a b c d : Int), s.up → s.domOn 1 = true → maxI 0 [a, b, c, d] < 2000 →
    maxI 0 [a, b, c, d] < 16 * (s.rd F.VIG_TJ_TJ_WARN : Int) →
    Gives (.junctionSample a b c d) s (fun t =>
      t.rd F.VIG_TJ_TJ = uBits F.VIG_TJ_TJ.w (maxI 0 [a, b, c, d]) ∧
      RegsOnly { s with pwr := t.pwr } t [F.VIG_TJ_TJ, F.VIG_TJ_PEAK_PEAK])) ∧
  (∀ (s : State), s.up → exec (.supplyUndervoltage 0) s =
    .next (let t := ({ s with pwr := { s.pwr with low := 0 } }).syncHvs
      if s.on F.GLB_STATE_HOLD then t else t.axRelease)) ∧
  (∀ (s : State) (low : Fin 16), s.up → low.val % 8 ≠ 0 → s.emberOn = false → Gives (.supplyUndervoltage low) s (fun t =>
    (∀ n : Fin 8, t.rd (F.FZ_STAT_CONDUCTING n) = 0 ∧ (t.fzs.getD n {}).out = false ∧ (t.fzs.getD n {}).edges = []) ∧
    t.undervolt = true ∧ t.beamsBarred = true ∧
    t = ((({ s with pwr := { s.pwr with low := low.val } }).linesCut.beamsOff.motHold.axHold).syncHvs).fzsOff)) ∧
  (∀ (s : State) (z : Nat), { s with pwr := { s.pwr with low := 1 } }.emberBarred = false ∧
    { s with pwr := { s.pwr with low := 8 } }.emberBarred = true ∧ { s with pwr := { s.pwr with low := 8 } }.undervolt = false ∧
    (s.emberBarred = true → (s.emberDrive true) = s.fzPulse (s.rd F.VIG_EMBER_CFG_ZONE) false) ∧
    (s.emberZone z = true → s.fzPin z = (s.fzs.getD z {}).out)) ∧
  (∀ (s : State) (rising : Bool), s.emberOn = true → s.on (F.FZ_CFG_FULLCYC (s.rd F.VIG_EMBER_CFG_ZONE)) = false →
    s.on F.VIG_EMBER_STAT_CUT = false → s.rdS F.VIG_EMBER_STAT_TEMP < 16 * (s.rd F.VIG_EMBER_CFG_EMBER_SET : Int) →
    let acc := s.pwr.emberAcc + s.rd F.VIG_EMBER_CFG_EMBER_RATIO * 512
    (s.emberCross rising).pwr.emberAcc = (if 32768 ≤ acc then acc - 32768 else acc) ∧
    (s.emberCross rising).pwr.emberRising = decide (32768 ≤ acc))

/-- R440, R442, R444: what happens to one rail: its ON_DLY ends, its PG comes, its PG does not come, its PG is lost. -/
def Obligations.RailEvents : Prop :=
  (∀ (s : State) (k : Fin 24), s.up → s.railState k = 1 →
    (s.rail k).since + vigNs (100000 * s.rd (F.SEQ_RAIL_CFG_ON_DLY k)) ≤ s.now → s.rd (F.SEQ_RAIL_CFG_PMB k) = 0 →
    (s.rd F.SEQ_PG_MAP_PG).testBit k = false ∨ s.rd (F.SEQ_RAIL_CFG_PG_SRC k) = 1 →
    Gives (.railOnDelay k) s (fun t => t.rd (F.SEQ_RAIL_STAT_STATE k) = 2 ∧
      t.rd F.SEQ_EN_MAP_EN = setBit (s.rd F.SEQ_EN_MAP_EN) k % 2 ^ F.SEQ_EN_MAP_EN.w ∧ t.alm = s.alm ∧ t.host = s.host)) ∧
  (∀ (s : State) (k : Fin 24), s.up → s.railState k = 1 →
    (s.rail k).since + vigNs (100000 * s.rd (F.SEQ_RAIL_CFG_ON_DLY k)) ≤ s.now → (s.rd F.SEQ_PG_MAP_PG).testBit k = true →
    s.rd (F.SEQ_RAIL_CFG_PG_SRC k) = 0 →
    exec (.railOnDelay k) s =
      .next ((((s.switchRail k true).modRail k (fun r => { r with since := s.now })).setRail k 2).railOn k)) ∧
  (∀ (s : State) (k : Fin 24) (level : Bool), s.up → s.rd (F.SEQ_RAIL_CFG_PG_SRC k) = 0 → s.railState k = 2 →
    level = !s.on (F.SEQ_RAIL_CFG_PG_POL k) →
    exec (.railPg k level) s = .next (((s.modRail k (fun r => { r with pin := level })).setPg k true).railOn k)) ∧
  (∀ (s : State) (k : Fin 24), s.up → s.rd (F.SEQ_RAIL_CFG_PG_SRC k) = 0 → s.railState k = 0 → s.seq.relWait = none →
    Gives (.railPg k (s.on (F.SEQ_RAIL_CFG_PG_POL k))) s (fun t => (t.rd F.SEQ_PG_MAP_PG).testBit k = false ∧
      RegsOnly { s with seq := t.seq } t [F.SEQ_PG_MAP_PG])) ∧
  (∀ (s : State) (k : Fin 24), s.up → s.railState k = 2 → s.railOwner k ≠ 2 → (s.rail k).since + s.pgTmo k ≤ s.now →
    exec (.railTimeout k) s = .next (((s.switchRail k false).postVig 1 0x8051 14 k
      [(0, 1, b2n ((s.switchRail k false).on (F.SEQ_RAIL_CFG_PG_SRC k))), (1, 1, (s.switchRail k false).railOwner k)]).railFaulted k)) ∧
  (∀ (s : State) (k : Fin 24), s.up → s.rd (F.SEQ_RAIL_CFG_PG_SRC k) = 0 → s.railState k = 3 →
    let u := s.modRail k (fun r => { r with pin := s.on (F.SEQ_RAIL_CFG_PG_POL k) })
    exec (.railFault k) s = .next (u.pgLost k) ∧ exec (.railPg k (s.on (F.SEQ_RAIL_CFG_PG_POL k))) s = .next (u.pgLost k)) ∧
  (∀ (s : State) (k : Fin 24), s.railState k = 3 → s.railDomain k = none → s.rd (F.SEQ_RAIL_CFG_FAULT_ACT k) = 1 →
    s.pgLost k = (((s.setPg k false).modRail k (fun r => { r with lost := true })).postRailFault k 3).railFaulted k) ∧
  (∀ (s : State) (k : Fin 24) (d : Nat), s.railState k = 3 → s.railDomain k = some d → s.railOwner k = 2 →
    s.pgLost k = ((((s.setPg k false).modRail k (fun r => { r with lost := true })).railFaulted k).postRailFault k 3).domDown d 0) ∧
  (∀ (s : State) (k : Fin 24), (s.setRail k 4).rd (F.SEQ_RAIL_STAT_STATE k) = 4 ∧
    ((s.setRail k 4).rd F.SEQ_FAULT_MAP_FAULT).testBit k = true)

/-- R441–R443, R446: requests of the sequencer and its timed steps. -/
def Obligations.SequencerSteps : Prop :=
  (∀ (s : State) (rise : Bool), s.up → s.rd F.SEQ_CTL_CASC_IN = 0 →
    Gives (.seqInEdge rise) s (fun t => t.rd F.SEQ_STAT_SEQ_IN = b2n rise ∧ RegsOnly s t [F.SEQ_STAT_SEQ_IN])) ∧
  (∀ (s : State) (rise : Bool), s.up → s.rd F.SEQ_CTL_CASC_IN = 1 →
    exec (.seqInEdge rise) s = .next (if rise then (s.wr F.SEQ_STAT_SEQ_IN 1).onReq 2 else (s.wr F.SEQ_STAT_SEQ_IN 0).offReq 2)) ∧
  (∀ (s : State) (t0 : Nat), s.up → s.seq.topAt = some t0 → s.seqState = 1 →
    t0 + vigNs (s.rd F.SEQ_CASC_OUT_DLY * 100000) ≤ s.now → s.seq.ups = [] → s.rd F.BOOT_STAT_STAGE ≠ 2 →
    s.seq.restarted = false →
    let u := (({ s with seq := { s.seq with topAt := none } } : State).wr F.SEQ_STAT_SEQ_OUT 1).setSeq 2 s.seq.pendCause
    exec .seqOutAssert s = .next { u with seq := { u.seq with ups := [] } }) ∧
  (∀ (s : State) (x c : Nat), x < 8 → (s.setSeq x c).seqState = x) ∧
  (∀ (s : State) (t0 c : Nat), s.up → s.seq.cascAt = some (t0, c) → s.seqState = 2 →
    t0 + vigNs (s.rd F.SEQ_CASC_CASC_WAIT * 1000000) ≤ s.now → exec .cascWaitExpiry s = .next (s.goDown c)) ∧
  (∀ (s : State) (k : Nat), s.up → s.seqState = 3 → s.seq.relWait = none → s.highestOn = some k →
    s.seq.relAt + vigNs (s.rd (F.SEQ_RAIL_CFG_OFF_DLY k) * 100000) ≤ s.now →
    exec .railReleaseStep s = .next (s.downRelease k)) ∧
  (∀ s : State, s.up → s.rd F.SEQ_STAT_PEND_ON = 1 → s.seqMayStart = true →
    exec .minOffExpiry s = .next (s.seqStart s.seq.pendCause)) ∧
  (∀ (s : State) (c : Nat), s.programme = [] →
    (s.seqStart c).seq.topAt = some s.now)

/-- R449–R452: power fail: the trip, the shutdown, the return of the input, the restart. -/
def Obligations.PowerFail : Prop :=
  (∀ s : State, s.up → s.rd F.SEQ_STAT_PFI_GOOD = 1 → s.seqState < 5 → s.rd F.SEQ_CTL_PF_EN = 1 →
    let u := (({ s.wr F.SEQ_STAT_PFI_GOOD 0 with seq := { s.seq with pfw := true } } : State).inc F.SEQ_COUNT_PF_TRIPS).tripDiscards
    exec .pfiTrip s = .next (u.powerFail (u.rd F.SEQ_EN_MAP_EN))) ∧
  (∀ s : State, s.seq.onAt = none → s.seq.offAt = none →
    s.tripDiscards = { s with seq := { s.seq with tripCycle := some s.time.vtime } }) ∧
  (∀ s : State, s.seq.tripCycle = some s.time.vtime → ∀ c : Nat, s.onReq c = s ∧ s.offReq c = s) ∧
  (∀ s : State, s.up → s.rd F.SEQ_STAT_PFI_GOOD = 1 → s.seqState = 6 →
    (∀ x ∈ s.seq.onAt, x.1 ≠ s.time.vtime) →
    Gives .pfiTrip s (fun t => t.rd F.SEQ_STAT_PFI_GOOD = 0 ∧ t.seq.pfw = true ∧
      t.rd F.SEQ_COUNT_PF_TRIPS = satAdd F.SEQ_COUNT_PF_TRIPS.w (s.rd F.SEQ_COUNT_PF_TRIPS) 1 ∧
      t.alm = s.alm ∧ t.host = s.host)) ∧
  (∀ s : State, s.up → s.seqState = 5 → s.seq.domsDown = false → s.seq.tripAt + 2000000 ≤ s.now →
    let u : State := { s with
      seq := { s.seq with domsDown := true, relAt := s.seq.tripAt + 2200000 }
      pwr := { s.pwr with wanted := [], emberAcc := 0, emberRising := false } }
    let v := (((u.setJob none).fzsOff).wr F.PWR_CMD_STAT_BUSY 0).domsDown (stateLevel 0)
    exec .shutdownDomainsDown s = .next (if v.shutNext.isNone then v.pfOff else v)) ∧
  (∀ (s : State), s.up → s.seqState = 5 → s.seq.domsDown = true → s.shutNext = none →
    exec .shutdownRailRelease s = .next s.pfOff) ∧
  (∀ (s : State) (k : Nat), s.up → s.seqState = 5 → s.seq.domsDown = true → s.shutNext = some k →
    s.seq.relAt + max (vigNs 1) (vigNs (s.rd (F.SEQ_RAIL_CFG_OFF_DLY k) * 100000)) ≤ s.now →
    exec .shutdownRailRelease s =
      let v : State := { s.railOff k with seq := { (s.railOff k).seq with relAt := s.now } }
      .next (if v.shutNext.isNone then v.pfOff else v)) ∧
  (∀ s : State, s.up → s.rd F.SEQ_STAT_PFI_GOOD = 0 → s.rd F.SEQ_STAT_PEND_ON = 0 →
    Gives .pfiGood s (fun t => t.rd F.SEQ_STAT_PFI_GOOD = 1 ∧ t.seq.goodAt = s.now ∧
      t.seq.back = (s.seq.back || s.seqState == 5) ∧ RegsOnly { s with seq := t.seq } t [F.SEQ_STAT_PFI_GOOD])) ∧
  (∀ s : State, s.up → s.seqState ≠ 5 → s.rd F.SEQ_STAT_PFI_GOOD = 1 → s.seq.goodAt + 1000000 ≤ s.now →
    exec .pfwRelease s = .next { s with seq := { s.seq with pfw := false } }) ∧
  (∀ s : State, s.up → s.restartDue = true → s.rd F.SEQ_CTL_AUTO_RESTART = 1 →
    exec .restart s = .next s.restart)

/-- R447, R448: the PMBus port: polls and transfers of the master role; the slave role, in which an access that is not
listed sets CML. -/
def Obligations.PmbusPort : Prop :=
  (∀ (s : State) (k : Nat), s.up → s.polled = [k] → (s.rail k).polledAt = none →
    exec .pmbusPoll s = .next (s.addPoll k)) ∧
  (∀ (s : State) (k : Nat), s.seqState ≠ 5 → (s.addPoll k).seq.xfers = s.seq.xfers ++
    [⟨s.rd (F.SEQ_RAIL_PMB_ADDR k), some (s.rd (F.SEQ_RAIL_PMB_PAGE k)), 0x79, 4, 0, some k, none, 0⟩]) ∧
  (∀ (s : State) (x : PmXfer) (rest : List PmXfer) (data : BitVec 16), s.up → s.seq.xfers = x :: rest → x.ref = none →
    x.rail = none →
    Gives (.pmbusTransferComplete 0 data) s (fun t => t.seq.xfers = rest ∧
      t.rd F.PMB_STAT_BUSY = b2n (rest != []) ∧ RegsOnly { s with seq := t.seq } t [F.PMB_STAT_BUSY])) ∧
  (∀ (s : State) (x : PmXfer) (rest : List PmXfer) (fail : Fin 5) (data : BitVec 16), s.native → s.seq.xfers = x :: rest →
    fail ≠ 0 → (fail = 2 → s.rd F.PMB_CFG_PEC = 1) → x.tries < s.rd F.PMB_CFG_RETRIES → s.domOn 1 = true → s.seqState ≠ 5 →
    Gives (.pmbusTransferComplete fail data) s (fun t => t.seq.xfers = { x with tries := x.tries + 1 } :: rest ∧
      t.rd F.PMB_STAT_ERRORS = satAdd F.PMB_STAT_ERRORS.w (s.rd F.PMB_STAT_ERRORS) 1)) ∧
  (∀ (s : State) (x : PmXfer) (rest : List PmXfer) (fail : Fin 5) (data : BitVec 16), s.native → s.seq.xfers = x :: rest →
    fail ≠ 0 → fail ≠ 2 → x.tries < s.rd F.PMB_CFG_RETRIES → s.domOn 1 = true → s.seqState = 5 → x.isOff = false →
    Gives (.pmbusTransferComplete fail data) s (fun t => t.seq.xfers =
      rest.filter PmXfer.isOff ++ [{ x with tries := x.tries + 1 }] ++ rest.filter (fun y => !y.isOff))) ∧
  (∀ (s : State) (data : BitVec 16), s.rd F.PMB_CFG_PEC = 0 →
    exec (.pmbusTransferComplete 2 data) s = exec (.pmbusTransferComplete 0 data) s) ∧
  (∀ s : State, s.up → s.rd F.PMB_CFG_ROLE = 2 →
    exec (.operation (some 0x80)) s = .next (s.onReq 1) ∧ exec (.operation (some 0)) s = .next (s.offReq 1) ∧
    exec (.operation (some 0x40)) s = .next (s.offReq 1) ∧
    exec (.operation none) s = .next (s.answer (if s.seqState = 2 then 0x80 else 0))) ∧
  (∀ s : State, s.up → s.rd F.PMB_CFG_ROLE = 2 → Gives (.clearFaults true) s (fun t =>
    t.seq.cml = false ∧ t.seq.railFault = false ∧ t.seq.alert = false ∧ t = { s with seq := t.seq })) ∧
  (∀ s : State, s.up → s.rd F.PMB_CFG_ROLE = 2 →
    Gives (.statusByte true) s (fun t => t.seq.reply = some s.statusByte ∧ t = { s with seq := t.seq })) ∧
  (∀ s : State, s.statusByte = (if s.seqState = 2 then 0 else 64) + 2 * b2n s.seq.cml + b2n s.seq.railFault) ∧
  (∀ s : State, s.up → s.rd F.PMB_CFG_ROLE = 2 → Gives (.statusWord true) s (fun t =>
    t.seq.reply = some (s.statusByte + (if s.seqState = 2 then 0 else 2048) + (if s.seq.railFault then 4096 else 0)) ∧
    t = { s with seq := t.seq })) ∧
  (∀ s : State, s.up → s.rd F.PMB_CFG_ROLE = 2 →
    Gives (.mfrPgLo true) s (fun t => t.seq.reply = some (s.rd F.SEQ_PG_MAP_PG % 65536) ∧ t = { s with seq := t.seq })) ∧
  (∀ s : State, s.up → s.rd F.PMB_CFG_ROLE = 2 →
    Gives (.mfrPgHi true) s (fun t => t.seq.reply = some (s.rd F.SEQ_PG_MAP_PG / 65536) ∧ t = { s with seq := t.seq })) ∧
  (∀ s : State, s.up → s.rd F.PMB_CFG_ROLE = 2 → s.seq.alert = true →
    Gives .alertResponse s (fun t => t.seq.reply = some (s.rd F.PMB_CFG_SLV_ADDR) ∧ t = { s with seq := t.seq })) ∧
  (∀ s : State, s.up → s.rd F.PMB_CFG_ROLE = 2 →
    Gives (.statusWord false) s (fun t => t.seq.cml = true ∧ t.seq.alert = true ∧ t.seq.reply = none ∧ t.regs = s.regs))

/-- R454: the rail and sequencer commands of a machine ring, and SEQ_CMD, which acts as the opcodes. -/
def Obligations.SequencerTransactions : Prop :=
  (∀ (s : State) (q : Fin 32) (d : Desc), s.machReady q [d] → dOpcode d = 0x58 → dCount d = 0 → dZero d 8 63 = true →
    (s.machState q [d]).seqState = 2 → (s.machState q [d]).seq.cascAt = none →
    exec (.seqUp q) s = .next (s.machAnswer q [d] ((s.machState q [d]).onReq 0) 0 (((s.machState q [d]).onReq 0).seqResult 255 0 0))) ∧
  (∀ (s : State) (q : Fin 32) (d : Desc), s.machReady q [d] → dOpcode d = 0x58 → dCount d = 0 → dZero d 8 63 = true →
    (s.machState q [d]).seqState ≤ 1 → ((s.machState q [d]).onReq 0).seqState ≠ 2 →
    exec (.seqUp q) s =
      let u := (s.machState q [d]).onReq 0
      .next (s.machAnswer q [d] { u with seq := { u.seq with ups := u.seq.ups ++ [some (s.machRef q [d])] } } 1 0)) ∧
  (∀ (s : State) (q : Fin 32) (d : Desc), s.machReady q [d] → dOpcode d = 0x59 → dCount d = 0 → dZero d 8 63 = true →
    (s.machState q [d]).rd F.GLB_STATE_ARMED = 0 →
    (∀ k : Fin 24, (s.machState q [d]).railOwner k = 2 → (s.machState q [d]).railState k = 0) →
    (s.machState q [d]).seqState = 2 → ((s.machState q [d]).offReq 0).seqState ≠ 2 →
    exec (.seqDown q) s = .next (s.machAnswer q [d] ((s.machState q [d]).offReq 0) 0
      (((s.machState q [d]).offReq 0).seqResult 255 0 0))) ∧
  (∀ (s : State) (q : Fin 32) (d : Desc), s.machReady q [d] → dOpcode d = 0x5A → dCount d = 0 → dZero d 10 63 = true →
    dField d 8 1 ≤ 23 → dField d 9 1 = 1 →
    (s.machState q [d]).railOwner (dField d 8 1) = 0 → (s.machState q [d]).railState (dField d 8 1) = 0 →
    exec (.railSet q) s = .next (s.machAnswer q [d]
      (((s.machState q [d]).modRail (dField d 8 1) (fun r => { r with waits := r.waits ++ [some (s.machRef q [d])] })).railStart
        (dField d 8 1)) 1 0)) ∧
  (∀ (s : State) (q : Fin 32) (d : Desc), s.machReady q [d] → dOpcode d = 0x5B → dCount d = 0 → dZero d 9 63 = true →
    dField d 8 1 ≤ 23 → (s.machState q [d]).railState (dField d 8 1) = 4 → (s.machState q [d]).seqState ≠ 4 →
    exec (.railClear q) s =
      let u := (s.machState q [d]).railClear (dField d 8 1)
      .next (s.machAnswer q [d] u.1 0 (u.1.seqResult (dField d 8 1) 0 0))) ∧
  (∀ (s : State) (k : Nat), k < 24 → s.railState k = 4 → s.seqState ≠ 4 → (s.railClear k).1.railState k = 0) ∧
  (∀ (s : State) (q : Fin 32) (d : Desc), s.machReady q [d] → dOpcode d = 0x5C → dCount d = 0 → dZero d 14 63 = true →
    dField d 8 1 ≤ 127 → dField d 10 1 ≤ 4 → dField d 11 1 = 0 → (s.machState q [d]).rd F.PMB_CFG_ROLE = 1 →
    exec (.pmbXfer q) s = .next (s.machAnswer q [d]
      ((s.machState q [d]).addXfer ⟨dField d 8 1, none, dField d 9 1, dField d 10 1, dField d 12 2, none, some (s.machRef q [d]), 0⟩) 1 0)) ∧
  (∀ s : State, s.up → s.rd F.SEQ_CMD_STAT_BUSY = 0 → s.seqState = 0 →
    ((s.wr F.SEQ_CMD_STAT_BUSY 1).onReq 0).seqState ≠ 2 →
    exec .seqCmdUp s =
      let u := (s.wr F.SEQ_CMD_STAT_BUSY 1).onReq 0
      .next { u with seq := { u.seq with ups := u.seq.ups ++ [none] } }) ∧
  (∀ s : State, s.up → s.rd F.SEQ_CMD_STAT_BUSY = 0 → s.seqState = 0 → s.rd F.GLB_STATE_ARMED = 0 →
    (∀ k : Fin 24, s.railOwner k ≠ 2) →
    Gives .seqCmdDown s (fun t => t.rd F.SEQ_CMD_STAT_STATUS = 0 ∧ t.rd F.SEQ_CMD_STAT_BUSY = 0 ∧
      RegsOnly { s with seq := t.seq } t [F.SEQ_CMD_STAT_BUSY, F.SEQ_CMD_STAT_STATUS])) ∧
  (∀ (s : State) (k : Fin 32), s.up → s.rd F.SEQ_CMD_STAT_BUSY = 0 → k.val ≤ 23 → s.railOwner k = 0 → s.railState k = 0 →
    exec (.seqCmdRailOn k) s = .next (((s.wr F.SEQ_CMD_STAT_BUSY 1).modRail k (fun r => { r with waits := r.waits ++ [none] })).railStart k)) ∧
  (∀ (s : State) (k : Fin 32), s.up → s.rd F.SEQ_CMD_STAT_BUSY = 0 → k.val ≤ 23 → s.railOwner k = 0 → (s.rail k).waits = [] →
    exec (.seqCmdRailOff k) s =
      .next (((((s.wr F.SEQ_CMD_STAT_BUSY 1).endRailWaits k 4).railOff k).wr F.SEQ_CMD_STAT_BUSY 0).wr F.SEQ_CMD_STAT_STATUS 0)) ∧
  (∀ (s : State) (k : Fin 32), s.up → s.rd F.SEQ_CMD_STAT_BUSY = 0 → k.val ≤ 23 → s.railState k = 4 →
    exec (.seqCmdRailClear k) s =
      .next (((((s.wr F.SEQ_CMD_STAT_BUSY 1).railClear k).1).wr F.SEQ_CMD_STAT_BUSY 0).wr F.SEQ_CMD_STAT_STATUS 0))

/-- R466, R467, R469, R470: a host image of microcode is ordered and read; the service tier is evaluated on each 10 µs boundary
of ETIME: 3 (F) where the conditions of F have held for RISE_MS, else 2 (P) where those of P have, else 1 (C) while armed,
else none. -/
def Obligations.PatchesAndServiceTier : Prop :=
  (∀ s : State, s.up → s.rd F.GLB_STATE_ARMED = 0 → s.rd F.PATCH_STAT_STATE = 0 → s.islState 1 = 5 → s.islReady 1 = true →
    Gives .patchLoad s (fun t => t.rd F.PATCH_STAT_STATE = 1 ∧ t.rd F.PATCH_STAT_SRC = 2 ∧ t.rd F.PATCH_STAT_REJECT = 0 ∧
      t.boot.load = (s.rd F.PATCH_LEN_LEN, s.inWindow false
        (s.rd F.PATCH_ADDR_LO_ADDR + s.rd F.PATCH_ADDR_HI_ADDR * 4294967296) (s.rd F.PATCH_LEN_LEN)) ∧
      RegsOnly { s with boot := t.boot } t [F.PATCH_STAT_STATE, F.PATCH_STAT_SRC, F.PATCH_STAT_REJECT])) ∧
  (∀ s : State, s.native → s.rd F.GLB_STATE_ARMED = 1 →
    Gives .patchLoad s (fun t => t.rd F.PATCH_STAT_REJECT = 9 ∧ t.rd F.PATCH_STAT_STATE = s.rd F.PATCH_STAT_STATE)) ∧
  (∀ (s : State) (img : List Byte), s.up → s.rd F.PATCH_STAT_STATE = 1 →
    s.rd F.BOOT_FUSE_KEY_SET = 1 → bField img 0 4 = 0x3150584B → bField img 4 2 = 1 → bField img 10 2 = 0 →
    bField img 112 16 = 0 → bField img 12 4 % 16 = 0 → 16 ≤ bField img 12 4 → bField img 12 4 ≤ 262144 →
    img.length = 128 + bField img 12 4 → s.boot.load = (img.length, true) →
    bField img 6 2 = s.rd F.GLB_REV_ROM_REV → s.rd F.BOOT_FUSE_SVN_MIN ≤ bField img 8 2 →
    s.islState 0 = 5 → s.islReady 0 = true →
    exec (.patchReadComplete img false) s = .next (
      if Config.sha512 (patchKey img) ≠ Config.keyHash then (s.wr F.PATCH_STAT_STATE 5).patchRejected 4 2 (bField img 8 2)
      else if !Config.ed25519 (patchKey img) (patchSignature img) (Config.sha512 (img.take 16 ++ img.drop 128)) then (s.wr F.PATCH_STAT_STATE 5).patchRejected 5 2 (bField img 8 2)
      else ({ s.wr F.PATCH_STAT_STATE 3 with
        boot := { s.boot with phase := 1, isl := 0, newSvn := bField img 8 2 } }).testAgain 0)) ∧
  (∀ (s : State) (img : List Byte) (err : Bool), s.native → s.rd F.PATCH_STAT_STATE = 1 → s.islState 0 = 5 →
    s.islReady 0 = true →
    let r := s.patchCheck img s.boot.load.1 (err || !s.boot.load.2 || img.length != s.boot.load.1)
    Gives (.patchReadComplete img err) s (fun t =>
      (r = 0 → t.rd F.PATCH_STAT_STATE = 3 ∧ t.boot.phase = 1 ∧ t.islState 0 = 6) ∧
      (r ≠ 0 → t.rd F.PATCH_STAT_STATE = 5 ∧ t.rd F.PATCH_STAT_REJECT = r))) ∧
  (∀ (s : State) (img : List Byte), s.native → s.rd F.PATCH_STAT_STATE = 1 → s.rd F.BOOT_FUSE_KEY_SET = 0 →
    Gives (.patchReadComplete img false) s (fun t => t.rd F.PATCH_STAT_STATE = 5 ∧ t.rd F.PATCH_STAT_REJECT = 8)) ∧
  (∀ s : State, s.up → s.tier.evalAt = some s.etime → exec .tierEvaluation s = .next s) ∧
  (∀ s : State, s.native → s.tier = {} → s.rd F.GLB_STATE_ARMED = 0 → s.rd F.GLB_STATE_TIER = 0 →
    0 < s.rd F.TIER_CFG_RISE_MS →
    Gives .tierEvaluation s (fun t => t.rd F.GLB_STATE_TIER = 0 ∧ t.tier.next = some (0, (s.now / 10 + 1) * 10) ∧ t.tier.evalAt = some s.etime ∧
      t.tier.fSince = (if (s.tierBlock true).2 = 0 then some s.etime else none) ∧
      t.rd F.TIER_BLOCK_F_COND = (s.tierBlock true).2 % 2 ^ F.TIER_BLOCK_F_COND.w)) ∧
  (∀ s : State, s.native → s.tier = {} → s.rd F.GLB_STATE_ARMED = 1 → s.rd F.GLB_STATE_TIER = 3 →
    Gives .tierEvaluation s (fun t => t.rd F.GLB_STATE_TIER = 3 ∧ t.tier.next = some (1, (s.now / 10 + 1) * 10))) ∧
  (∀ (s : State) (t0 : Nat), s.up → s.etime % 10000 = 0 → (∀ x ∈ s.tier.evalAt, x / 10000 ≠ s.etime / 10000) →
    (s.tierBlock true).2 = 0 → s.tier.fSince = some t0 → t0 + max 1 (s.rd F.TIER_CFG_RISE_MS) * 1000000 ≤ s.etime →
    Gives .tierEvaluation s (fun t => t.tier.next = some (3, (s.now / 10 + 1) * 10) ∧ t.tier.fSince = some t0 ∧
      t.rd F.GLB_STATE_TIER = s.rd F.GLB_STATE_TIER)) ∧
  (∀ (s : State) (t0 : Nat), s.up → s.etime % 10000 = 0 → (∀ x ∈ s.tier.evalAt, x / 10000 ≠ s.etime / 10000) →
    s.qualified (if (s.tierBlock true).2 = 0 then some (s.tier.fSince.getD s.etime) else none) = false →
    (s.tierBlock false).2 = 0 → s.tier.pSince = some t0 → t0 + max 1 (s.rd F.TIER_CFG_RISE_MS) * 1000000 ≤ s.etime →
    Gives .tierEvaluation s (fun t => t.tier.next = some (2, (s.now / 10 + 1) * 10) ∧ t.tier.pSince = some t0 ∧
      t.rd F.GLB_STATE_TIER = s.rd F.GLB_STATE_TIER)) ∧
  (∀ s : State, s.up → s.etime % 10000 = 0 → (∀ x ∈ s.tier.evalAt, x / 10000 ≠ s.etime / 10000) →
    (s.tierBlock true).2 ≠ 0 → (s.tierBlock false).2 ≠ 0 →
    Gives .tierEvaluation s (fun t => t.tier.next = some (if s.on F.GLB_STATE_ARMED then 1 else 0, (s.now / 10 + 1) * 10) ∧
      t.tier.fSince = none ∧ t.tier.pSince = none)) ∧
  (∀ (s : State) (v t0 : Nat), s.tier.next = some (v, t0) →
    (s.now < t0 → s.tierTick = s) ∧
    (t0 ≤ s.now → s.tierTick = ({ s with tier := { s.tier with next := none } } : State).setTier v)) ∧
  (∀ (s : State) (v : Fin 4), (s.setTier v).rd F.GLB_STATE_TIER = v) ∧
  (∀ (s : State) (v : Fin 3), s.rd F.GLB_STATE_TIER = 3 → (s.setTier v).rd F.TIER_COUNT_F_LOSSES =
    satAdd F.TIER_COUNT_F_LOSSES.w (s.rd F.TIER_COUNT_F_LOSSES) 1)

/-- R480, R481, R482, R484: the end of a frame stop, the flush of pages, telemetry. -/
def Obligations.FaultsAndRecovery : Prop :=
  (∀ s : State, s.native → s.rd F.FAULT_STAT_FRAME_STOP = 1 → s.rd F.FAULT_STAT_SAFE = 0 →
    (∀ x ∈ s.flt.hardAt, x / 10 ≠ s.now / 10) → s.faultHold = 0 →
    Gives .fsClr s (fun t => t.rd F.FAULT_STAT_FRAME_STOP = 0 ∧ t.rd F.FAULT_STAT_FS_CAUSE = 0 ∧
      t.rd F.FAULT_STAT_FLUSHABLE = 0 ∧ t.rd F.FAULT_STAT_WSTOP = 0 ∧
      t.flt = { s.flt with clr := some (s.now, s.rd F.FAULT_STAT_FS_CAUSE, s.rd F.FAULT_STAT_FLUSHABLE, s.flt.stopAt) } ∧
      RegsAndHost { s with flt := t.flt } t [F.EVT_DROPPED_DROPPED, F.FAULT_STAT_FRAME_STOP, F.FAULT_STAT_FS_CAUSE, F.FAULT_STAT_FLUSHABLE,
        F.FAULT_STAT_WSTOP])) ∧
  (∀ s : State, s.native → s.rd F.FAULT_STAT_FRAME_STOP = 1 →
    let same := s.flt.hardAt.any (fun x => x / 10 == s.now / 10)
    s.faultHold ≠ 0 ∨ s.rd F.FAULT_STAT_SAFE = 1 ∨ same = true →
    let e := detail [(0, 2, s.faultHold), (2, 1, b2n (s.on F.FAULT_STAT_SAFE) + 2 * b2n same)]
    Gives .fsClr s (fun t => t.rd F.FAULT_STAT_FRAME_STOP = 1 ∧ Posts s t 0 0x9071 1 0 e ∧
      RegsAndHost s t [F.EVT_DROPPED_DROPPED])) ∧
  (∀ s : State, s.up → s.rd F.FAULT_STAT_FRAME_STOP = 0 → exec .fsClr s = .next s) ∧
  (∀ (s : State) (t0 : Nat), s.up → s.flt.webZeroSince = some t0 → s.rd F.FAULT_STAT_FRAME_STOP = 1 →
    t0 + 1000000000 ≤ s.now →
    Gives .flushable s (fun t => t.rd F.FAULT_STAT_FLUSHABLE = 1 ∧ RegsOnly s t [F.FAULT_STAT_FLUSHABLE])) ∧
  (∀ (s : State) (p : Nat), s.up → s.rd F.FAULT_STAT_FLUSHABLE = 1 → s.slotsWhere (fun x => x.st.inFlight) = [p] →
    let u := (s.flushSlot p).poolWaits
    exec .flush s = .next (u.post 0 0x9073 1 0 [(0, 1, 1), (1, 4, min 4294967295 (u.slot p).blanked)])) ∧
  (∀ s : State, s.up → s.rd F.FAULT_STAT_FLUSHABLE = 0 → exec .flush s = .next s) ∧
  (∀ s : State, s.up → s.rd F.TEL_CFG_EN = 1 → s.flt.telAt + max 1 (s.rd F.TEL_CFG_PERIOD) * 1000000 ≤ s.etime →
    exec .telemetryRecord s =
      let u : State := { s with flt := { s.flt with telAt := s.etime } }
      .next (u.putOrDrop 26 ⟨[s.telemetry], false, none, none, none⟩))

/-- R480, R481, R53: a HARD event starts a frame stop: the first cause stands, WSTOP_N goes low, every page in flight is SPOILED
with FRAME_STOP, a page whose eve was on this 10 ns tick meets the stop there, and nothing of any other page changes. In the cycle
of an accepted FS_CLR it undoes the clear. -/
def Obligations.FrameStop : Prop :=
  (∀ (s : State) (code : Nat), s.rd F.GLB_MODE_MODE = 0 → s.rd F.FAULT_STAT_FRAME_STOP = 0 → s.clrUndone = false →
    code < 65536 →
    (s.frameStop code).rd F.FAULT_STAT_FRAME_STOP = 1 ∧ (s.frameStop code).rd F.FAULT_STAT_FS_CAUSE = code ∧
    (s.frameStop code).rd F.FAULT_STAT_WSTOP = 1 ∧ (s.frameStop code).flt.stopAt = s.now) ∧
  (∀ (s : State) (code : Nat), s.rd F.GLB_MODE_MODE = 0 → s.rd F.FAULT_STAT_FRAME_STOP = 1 →
    (s.frameStop code).rd F.FAULT_STAT_FS_CAUSE = s.rd F.FAULT_STAT_FS_CAUSE ∧ (s.frameStop code).rd F.FAULT_STAT_WSTOP = 1) ∧
  (∀ (s : State) (code p : Nat), p < 160 → p < s.alm.slots.length → (s.slot p).st.inFlight = true →
    2 ≤ ((s.frameStop code).slot p).outcome ∧ ((s.frameStop code).slot p).recFlags.testBit 4 = true) ∧
  (∀ (s : State) (code p : Nat), p < 160 → (s.slot p).st.inFlight = false →
    ¬ ((s.slot p).st.waiting = true ∧ (s.slot p).eveFired = true ∧ (s.slot p).eveAt / 10 = s.now / 10) →
    (s.frameStop code).slot p = s.slot p) ∧
  (∀ (s : State) (code p : Nat), p < 160 → p < s.alm.slots.length → (s.slot p).st.waiting = true → (s.slot p).eveFired = true →
    (s.slot p).eveAt / 10 = s.now / 10 → ((s.frameStop code).slot p).eveCause = 0x1024) ∧
  (∀ (s : State) (code : Nat), s.rd F.GLB_MODE_MODE = 0 → s.rd F.FAULT_STAT_FRAME_STOP = 0 → s.clrUndone = true →
    (s.frameStop code).rd F.FAULT_STAT_FRAME_STOP = 1 ∧
    ∀ x ∈ s.flt.clr, (s.frameStop code).rd F.FAULT_STAT_FS_CAUSE = x.2.1 % 65536)

/-- R41, R45, R46, R49, R51: a page transaction is taken; one that no check fails takes the lowest FREE slot as LOADED with
its frame's place and eve; one that a check fails takes no slot. -/
def Obligations.PageSubmission : Prop :=
  (∀ (s : State) (q : Fin 32) (ds : List Desc), s.ringReady q ds → classOf q = 0 → dOpcode (ds.headD 0) ≠ 4 →
    s.islandLacks q ds = false → ((s.passTxn q ds.length).keep ds).2.pageRefusal q ds = none →
    exec (.pageTransaction q) s =
      let k := (s.passTxn q ds.length).keep ds
      .next (((k.2.trace 0 q ds k.1).acceptPage q ds k.1).settleHead q ds.length)) ∧
  (∀ (s : State) (q : Fin 32) (ds : List Desc) (cause : Nat) (det : List (Nat × Nat × Nat)), s.ringReady q ds →
    classOf q = 0 → dOpcode (ds.headD 0) ≠ 4 → s.islandLacks q ds = false →
    ((s.passTxn q ds.length).keep ds).2.pageRefusal q ds = some (cause, det) →
    exec (.pageTransaction q) s =
      let k := (s.passTxn q ds.length).keep ds
      .next ((k.2.refusePage q cause det ds k.1).settleHead q ds.length)) ∧
  (∀ (s : State) (q : Fin 32) (ds : List Desc), s.ringReady q ds → classOf q = 0 → dOpcode (ds.headD 0) ≠ 4 →
    s.islandLacks q ds = true →
    exec (.pageTransaction q) s =
      let k := (s.passTxn q ds.length).keep ds
      .next ((k.2.unserve q ds k.1).settleHead q ds.length)) ∧
  (∀ (s : State) (q cause tseq : Nat) (det : List (Nat × Nat × Nat)) (ds : List Desc), s.rd F.GLB_MODE_MODE = 0 →
    (s.refusePage q cause det ds tseq).alm = s.alm) ∧
  (∀ (s : State) (q p tseq : Nat) (ds : List Desc), s.alm.slots.length = 160 → (s.slotsWhere (fun x => x.st = .free)).head? = some p →
    ((s.acceptPage q ds tseq).slot p).st = .loaded ∧
    ((s.acceptPage q ds tseq).slot p).fp = s.placeFrame (ds.headD 0) (ds.getLastD 0) ∧
    ((s.acceptPage q ds tseq).slot p).eve = ((s.acceptPage q ds tseq).slot p).fp + s.dFirst (dField (ds.headD 0) 16 1)
      - s.rd F.ALM_EVE_MARGIN_EVE_MARGIN)

/-- R47: a cancel, R60: aborts, R256: the priority ring. -/
def Obligations.CancelAndPriority : Prop :=
  (∀ (s : State) (q : Fin 32) (d : Desc) (p : Nat), s.ringReady q [d] → classOf q = 0 → dOpcode d = 4 → dCount d = 0 →
    dZero d 16 63 = true → s.islandLacks q [d] = false →
    (((s.passTxn q 1).keep [d]).2.trace 0 q [d] ((s.passTxn q 1).keep [d]).1).cancelSlots q (dField d 8 8) = [p] →
    ((((s.passTxn q 1).keep [d]).2.trace 0 q [d] ((s.passTxn q 1).keep [d]).1).slot p).st.waiting = true →
    ((((s.passTxn q 1).keep [d]).2.trace 0 q [d] ((s.passTxn q 1).keep [d]).1).slot p).eveFired = false →
    (((s.passTxn q 1).keep [d]).2.trace 0 q [d] ((s.passTxn q 1).keep [d]).1).wpos <
      ((((s.passTxn q 1).keep [d]).2.trace 0 q [d] ((s.passTxn q 1).keep [d]).1).slot p).eve →
    exec (.pageCancel q) s =
      let k := (s.passTxn q 1).keep [d]
      let u := k.2.trace 0 q [d] k.1
      .next ((((((u.retire p 0x1027 0 [] (dTag d)).progress (dIrq d) (dTag d) (u.slot p).pageId p 1 0 q (u.slot p).fp).closeTxn
        (some q.val)).doneTrace (some (traceEntry (dTag d) 1 q 4 1 k.1 0))).poolWaits).settleHead q 1)) ∧
  (∀ (s : State) (d : Desc), s.ringReady 28 [d] → dOpcode d = 0x60 → priFormat d = true →
    exec .priPageAbort s =
      let r := (s.priTaken d).2.pageAbort d
      .next (s.priAnswer d r.2.2 r.1 r.2.1)) ∧
  (∀ (s : State) (p : Nat), p < s.alm.slots.length → p < 160 → s.rd F.GLB_MODE_MODE = 0 → (s.slot p).st = .imaging →
    ((s.abortSlot p).slot p).aborted = true ∧ 2 ≤ ((s.abortSlot p).slot p).outcome ∧ ((s.abortSlot p).slot p).st = .imaging) ∧
  (∀ (s : State) (d : Desc), s.ringReady 28 [d] → dOpcode d = 0x61 → priFormat d = true →
    exec .priFrameStop s = .next (s.priAnswer d
      ((s.priTaken d).2.post 3 0x9040 2 28 [(0, 4, dField d 8 4)] (dTag d)) 0 0)) ∧
  (∀ (s : State) (d : Desc), s.ringReady 28 [d] → dOpcode d = 0x62 → priFormat d = true →
    exec .priSafeState s = .next (s.priAnswer d
      (((s.priTaken d).2.post 4 0x9041 2 28 [(0, 4, dField d 8 4)] (dTag d)).toSafe 3 0x9041) 0 0)) ∧
  (∀ (s : State) (src code : Nat), s.rd F.GLB_MODE_MODE = 0 → (s.toSafe src code).rd F.FAULT_STAT_SAFE = 1 ∧
    (s.toSafe src code).rd F.VIG_LSAFE_LATCHED ≠ 0 ∧ (∀ b ∈ (s.toSafe src code).beams, b.pulses = []) ∧
    (∀ n : Fin 16, (s.toSafe src code).rd (F.OCT_STAT_VBS_OK n) = 0)) ∧
  (∀ (s : State) (d : Desc), s.ringReady 28 [d] → dOpcode d = 0x63 → priFormat d = true →
    exec .priPing s = .next (s.priAnswer d (s.priTaken d).2 0 ((s.ring 28).found.headD 0)))

/-- R41, R81, R83: granules, staging and its failure. -/
def Obligations.PageStaging : Prop :=
  (∀ (s : State) (p : Fin 160), s.up → s.poolOrder.head? = some p.val →
    (s.slot p).eveFired = false → needOf (s.slot p).planes (s.slot p).lines ≤ s.poolFree →
    (s.slotsWhere (fun y => y.st = .staging)).length < 16 →
    exec (.granuleAllocation p) s = .next (((s.modSlot p (fun x => { x with
      st := .staging
      planes := allocPlanes s.poolBase (s.slot p).lines (s.slot p).planes (s.slotGrans ++ s.band.retired)
      wins := s.windows })).stageEngines).poolWaits)) ∧
  (∀ (s : State) (p : Fin 160) (srcs : List SrcRead) (l : List (List Nat × List Byte)), s.up →
    (s.slot p).st = .staging → s.eveGone (s.slot p) = false → (s.slot p).staffed = true →
    let u := s.scratchErrors p srcs
    let sm := u.smudged srcs
    sm.stageAll (s.slot p).wins (s.slot p).lines (stagePlan (s.slot p)) srcs = .inr l →
    exec (.stagingComplete p srcs) s =
      let v := l.foldl (fun (v : State) (e : List Nat × List Byte) => v.putGrans e.1 0 e.2) { u with freeCtr := sm.freeCtr }
      .next (((v.toStaged p).slotProgress p).endTransfer (slotTransfer p))) ∧
  (∀ (s : State) (p : Fin 160) (srcs : List SrcRead) (st c d : Nat) (tag : Bool), s.up →
    (s.slot p).st = .staging → s.eveGone (s.slot p) = false →
    let u := s.scratchErrors p srcs
    let sm := u.smudged srcs
    sm.stageAll (s.slot p).wins (s.slot p).lines (stagePlan (s.slot p)) srcs = .inl (st, tag, c, d) →
    exec (.stagingComplete p srcs) s = .next (({ u with freeCtr := sm.freeCtr } : State).stageFail p st tag c d)) ∧
  (∀ (s : State) (p : Fin 160) (st : Fin 8) (tag codec : Bool) (sub : Nat), s.up → (s.slot p).st = .staging →
    (s.slot p).mask.testBit st.val = true → 1 ≤ sub → sub ≤ (if codec then 2 else 6) →
    exec (.stageFail p st tag codec sub) s = .next ((s.retire p (if codec then 0x1011 else 0x1010) 1
      [(4, 1, sub), (5, 1, st.val), (6, 1, b2n tag)] (s.slot p).tag).poolWaits)) ∧
  (∀ (s : State) (p cause sev : Nat) (d : List (Nat × Nat × Nat)) (tag : Nat), p < 160 → p < s.alm.slots.length →
    ((s.retire p cause sev d tag).slot p).st = .retired ∧ ((s.retire p cause sev d tag).slot p).outcome = 3 ∧
    ((s.retire p cause sev d tag).slot p).cause = cause)

/-- R52, R53, R54, R55, R58, R470, R472, R481: the eve, whose conditions are those of its 10 ns tick, the decision, the backstop;
a fall of TIER below a page's MIN_TIER. -/
def Obligations.EveAndAdmission : Prop :=
  (∀ (s : State) (p : Fin 160), s.up → (s.slot p).st = .staged → (s.slot p).eveFired = false → (s.slot p).lvt = false →
    (s.slot p).eve ≤ s.wpos →
    exec (.eve p) s = .next ((s.modSlot p (fun x => { x with
      eveFired := true, eveCause := (s.eveCheck (s.slot p) s.stRefused).1
      eveDetail := (s.eveCheck (s.slot p) s.stRefused).2, eveTier := s.tierAtEve, etimeEve := s.etime, eveAt := s.now })).poolWaits)) ∧
  (∀ (s : State) (x : Slot) (f : Nat → Bool), s.rd F.FAULT_STAT_FRAME_STOP = 1 →
    s.eveCheck x f = (0x1024, s.rd F.FAULT_STAT_FS_CAUSE)) ∧
  (∀ (s : State) (x : Slot) (f : Nat → Bool) (t0 c : Nat) (r : Nat × Nat), s.rd F.FAULT_STAT_FRAME_STOP = 0 →
    s.flt.clr = some (t0, c, r) → t0 / 10 = s.now / 10 → s.eveCheck x f = (0x1024, c)) ∧
  (∀ (s : State) (x : Slot) (f : Nat → Bool), s.stopAtEve = none → s.rd F.ALM_CTL_ADMIT_EN = 1 →
    s.rd F.GLB_STATE_ARMED = 1 → x.st = .staged → x.minTier ≤ s.tierAtEve → (∀ st, x.mask.testBit st = true → f st = false) →
    s.eveCheck x f = (0, 0)) ∧
  (∀ (s : State) (p : Fin 160), s.up → (s.slot p).st = .staged → (s.slot p).eveFired = true → (s.slot p).eveAt / 10 < s.now / 10 →
    s.islandServes = true → s.pastBackstop (s.slot p) = false →
    exec (.admissionDecision p) s =
      let v := (s.recordDecision p).poolWaits
      .next (if (v.slot p).st = .admitted then v.expectMarks p else v)) ∧
  (∀ (s : State) (p : Fin 160), s.up → (s.slot p).st = .staged → (s.slot p).eveFired = true → (s.slot p).eveAt / 10 < s.now / 10 →
    s.pastBackstop (s.slot p) = true → exec (.admissionDecision p) s = .next ((s.vacate p 0x1026 []).poolWaits)) ∧
  (∀ (s : State) (p : Nat), (s.slot p).eveCause = 0 → (s.slot p).eveTier ≠ 2 → (s.slot p).minTier ≤ s.rd F.GLB_STATE_TIER →
    p < 160 → p < s.alm.slots.length → ((s.recordDecision p).slot p).st = .admitted ∧
      ((s.recordDecision p).slot p).outcome = (s.slot p).outcome) ∧
  (∀ (s : State) (p : Nat), (s.slot p).eveCause = 0 → (s.slot p).eveTier = 2 → s.rd F.GLB_MODE_MODE = 0 →
    p < 160 → p < s.alm.slots.length → ((s.recordDecision p).slot p).st = .admitted ∧
      1 ≤ ((s.recordDecision p).slot p).outcome ∧ ((s.recordDecision p).slot p).recFlags.testBit 0 = true) ∧
  (∀ (x : Slot) (v : Nat), x.st = .admitted ∨ x.st = .imaging → v < x.minTier →
    (x.minTier = 2 → 1 ≤ (x.tierFell v).outcome ∧ (x.tierFell v).recFlags.testBit 0 = true) ∧
    (x.minTier ≠ 2 → 2 ≤ (x.tierFell v).outcome) ∧ (x.outcome < 1 → (x.tierFell v).cause = 0x1040)) ∧
  (∀ (s : State) (v : Nat), v < s.rd F.GLB_STATE_TIER → (s.setTier v).alm.slots = s.alm.slots.map (fun x => x.tierFell v)) ∧
  (∀ (s : State) (p : Nat), (s.slot p).eveCause ≠ 0 →
    s.recordDecision p = s.vacate p (s.slot p).eveCause (eveDetail (s.slot p).eveCause (s.slot p).eveDetail)) ∧
  (∀ (s : State) (p : Fin 160), s.up → (s.slot p).st = .staged → (s.slot p).eveFired = true →
    (s.slot p).fp + (s.slot p).dFirst - 200000 ≤ s.wpos →
    exec (.eveBackstop p) s = .next ((s.vacate p 0x1026 []).poolWaits))

/-- R41, R62, R63, R145: frames begin and end on a station, pages are delivered, their records written. -/
def Obligations.FramesAndDelivery : Prop :=
  (∀ (s : State) (st : Fin 8) (p : Fin 160), s.up → s.startsNow st p = true →
    exec (.frameStart st p) s = .next ((s.atEdge (s.stationGroups st)).frameBegins st p)) ∧
  (∀ (s : State) (st : Fin 8) (p : Fin 160), s.up → s.startsNow st p = false → exec (.frameStart st p) s = .next s) ∧
  (∀ (s : State) (st : Fin 8) (p : Nat), s.up → s.slotOn st = some p → s.frameOver st p = true →
    exec (.frameEnd st) s = .next (s.frameEnds st p).legStop.dueCommits) ∧
  (∀ (s : State) (p : Fin 160), s.up → (s.slot p).st = .transit → (s.slot p).fp + (s.slot p).delivPos ≤ s.wpos →
    p.val < s.alm.slots.length →
    Gives (.delivery p) s (fun t => (t.slot p).st = .delivered ∧ (t.slot p).etimeEnd = s.etime ∧
      (t.slot p).wposEnd = s.wpos ∧ (t.slot p).outcome = (s.slot p).outcome ∧
      t.rd F.ALM_SPOILED_SPOILED = (if (s.slot p).outcome = 2 then satAdd F.ALM_SPOILED_SPOILED.w (s.rd F.ALM_SPOILED_SPOILED) 1
        else s.rd F.ALM_SPOILED_SPOILED))) ∧
  (∀ (s : State) (p : Fin 160), s.native → (s.slot p).st = .delivered → s.rd F.ALM_CTL_DELIV_MK_EN = 1 →
    (s.slot p).delivClosed = false → (s.slot p).delivEdge = false →
    (s.slot p).fp + (s.slot p).delivPos + s.rd F.ALM_DELIV_WIN_DELIV_WIN < s.wpos → p.val < s.alm.slots.length →
    Gives (.delivWindowClose p) s (fun t => (t.slot p).delivClosed = true ∧ (t.slot p).recFlags = (s.slot p).recFlags ||| 4 ∧
      Posts s t 1 0x1031 3 p (detail [(0, 1, s.rd F.ALM_CTL_DELIV_MK)]) ∧
      RegsAndHost { s with alm := t.alm } t [F.EVT_DROPPED_DROPPED])) ∧
  (∀ (s : State) (r : Rec) (rest : List Rec) (p : Nat), s.up → (s.ring 20).waiting = r :: rest → r.slot = some p → p < 160 →
    s.roomFor 20 { r with entries := pageRecord p (s.slot p) } = true → s.recordReady p = true → p < s.alm.slots.length →
    Gives .pageRecordWrite s (fun t => (t.slot p).st = .free ∧ t.alm.lastEnd = (if (s.slot p).outcome = 3 then s.alm.lastEnd
        else (s.slot p).fp + (s.slot p).frameLen) ∧
      ∀ q, q ≠ p → q < 160 → t.slot q = s.slot q))

/-- R57: an outcome only worsens, and CAUSE is the first event that brought it to its final value. -/
def Obligations.OutcomeOnlyWorsens : Prop :=
  ∀ (x : Slot) (o c : Nat), x.outcome ≤ (x.worsen o c).outcome ∧ o ≤ (x.worsen o c).outcome ∧
    (o ≤ x.outcome → x.worsen o c = x) ∧ (x.outcome < o → (x.worsen o c).cause = c)

/-- R84, R85, R87, R88, R92: a band is asked for, arrives, is checked when it is over, and its counters are cleared. -/
def Obligations.BandFetches : Prop :=
  (∀ (s : State) (st : Fin 8) (p : Fin 160) (tag : Bool), s.up → (s.slotsAhead st).contains p.val = true →
    (s.sc st).nextBand p tag < bandCount (s.slot p).lines → (s.sc st).bands tag < 4 →
    (tag = true → ((s.slot p).plane st).tagCoding % 16 = 4) →
    exec (.bandFetchRequest st p tag) s = .next ((s.modSc st (fun c => { c with
      asked := c.asked ++ [(p.val, tag, (s.sc st).nextBand p tag)]
      next := (p.val, tag, (s.sc st).nextBand p tag + 1) :: c.next.filter (fun x => !(x.1 = p.val && x.2.1 = tag)) })).syncFetch st)) ∧
  (∀ (s : State) (st : Fin 8) (tag : Bool) (p b : Nat), s.up →
    (s.sc st).asked.find? (fun a => a.2.1 = tag) = some (p, tag, b) → s.scan.length = 8 →
    Gives (.bandFetchComplete st tag [] []) s (fun t =>
      (t.sc st).asked = (s.sc st).asked.erase (p, tag, b) ∧
      (t.sc st).held = (s.sc st).held ++ [{
        slot := p, tag := tag, index := b, arrived := s.now
        bytes := s.getGrans (if tag then ((s.slot p).plane st).tagGrans else ((s.slot p).plane st).grans)
          (bandStart (if tag then 4 else ((s.slot p).plane st).coding % 16) ((s.slot p).plane st).width b)
          (bandRecLen (if tag then 4 else ((s.slot p).plane st).coding % 16) ((s.slot p).plane st).width (s.slot p).lines b)
        badLines := [], trailerBad := false, skipCheck := (s.sc st).absent.contains (p, b) }] ∧
      t.alm = s.alm ∧ t.host = s.host ∧ t.band = s.band)) ∧
  (∀ (s : State) (st : Fin 8) (h : BandHeld), s.up → s.scan.length = 8 → h.skipCheck = false → h.trailerBad = false →
    (s.sc st).held = [h] → (s.slot h.slot).started.testBit st = true → s.bandOver st h = true →
    let pl := (s.slot h.slot).plane st
    let coding := if h.tag then 4 else pl.coding % 16
    let n := bandLines (s.slot h.slot).lines h.index
    let len := payloadLen coding pl.width n
    let t := h.bytes.drop (pad32 len)
    let crc := bandCrc coding pl.width n (h.bytes.take len)
    bField t 0 2 = 0x4254 → bField t 4 4 = h.index → bField t 8 2 = n →
    exec (.bandEndCheck st h.tag) s =
      let u := s.modSc st (fun c => { c with held := c.held.erase h })
      .next (((if crc = bField t 16 4 then u else u.bandBad st h 0x2020 crc).syncFetch st).captureEnd h.slot st)) ∧
  (∀ (s : State) (st : Fin 8) (h : BandHeld) (code crc : Nat), s.rd F.GLB_MODE_MODE = 0 → h.slot < s.alm.slots.length →
    h.slot < 160 → code = 0x2020 ∨ code = 0x2021 → (s.slot h.slot).stFlags.length = 8 →
    2 ≤ ((s.bandBad st h code crc).slot h.slot).outcome ∧
    (((s.bandBad st h code crc).slot h.slot).stFlags.getD st 0).testBit 2 = true ∧
    (s.bandBad st h code crc).rd (F.ST_CHECK_FAIL_FAIL st) = satAdd (F.ST_CHECK_FAIL_FAIL st).w (s.rd (F.ST_CHECK_FAIL_FAIL st)) 1 ∧
    ((s.slot h.slot).once.contains (0x2020, st.val) = true → (s.bandBad st h code crc).host = s.host)) ∧
  (∀ (s : State) (st : Fin 8), s.up → Gives (.stFetchClr st) s (fun t =>
    t.rd (F.ST_FETCH_LEAD_LEAD_MIN st) = 0xFFFF ∧ t.rd (F.ST_LATE_LINES_LATE st) = 0 ∧ t.rd (F.ST_CHECK_FAIL_FAIL st) = 0 ∧
    RegsOnly s t [F.ST_FETCH_LEAD_LEAD_MIN st, F.ST_LATE_LINES_LATE st, F.ST_CHECK_FAIL_FAIL st]))

/-- R162, R172, R188, R192, R193: an emitter starts a line: outside a frame its beam writes nothing; in a frame a line with
its data present, no cut and no drop is written, in pulses of 4 to 256 of 256 parts of a pixel. -/
def Obligations.LineStarts : Prop :=
  (∀ (s : State) (st : Fin 8) (e : Fin 32),
    let u := s.atEdge [(.beam, s.beamOf st e)]
    let v := (((u.modSc st (fun c => { c with begun := setBit c.begun e })).octLineOff (u.beamOf st e)).thermAct st
      (u.beamOf st e)).lineBegins st (u.beamOf st e)
    s.up → u.on (F.ST_SCANCTL_SCAN_EN st) = true → u.on (F.ST_SCANCTL_NOSCAN st) = false → (u.sc st).tf.isSome = true →
    (u.sc st).begun.testBit e = false → e.val < u.beamCount st →
    (v.slotOn st = none → exec (.lineStart st e) s = .next (v.idleLine (u.beamOf st e))) ∧
    (∀ p y : Nat, v.slotOn st = some p → v.lineUnder st p e = some y →
      (v.suppressed st e y = true → exec (.lineStart st e) s = .next (v.idleLine (u.beamOf st e))) ∧
      (v.suppressed st e y = false → exec (.lineStart st e) s = .next (v.frameLine st e p y)))) ∧
  (∀ (s : State) (b : Nat), b < s.beams.length → ((s.idleLine b).beam b).pulses = [] ∧ ((s.idleLine b).beam b).line = none) ∧
  (∀ (s : State) (st e p y : Nat), p < 160 →
    let a := (s.idleLine (s.beamOf st e)).useBands st p y
    let b := if a.paired st && e < a.nAdv st then a else a.modSc st (fun c => { c with done := c.done ++ [y] })
    let w := b.modSc st (fun c => { c with lineFno := c.fno })
    let x := w.capture st p y (some (w.lineLevels st p y)) false
    (w.slot p).aborted = false → ¬ ((w.sc st).prevFno = (w.sc st).fno ∧ (w.sc st).fno ≠ 0) →
    w.lineAbsent st p y = none → w.lineCut st (s.beamOf st e) p = none → x.lostOn st e (x.sc st).fno = false →
    s.frameLine st e p y = x.writeLine st e p y (w.lineLevels st p y)) ∧
  (∀ (s : State) (st e p y : Nat) (levels : List Nat), s.beamOf st e < s.beams.length →
    ((s.writeLine st e p y levels).beam (s.beamOf st e)).pulses = (s.linePulses st e levels (s.kPair st e)).1 ∧
    ((s.writeLine st e p y levels).beam (s.beamOf st e)).line = some y) ∧
  (∀ (s : State) (st e : Nat) (levels : List Nat) (k : Nat), ∀ q ∈ (s.linePulses st e levels k).1, 4 ≤ q.2 ∧ q.2 ≤ 256)

/-- R109, R111, R115, R116, R122: a codec job joins the queue; one out of form is completed with FORMAT unstarted; HOLD and
FREE act at once. -/
def Obligations.CodecTransactions : Prop :=
  (∀ (s : State) (q : Fin 32) (d : Desc), s.ringReady q [d] → classOf q = 2 → dOpcode d = 0x20 → jobFormat d = true →
    let u := (s.passTxn q 1).trace 0 q [d] 0
    let j : Job := { id := u.codec.nextJob, ring := q, desc := d, op := jobOp d, irq := dIrq d }
    let v : State := { u with codec := { u.codec with jobs := u.codec.jobs ++ [j], nextJob := u.codec.nextJob + 1 } }
    let t := v.syncCodec.settleHead q 1
    (jobOp d = 0 → exec (.compress q) s = .next t) ∧ (jobOp d = 1 → exec (.decompress q) s = .next t) ∧
    (jobOp d = 2 → exec (.frcEncode q) s = .next t) ∧ (jobOp d = 3 → exec (.transcode q) s = .next t) ∧
    (jobOp d = 4 → exec (.replay q) s = .next t)) ∧
  (∀ (s : State) (q : Fin 32) (d : Desc), s.ringReady q [d] → classOf q = 2 → dOpcode d = 0x20 → jobFormat d = false →
    jobOp d = 0 →
    let u := (s.passTxn q 1).trace 0 q [d] 0
    exec (.compress q) s = .next ((u.codecDone q d { op := 0, status := 9, start := u.etime }).settleHead q 1)) ∧
  (∀ (s : State) (q : Fin 32) (d : Desc), s.ringReady q [d] → classOf q = 2 → dOpcode d = 0x21 → holdFormat d = true →
    let u := (s.passTxn q 1).trace 0 q [d] 0
    let isCap (c : Capture) : Bool := c.id = dField d 8 4 && c.closed
    let e : CodecEnd := { op := 8, status := 0, capture := dField d 8 4, start := u.etime }
    exec (.reprintHold q) s = .next (if u.codec.captures.any isCap
      then ((u.modCapture isCap (fun c => { c with held := true })).codecDone q d e).settleHead q 1
      else (u.codecDone q d { e with status := 10 }).settleHead q 1)) ∧
  (∀ (s : State) (q : Fin 32) (d : Desc) (c : Capture), s.ringReady q [d] → classOf q = 2 → dOpcode d = 0x22 → holdFormat d = true →
    let u := (s.passTxn q 1).trace 0 q [d] 0
    u.codec.captures.find? (fun c => c.id = dField d 8 4 && c.closed) = some c →
    exec (.reprintFree q) s = .next (if c.pins = 0 && c.indexed then ((u.dropCapture (dField d 8 4)).freeDone q d 0).settleHead q 1
      else (u.modCapture (fun c => c.id = dField d 8 4 && c.closed) (fun c => { c with frees := c.frees ++ [(q.val, d)] })).settleHead
        q 1)) ∧
  (∀ (s : State) (q : Fin 32) (d : Desc), s.ringReady q [d] → classOf q = 2 → dOpcode d = 0x22 → holdFormat d = true →
    let u := (s.passTxn q 1).trace 0 q [d] 0
    u.codec.captures.find? (fun c => c.id = dField d 8 4 && c.closed) = none →
    exec (.reprintFree q) s = .next ((u.freeDone q d 10).settleHead q 1)) ∧
  (∀ (s : State) (ring : Nat) (d : Desc) (e : CodecEnd), s.rd F.GLB_MODE_MODE = 0 →
    (s.codecDone ring d e).codec = s.codec ∧ (s.codecDone ring d e).alm = s.alm ∧
    (s.codecDone ring d e).rd F.CODEC_FAIL_FAIL =
      (if e.status = 0 then s.rd F.CODEC_FAIL_FAIL else satAdd F.CODEC_FAIL_FAIL.w (s.rd F.CODEC_FAIL_FAIL) 1))

/-- R111, R114, R115, R121: a job starts on its engine, waits for its chain, completes; its record and a capture's index
record are written. -/
def Obligations.CodecJobsRun : Prop :=
  (∀ (s : State) (j : Job) (es : List Nat) (id : Nat), s.up → s.job id = some j → s.startable j.ring = some (j, es) →
    j.id = id → s.nextJobRing = some j.ring → j.op ≠ 4 →
    exec (.codecJobStart id none) s =
      let u := s.modJob id (fun j => { j with started := true, engines := es, etimeStart := s.etime, wins := s.windows })
      .next { u with codec := { u.codec with lastRing := j.ring } }.syncCodec) ∧
  (∀ (s : State) (j : Job) (t : Nat) (v : Bool), s.up → s.job j.id = some j → j.suspendedAt = some t →
    j.polledAt + max 1 (s.rd F.CODEC_CHAIN_CTL_CHAIN_POLL) * 1000 ≤ s.now →
    (s.entryValid j v = true →
      exec (.chainPoll j.id v none) s = .next (s.modJob j.id (fun j => { j with suspendedAt := none })).syncCodec) ∧
    (s.entryValid j v = false → s.rd F.CODEC_CHAIN_CTL_CHAIN_TMO = 0 →
      exec (.chainPoll j.id v none) s = .next (s.modJob j.id (fun j => { j with polledAt := s.now }))) ∧
    (s.entryValid j v = false → s.rd F.CODEC_CHAIN_CTL_CHAIN_TMO ≠ 0 →
      t + s.rd F.CODEC_CHAIN_CTL_CHAIN_TMO * 1000000 ≤ s.now →
      exec (.chainPoll j.id v none) s = .next (s.failJob j j.chain {
        op := j.op, status := 12, engine := j.engines.headD 255, suspends := j.suspends, start := j.etimeStart,
        capture := jobCapture j.desc }))) ∧
  (∀ (s : State) (j : Job) (r : CodecRun) (out : List Byte) (cf ovr a : Nat) (bufs : List (Nat × Nat)), s.up →
    s.job j.id = some j → j.started = true → j.suspendedAt = none → r.mismatches = [] → r.ce = [] → r.ue = [] →
    (j.op ≠ 4 → s.inWin j.wins false (dField j.desc 16 8) (16 * dField j.desc 14 2) = true ∧
      s.fragsPass j.wins r.frags.early (s.jobFrags j.desc r) = true ∧
      dField j.desc 24 8 ≤ (s.jobInput j.desc r).length) →
    s.jobOutput j.desc { r with input := s.jobInput j.desc r } = (0, out, cf, ovr) →
    s.jobChain j r.chain out.length = (bufs, 0, a) →
    exec (.codecJobComplete j.id r.frags r.input r.chain r.mismatches r.rerunAt r.ce r.ue) s =
      .next (((s.fillChain bufs out).inc F.CODEC_FRC_OVER_OVER ovr).finishJob j {
        op := j.op, status := 0, engine := j.engines.headD 255, suspends := j.suspends, start := j.etimeStart,
        capture := jobCapture j.desc, cflags := cf, consumed := (s.jobInput j.desc r).length, outLen := out.length,
        outCrc := crc32c out, ovr := ovr, lastEntry := lastEntry bufs out.length 0 })) ∧
  (∀ (s : State) (r : Rec) (rest : List Rec), s.up → (s.ring 23).waiting = r :: rest → s.roomFor 23 r = true →
    exec .codecDoneWrite s = .next (s.begunWait ((s.modRing 23 (fun g => { g with waiting := rest })).putRec 23 r))) ∧
  (∀ (s : State) (r : Rec) (rest : List Rec), s.up → (s.ring 29).waiting = r :: rest → s.roomFor 29 r = true →
    let isCap (c : Capture) : Bool := c.id = dField (r.entries.headD 0) 16 4 && c.closed
    let u := (s.begunWait ((s.modRing 29 (fun g => { g with waiting := rest })).putRec 29 r)).modCapture isCap
      (fun c => { c with indexed := true })
    exec .reprintIndexWrite s = .next (((u.codec.captures.find? isCap).map u.settleFrees).getD u)) ∧
  (∀ (s : State) (r : Rec), s.roomFor 29 r = true → s.rings.length = 32 → s.rd (F.RING_CFG_LOG2_SIZE 29) ≤ 16 →
    (s.putRec 29 r).rd (F.RING_IDX_PI 29) = (s.rd (F.RING_IDX_PI 29) + r.entries.length) % s.ringSize 29 ∧
    ((s.putRec 29 r).ring 29).entries =
      (s.ring 29).entries ++ phased (s.ringSize 29) (s.rd (F.RING_IDX_PI 29)) (s.ring 29).lap r.entries)

/-- R138, R139, R141, R143–R148: table transactions are taken and run, all tables of one becoming VALID together or none;
a switch outside a frame takes effect at once. -/
def Obligations.TableTransactions : Prop :=
  (∀ (s : State) (q : Fin 32) (ds : List Desc), s.ringReady q ds → classOf q = 1 →
    let u := (s.passTxn q ds.length).trace 0 q ds 0
    let t : TblTxn := { id := s.tbl.nextTxn, ring := q, descs := ds }
    let v : State := { u with tbl := { u.tbl with txns := u.tbl.txns ++ [t], nextTxn := u.tbl.nextTxn + 1 } }
    let a := (if v.tblMayStart t then v.startTable t else v).settleHead q ds.length
    (dOpcode (ds.headD 0) = 0x10 → exec (.tableLoad q) s = .next a) ∧
    (dOpcode (ds.headD 0) = 0x11 → exec (.tableSwitch q) s = .next a)) ∧
  (∀ (s : State) (t : TblTxn), s.up → s.tblTxn t.id = some t → t.started = false → s.tblMayStart t = true →
    exec (.tableTxnStart t.id) s = .next (s.startTable t)) ∧
  (∀ (s : State) (t : TblTxn) (srcs : List (Option (List Byte))), s.up → s.tblTxn t.id = some t → t.started = true → t.left = 0 →
    exec (.tableTxnComplete t.id srcs) s = .next ((s.endLoads t srcs).endTransfer (tableTransfer t.id))) ∧
  (∀ (s : State) (r : Rec) (rest : List Rec), s.up → (s.ring 22).waiting = r :: rest → s.roomFor 22 r = true →
    exec .tableDoneWrite s =
      .next ((s.begunWait ((s.modRing 22 (fun g => { g with waiting := rest })).putRec 22 r)).doneTrace r.trace)) ∧
  (∀ (s : State) (id st : Nat) (d : Desc) (t : TblTxn), s.tblTxn id = some t → switchFormat d = true →
    (s.bank st (1 - s.activeBank st)).switchable = true → dField d 9 1 = 0 → s.slotOn st = none →
    s.switchOn id d st = ((s.flipBank st).oneSwitch id 0 st ((s.flipBank st).activeBank st) d outsideFrame).syncTbl st) ∧
  (∀ (s : State) (id st : Nat) (d : Desc), switchFormat d = true →
    (s.bank st (1 - s.activeBank st)).switchable = false →
    s.switchOn id d st = s.oneSwitch id 7 st 0 d 0) ∧
  (∀ (d : Desc) (bs : List Byte) (b : TBank), ∀ k : Nat, k < 4 → loadType d = 0 → loadIndex d ≠ k →
    (storeTable d bs b).trc.getD k [] = b.trc.getD k [] ∧ (storeTable d bs b).gain = b.gain ∧
    (storeTable d bs b).levelMap = b.levelMap ∧ (storeTable d bs b).tagMap = b.tagMap)

/-- R155–R160, R170, R181: edges join the facet they were called in, a facet reference sets t_f, a gap ends the
facet count, a clear empties the signature;
an end-of-scan pulse is on for at most 400 ns about the crossing that the model computes from T_REF (log 31). -/
def Obligations.ScanEdges : Prop :=
  (∀ (s : State) (st : Fin 8) (t : Nat) (w : Int) (e : Nat), s.up → (s.emitters st).find? (fun e => s.pulseOn st e t) = some e →
    exec (.bdEdge st t w) s = .next ((s.modSc st (fun c => { c with edges := c.edges ++ [⟨e, t, w⟩] })).onRun (s.beamOf st e)
      (s.rollRun st e t))) ∧
  (∀ (s : State) (st : Fin 8) (t : Nat) (w : Int), s.up → (s.emitters st).find? (fun e => s.pulseOn st e t) = none →
    Gives (.bdEdge st t w) s (fun u => u.rd (F.ST_FACET_STAT_STRAY st) =
      satAdd (F.ST_FACET_STAT_STRAY st).w (s.rd (F.ST_FACET_STAT_STRAY st)) 1 ∧ RegsOnly s u [F.ST_FACET_STAT_STRAY st])) ∧
  (∀ (s : State) (st : Fin 8) (e t : Nat) (g : Edge), s.up → (s.emitters st).find? (fun e => s.eosOn st e t) = some e →
    (if (s.sc st).refDone then (s.sc st).edges else (s.sc st).last).find? (fun g => g.e = e) = some g →
    exec (.eosEdge st t) s = .next ((((s.modSc st (fun c => { c with eosHit := c.eosHit ++ [e] })).onRun (s.beamOf st e)
      (t - (s.eosCrossing st e - 50000))).modSc st (fun c => { c with eos := c.eos ++ [(e, t - g.t)] })).wr
      (F.ST_SCAN_TIME_SCAN st) (t - g.t))) ∧
  (∀ (s : State) (st : Fin 8) (t : Nat), s.up → (s.emitters st).find? (fun e => s.eosOn st e t) = none →
    Gives (.eosEdge st t) s (fun u => u.rd (F.ST_FACET_STAT_STRAY st) =
      satAdd (F.ST_FACET_STAT_STRAY st).w (s.rd (F.ST_FACET_STAT_STRAY st)) 1 ∧ RegsOnly s u [F.ST_FACET_STAT_STRAY st])) ∧
  (∀ (s : State) (st : Fin 8) (e : Nat) (t : Int), s.eosOn st e t = true →
    s.eosCrossing st e - 50000 ≤ t ∧ t ≤ s.eosCrossing st e + 50000 ∧ s.beamOf st e % 8 = (s.sc st).revs % 8 ∧
    e ∉ (s.sc st).eosHit ∧ s.on (F.ST_SCANCTL_SCAN_EN st) = true) ∧
  (∀ (s : State) (st : Fin 8) (w : Int) (g : Edge), s.up → s.scan.length = 8 → s.on (F.ST_SCANCTL_SCAN_EN st) = true →
    s.on (F.ST_SCANCTL_NOSCAN st) = false → (s.sc st).refDone = false → (s.sc st).edges = [g] → g.e = 0 →
    s.sigState st ≠ 3 → (s.sc st).gap = false →
    Gives (.facetReference st w) s (fun u => (u.sc st).tf = some g.t ∧ (u.sc st).wf = g.w ∧ (u.sc st).refDone = true ∧
      (u.sc st).fno = (s.sc st).fno + 1 ∧ (u.sc st).begun = 0 ∧ (∀ k : Fin 8, k ≠ st → u.sc k = s.sc k))) ∧
  (∀ (s : State) (st : Fin 8) (t : Nat), s.up → (s.sc st).bdT = some t → s.period st ≠ 0 → t + 2 * s.period st < s.now * 250 →
    exec (.facetGap st) s = .next ((s.wr (F.ST_FACET_STAT_BD_OK st) 0).modSc st (fun c => { c with
      gap := true, m := none, steady := 0 }))) ∧
  (∀ (s : State) (st : Fin 8), s.up → Gives (.sigClear st) s (fun t =>
    t.sigState st = 0 ∧ (∀ f e : Nat, f < 16 → e < 32 → t.soff st f e = 0 ∧ t.lscale st f e = 0) ∧
    (s.phase st ≠ 0 → t.phase st = 1) ∧ t.alm = s.alm ∧ t.host = s.host ∧ t.beams = s.beams)) ∧
  (∀ (s : State) (st : Fin 8), s.up → Gives (.stPhClr st) s (fun t => t.rd (F.ST_PH_STAT_PEAK st) = 0 ∧
    t.rd (F.ST_PH_SLIPS_SLIPS st) = 0 ∧ RegsOnly s t [F.ST_PH_STAT_PEAK st, F.ST_PH_SLIPS_SLIPS st]))

/-- R10, R174–R177: a mark sensor's pin, sampled with ETIME and WPOS of its tick and filtered; the two edges of a mark, and the update of a station's trims after its frame's last window, each trim held
within its limit. -/
def Obligations.MarksAndRegistration : Prop :=
  (∀ (s : State) (k : Fin 16) (level : Bool), s.up → (s.mkPin k).raw = level → exec (.markEdge k level) s = .next s) ∧
  (∀ (s : State) (k : Fin 16) (level : Bool), s.up → s.mks.length = 16 → (s.mkPin k).raw ≠ level →
    0 < s.rd (F.MK_CFG_FILT k) →
    exec (.markEdge k level) s = .next { s with
      mks := s.mks.modify k (fun m => { m with raw := level, at_ := s.now, etime := s.etime, w := s.wpos }) }) ∧
  (∀ (s : State) (k : Fin 16), (s.mkPin k).raw ≠ (s.mkPin k).level →
    (s.mkPin k).at_ + 10 * s.rd (F.MK_CFG_FILT k) ≤ s.now →
    s.markSettle k = ({ s with mks := s.mks.modify k (fun m => { m with level := m.raw }) } : State).markTake k
      ((s.mkPin k).raw == s.on (F.MK_CFG_POL k)) (s.mkPin k).etime (s.mkPin k).w) ∧
  (∀ (s : State) (k : Fin 16) (t : Nat) (w : Int) (i n : Nat), s.on F.ALM_CTL_DELIV_MK_EN = false →
    s.on (F.MK_CFG_EN k) = true → s.markLead k w = some (i, n) →
    s.markTake k true t w = s.modReg i (fun r => { r with lead := r.lead ++ [(n, t, w)] })) ∧
  (∀ (s : State) (k : Fin 16) (t t0 : Nat) (w w0 : Int) (i n : Nat), s.on F.ALM_CTL_DELIV_MK_EN = false →
    s.on (F.MK_CFG_EN k) = true → s.markTrail k w = some (i, n, t0, w0) →
    s.markTake k false t w = s.markDone i n k t0 w0 w) ∧
  (∀ (s : State) (k : Fin 16) (i n t : Nat) (w0 w1 : Int), i < s.regf.length → s.on F.MK_CTL_REC_EN = false →
    ((s.markDone i n k t w0 w1).regf.getD i {}).marks = (s.regf.getD i {}).marks ++
      [⟨n, s.rd (F.REG_PLAN_STATION n), k, s.rd (F.REG_PLAN_KIND n), (w0 + w1) * 65536 - 2 * s.markExpect (s.regf.getD i {}).fp n⟩] ∧
    (s.markDone i n k t w0 w1).rd (F.MK_COUNT_COUNT k) = satAdd (F.MK_COUNT_COUNT k).w (s.rd (F.MK_COUNT_COUNT k)) 1 ∧
    (s.markDone i n k t w0 w1).host = s.host) ∧
  (∀ (s : State) (st : Fin 8) (r : RegFrame), s.up → s.regf = [r] → r.mask.testBit st = true → r.updated.testBit st = false →
    s.marksClosed r = true →
    exec (.registrationUpdate st) s =
      let u := (s.regUpdate r st).modReg 0 (fun r => { r with updated := setBit r.updated st })
      .next { u with regf := u.regf.filter (fun r => (bitsOf 8 r.mask).any (fun t => !r.updated.testBit t)) }) ∧
  (∀ (s : State) (st : Fin 8) (v : Int),
    (s.trimDs st v).rdS (F.ST_DS_TRIM_DS_TRIM st) =
      clampI (-(s.rd (F.ST_DS_LIM_DS_LIM st) : Int)) (s.rd (F.ST_DS_LIM_DS_LIM st)) v ∨ 2 ^ 31 ≤ s.rd (F.ST_DS_LIM_DS_LIM st)) ∧
  (∀ (s : State) (r : RegFrame) (st : Nat), s.rd (F.ST_REG_CTL_REF st) ≠ st → s.regCurrent r = false →
    (diffs r.inTrack st (s.rd (F.ST_REG_CTL_REF st))).length < s.rd (F.ST_REG_CTL_MIN_MARKS st) →
    ∃ d, s.regUpdate r st = s.post 0 0x3130 9 (0x200 + ((List.range 16).filter (fun k => (r.inTrack st k).isSome)).headD 0) d)

/-- R190, R195, R197–R202, R213: an octet's temperature, voltage, energy scale, power control and counters. -/
def Obligations.Octets : Prop :=
  (∀ (s : State) (n : Fin 16) (r : Nat), s.up →
    exec (.thermalSample n r) s = .next ((s.atEdge [(.octTherm, n)]).thermal n r)) ∧
  (∀ (s : State) (n : Fin 16) (r : Nat), sensorBad r = true → (s.thermal n r).rd (F.OCT_STAT_CUT_HELD n) ≠ 0 ∧
    (s.thermal n r).rd (F.OCT_STAT_DERATED n) ≠ 0 ∧ (s.thermal n r).rd (F.OCT_STAT_WARN n) = 1) ∧
  (∀ (s : State) (n : Fin 16) (r : Nat) (t : Int), sensorBad r = false →
    t = roundHalf (sumI ((betaTemp (s.rd (F.OCT_THERM_BETA n)) r :: (s.oct n).temps).take 4))
      ((betaTemp (s.rd (F.OCT_THERM_BETA n)) r :: (s.oct n).temps).take 4).length →
    t < 16 * s.rd (F.OCT_TLIM_T_WARN n) → t < 16 * s.rd (F.OCT_TLIM_T_DERATE n) → t < 16 * s.rd (F.OCT_TLIM_T_CUT n) →
    s.rd (F.OCT_STAT_CUT_HELD n) = 0 → s.rd (F.OCT_STAT_DERATED n) = 0 →
    (s.thermal n r).rd (F.OCT_TEMP_TEMP n) = uBits (F.OCT_TEMP_TEMP n).w t ∧ (s.thermal n r).rd (F.OCT_STAT_WARN n) = 0 ∧
    (s.thermal n r).alm = s.alm ∧ (s.thermal n r).host = s.host) ∧
  (∀ (s : State) (n : Fin 16) (v : Nat), s.up → Gives (.energyScaleUpdate n v) s (fun t =>
    t.rd (F.OCT_VBS_VBS n) = v % 2 ^ 16 ∧ t.rd (F.OCT_SCALE_S n) = s.energyScale n (s.rdS (F.OCT_TEMP_TEMP n)) v % 2 ^ 16 ∧
    RegsOnly s t [F.OCT_VBS_VBS n, F.OCT_SCALE_S n])) ∧
  (∀ (s : State) (n : Fin 16) (m st : Nat), s.up → s.stationOf n = some st →
    let b := s.apcBeam st n
    let e := s.emitterOf st b
    s.on (F.BM_APC_APC_EN b) = true → s.on (F.ST_SCANCTL_SCAN_EN st) = true → (s.sc st).tf.isSome = true → s.pllKept st = true →
    s.excluded st b = false → s.dropped st e = false → (s.oct n).enabled = true → s.on (F.OCT_STAT_VBS_OK n) = true →
    s.on (F.ST_SCANCTL_NOSCAN st) = false → s.beamsBarred = false → s.apcFits st e = true →
    s.apcMod b m ≠ s.rd (F.BM_MOD_LIM_MOD_MIN b) → s.apcMod b m ≠ s.rd (F.BM_MOD_LIM_MOD_MAX b) →
    exec (.apcSample n m) s = .next (((((s.onRun b (62500 * s.apcUnits n : Nat)).wr (F.BM_MPD_LAST b) m).inc
      (F.BM_MPD_SAMPLES b)).modBeam b (fun x => { x with next := some (s.apcMod b m) })).wr (F.BM_STAT_APC_LIM b) 0)) ∧
  (∀ (s : State) (n : Fin 16) (m st : Nat), s.up → s.stationOf n = some st →
    let b := s.apcBeam st n
    s.on (F.BM_APC_APC_EN b) = true → s.on (F.ST_SCANCTL_SCAN_EN st) = true → (s.sc st).tf.isSome = true → s.pllKept st = true →
    s.excluded st b = false → s.dropped st (s.emitterOf st b) = false → (s.oct n).enabled = true →
    s.on (F.OCT_STAT_VBS_OK n) = true → s.on (F.ST_SCANCTL_NOSCAN st) = false → s.beamsBarred = false →
    s.apcFits st (s.emitterOf st b) = false →
    Gives (.apcSample n m) s (fun t => t.rd (F.OCT_COUNT_APC_SKIP n) =
      satAdd (F.OCT_COUNT_APC_SKIP n).w (s.rd (F.OCT_COUNT_APC_SKIP n)) 1 ∧ RegsOnly s t [F.OCT_COUNT_APC_SKIP n])) ∧
  (∀ (s : State) (b m : Nat), s.rd (F.BM_MOD_LIM_MOD_MIN b) ≤ s.rd (F.BM_MOD_LIM_MOD_MAX b) →
    s.rd (F.BM_MOD_LIM_MOD_MIN b) ≤ s.apcMod b m ∧ s.apcMod b m ≤ s.rd (F.BM_MOD_LIM_MOD_MAX b)) ∧
  (∀ (s : State) (n : Fin 16) (v t0 : Nat), s.up → (s.oct n).bsenAt = some t0 → t0 + 1000000 ≤ s.now → s.vbsIn n v = true →
    Gives (.vbsOk n v) s (fun t => t.rd (F.OCT_STAT_VBS_OK n) = 1 ∧ t.rd (F.OCT_VBS_VBS n) = v % 2 ^ 16 ∧
      RegsOnly s t [F.OCT_STAT_VBS_OK n, F.OCT_VBS_VBS n])) ∧
  (∀ (s : State) (n : Fin 16), s.up → Gives (.octClr n) s (fun t => t.rd (F.OCT_COUNT_WSAT_LINES n) = 0 ∧
    t.rd (F.OCT_COUNT_APC_SKIP n) = 0 ∧ t.rd (F.OCT_STAT_WSAT n) = 0 ∧
    RegsOnly s t [F.OCT_COUNT_WSAT_LINES n, F.OCT_COUNT_APC_SKIP n, F.OCT_STAT_WSAT n]))

/-- R13, R203–R207, R216: the watchdog's cut, a cut that fails, their clears (not of a bit set in the same cycle), the no-scan cut and scan enable. -/
def Obligations.BeamCuts : Prop :=
  (∀ (s : State) (b : Fin 128) (run st : Nat), s.up → s.beams.length = 128 → s.stationOf (b / 8) = some st →
    (s.rd (F.ST_WDOG_MAX_ON st) < run ∨ s.inScan st (s.now * 250) = false →
      Gives (.beamWdCut b run) s (fun t => t.rd (F.BM_STAT_WD_CUT b) = 1 ∧
        t.rd (F.BM_STAT_WD_CAUSE b) = (if s.rd (F.ST_WDOG_MAX_ON st) < run then 1 else 2) ∧ (t.beam b).pulses = [] ∧
        (t.beam b).cutSlots = s.slotsAhead st ∧ (∀ c : Fin 128, c ≠ b → t.beam c = s.beam c))) ∧
    (run ≤ s.rd (F.ST_WDOG_MAX_ON st) → s.inScan st (s.now * 250) = true →
      exec (.beamWdCut b run) s = .next (s.onRun b (2500 * run : Nat)))) ∧
  (∀ (s : State) (b : Fin 128), s.up → s.excluded ((s.stationOf (b / 8)).getD 8) b = true →
    Gives (.cutFail b) s (fun t => t.rd (F.BM_STAT_CUT_FAIL b) = 1 ∧ t.rd F.VIG_LSAFE_SUPPLY_FAULT = 1 ∧
      t.rd F.FAULT_STAT_SAFE = 1 ∧ ∀ x ∈ t.beams, x.pulses = [])) ∧
  (∀ (s : State) (b : Fin 128) (v amps : Nat) (again : Bool), s.up → (∀ x ∈ s.justSet, x.2.2 / 10 ≠ s.now / 10) →
    Gives (.bmStatClear b v amps again) s (fun t =>
    t.rd (F.BM_STAT_WD_CUT b) = (if v.testBit 0 ∧ again = false then 0 else s.rd (F.BM_STAT_WD_CUT b)) ∧
    t.rd (F.BM_STAT_CUT_FAIL b) = (if v.testBit 8 ∧ amps < 500 then 0 else s.rd (F.BM_STAT_CUT_FAIL b)) ∧
    RegsOnly s t [F.BM_STAT_WD_CUT b, F.BM_STAT_CUT_FAIL b])) ∧
  (∀ (s : State) (b : Fin 128) (v amps t : Nat), s.up → t / 10 = s.now / 10 →
    ((F.BM_STAT_WD_CUT b).key, 1, t) ∈ s.justSet →
    Gives (.bmStatClear b v amps false) s (fun t => t.rd (F.BM_STAT_WD_CUT b) = s.rd (F.BM_STAT_WD_CUT b))) ∧
  (∀ (s : State) (b : Fin 128), s.up → Gives (.bmOnmaxClr b) s (fun t =>
    t.rd (F.BM_ONMAX_ONMAX b) = 0 ∧ RegsOnly s t [F.BM_ONMAX_ONMAX b])) ∧
  (∀ (s : State) (st : Fin 8) (per : Nat), s.up → s.duePeriod st = some per → s.on (F.ST_SCANCTL_SCAN_EN st) = true →
    s.on (F.ST_SCANCTL_NOSCAN st) = false → (s.sc st).since * 250 + 2 * per < s.now * 250 →
    Gives (.noScanCut st) s (fun t => t.rd (F.ST_SCANCTL_NOSCAN st) = 1 ∧ t.phase st = 0)) ∧
  (∀ (s : State) (st : Fin 8), s.up →
    (s.on (F.ST_SCANCTL_SCAN_EN st) = false → Gives (.noscanClr st) s (fun t => t.rd (F.ST_SCANCTL_NOSCAN st) = 0 ∧
      RegsOnly s t [F.ST_SCANCTL_NOSCAN st])) ∧
    (s.on (F.ST_SCANCTL_SCAN_EN st) = true → s.phase st = 0 → Gives (.noscanClr st) s (fun t => t.rd (F.ST_SCANCTL_NOSCAN st) = 0 ∧
      t.phase st = 1))) ∧
  (∀ (s : State) (st : Fin 8), s.up →
    Gives (.scanEnWrite st false) s (fun t => t.rd (F.ST_SCANCTL_SCAN_EN st) = 0 ∧ t.phase st = 0 ∧ t.host = s.host) ∧
    (s.on (F.ST_SCANCTL_SCAN_EN st) = false → s.on (F.ST_SCANCTL_NOSCAN st) = false →
      Gives (.scanEnWrite st true) s (fun t => t.rd (F.ST_SCANCTL_SCAN_EN st) = 1 ∧ t.phase st = 1 ∧ t.host = s.host)))

/-- R208–R210, R214: the interlock inputs, the beam supply and the safety latch. -/
def Obligations.SafetyLatch : Prop :=
  (∀ (s : State) (b : Bool), s.up → s.on (if b then F.VIG_LSAFE_B_LOW else F.VIG_LSAFE_A_LOW) = false →
    Gives (.lsafeTrip b) s (fun t => t.rd (if b then F.VIG_LSAFE_B_LOW else F.VIG_LSAFE_A_LOW) = 1 ∧
      t.rd F.VIG_LSAFE_LATCHED ≠ 0 ∧ t.rd F.FAULT_STAT_SAFE = 1 ∧ t.rd F.FAULT_STAT_WSTOP = 1 ∧
      (s.rd F.VIG_LSAFE_LATCHED = 0 → t.rd F.FAULT_STAT_SAFE_SRC = 1 ∧ t.rd F.VIG_LSAFE_TRIPS_TRIPS =
        satAdd F.VIG_LSAFE_TRIPS_TRIPS.w (s.rd F.VIG_LSAFE_TRIPS_TRIPS) 1) ∧
      (∀ x ∈ t.beams, x.pulses = []) ∧ (∀ n : Fin 16, t.rd (F.OCT_STAT_VBS_OK n) = 0))) ∧
  (∀ (s : State) (b : Bool), s.up → s.on (if b then F.VIG_LSAFE_B_LOW else F.VIG_LSAFE_A_LOW) = true →
    Gives (.lsafeInputHigh b) s (fun t => t.rd (if b then F.VIG_LSAFE_B_LOW else F.VIG_LSAFE_A_LOW) = 0 ∧
      t.lsafe.changed = s.now ∧ (if b then t.lsafe.bHigh = s.now else t.lsafe.aHigh = s.now) ∧
      RegsOnly { s with lsafe := t.lsafe } t [if b then F.VIG_LSAFE_B_LOW else F.VIG_LSAFE_A_LOW])) ∧
  (∀ (s : State) (n : Fin 16) (v : Nat), s.up → (s.oct n).bsenAt.isSome = true → s.on (F.OCT_STAT_VBS_OK n) = true →
    s.vbsIn n v = false →
    Gives (.beamSupply n v) s (fun t => t.rd F.VIG_LSAFE_SUPPLY_FAULT = 1 ∧ t.rd F.FAULT_STAT_SAFE = 1 ∧
      t.rd (F.OCT_VBS_VBS n) = v % 2 ^ 16 ∧ t.rd F.VIG_LSAFE_LATCHED ≠ 0 ∧ ∀ x ∈ t.beams, x.pulses = [])) ∧
  (∀ s : State, s.up → s.lsafeDiffer = true → s.on F.VIG_LSAFE_DISAGREE = false → s.lsafe.changed + 50000000 < s.now →
    exec .lsafeDisagree s = .next ((s.wr F.VIG_LSAFE_DISAGREE 1).post 1 0x3261 15 0x200
      [(0, 1, s.rd F.VIG_LSAFE_A_LOW), (1, 1, s.rd F.VIG_LSAFE_B_LOW)])) ∧
  (∀ s : State, s.up → s.lsafeDiffer = false → s.lsafe.changed + 10000000 ≤ s.now →
    Gives .disagreeClear s (fun t => t.rd F.VIG_LSAFE_DISAGREE = 0 ∧ RegsOnly s t [F.VIG_LSAFE_DISAGREE])) ∧
  (∀ (s : State) (k : Nat), s.up → s.lsafeRefusal = some k →
    exec .lsafeClr s = .next (s.post 0 0x3262 15 0x200 [(0, 1, k)])) ∧
  (∀ s : State, s.up → s.lsafeRefusal = none → s.on F.VIG_LSAFE_LATCHED = true →
    Gives .lsafeClr s (fun t => t.rd F.VIG_LSAFE_LATCHED = 0 ∧ t.rd F.VIG_LSAFE_SUPPLY_FAULT = 0 ∧ t.rd F.FAULT_STAT_SAFE = 0 ∧
      t.rd F.FAULT_STAT_SAFE_SRC = 0 ∧ t.rd F.FAULT_STAT_WSTOP = s.rd F.FAULT_STAT_FRAME_STOP % 2 ∧ t.alm = s.alm)) ∧
  (∀ s : State, s.lsafeRefusal = none → s.rd F.VIG_LSAFE_A_LOW = 0 ∧ s.rd F.VIG_LSAFE_B_LOW = 0 ∧
    s.rd F.VIG_LSAFE_DISAGREE = 0 ∧ s.lsafe.aHigh + 10000000 ≤ s.now ∧ s.lsafe.bHigh + 10000000 ≤ s.now ∧
    ∀ b : Fin 128, s.rd (F.BM_STAT_CUT_FAIL b) = 0)

/-- R220–R222, R228, R230: a roll-call window closes, a second missing call drops an emitter, a restore brings it back. -/
def Obligations.RollCall : Prop :=
  (∀ (s : State) (st : Fin 8), s.up → s.scan.length = 8 → (s.sc st).refDone = true → 2 ≤ s.phase st →
    Gives (.rollCallWindowClose st) s (fun t => (t.sc st).edges = [] ∧ (t.sc st).refDone = false ∧
      (t.sc st).last = (s.sc st).edges ∧ (t.sc st).lastTf = (s.sc st).tf.getD 0)) ∧
  (∀ (s : State) (st : Fin 8) (e : Nat) (g : Edge), (s.sc st).edges.find? (fun g => g.e = e) = some g →
    (s.oneCall st e).rd (F.BM_ROLL_MISS_RUN (s.beamOf st e)) = 0) ∧
  (∀ (s : State) (st : Fin 8) (e : Nat), e < 32 → (s.sc st).edges.find? (fun g => g.e = e) = none → s.dropped st e = false →
    (s.rd (F.BM_ROLL_MISS_RUN (s.beamOf st e)) = 0 → (s.oneCall st e).dropped st e = false ∧
      (s.oneCall st e).rd (F.BM_ROLL_MISS_RUN (s.beamOf st e)) = 1 ∧ (s.oneCall st e).host = s.host) ∧
    (s.rd (F.BM_ROLL_MISS_RUN (s.beamOf st e)) = 1 → (s.oneCall st e).dropped st e = true)) ∧
  (∀ (s : State) (st : Fin 8) (v p : Nat), s.up → s.slotOn st = some p →
    Gives (.stDropClr st v) s (fun t => t.rd (F.ST_RESTORE_PEND_PEND st) =
      ((bitsOf 32 v).filter (fun e => s.dropped st e && !(s.sc st).dropNow.any (fun x => x.1 = e && x.2 / 10 = s.now / 10))).foldl
        setBit
        (s.rd (F.ST_RESTORE_PEND_PEND st)) % 2 ^ 32 ∧
      RegsOnly { s with scan := t.scan } t [F.ST_RESTORE_PEND_PEND st])) ∧
  (∀ (s : State) (st : Fin 8) (e : Fin 32), s.up → s.slotOn st = none → s.dropped st e = true →
    s.rd (F.ST_RESTORE_PEND_PEND st) = 0 → (∀ x ∈ (s.sc st).dropNow, x.1 = e.val → x.2 / 10 ≠ s.now / 10) →
    Gives (.stDropClr st (2 ^ e.val)) s (fun t => t.dropped st e = false ∧ t.rd (F.ST_RESTORE_PEND_PEND st) = 0 ∧
      t.rd (F.BM_ROLL_MISS_RUN (s.beamOf st e)) = 0 ∧ t.alm = s.alm)) ∧
  (∀ (s : State) (st : Fin 8), s.up → Gives (.stRollClr st) s (fun t => t.rd (F.ST_ROLL_MISSES_MISSES st) = 0 ∧
    t.rd (F.ST_HEAL_LINES_HEALED st) = 0 ∧ t.rd (F.ST_HALF_LINES_HALF st) = 0 ∧ t.rd (F.ST_HEAL_CLAMP_CLAMP st) = 0 ∧
    t.rd (F.ST_ROLL_STAT_CROWDED st) = 0 ∧ RegsOnly s t [F.ST_ROLL_MISSES_MISSES st, F.ST_HEAL_LINES_HEALED st,
      F.ST_HALF_LINES_HALF st, F.ST_HEAL_CLAMP_CLAMP st, F.ST_ROLL_STAT_CROWDED st]))

/-- R235, R237, R241: doorbells, rings enabled and disabled; every host reset disables the rings and the fence windows, and its
event is posted as the link returns, or as an FLR completes. -/
def Obligations.RingsAndHostResets : Prop :=
  (∀ (s : State) (q : Fin 32) (v : Nat), s.native → s.ringState q ≠ 0 → v < s.ringSize q → v < 65536 →
    (isH2D q = true → q ≠ 28 → Gives (.doorbell q v) s (fun t => t.rd (F.RING_IDX_PI q) = v ∧ RegsOnly s t [F.RING_IDX_PI q])) ∧
    (isH2D q = false → Gives (.doorbell q v) s (fun t => t.rd (F.RING_IDX_CI q) = v ∧
      (∀ k : Fin 32, k ≠ q → t.ring k = s.ring k) ∧ RegsOnly { s with rings := t.rings } t [F.RING_IDX_CI q]))) ∧
  (∀ (s : State) (q : Fin 32) (v : Nat), s.native → s.ringState q = 0 →
    exec (.doorbell q v) s = .next (s.post 1 0x9020 2 q [(0, 4, v), (4, 1, 1)])) ∧
  (∀ (s : State) (q : Fin 32) (v : Nat), s.native → s.ringState q ≠ 0 → s.ringSize q ≤ v →
    exec (.doorbell q v) s = .next (s.post 1 0x9020 2 q [(0, 4, v)])) ∧
  (∀ (s : State) (q : Fin 32), s.native → s.rings.length = 32 → s.ringState q = 0 → s.ringBad q = none →
    Gives (.ringEnable q) s (fun t => t.ringState q = 1 ∧ t.rd (F.RING_IDX_PI q) = 0 ∧ t.rd (F.RING_IDX_CI q) = 0 ∧
      (t.ring q).lap = 0 ∧ (t.ring q).fetched = [] ∧ (∀ k : Fin 32, k ≠ q → t.ring k = s.ring k ∧ t.ringState k = s.ringState k))) ∧
  (∀ (s : State) (q : Fin 32) (r : Nat), s.native → s.ringState q = 0 → s.ringBad q = some r →
    exec (.ringEnable q) s = .next (s.post 1 0x9023 2 q [(0, 1, r)])) ∧
  (∀ (s : State) (q : Fin 32), s.native → s.rings.length = 32 → s.ringState q ≠ 0 →
    Gives (.ringDisable q) s (fun t => t.ringState q = 0 ∧ (t.ring q).fetched = [] ∧ t.rd (F.RING_IDX_PI q) = s.rd (F.RING_IDX_PI q) ∧
      RegsOnly { s with rings := t.rings, host := t.host } t [F.RING_STAT_STATE q, F.RING_CTL_EN q] ∧ t.host.evq = s.host.evq ∧
      (s.someWaits = true → t.host = s.host))) ∧
  (∀ s : State, s.up →
    (∀ c ∈ [Instr.perstAssert, Instr.linkDown, Instr.functionLevelReset], Gives c s (fun t =>
      (∀ q : Fin 32, t.ringState q = 0 ∧ t.rd (F.RING_CTL_EN q) = 0 ∧ t.rd (F.RING_IDX_PI q) = 0 ∧ t.rd (F.RING_IDX_CI q) = 0) ∧
      (∀ w : Fin 64, t.rd (F.FW_BASE_LO_VALID w) = 0) ∧ (∀ write a n, t.inWindow write a n = false) ∧
      (∀ v ∈ t.host.vecs, v.masked = true ∧ v.pendingBit = false) ∧
      t.host.evq = s.host.evq ∧ t.alm = s.alm ∧ t.staged = s.staged))) ∧
  (∀ s : State, s.up → Gives .perstAssert s (fun t => t.host.perst = true ∧ t.host.linkUp = false ∧ t.host.resetCause = some 0) ∧
    Gives .linkDown s (fun t => t.host.linkUp = false ∧ t.host.resetCause = some 1) ∧
    Gives .functionLevelReset s (fun t => t.host.flrAt = some s.now ∧ t.host.resetCause = s.host.resetCause)) ∧
  (∀ (s : State) (t0 : Nat), s.up → s.host.flrAt = some t0 →
    exec .flrComplete s = .next (({ s with host := { s.host with flrAt := none } }).post 1 0x9022 1 0 [(0, 1, 2)])) ∧
  (∀ (s : State) (k : Nat), s.up → s.host.resetCause = some k →
    exec .linkUp s = .next (({ s with host := { s.host with linkUp := true, perst := false, resetCause := none } } : State).freeWakeN.post 1 0x9022 1 0
      [(0, 1, k)])) ∧
  (∀ s : State, s.up → s.host.resetCause = none →
    exec .linkUp s = .next ({ s with host := { s.host with linkUp := true, perst := false } } : State).freeWakeN)

/-- R242, R243, R540: descriptors are read, read again where their PHASE is wrong, retried after an error, and the ring
stops in ERROR when the second read fails too. -/
def Obligations.DescriptorReads : Prop :=
  (∀ (s : State) (q : Fin 32) (d : Desc), s.up → isH2D q = true → s.ringState q = 1 → (s.ring q).rereadAt = none →
    (s.ring q).errAt = none → (s.ring q).fetched.length < s.produced q →
    (dPhase d = s.expectedPhase q (s.ring q).fetched.length →
      exec (.descriptorRead q d) s = .next ((s.modRing q (fun g => { g with
        fetched := g.fetched ++ [d], found := g.found ++ [s.etime], rereadAt := none, retry := false })).settleHead q 1)) ∧
    (dPhase d ≠ s.expectedPhase q (s.ring q).fetched.length →
      exec (.descriptorRead q d) s = .next (s.modRing q (fun g => { g with rereadAt := some (s.now + 2000) })))) ∧
  (∀ (s : State) (q : Fin 32) (d : Desc) (t : Nat), s.up → s.ringState q = 1 → (s.ring q).rereadAt = some t → t ≤ s.now →
    (dPhase d = s.expectedPhase q (s.ring q).fetched.length → exec (.phaseReread q d) s = .next (s.gotDesc q d)) ∧
    (dPhase d ≠ s.expectedPhase q (s.ring q).fetched.length →
      exec (.phaseReread q d) s = .next (s.readFailed q 1 (dPhase d)))) ∧
  (∀ (s : State) (q : Fin 32) (c p : Nat), s.headTxn q = none → s.readFailed q c p = s.ringError q c p) ∧
  (∀ (s : State) (q : Fin 32) (c p : Nat), s.rings.length = 32 → c < 4 →
    (s.ringError q c p).ringState q = 3 ∧ (s.ringError q c p).rd (F.RING_STAT_ERR_CAUSE q) = c ∧
    ((s.ringError q c p).ring q).fetched = [] ∧ (∀ k : Fin 32, k ≠ q → (s.ringError q c p).ring k = s.ring k)) ∧
  (∀ (s : State) (q : Fin 32), s.up → isH2D q = true → s.ringState q = 1 → q ≠ 28 → (s.ring q).errAt = none →
    (s.ring q).fetched.length < s.produced q →
    ((s.ring q).retry = false → exec (.readErrorRetry (.desc q) false) s = .next (s.modRing q (fun g => { g with retry := true }))) ∧
    ((s.ring q).retry = true → exec (.readErrorRetry (.desc q) true) s = .next (s.readFailed q 2 0))) ∧
  (∀ (s : State) (p : Fin 160) (st : Fin 8) (tag : Bool), s.up → (s.slot p).st = .staging → (s.slot p).mask.testBit st = true →
    exec (.readErrorRetry (.stage p st tag) false) s =
      .next (s.modSlot p (fun x => { x with retries := x.retries ++ [(st.val, tag)] }))) ∧
  (∀ (s : State) (d : Desc), s.up → s.ringState 28 = 1 → (s.ring 28).polledAt = none → (s.ring 28).fetched = [] →
    (s.ring 28).rereadAt = none → (s.ring 28).errAt = none → dPhase d = s.expectedPhase 28 0 → s.produced 28 ≠ 0 →
    exec (.q28Poll d) s = .next ((s.modRing 28 (fun g => { g with polledAt := some s.now })).gotDesc 28 d)) ∧
  (∀ (s : State) (d : Desc), s.up → s.ringState 28 = 1 → (s.ring 28).polledAt = none → (s.ring 28).fetched = [] →
    (s.ring 28).rereadAt = none → (s.ring 28).errAt = none → dPhase d ≠ s.expectedPhase 28 0 → (s.ring 28).bell = s.rd (F.RING_IDX_CI 28) →
    exec (.q28Poll d) s = .next (s.modRing 28 (fun g => { g with polledAt := some s.now })))

/-- R249–R253, R260, R261: writebacks, event records, completion records, and messages. -/
def Obligations.RecordsAndMessages : Prop :=
  (∀ (s : State) (q : Fin 32), s.up → s.rings.length = 32 → (s.ring q).wbDue = true → (s.ring q).wbAt = none → s.ringWb q ≠ 0 →
    isH2D q = true → s.inWindow true (s.ringWb q) 4 = true →
    Gives (.ringWbWrite q) s (fun t => (t.ring q).wbDue = false ∧ (t.ring q).wbValue = s.rd (F.RING_IDX_CI q) ∧
      (t.ring q).wbAt = some s.now ∧ t = { s with rings := t.rings } ∧ ∀ k : Fin 32, k ≠ q → t.ring k = s.ring k)) ∧
  (∀ (s : State) (q : Fin 32), s.up → s.inWindow true (s.ringWb q) 4 = false → exec (.ringWbWrite q) s = .next s) ∧
  (∀ (s : State) (e : Ev) (rest : List Ev), s.up → s.host.evq = e :: rest → s.roomFor 25 ⟨[eventEntry e], false, none, none, none⟩ = true →
    exec .eventRecordWrite s =
      .next (({ s with host := { s.host with evq := rest } }.putRec 25 ⟨[eventEntry e], false, none, none, none⟩).vecCause
        (eventVector e.code e.sev) (3 ≤ e.sev))) ∧
  (∀ (s : State) (r : Rec) (rest : List Rec), s.up → (s.ring 24).waiting = r :: rest → s.roomFor 24 r = true →
    exec .machDoneWrite s =
      .next ((s.begunWait ((s.modRing 24 (fun g => { g with waiting := rest })).putRec 24 r)).doneTrace r.trace)) ∧
  (∀ (s : State) (v : Fin 64) (t0 : Nat), s.up → s.host.vecs.length = 64 → (s.host.vecs.getD v {}).firstAt = some t0 →
    t0 + s.rd (F.VEC_MOD_MOD_TIME v) * 1000 ≤ s.now →
    Gives (.msixModTimer v) s (fun t => (t.host.vecs.getD v {}) = (s.host.vecs.getD v {}).send ∧
      (∀ k : Fin 64, k ≠ v → t.host.vecs.getD k {} = s.host.vecs.getD k {}) ∧ t.regs = s.regs ∧ t.host.evq = s.host.evq)) ∧
  (∀ (s : State) (v : Fin 64), s.up → s.host.vecs.length = 64 →
    Gives (.msixUnmask v) s (fun t => (t.host.vecs.getD v {}).masked = false ∧ (t.host.vecs.getD v {}).pendingBit = false ∧
      (t.host.vecs.getD v {}).sent = (s.host.vecs.getD v {}).sent + b2n (s.host.vecs.getD v {}).pendingBit ∧ t.regs = s.regs)) ∧
  (∀ (s : State) (n : Nat), n < s.host.vecs.length → s.rd F.GLB_MODE_MODE = 0 → (s.host.vecs.getD n {}).masked = false →
    ((s.vecCause n true).host.vecs.getD n {}).sent = (s.host.vecs.getD n {}).sent + 1) ∧
  (∀ (s : State) (q : Nat) (r : Rec), s.roomFor q r = false → s.putOrDrop q r = s.inc (F.RING_DISCARD_DISCARD q)) ∧
  (∀ (s : State) (sev code block inst : Nat) (d : BitVec 80) (src tag : Nat), s.host.evq.length ≤ 256 →
    (s.postRaw sev code block inst d src tag).host.evq.length ≤ 256) ∧
  (∀ (s : State) (sev code block inst : Nat) (d : BitVec 80) (src tag : Nat), s.rd F.GLB_MODE_MODE = 0 → sev ≤ 1 →
    256 ≤ s.host.evq.length → (s.postRaw sev code block inst d src tag).host.evq = s.host.evq ∧
    (s.postRaw sev code block inst d src tag).rd F.EVT_DROPPED_DROPPED =
      satAdd F.EVT_DROPPED_DROPPED.w (s.rd F.EVT_DROPPED_DROPPED) 1)

/-- R244, R258, R259: ring administration, each transaction all or nothing. -/
def Obligations.RingAdministration : Prop :=
  (∀ (s : State) (ds : List Desc), s.ringReady 31 ds →
    let u := (s.passTxn 31 ds.length).trace 0 31 ds 0
    let m := (u.newTxn 31 ds 0).1
    let a := match adminAll 0 ds (u.newTxn 31 ds 0).2 false with
      | .inl (i, st) => (u.newTxn 31 ds 0).2.finishTxn { m with status := st, failIndex := i, failOp := dOpcode (ds.getD i 0) }
      | .inr (v, nar) =>
        let w := (u.newTxn 31 ds 0).2.begunWait v; if nar && s.openTransfers != [] then w.modTxn m.id (fun m => { m with holds := s.openTransfers }) else w.finishTxn m
    let t := a.settleHead 31 ds.length
    (dOpcode (ds.headD 0) = 0x70 → exec .ringStop s = .next t) ∧ (dOpcode (ds.headD 0) = 0x71 → exec .ringStart s = .next t) ∧
    (dOpcode (ds.headD 0) = 0x72 → exec .ringReset s = .next t) ∧ (dOpcode (ds.headD 0) = 0x73 → exec .ringResize s = .next t) ∧
    (dOpcode (ds.headD 0) = 0x74 → exec .fenceSet s = .next t) ∧ (dOpcode (ds.headD 0) = 0x75 → exec .fenceClear s = .next t)) ∧
  (∀ (s : State) (d : Desc), dCount d = 0 → dZero d 9 63 = true → dField d 8 1 < 31 →
    (dOpcode d = 0x70 → s.ringState (dField d 8 1) = 1 → s.admin d = .inr (s.wr (F.RING_STAT_STATE (dField d 8 1)) 2, false)) ∧
    (dOpcode d = 0x71 → s.ringState (dField d 8 1) = 2 → s.admin d = .inr (s.wr (F.RING_STAT_STATE (dField d 8 1)) 1, false)) ∧
    (dOpcode d = 0x72 → s.ringState (dField d 8 1) = 2 ∨ s.ringState (dField d 8 1) = 3 →
      s.admin d = .inr ((s.zeroRing (dField d 8 1)).wr (F.RING_STAT_STATE (dField d 8 1)) 2, false)) ∧
    (dOpcode d = 0x70 → s.ringState (dField d 8 1) ≠ 1 → s.admin d = .inl 5) ∧
    (dOpcode d = 0x71 → s.ringState (dField d 8 1) ≠ 2 → s.admin d = .inl 5) ∧
    (dOpcode d = 0x72 → s.ringState (dField d 8 1) = 0 ∨ s.ringState (dField d 8 1) = 1 → s.admin d = .inl 5)) ∧
  (∀ (s : State) (d : Desc), dOpcode d = 0x70 ∨ dOpcode d = 0x71 ∨ dOpcode d = 0x72 → dCount d = 0 → dZero d 9 63 = true →
    dField d 8 1 = 31 → s.admin d = .inl 5) ∧
  (∀ (s : State) (d : Desc) (v : State) (b : Bool), s.admin d = .inr (v, b) → dOpcode d = 0x74 →
    v.fwBase (dField d 8 1) = dField d 16 8 ∧ v.windowsHold = true ∧ v.rd (F.FW_BASE_LO_VALID (dField d 8 1)) = 1 ∧
    v.rd (F.FW_BASE_LO_READ (dField d 8 1)) = dField d 9 1 % 2 ∧ v.rd (F.FW_BASE_LO_WRITE (dField d 8 1)) = dField d 9 1 / 2) ∧
  (∀ (i : Nat) (ds : List Desc) (s v : State) (n b : Bool), adminAll i ds s n = .inr (v, b) → v.alm = s.alm ∧ v.host = s.host ∧
    v.band = s.band)

/-- R267, R268, R270–R274, R276–R280: bezel transactions and commands: writes are staged, commits accepted or refused in
whole, discards drop what was staged, ARM and DISARM. -/
def Obligations.Bezel : Prop :=
  (∀ (s : State) (q : Fin 32) (ds : List Desc) (v : State) (waits res : Nat), s.machReady q ds →
    (s.machState q ds).applyMach (s.machRef q ds) ds = .done v waits res → s.entersVigil ds = false → s.endsCycle ds = false →
    (bezelRow ds = 0x40 → exec (.bzWrite q) s = .next (s.machAnswer q ds v waits res)) ∧
    (bezelRow ds = 0x41 → exec (.bzCommit q) s = .next (s.machAnswer q ds v waits res)) ∧
    (bezelRow ds = 0x44 → exec (.bzDiscard q) s = .next (s.machAnswer q ds v waits res)) ∧
    (bezelRow ds = 0x42 → exec (.arm q) s = .next (s.machAnswer q ds v waits res)) ∧
    (bezelRow ds = 0x43 → exec (.disarm q) s = .next (s.machAnswer q ds v waits res))) ∧
  (∀ (s : State) (q : Fin 32) (ds : List Desc), s.machReady q ds → s.endsCycle ds = true →
    let t := (s.machLate q ds).settleHead q ds.length
    (bezelRow ds = 0x40 → exec (.bzWrite q) s = .next t) ∧ (bezelRow ds = 0x41 → exec (.bzCommit q) s = .next t) ∧
    (bezelRow ds = 0x44 → exec (.bzDiscard q) s = .next t) ∧ (bezelRow ds = 0x42 → exec (.arm q) s = .next t) ∧
    (bezelRow ds = 0x43 → exec (.disarm q) s = .next t)) ∧
  (∀ (s : State) (ref : Nat) (d : Desc), dOpcode d = 0x42 → bezelShape [d] = true → bezelFormat d = true → s.armRefusal = none →
    s.applyMach ref [d] = .done (s.arm 2 (dTag d)) 0 0) ∧
  (∀ (s : State) (ref : Nat) (d : Desc), dOpcode d = 0x43 → bezelShape [d] = true → bezelFormat d = true → s.inFlight = 0 →
    s.applyMach ref [d] = .done (s.disarm (dTag d)) 0 0) ∧
  (∀ (s : State) (ref : Nat) (d : Desc), dOpcode d = 0x40 → bezelShape [d] = true → bezelFormat d = true → ∀ v : State,
    bezelAll (dTag d) [d] s = .done v 0 0 → s.applyMach ref [d] = .done v 0 0) ∧
  (∀ (s : State) (ref i : Nat) (ds : List Desc) (h : RegHit) (f : Fld) (v : State), dOpcode (ds.headD 0) = 0x40 →
    bezelShape ds = true → ds.all bezelFormat = true → bezelWrites (dTag (ds.headD 0)) 0 ds s = .done v 0 0 →
    lateWrite ds v = some (i, h, f) →
    s.applyMach ref ds = .fail i 4 (256 + groupId h.group % 256) (bezelResult (fieldId f.key) (groupId h.group) 0)
      (fun t => t.noteFrozen 2 h f (dTag (ds.headD 0)))) ∧
  (∀ (s : State) (ref : Nat) (d : Desc), dOpcode d = 0x44 → dField d 8 1 = 0 → bezelShape [d] = true → bezelFormat d = true →
    s.discardFail s.writtenGroups = none → ∃ n, s.applyMach ref [d] = .done (s.discard s.writtenGroups) 0 n) ∧
  (∀ (s : State) (gs : List Nat) (k : Nat), gs.contains (groupOfKey k) = true → amFind (s.discard gs).staged k = none) ∧
  (∀ s : State, s.up → s.commitFail s.writtenGroups = none →
    exec .bezelCmdCommitAll s = .next (s.acceptCommit s.writtenGroups none)) ∧
  (∀ (s : State) (g : Nat), s.up → groupOfFieldId (s.rd F.BEZEL_CMD_FIELD_FIELD_ID) = some g →
    (s.commitFail [g] = none → exec .bezelCmdCommitGroup s = .next (s.acceptCommit [g] none)) ∧
    (s.discardFail [g] = none → exec .bezelCmdDiscardGroup s = .next (s.discard [g]))) ∧
  (∀ s : State, s.up → s.discardFail s.writtenGroups = none →
    exec .bezelCmdDiscardAll s = .next (s.discard s.writtenGroups)) ∧
  (∀ s : State, s.up → s.armRefusal = none → s.rd F.GLB_MODE_MODE = 0 →
    Gives .bezelCmdArm s (fun t => t.rd F.GLB_STATE_ARMED = 1 ∧ t.rd F.GLB_STATE_HOLD = 0)) ∧
  (∀ s : State, s.up → s.inFlight = 0 → s.rd F.GLB_MODE_MODE = 0 →
    Gives .bezelCmdDisarm s (fun t => t.rd F.GLB_STATE_ARMED = 0 ∧ t.rd F.GLB_STATE_HOLD = 1)) ∧
  (∀ (s : State) (fid : Word) (g k : Nat) (rest : List Nat), s.up → groupOfFieldId fid.toNat = some g →
    s.stagedKeys g ++ (s.leg.due.map (·.1)).filter (fun k => groupOfKey k = g) = k :: rest →
    s.effectDue (kindOfKey k).1 (kindOfKey k).2.1 = true → exec (.commitEffect fid) s = .next (s.boundary g))

/-- R285–R288, R290, R298, R299, R306: the states of a PLL: enable, search, lock and its loss, the pins LOCKA, the reference,
clears. -/
def Obligations.PllStates : Prop :=
  (∀ (s : State) (p : Fin 12), s.up → 4 ≤ p.val → Gives (.pllEnable p false) s (fun t =>
    t.rd (F.PLL_CTL_EN p) = 0 ∧ t.pllState p = 0 ∧ t.rd (F.PLL_RAMP_STAT_RUN p) = 0 ∧ t.host = s.host)) ∧
  (∀ (s : State) (p : Fin 12), s.up → 4 ≤ p.val → s.pllState p = 0 → (s.wr (F.PLL_CTL_EN p) 1).domOn (4 + p) = true →
    exec (.pllEnable p true) s =
      .next ((s.wr (F.PLL_CTL_EN p) 1).acquire p ((s.wr (F.PLL_CTL_EN p) 1).rd (F.PLL_FCW_FCW p)) none true 0)) ∧
  (∀ (s : State) (p : Fin 12) (fcw k tag : Nat) (h : Bool), s.bezel.pending = [] → s.bandServes p fcw = some k →
    (s.acquire p fcw none h tag).pllState p = 2 ∧ (s.acquire p fcw none h tag).rd (F.PLL_STAT_SRC p) = 0 ∧
    (s.acquire p fcw none h tag).rd (F.PLL_STAT_BAND p) = k) ∧
  (∀ (s : State) (p : Fin 12) (cap : Nat), s.up → (s.pll p).searching = true → (s.pll p).pullAt + 36000 ≤ s.now →
    Gives (.pllSearchDone p cap) s (fun t => t.pllState p = 2 ∧ t.rd (F.PLL_STAT_CAP p) = cap % 256 ∧ t.host = s.host)) ∧
  (∀ (s : State) (p : Fin 12) (err : Int), s.up → s.pllState p = 2 → err.natAbs ≤ s.rd (F.PLL_LOCKCFG_CWIN p) →
    Gives (.pllCoarseLock p err) s (fun t => t.pllState p = 3 ∧ t.rd (F.PLL_COUNT_LOSSES p) = s.rd (F.PLL_COUNT_LOSSES p) ∧
      t.host = s.host ∧ t.alm = s.alm)) ∧
  (∀ (s : State) (p : Fin 12) (err : Int) (mean k : Nat), s.up → s.pllState p = 3 → err.natAbs ≤ s.rd (F.PLL_LOCKCFG_LOCK_WIN p) →
    (s.pll p).hops = [] → s.hopFor p (s.fcwUse p) = some k →
    Gives (.pllFine p err mean) s (fun t => t.pllState p = 4 ∧ t.rd (F.PLL_HOP_A_FCW p k) = s.fcwUse p ∧
      t.rd (F.PLL_HOP_B_VALID p k) = 1 ∧ t.rd (F.PLL_HOP_B_FINE p k) = mean % 65536)) ∧
  (∀ (s : State) (p : Fin 12) (err : Int), s.up → s.pllState p = 4 → s.rd (F.PLL_LOCKCFG_LOCK_WIN p) < err.natAbs →
    exec (.pllFineLost p err) s = .next (((s.noteErr p err).setPll p 3 0x4011).post 1 0x4010 7 p [(0, 2, uBits 16 err)])) ∧
  (∀ (s : State) (p : Fin 12) (err : Int), s.up → s.coarse p = true → s.rd (F.PLL_LOCKCFG_CWIN p) < err.natAbs →
    Gives (.pllLockLost p err) s (fun t => t.pllState p = 2 ∧
      t.rd (F.PLL_COUNT_LOSSES p) = satAdd (F.PLL_COUNT_LOSSES p).w (s.rd (F.PLL_COUNT_LOSSES p)) 1 ∧
      (p.val < 4 → t.rd F.FAULT_STAT_FRAME_STOP ≠ 0))) ∧
  (∀ (s : State) (p : Fin 12), s.up → (s.coarse p = true →
      exec (.pllCodeLimit p) s = let u := s.postLockLost p 1 (s.pllSlot p); .next (u.acquire p (u.fcwUse p) none false 0)) ∧
    (s.coarse p = false → s.pllState p = 2 → exec (.pllCodeLimit p) s = .next (s.acquire p (s.fcwUse p) none false 0))) ∧
  (∀ (s : State) (p : Fin 12), s.up → s.pllState p = 2 → (s.pll p).pullAt + 1000000 ≤ s.now →
    ((s.pll p).searched = false → s.on (F.PLL_CTL_SEARCH_EN p) = true →
      exec (.pllPullTimeout p) s = .next (s.startSearch p)) ∧
    ((s.pll p).searched = true → Gives (.pllPullTimeout p) s (fun t => t.pllState p = 0))) ∧
  (∀ (s : State) (means : List Nat), s.up → s.on F.CLK_REF_REF_OK = true → Gives (.refLost means) s (fun t =>
    t.rd F.CLK_REF_REF_OK = 0 ∧ t.rd F.FAULT_STAT_FRAME_STOP ≠ 0 ∧ t.clk.refLostAt = s.now ∧
    ∀ p : Fin 12, t.pllState p = if s.pllState p = 2 ∨ s.pllState p = 3 ∨ s.pllState p = 4 then 5 else s.pllState p)) ∧
  (∀ s : State, s.up → s.on F.CLK_REF_REF_OK = false → s.clk.refLostAt + 10000 ≤ s.now → Gives .refRestored s (fun t =>
    t.rd F.CLK_REF_REF_OK = 1 ∧ ∀ p : Fin 12, t.pllState p = if s.pllState p = 5 then 2 else s.pllState p)) ∧
  (∀ (s : State) (p : Fin 12), s.up → Gives (.pllClr p) s (fun t => t.rd (F.PLL_PHERR_PEAK p) = 0 ∧
    t.rd (F.PLL_COUNT_LOSSES p) = 0 ∧ t.rd (F.PLL_COUNT_ACQS p) = 0 ∧
    RegsOnly s t [F.PLL_PHERR_PEAK p, F.PLL_COUNT_LOSSES p, F.PLL_COUNT_ACQS p])) ∧
  (∀ (s : State) (p : Fin 12) (m : Nat), s.up → Gives (.pllHopClr p m) s (fun t => t = { s with regs := t.regs } ∧
    ∀ k : Fin 16, if m.testBit k then t.rd (F.PLL_HOP_A_FCW p k) = 0 ∧ t.rd (F.PLL_HOP_B_VALID p k) = 0
      else t.rd (F.PLL_HOP_A_FCW p k) = s.rd (F.PLL_HOP_A_FCW p k) ∧ t.rd (F.PLL_HOP_B_VALID p k) = s.rd (F.PLL_HOP_B_VALID p k))) ∧
  (∀ (s : State) (p : Fin 12) (t0 : Nat), s.up → s.clk.plls.length = 12 → (s.pll p).hops = [(none, t0)] → t0 + 2000000 ≤ s.now →
    Gives (.clkHopTimeout p) s (fun t => (t.pll p).hops = [] ∧ t.rd F.CLK_CMD_STAT_BUSY = 0 ∧ t.rd F.CLK_CMD_STAT_STATUS = 8 ∧
      t.host = s.host ∧ t.alm = s.alm)) ∧
  (∀ (s : State) (p : Fin 4), s.lockPins.clk.lockA.getD p false =
    (s.pllState p != 0 && decide ((s.rdS (F.PLL_PHERR_ERR p)).natAbs ≤ s.rd (F.PLL_LOCKCFG_LOCK_WIN p)))) ∧
  (∀ (s : State) (p : Fin 12) (err : Int), s.up → p.val < 4 → s.pllState p = 4 → s.rd (F.PLL_LOCKCFG_LOCK_WIN p) < err.natAbs →
    err.natAbs < 32768 → Gives (.pllFineLost p err) s (fun t => t.clk.lockA.getD p true = false))

/-- R291, R294, R295, R300–R302, R308: hops, ramps and sweeps through a machine ring and through CLK_CMD; the guard of a
privileged output leaves no slice below its CEIL; outputs. -/
def Obligations.ClockCommands : Prop :=
  (∀ (s : State) (q : Fin 32) (d : Desc), s.machReady q [d] → dOpcode d = 0x3C →
    exec (.clkHop q) s = .next ((s.machLate q [d]).settleHead q 1)) ∧
  (∀ (s v : State) (q : Fin 32) (d : Desc) (w r : Nat), s.machReady q [d] →
    (s.machState q [d]).applyMach (s.machRef q [d]) [d] = .done v w r →
    (dOpcode d = 0x3D → dField d 9 1 = 0 → exec (.clkRampStart q) s = .next (s.machAnswer q [d] v w r)) ∧
    (dOpcode d = 0x3D → dField d 9 1 = 1 → exec (.clkRampStopHold q) s = .next (s.machAnswer q [d] v w r)) ∧
    (dOpcode d = 0x3D → dField d 9 1 = 2 → exec (.clkRampStopReturn q) s = .next (s.machAnswer q [d] v w r)) ∧
    (dOpcode d = 0x3E → exec (.clkSweep q) s = .next (s.machAnswer q [d] v w r))) ∧
  (∀ (s : State) (ref : Nat) (d : Desc), clkFormat d = true → 4 ≤ dField d 8 1 →
    (dOpcode d = 0x3C → dField d 9 1 = 0 →
      s.applyMach ref [d] = s.clkHop (some ref) (dField d 8 1) (dField d 12 4) none (dTag d)) ∧
    (dOpcode d = 0x3D → dField d 9 1 = 0 → s.pllState (dField d 8 1) = 4 →
      ∃ u : State, u.rd (F.PLL_RAMP_STAT_RUN (dField d 8 1)) = 1 ∧ s.applyMach ref [d] = .done u 0 0) ∧
    (dOpcode d = 0x3D → dField d 9 1 = 1 →
      s.applyMach ref [d] = .done ((s.endReturn (dField d 8 1)).wr (F.PLL_RAMP_STAT_RUN (dField d 8 1)) 0) 0 0) ∧
    (dOpcode d = 0x3D → dField d 9 1 = 2 →
      let u := (s.endReturn (dField d 8 1)).wr (F.PLL_RAMP_STAT_RUN (dField d 8 1)) 0
      s.applyMach ref [d] = if u.fcwUse (dField d 8 1) = u.rd (F.PLL_FCW_FCW (dField d 8 1)) then .done u 0 0
        else .done (u.modPll (dField d 8 1) (fun x => { x with returning := true, rampNext := u.now + 10000, backs := [some ref] })) 1 0) ∧
    (dOpcode d = 0x3E → s.pllState (dField d 8 1) = 0 → (s.pll (dField d 8 1)).sweep = none →
      s.applyMach ref [d] = .done (s.modPll (dField d 8 1) (fun x => { x with
        sweep := some ⟨dField d 9 1, dField d 10 1 == 1, dField d 11 1, s.now, some ref, false⟩ })) 1 0)) ∧
  (∀ (s : State) (ref : Option Nat) (p fcw tag : Nat) (h : RegHit), 4 ≤ p → p < 12 → findReg (F.PLL_FCW_FCW p).off = some h →
    let u := if ref.isSome then s.stage (F.PLL_FCW_FCW p) fcw else s.putField .rwf (F.PLL_FCW_FCW p) fcw
    s.writeRefusal h .rwf = 0 → u.commitFail [h.group] = none →
    s.clkHop ref p fcw none tag = .done ((u.modPll p (fun x => { x with
      nextEntry := none, nextTag := tag, hops := x.hops ++ [(ref, s.now)] })).acceptCommit [h.group] none) 1 0) ∧
  (∀ (s : State) (ref : Nat) (d : Desc), clkFormat d = true → dField d 8 1 < 4 → dOpcode d = 0x3C →
    ∃ n, s.applyMach ref [d] = .fail 0 5 0 0 n) ∧
  (∀ (s : State) (p : Fin 12) (j : SweepJob) (fmin fmax kdco : Nat), s.up → (s.pll p).sweep = some j → j.start + 40000 ≤ s.now →
    j.boot = false → j.stage = false → s.pllState p = 0 →
    exec (.sweepComplete p fmin fmax kdco) s = .next ((s.modPll p (fun x => { x with sweep := none })).clkEnd j.ref 0 0
      (packBytes [(0, 2, fmin), (2, 2, fmax), (4, 2, kdco), (6, 1, j.cap)]))) ∧
  (∀ (s : State) (p : Fin 12) (seg ask : Nat), s.up → 4 ≤ p.val → s.on (F.PLL_RAMP_STAT_RUN p) = true → (s.pll p).returning = false →
    (s.pll p).rampNext ≤ s.now → s.rampAsk p = (seg, ask) → s.fcwUse p - s.fcwUse p / 10000 ≤ ask →
    ask ≤ s.fcwUse p + s.fcwUse p / 10000 →
    exec (.rampUpdate p []) s = .next (((((s.wr (F.PLL_RAMP_STAT_SEG p) seg).modPll p (fun x => { x with
      rampNext := s.now + 10000 })).wr (F.PLL_RAMP_STAT_LIMITED p) 0).rampMove p ask ask).returnDone p)) ∧
  (∀ (s : State) (p : Nat) (r : Option Nat), (s.pll p).backs = [r] → s.fcwUse p = s.rd (F.PLL_FCW_FCW p) →
    s.returnDone p = (s.modPll p (fun x => { x with returning := false, backs := [] })).clkEnd r 0 0 0) ∧
  (∀ (s : State) (p : Fin 12) (fcw ask k : Nat), s.bandInUse p = some k → s.bandHas p k fcw = true →
    (s.rampMove p fcw ask).rd (F.PLL_RAMP_FCW_FCW_NOW p) = fcw % 2 ^ 32) ∧
  (∀ ceil iv per : Nat, 0 < per → ceil * 250 ≤ iv + guardEdges ceil iv per * per ∧
    (ceil * 250 ≤ iv → guardEdges ceil iv per = 0)) ∧
  (∀ (s : State) (st : Nat) (g : List (Nat × Nat)), (∀ x ∈ g, s.rd (F.CLK_OUT_CEIL_CEIL st) * 250 ≤ x.1) → s.swallow st g = s) ∧
  (∀ (s : State) (c : Fin 24) (on : Bool), s.up → 20 ≤ c.val → Gives (.clkOutEnable c on) s (fun t =>
    t.rd (F.CLK_OUT_CTL_EN c) = b2n on ∧
    RegsOnly s t (F.CLK_OUT_CTL_EN c :: (List.range 24).map F.CLK_OUT_STAT_RUNNING))) ∧
  (∀ (s : State) (p : Fin 16) (arg ent : Fin 256), s.up → s.on F.CLK_CMD_STAT_BUSY = false → 4 ≤ p.val → p.val ≤ 11 →
    let u := s.wr F.CLK_CMD_STAT_BUSY 1
    (∀ (v : State) (w r : Nat), u.clkHop none p (u.rd F.CLK_CMD_FCW_FCW) none 0 = .done v (w + 1) r →
      exec (.clkCmdHopFcw p) s = .next v) ∧
    (∀ (v : State) (w r : Nat), arg.val ≤ 15 → u.clkHop none p 0 (some arg) 0 = .done v (w + 1) r →
      exec (.clkCmdHopEntry p arg) s = .next v) ∧
    (u.pllState p = 4 → Gives (.clkCmdRampStart p) s (fun t => t.rd (F.PLL_RAMP_STAT_RUN p) = 1 ∧ t.rd F.CLK_CMD_STAT_BUSY = 0 ∧
      t.rd F.CLK_CMD_STAT_STATUS = 0)) ∧
    exec (.clkCmdRampHold p) s = .next (((u.endReturn p).wr (F.PLL_RAMP_STAT_RUN p) 0).clkEnd none 0 0 0) ∧
    ((u.pll p).backs = [] → u.fcwUse p ≠ u.rd (F.PLL_FCW_FCW p) → s.clk.plls.length = 12 →
      Gives (.clkCmdRampReturn p) s (fun t => (t.pll p).returning = true ∧ t.rd F.CLK_CMD_STAT_BUSY = 1 ∧
        t.rd (F.PLL_RAMP_STAT_RUN p) = 0)) ∧
    (ent.val % 128 < 64 → u.pllState p = 0 → (u.pll p).sweep = none →
      exec (.clkCmdSweep p arg ent) s = .next (u.modPll p (fun x => { x with
        sweep := some ⟨arg, 128 ≤ ent.val, ent.val % 64, u.now, none, false⟩ }))))

/-- R317–R330, R336: a motor channel: enable and over-current at a loop tick, catch, brake, start, loss of the rotor and its
return, AT_SPEED, the clear of its counters. -/
def Obligations.MotorChannels : Prop :=
  (∀ (s : State) (m : Fin 16) (x : MotSample), s.up →
    exec (.motorLoopTick m x) s = .next ((s.atEdge [(.motor, m.val)]).motorTick m x)) ∧
  (∀ (s : State) (m : Fin 16) (x : MotSample), s.motState m = 0 → s.on F.GLB_STATE_HOLD = false →
    s.undervolt = false →
    (s.motorTick m x).motState m = s.claspOut m % 2 ∧ (s.motorTick m x).rd (F.MOT_STAT_ENABLE m) = s.claspOut m % 2) ∧
  (∀ (s : State) (m : Fin 16) (x : MotSample) (ph : Nat) (i : Int), s.motState m = 4 ∨ s.motState m = 5 ∨ s.motState m = 6 →
    let u := (s.motSample m).track m x
    u.overCurrent m (u.sampled m x) = some (ph, i) →
    (s.motorTick m x).motState m = 7 ∧ (s.motorTick m x).rd (F.MOT_FAULT_FCAUSE m) = 1 ∧
    (s.motorTick m x).rd F.FAULT_STAT_FRAME_STOP ≠ 0) ∧
  (∀ (s : State) (m : Fin 16) (x : MotSample), s.motState m = 3 → s.claspOut m % 2 = 1 → s.on F.GLB_STATE_HOLD = false →
    s.undervolt = false →
    (s.motorTick m x).motState m = 3 ∧ (s.motorTick m x).rd (F.MOT_FAULT_FCAUSE m) = s.rd (F.MOT_FAULT_FCAUSE m) ∧
    ((s.mot m).cmds = [] → (s.motorTick m x).host = s.host)) ∧
  (∀ (s : State) (m : Fin 16), s.up → s.mots.length = 16 → s.motState m = 1 → (s.mot m).stateAt + 2000000 ≤ s.now →
    ((s.emfRead m).2 = true →
      Gives (.catchComplete m) s (fun t => t.motState m = 3 ∧ (t.mot m).attempt = 1 ∧ t.host = s.host)) ∧
    ((s.emfRead m).2 = false → 0 < (s.emfRead m).1 →
      Gives (.catchComplete m) s (fun t => t.motState m = 4 ∧ t.rd (F.MOT_STAT_ASRC m) = s.suits m (s.emfRead m).1 ∧
        t.rd (F.MOT_COUNT_CATCHES m) = satAdd (F.MOT_COUNT_CATCHES m).w (s.rd (F.MOT_COUNT_CATCHES m)) 1)) ∧
    ((s.emfRead m).2 = false → (s.emfRead m).1 ≤ 0 →
      Gives (.catchComplete m) s (fun t => t.motState m = 2 ∧ (t.mot m).drive = .brake true ∧ t.host = s.host))) ∧
  (∀ (s : State) (m : Fin 16), s.up → s.mots.length = 16 → s.motState m = 2 → (s.mot m).measuredAt + 11000000 ≤ s.now →
    ((s.emfRead m).2 = true → Gives (.brakeMeasure m) s (fun t => t.motState m = 1)) ∧
    ((s.emfRead m).2 = false → Gives (.brakeMeasure m) s (fun t => t.motState m = 2 ∧
      (t.mot m).measuredAt = (s.mot m).measuredAt + 10000000 ∧ (t.mot m).drive = .brake true ∧
      RegsOnly { s with mots := t.mots } t [F.MOT_SPEED_SPEED m]))) ∧
  (∀ (s : State) (m : Fin 16), s.up → s.motState m = 2 → (s.mot m).stateAt + 2000000000 ≤ s.now →
    Gives (.brakeTimeout m) s (fun t => t.motState m = 0 ∧
      t.rd (F.MOT_COUNT_START_FAILS m) = satAdd (F.MOT_COUNT_START_FAILS m).w (s.rd (F.MOT_COUNT_START_FAILS m)) 1)) ∧
  (∀ (s : State) (m : Fin 16) (ps : List MotPulse), s.up → s.mots.length = 16 → s.motState m = 3 →
    let r := s.attempt m ps
    let k := r.1.bestPulse m
    let pm := r.1.rd (F.MOT_PULSE_PEAK m k)
    let po := r.1.rd (F.MOT_PULSE_PEAK m ((k + 6) % 12))
    (r.2 = true → Gives (.alignComplete m ps) s (fun t => t.motState m = 0)) ∧
    (∀ dt : Nat, r.2 = false → s.alignTime m ps = some dt → (s.mot m).stateAt + dt ≤ s.now →
      (s.rd (F.MOT_START_CONTRAST m) * pm ≤ (pm - po) * 256 → Gives (.alignComplete m ps) s (fun t =>
        t.motState m = 4 ∧ t.rd (F.MOT_ANGLE_ANGLE m) = 65536 * k / 12 % 65536)) ∧
      ((pm - po) * 256 < s.rd (F.MOT_START_CONTRAST m) * pm → (s.mot m).attempt = 1 →
        Gives (.alignComplete m ps) s (fun t => t.motState m = 3 ∧ (t.mot m).attempt = 2 ∧ (t.mot m).stateAt = s.now)) ∧
      ((pm - po) * 256 < s.rd (F.MOT_START_CONTRAST m) * pm → (s.mot m).attempt ≠ 1 →
        Gives (.alignComplete m ps) s (fun t => t.motState m = 0)))) ∧
  (∀ (s : State) (m : Fin 16) (t0 : Nat), s.up → (s.mot m).lowSince = some t0 → s.motState m = 4 → s.rd (F.MOT_STAT_ASRC m) ≠ 3 →
    t0 + 20000000 ≤ s.now → Gives (.rotorLoss m) s (fun t => t.motState m = 5 ∧ t.rd (F.MOT_STAT_ASRC m) = 3 ∧
      t.rd (F.MOT_COUNT_COASTS m) = satAdd (F.MOT_COUNT_COASTS m).w (s.rd (F.MOT_COUNT_COASTS m)) 1)) ∧
  (∀ (s : State) (m : Fin 16) (t0 : Nat), s.up → (s.mot m).okSince = some t0 → s.motState m = 5 → t0 + 10000000 ≤ s.now →
    Gives (.reacquired m) s (fun t => t.motState m = 4)) ∧
  (∀ (s : State) (m : Fin 16), s.up → s.motState m = 5 → (s.mot m).stateAt + 50000000 ≤ s.now →
    Gives (.rotorLost m) s (fun t => t.motState m = 7 ∧ t.rd (F.MOT_FAULT_FCAUSE m) = 3 ∧ t.rd F.FAULT_STAT_FRAME_STOP ≠ 0)) ∧
  (∀ (s : State) (m : Fin 16) (t0 : Nat), s.up → (s.mot m).atSince = some t0 → s.on (F.MOT_STAT_AT_SPEED m) = false →
    t0 + s.rd (F.MOT_AT_AT_TIME m) * 1000000 ≤ s.now →
    exec (.atSpeed m) s = .next ((s.wr (F.MOT_STAT_AT_SPEED m) 1).post 0 0x5002 8 m [(0, 4, s.rd (F.MOT_SPEED_SPEED m))])) ∧
  (∀ (s : State) (m : Fin 16), s.up → Gives (.motClr m) s (fun t => t.rd (F.MOT_COUNT_PREDICTS m) = 0 ∧
    t.rd (F.MOT_COUNT_COASTS m) = 0 ∧ t.rd (F.MOT_COUNT_CATCHES m) = 0 ∧ t.rd (F.MOT_COUNT_START_FAILS m) = 0 ∧
    RegsOnly s t [F.MOT_COUNT_PREDICTS m, F.MOT_COUNT_COASTS m, F.MOT_COUNT_CATCHES m, F.MOT_COUNT_START_FAILS m]))

/-- R331, R335: MOT_CMD, XD_CMD and the command pins (the scale of CMD_VAL is the model's: log 128). -/
def Obligations.MotorCommands : Prop :=
  (∀ (s v : State) (q : Fin 32) (d : Desc) (w r : Nat), s.machReady q [d] →
    (s.machState q [d]).applyMach (s.machRef q [d]) [d] = .done v w r →
    (dOpcode d = 0x30 → dField d 9 1 = 0 → exec (.motCmdRun q) s = .next (s.machAnswer q [d] v w r)) ∧
    (dOpcode d = 0x30 → dField d 9 1 = 1 → exec (.motCmdSetpoint q) s = .next (s.machAnswer q [d] v w r)) ∧
    (dOpcode d = 0x30 → dField d 9 1 = 2 → exec (.motCmdStop q) s = .next (s.machAnswer q [d] v w r)) ∧
    (dOpcode d = 0x30 → dField d 9 1 = 3 → exec (.motCmdCoast q) s = .next (s.machAnswer q [d] v w r)) ∧
    (dOpcode d = 0x30 → dField d 9 1 = 4 → exec (.motCmdClear q) s = .next (s.machAnswer q [d] v w r)) ∧
    (dOpcode d = 0x31 → exec (.xdCmd q) s = .next (s.machAnswer q [d] v w r))) ∧
  (∀ (s : State) (ref : Nat) (d : Desc), dOpcode d = 0x30 → dCount d = 0 → dZero d 14 63 = true → dField d 8 1 ≤ 15 →
    dField d 10 1 ≤ 1 → dField d 11 1 = 0 →
    let m := dField d 8 1
    let set := dField d 12 2
    (dField d 9 1 = 0 → s.motState m ≠ 7 → s.on F.GLB_STATE_HOLD = false → s.motUnset m = none →
      s.applyMach ref [d] =
        let u := s.setCmd m (s.motWant m (some 1) (some (dField d 10 1)) (some 0) (some set))
        if u.motState m = 4 then .done u 0 (u.motResult m 0 u.now) else u.motWait m ref 0) ∧
    (dField d 9 1 = 0 → s.motState m = 7 → ∃ r n, s.applyMach ref [d] = .fail 0 5 0 r n) ∧
    (dField d 9 1 = 1 → s.pinOf m = none → s.driver m = none → s.on (F.MOT_CFG_POLY_EN m) = false →
      s.applyMach ref [d] = (s.setCmd m (s.motWant m none (some (dField d 10 1)) none (some set))).motWait m ref 1) ∧
    (dField d 9 1 = 2 ∨ dField d 9 1 = 3 → s.applyMach ref [d] =
      let u := s.setCmd m (s.motWant m (some 0) none (some (dField d 9 1 - 2)) none)
      if u.motState m = 0 then .done u 0 (u.motResult m 0 u.now) else u.motWait m ref (dField d 9 1)) ∧
    (dField d 9 1 = 4 → s.motState m = 7 → ∃ u : State, u.motState m = 0 ∧ u.rd (F.MOT_STAT_FAULT m) = 0 ∧
      u.rd (F.MOT_FAULT_FCAUSE m) = 0 ∧ s.applyMach ref [d] = .done u 0 (u.motResult m 0 u.now)) ∧
    (dField d 9 1 = 4 → s.motState m ≠ 7 → ∃ r n, s.applyMach ref [d] = .fail 0 5 0 r n)) ∧
  (∀ (s : State) (ref : Nat) (d : Desc), dOpcode d = 0x31 → dCount d = 0 → dZero d 16 63 = true → dField d 8 1 ≤ 7 →
    dZero d 9 11 = true →
    let n := dField d 8 1
    let u := s.setCmd (80 + n) (dField d 12 4)
    (u.xdCmdUsed n = true → s.applyMach ref [d] = .done u 0 0) ∧
    (u.xdCmdUsed n = false → s.applyMach ref [d] = .done (u.modXd n (fun x => { x with waits := x.waits ++ [ref] })) 1 0)) ∧
  (∀ (s : State) (m ref op : Nat), s.motWait m ref op =
    .done (s.modMot m (fun x => { x with cmds := x.cmds ++ [(ref, op, s.now)] })) 1 0) ∧
  (∀ (s : State) (n : Fin 8) (codes : List Nat) (high per : Nat), s.up → exec (.cmdPinMeasure n codes high per) s =
    .next ((s.atEdge [(.cmdPin, n.val)]).pinMeasure n codes high per)) ∧
  (∀ (s : State) (n : Fin 8) (codes : List Nat) (high per : Nat), s.pins.length = 8 → s.rd (F.CMD_CFG_MODE n) ≠ 0 →
    (s.pins.getD n {}).invalid = false →
    let mode := s.rd (F.CMD_CFG_MODE n)
    let v := pinValue mode codes high per
    let t := s.pinMeasure n codes high per
    t.rd (F.CMD_VAL_VAL n) = v % 2 ^ 32 ∧
    (pinRange mode high per = true → t.rd (F.CMD_STAT_VALID n) = 1 ∧ (t.pins.getD n {}).setpt = s.pinSetpt n v ∧
      t.host = s.host) ∧
    (pinRange mode high per = false → t.rd (F.CMD_STAT_VALID n) = 0 ∧ (t.pins.getD n {}).setpt = 0)) ∧
  (∀ codes : List Nat, ∀ high per : Nat, (∀ c ∈ codes, c < 4096) → codes.length = 10 → pinValue 1 codes high per ≤ 3300) ∧
  (∀ (s : State) (n : Fin 8), s.up → s.rd (F.CMD_CFG_MODE n) = 3 → (s.pins.getD n {}).lastAt + 200000000 ≤ s.now →
    exec (.cmdPinTimeout n) s = .next (s.pinInvalid n)) ∧
  (∀ (s : State) (n : Fin 8), s.up → s.rd (F.CMD_CFG_MODE n) = 2 → (s.pins.getD n {}).lastAt + 20000000 ≤ s.now →
    exec (.cmdPinTimeout n) s = .next (s.pinInvalid n)) ∧
  (∀ (s : State) (m : Fin 16) (ref t0 : Nat), s.up → (s.mot m).cmds = [(ref, 0, t0)] → t0 + 5000000000 ≤ s.now →
    exec (.motCmdRunTimeout m) s =
      let u := s.modMot m (fun x => { x with cmds := x.cmds.filter (fun c => !([(ref, 0, t0)] : List (Nat × Nat × Nat)).contains c) })
      .next (u.partDone ref 8 0 (u.motResult m (u.rd (F.MOT_FAULT_FCAUSE m)) t0)))

/-- R344, R345, R347, R350, R351: AX_MOVE, AX_RETARGET, AX_HOME and AX_CTL. -/
def Obligations.AxisCommands : Prop :=
  (∀ (s v : State) (q : Fin 32) (ds : List Desc) (w r : Nat), s.machReady q ds →
    (s.machState q ds).applyMach (s.machRef q ds) ds = .done v w r →
    (dOpcode (ds.headD 0) = 0x32 → exec (.axMove q) s = .next (s.machAnswer q ds v w r)) ∧
    (dOpcode (ds.headD 0) = 0x33 → exec (.axRetarget q) s = .next (s.machAnswer q ds v w r)) ∧
    (dOpcode (ds.headD 0) = 0x34 → exec (.axHome q) s = .next (s.machAnswer q ds v w r)) ∧
    (dOpcode (ds.headD 0) = 0x35 → dField (ds.headD 0) 9 1 = 0 → exec (.axCtlStop q) s = .next (s.machAnswer q ds v w r)) ∧
    (dOpcode (ds.headD 0) = 0x35 → dField (ds.headD 0) 9 1 = 1 → exec (.axCtlEstop q) s = .next (s.machAnswer q ds v w r)) ∧
    (dOpcode (ds.headD 0) = 0x35 → dField (ds.headD 0) 9 1 = 2 → exec (.axCtlClear q) s = .next (s.machAnswer q ds v w r)) ∧
    (dOpcode (ds.headD 0) = 0x35 → dField (ds.headD 0) 9 1 = 3 → exec (.axCtlSetPos q) s = .next (s.machAnswer q ds v w r))) ∧
  (∀ (s : State) (ref : Nat) (d : Desc), dOpcode d = 0x32 → s.moveFormat d = true →
    let a := dField d 8 1
    let u := if s.axState a = 2 then s.refill a else s
    let m := moveOf d (u.queueEnd a)
    targetOk m.target = true →
    (s.axState a ∉ [0, 3, 5, 6] → (u.axis a).queue.length < 64 → u.intoLimit a (u.queueEnd a) m.target = false →
      s.applyMach ref [d] = .done (u.queueMove a m) 0 ((u.queueMove a m).axis a).queue.length) ∧
    (s.axState a ∈ [0, 3, 5, 6] → s.applyMach ref [d] = .fail 0 5 a 0 id) ∧
    (s.axState a ∉ [0, 3, 5, 6] → 64 ≤ (u.axis a).queue.length → s.applyMach ref [d] = .fail 0 4 a 0 id)) ∧
  (∀ (s : State) (ref : Nat) (d : Desc), dOpcode d = 0x32 ∨ dOpcode d = 0x33 → s.moveFormat d = false →
    s.applyMach ref [d] = .fail 0 1 0 0 id) ∧
  (∀ (s : State) (ref : Nat) (d : Desc) (m0 : Move) (rest : List Move), dOpcode d = 0x33 → s.moveFormat d = true →
    let a := dField d 8 1
    let u := s.refill a
    let m := moveOf d m0.target
    s.axState a = 2 → (u.axis a).queue = m0 :: rest → targetOk m.target = true → u.intoLimit a (u.axPos a) m.target = false →
    s.applyMach ref [d] = .done (u.retargetMove a m).1 0
      (packBytes [(0, 6, uBits 48 ((u.retargetMove a m).2.getD 0)), (6, 1, b2n (u.retargetMove a m).2.isSome)])) ∧
  (∀ (s : State) (ref : Nat) (d : Desc), dOpcode d = 0x34 → dCount d = 0 → dField d 8 1 ≤ 31 → dZero d 9 63 = true →
    let a := dField d 8 1
    (s.axState a = 1 → (s.axis a).queue = [] → ∃ u : State, u.axState a = 3 ∧ s.applyMach ref [d] = .done u 1 0) ∧
    (s.axState a ≠ 1 ∨ (s.axis a).queue ≠ [] → s.applyMach ref [d] = .fail 0 5 a 0 id)) ∧
  (∀ (s : State) (ref : Nat) (d : Desc), dOpcode d = 0x35 → dCount d = 0 → dField d 8 1 ≤ 31 → dZero d 16 63 = true →
    (dField d 9 1 ≠ 3 → dZero d 10 15 = true) →
    let a := dField d 8 1
    let op := dField d 9 1
    (op = 0 → s.axState a = 1 → s.applyMach ref [d] = .done s 0 0) ∧
    (op = 0 → s.axState a = 2 → ∃ u : State, u.axState a = 4 ∧ (u.axis a).queue = [] ∧ s.applyMach ref [d] = .done u 1 0) ∧
    (op = 1 → s.axState a = 2 ∨ s.axState a = 3 ∨ s.axState a = 4 →
      ∃ u : State, u.axState a = 5 ∧ (u.axis a).queue = [] ∧ s.applyMach ref [d] = .done u 1 0) ∧
    (op = 1 → s.axState a = 6 → s.applyMach ref [d] = .done s 0 0) ∧
    (op = 2 → s.axState a = 6 → s.applyMach ref [d] = .done ((s.modAxis a (fun x => { x with limitArmed := true })).axIdle a) 0 0) ∧
    (op = 2 → s.axState a ≠ 6 → s.applyMach ref [d] = .fail 0 5 a 0 id) ∧
    (op = 3 → s.axState a = 1 → s.applyMach ref [d] = .done ((s.setPos a (sInt 48 (dField d 10 6))).atRest a) 0 0) ∧
    (op = 3 → s.axState a ≠ 1 → s.applyMach ref [d] = .fail 0 5 a 0 id) ∧
    (3 < op → s.applyMach ref [d] = .fail 0 1 0 0 id))

/-- R341, R342, R348, R349, R351, R352: a step within a segment, rest, starvation, the edges of HOME and LIMIT, the LIMIT
latch. -/
def Obligations.AxisEvents : Prop :=
  (∀ (s : State) (a : Fin 32), s.up → s.axState a < 2 ∨ 5 < s.axState a → exec (.stepPulse a) s = .next s) ∧
  (∀ (s : State) (a : Fin 32) (g : Seg) (gs : List Seg), s.up → 2 ≤ s.axState a → s.axState a ≤ 5 → (s.axis a).segs = g :: gs →
    (s.axis a).home = none → s.motTick * 1000 + 2500 < (s.axis a).t0 + g.dur →
    let d := stepDue (s.axPos a) (s.axNow a).1
    d ≠ 0 → s.axReady a d = true → Gives (.stepPulse a) s (fun t =>
      t.rd (F.AX_POS_LO_POS a) = uBits 32 (s.axPos a + d) ∧ t.rd (F.AX_POS_HI_POS a) = uBits 32 ((s.axPos a + d) / 4294967296) ∧
      (t.axis a).stepAt = some s.motTick ∧
      t.rd (F.AX_STAT_DIR a) = b2n (decide (d < 0)) ∧ t.axState a = s.axState a ∧ t.host = s.host)) ∧
  (∀ (s : State) (a : Fin 32) (d : Int), s.axReady a d = true ↔
    (s.on (F.AX_STAT_DIR a) = decide (d < 0) ∧ (s.axis a).stepAt = none ∧
      ∀ t0, (s.axis a).dirAt = some t0 → t0 + 10 * s.rd (F.AX_TIMING_DIR_SU a) ≤ s.motTick)) ∧
  (∀ (s : State) (a : Fin 32) (t0 : Nat), (s.axis a).stepAt = some t0 → s.motTick < t0 + 10 * s.rd (F.AX_TIMING_STEP_W a) →
    (s.axPins a).on (F.AX_STAT_DIR a) = s.on (F.AX_STAT_DIR a) ∧ ((s.axPins a).axis a).stepAt = some t0) ∧
  (∀ (s : State) (a : Fin 32), s.up → (s.axis a).segs = [] → (s.axis a).plan = [] → (s.axis a).vEnd = 0 →
    stepDue (s.axPos a) (s.axis a).pEnd = 0 → (s.axis a).home = none → (s.axis a).queue = [] →
    (s.axState a = 4 → (s.axis a).stops = [] → Gives (.stepPulse a) s (fun t => t.axState a = 1 ∧ t.rd (F.AX_VEL_VEL a) = 0)) ∧
    (s.axState a = 5 → (s.axis a).estops = [] → Gives (.stepPulse a) s (fun t => t.axState a = 6 ∧ t.rd (F.AX_VEL_VEL a) = 0))) ∧
  (∀ (s : State) (a : Fin 32), (s.axis a).home = none →
    (s.starved a).axState a = 5 ∧ ((s.starved a).axis a).queue = [] ∧ (s.starved a).rd F.FAULT_STAT_FRAME_STOP ≠ 0) ∧
  (∀ (s : State) (a : Fin 32) (limit level : Bool), s.up →
    let u := s.modSw a limit (fun x => { x with pin := level })
    (s.now % 10 ≠ 0 → exec (.switchEdgeQualified a limit level) s = .next u) ∧
    (s.now % 10 = 0 → exec (.switchEdgeQualified a limit level) s = .next (u.switchSample a limit))) ∧
  (∀ (s : State) (a : Fin 32) (limit : Bool),
    let act := (s.swIn a limit).pin == s.on (if limit then F.AX_CFG_LIMIT_POL a else F.AX_CFG_HOME_POL a)
    let deb := s.rd (if limit then F.AX_DEB_LIMIT_DEB a else F.AX_DEB_HOME_DEB a)
    let e : SwEdge := ⟨s.now, s.axPos a, s.etime, s.wpos⟩
    ((s.swIn a limit).level = act → s.switchSample a limit = s.switchSettle a limit) ∧
    ((s.swIn a limit).level ≠ act → deb ≠ 0 →
      s.switchSample a limit = s.modSw a limit (fun x => { x with level := act, edge := some e })) ∧
    ((s.swIn a limit).level ≠ act → deb = 0 → s.axes.length = 32 → s.switchSample a limit =
      (s.modSw a limit (fun x => { x with level := act, edge := none })).switchQualified a limit act e)) ∧
  (∀ (s : State) (a : Fin 32) (limit : Bool) (e : SwEdge), (s.swIn a limit).edge = some e →
    let deb := s.rd (if limit then F.AX_DEB_LIMIT_DEB a else F.AX_DEB_HOME_DEB a)
    (s.now < e.at_ + deb * 1000 → s.switchSettle a limit = s) ∧
    (e.at_ + deb * 1000 ≤ s.now → s.switchSettle a limit =
      (s.modSw a limit (fun x => { x with edge := none })).switchQualified a limit (s.swIn a limit).level e)) ∧
  (∀ (s : State) (a : Fin 32) (e : SwEdge),
    (s.on (F.AX_CFG_HOME_SRC a) = true → let t := s.switchQualified a false false e
      t.rd (F.AX_STAT_HOME_ACT a) = 0 ∧ RegsOnly s t [F.AX_STAT_HOME_ACT a]) ∧
    (s.on (F.AX_CFG_HOME_SRC a) = false → let t := s.switchQualified a true false e
      t.rd (F.AX_STAT_LIMIT_ACT a) = 0 ∧ RegsOnly s t [F.AX_STAT_LIMIT_ACT a]) ∧
    ((s.axis a).homeArmed = false → let t := s.switchQualified a false true e
      t.rd (F.AX_STAT_HOME_ACT a) = 1 ∧ RegsOnly s t [F.AX_STAT_HOME_ACT a]) ∧
    ((s.axis a).homeArmed = true → (s.axis a).home = none → let t := s.switchQualified a false true e
      t.rd (F.AX_STAT_HOME_ACT a) = 1 ∧ t.rd (F.AX_LATCH_POS_LO_LPOS a) = uBits 32 e.c ∧
      t.rd (F.AX_LATCH_POS_HI_LPOS a) = uBits 32 (e.c / 4294967296) ∧ t.rd (F.AX_LATCH_WPOS_LO_LWPOS a) = uBits 32 e.wpos ∧
      t.rd (F.AX_LATCH_WPOS_HI_LWPOS a) = uBits 32 (e.wpos / 4294967296) ∧ t.rd (F.AX_LATCH_CLR_SRC a) = 0 ∧
      t.rd (F.AX_LATCH_ETIME_LO_LTIME a) = uBits 32 (e.etime : Int) ∧
      (t.axis a).homeArmed = false ∧ t.host = s.host) ∧
    ((s.axis a).limitArmed = false → s.axState a = 1 → s.switchQualified a true true e =
      (s.wr (F.AX_STAT_LIMIT_ACT a) 1).post 1 0x5100 9 a
        [(0, 6, uBits 48 (s.rd64 (F.AX_LATCH_POS_LO_LPOS a) (F.AX_LATCH_POS_HI_LPOS a))), (6, 1, 0)]) ∧
    ((s.axis a).limitArmed = true → s.axState a = 1 → (s.axis a).home = none → let t := s.switchQualified a true true e
      t.rd (F.AX_STAT_LIMIT_ACT a) = 1 ∧ t.rd (F.AX_LATCH_POS_LO_LPOS a) = uBits 32 e.c ∧ t.rd (F.AX_LATCH_CLR_SRC a) = 1 ∧
      t.axState a = 1 ∧ (a.val < s.axes.length → (t.axis a).limitArmed = false) ∧
      Posts s t 1 0x5100 9 a (detail [(0, 6, uBits 48 e.c), (6, 1, 0)])) ∧
    ((s.axis a).limitArmed = false → s.axState a = 2 → (s.axis a).home = none →
      (if s.on (F.AX_CFG_LIMIT_DIR a) then (s.axNow a).2.1 < 0 else 0 < (s.axNow a).2.1) →
      let t := s.switchQualified a true true e
      t.axState a = 5 ∧ (t.axis a).queue = [] ∧
        t.rd (F.AX_STAT_LIMIT_ACT a) = 1 ∧ (s.on (F.AX_CFG_CRIT a) = true → t.rd F.FAULT_STAT_FRAME_STOP ≠ 0))) ∧
  (∀ (s : State) (a : Fin 32), s.up →
    exec (.axLatchClr a) s = .next (s.modAxis a (fun x => { x with limitArmed := true })))

/-- R353, R359: encoder counts, illegal transitions, Z, and VWEB. -/
def Obligations.EncodersAndWeb : Prop :=
  (∀ (s : State) (n : Fin 8) (a b z : Bool), s.up → s.on (F.ENC_CFG_EN n) = false →
    Gives (.encoderCount n a b) s (fun t => t = { s with encs := t.encs }) ∧
    Gives (.encoderZEdge n z) s (fun t => t = { s with encs := t.encs })) ∧
  (∀ (s : State) (n : Fin 8) (a b : Bool), s.up → (s.enc n).a.level = (s.enc n).a.raw → (s.enc n).b.level = (s.enc n).b.raw →
    (s.enc n).z.level = (s.enc n).z.raw → s.rd (F.ENC_CFG_FILT n) ≠ 0 ∨ (s.enc n).a.raw = a ∧ (s.enc n).b.raw = b →
    Gives (.encoderCount n a b) s (fun t => t = { s with encs := t.encs })) ∧
  (∀ (x : FiltIn) (filt now : Nat), x.level ≠ x.raw → ((x.settle filt now).level = x.raw ↔ x.at_ + 5 * filt ≤ now)) ∧
  (∀ (s : State) (n : Fin 8) (a b : Bool), s.up → s.encReady n → (s.enc n).a.level ≠ a → (s.enc n).b.level ≠ b →
    Gives (.encoderCount n a b) s (fun t => t.rd (F.ENC_STAT_ILLEGAL n) =
        satAdd (F.ENC_STAT_ILLEGAL n).w (s.rd (F.ENC_STAT_ILLEGAL n)) 1 ∧
      t.rd (F.ENC_RAW_LO_RAW n) = s.rd (F.ENC_RAW_LO_RAW n) ∧ t.rd (F.ENC_RAW_HI_RAW n) = s.rd (F.ENC_RAW_HI_RAW n) ∧
      t.rd (F.ENC_REP_LO_REP n) = s.rd (F.ENC_REP_LO_REP n) ∧ t.rd (F.ENC_REP_HI_REP n) = s.rd (F.ENC_REP_HI_REP n))) ∧
  (∀ (s : State) (n : Fin 8) (a b fwd : Bool), s.up → s.encReady n →
    (s.enc n).a.level ≠ a ∧ (s.enc n).b.level = b ∧ fwd = (a != b) ∨
      (s.enc n).a.level = a ∧ (s.enc n).b.level ≠ b ∧ fwd = (a == b) →
    let r := s.rd64 (F.ENC_RAW_LO_RAW n) (F.ENC_RAW_HI_RAW n) + (if fwd != s.on (F.ENC_CFG_DIR_INV n) then 1 else -1)
    Gives (.encoderCount n a b) s (fun t => t.rd (F.ENC_RAW_LO_RAW n) = uBits 32 r ∧
      t.rd (F.ENC_RAW_HI_RAW n) = uBits 32 (r / 4294967296) ∧ t.rd (F.ENC_STAT_ILLEGAL n) = s.rd (F.ENC_STAT_ILLEGAL n))) ∧
  (∀ (s : State) (n : Fin 8) (z : Bool), s.up → s.encReady n → (s.enc n).z.level ≠ z → z ≠ s.on (F.ENC_CFG_Z_POL n) →
    let r := s.rd64 (F.ENC_RAW_LO_RAW n) (F.ENC_RAW_HI_RAW n)
    Gives (.encoderZEdge n z) s (fun t => t.rd (F.ENC_Z_LO_ZCNT n) = uBits 32 r ∧
      t.rd (F.ENC_Z_HI_ZCNT n) = uBits 32 (r / 4294967296) ∧ t.rd (F.ENC_Z_ETIME_LO_ZTIME n) = uBits 32 s.etime ∧
      t.rd (F.ENC_Z_ETIME_HI_ZTIME n) = uBits 32 ((s.etime : Int) / 4294967296) ∧ t.rd (F.ENC_STAT_Z_SEEN n) = 1 ∧
      (t.enc n).zWpos = s.wpos ∧ RegsOnly { s with encs := t.encs } t
        [F.ENC_Z_LO_ZCNT n, F.ENC_Z_HI_ZCNT n, F.ENC_Z_ETIME_LO_ZTIME n, F.ENC_Z_ETIME_HI_ZTIME n, F.ENC_STAT_Z_SEEN n])) ∧
  (∀ (s : State) (n : Fin 8), s.up → s.encReady n → (s.enc n).z.level = !s.on (F.ENC_CFG_Z_POL n) →
    Gives (.encoderZEdge n (s.on (F.ENC_CFG_Z_POL n))) s (fun t => t = { s with encs := t.encs })) ∧
  (∀ (s : State) (n : Fin 8) (a b z : Bool), s.up → Gives (.encoderCount n a b) s (fun t => t.wpos = s.wpos) ∧
    Gives (.encoderZEdge n z) s (fun t => t.wpos = s.wpos) ∧ Gives .vwebUpdate s (fun t => t.wpos = s.wpos)) ∧
  (∀ s : State, s.up → s.on F.WEB_CFG_EN = false → exec .vwebUpdate s = .next s) ∧
  (∀ (s : State) (t0 : Nat) (f0 : Int), s.up → s.on F.WEB_CFG_EN = true →
    histAt (s.now - 1000000) s.web.hist = some (t0, f0) → Gives .vwebUpdate s (fun t =>
      t.rd F.WEB_VEL_VWEB = uBits F.WEB_VEL_VWEB.w ((s.web.f - f0) * 250 / 256)))

/-- R364, R366, R369, R370, R375, R376, R382: the loop engine's tick, its steps' arithmetic, LOOP_CTL and LOOP_PROG. -/
def Obligations.LoopEngine : Prop :=
  (∀ (s v : State) (q : Fin 32) (ds : List Desc) (w r : Nat), s.machReady q ds →
    (s.machState q ds).applyMach (s.machRef q ds) ds = .done v w r →
    (dOpcode (ds.headD 0) = 0x36 → dField (ds.headD 0) 10 1 = 0 → exec (.loopCtlOff q) s = .next (s.machAnswer q ds v w r)) ∧
    (dOpcode (ds.headD 0) = 0x36 → dField (ds.headD 0) 10 1 = 1 → exec (.loopCtlManual q) s = .next (s.machAnswer q ds v w r)) ∧
    (dOpcode (ds.headD 0) = 0x36 → dField (ds.headD 0) 10 1 = 2 →
      exec (.loopCtlManualHold q) s = .next (s.machAnswer q ds v w r)) ∧
    (dOpcode (ds.headD 0) = 0x36 → dField (ds.headD 0) 10 1 = 3 → exec (.loopCtlAuto q) s = .next (s.machAnswer q ds v w r)) ∧
    (dOpcode (ds.headD 0) = 0x36 → dField (ds.headD 0) 10 1 = 4 →
      exec (.loopCtlSetpoint q) s = .next (s.machAnswer q ds v w r)) ∧
    (dOpcode (ds.headD 0) = 0x36 → dField (ds.headD 0) 10 1 = 5 → exec (.loopCtlClear q) s = .next (s.machAnswer q ds v w r)) ∧
    (dOpcode (ds.headD 0) = 0x37 → exec (.loopProg q) s = .next (s.machAnswer q ds v w r))) ∧
  (∀ (s : State) (ref : Nat) (d : Desc), dOpcode d = 0x36 → dCount d = 0 → dField d 8 2 ≤ 191 → dZero d 11 11 = true →
    dZero d 14 63 = true →
    let l := dField d 8 2
    let op := dField d 10 1
    let m := s.loopMode l
    let add (s : State) : State := s.modLoop l (fun x => { x with ctls := x.ctls ++ [(ref, op, dField d 12 2)] })
    (op = 0 → s.applyMach ref [d] = .done (add s) 1 0) ∧
    (op = 1 ∨ op = 3 → s.on F.GLB_STATE_HOLD = false → m ≠ 3 → s.applyMach ref [d] = .done (add s) 1 0) ∧
    (op = 1 ∨ op = 3 → s.on F.GLB_STATE_HOLD = true ∨ m = 3 → s.applyMach ref [d] = .fail 0 5 l m id) ∧
    (op = 2 → m = 2 → s.applyMach ref [d] = .done (add s) 1 0) ∧
    (op = 2 → m ≠ 2 → s.applyMach ref [d] = .fail 0 5 l m id) ∧
    (op = 4 → s.applyMach ref [d] = .done (add (s.putSetpt l (dField d 12 2))) 1 0) ∧
    (op = 5 → m = 3 → s.applyMach ref [d] = .done (add s) 1 0) ∧
    (op = 5 → m ≠ 3 → s.applyMach ref [d] = .fail 0 5 l m id) ∧
    (5 < op → s.applyMach ref [d] = .fail 0 1 0 0 id)) ∧
  (∀ (s : State) (ref : Nat) (d : Desc), dOpcode d = 0x37 →
    (progFormat d = false → s.applyMach ref [d] = .fail 0 1 0 0 id) ∧
    (progFormat d = true → s.isPending (State.slotGroup (dField d 8 2)) = false → ∃ u : State, s.applyMach ref [d] = .done u 0 0 ∧
      u = { s with staged := u.staged } ∧
      (∀ (i j : Nat), i < dField d 11 1 → j < 4 → amFind u.staged (progFld (dField d 8 2) (dField d 10 1 + i) j).key =
        some (BitVec.ofNat 32 (dField d (16 + 16 * i) 16 / 2 ^ (32 * j)))))) ∧
  (∀ (s : State) (l : Fin 192), (s.loopMode l = 0 → (s.loopCtl l 1 0).1.loopMode l = (if s.on F.GLB_STATE_HOLD then 0 else 1)) ∧
    (s.loopMode l = 3 → (s.loopCtl l 5 0).1.loopMode l = 0 ∧ (s.loopCtl l 5 0).2.1 = 0) ∧
    (s.loopMode l ≠ 3 → s.loopCtl l 5 0 = (s, 5, false))) ∧
  (∀ (s : State) (l : Fin 192), s.up → s.loopDue l = false → exec (.loopTick l) s = .next s) ∧
  (∀ (s : State) (l : Fin 192), s.up → s.loopDue l = true →
    exec (.loopTick l) s =
    .next ((if s.slotTick l then s.atEdge [(.loop, l.val)] else s).loopTick l)) ∧
  (∀ (s : State) (l : Fin 192), s.loopDue l = true → s.loopMode l = 0 → (s.loop l).ctls = [] → (s.loop l).held = false →
    s.loopTick l = (s.modLoop l (fun x => { x with tickAt := some (s.etime / 10 * 10), count := 0, ctls := [] })).rejoinSlot l) ∧
  (∀ (s : State) (l : Fin 192) (t0 v : Nat), (s.loop l).setOld = some (t0, v) →
    s.setptAt l = if t0 = s.etime / 10 * 10 then sInt 16 v else s.rdS (F.LP_SETPT_SETPT l)) ∧
  (∀ (p : ProgStep) (h : LoopHow) (w : List Int) (st : StepSt),
    let x := w.getD p.a 0
    let y := w.getD p.b 0
    (p.type = 0 → p.run h w st = (0, st, 0, false)) ∧
    (p.type = 1 → (p.run h w st).1 = result16 (sat40 (p.co 0 * x + p.co 1 * y)).1 p.shift 15) ∧
    (p.type = 5 → p.co 2 = 0 → (p.run h w st).1 = clampI (p.co 0) (p.co 1) x) ∧
    (p.type = 7 → (p.run h w st).2.1.m =
      (sat40 (st.m + p.co 0 * (sat40 (result16 (p.co 1 * x) p.shift 15 * 32768 - st.m)).1 / 32768)).1))

/-- R383–R389: high-voltage samples and trips, zero-crosses and their loss, thermistors, the clear of an
over-temperature. -/
def Obligations.HighVoltageAndFusers : Prop :=
  (∀ (s : State) (n : Fin 24) (code : Nat), s.up →
    (code % 4096 < s.rd (F.HV_CFG_TRIP n) ∨ s.rd (F.HV_CFG_TRIP n) = 0 → Gives (.hvSenseSample n code) s (fun t =>
      t.rd (F.HV_STAT_SENSE n) = code % 4096 ∧ t.rd (F.HV_CTL_TRIPPED n) = s.rd (F.HV_CTL_TRIPPED n) ∧ t.host = s.host ∧
      (n.val < s.hvs.length → (t.hvs.getD n {}).high = 0))) ∧
    (s.hvs.length = 24 → s.rd (F.HV_CFG_TRIP n) ≠ 0 → s.rd (F.HV_CFG_TRIP n) ≤ code % 4096 → 1 ≤ (s.hvs.getD n {}).high →
      s.on (F.HV_CTL_TRIPPED n) = false → Gives (.hvSenseSample n code) s (fun t =>
      t.rd (F.HV_STAT_SENSE n) = code % 4096 ∧ t.rd (F.HV_CTL_TRIPPED n) = 1 ∧ t.rd (F.HV_STAT_DUTY n) = 0))) ∧
  (∀ (s : State) (n : Fin 24), s.up →
    (s.rd (F.HV_STAT_SENSE n) < s.rd (F.HV_CFG_TRIP n) → Gives (.hvTripClr n) s (fun t =>
      t.rd (F.HV_CTL_TRIPPED n) = 0 ∧ t.host = s.host)) ∧
    (s.rd (F.HV_CFG_TRIP n) ≤ s.rd (F.HV_STAT_SENSE n) → exec (.hvTripClr n) s = .next s)) ∧
  (∀ (s : State) (rising : Bool) (held : Nat), s.up →
    (held < s.zcFilt → exec (.zeroCross rising held) s = .next s) ∧
    (s.zcFilt ≤ held → s.domOn 5 = true → exec (.zeroCross rising held) s =
      .next (((s.atEdge ((List.range 8).map (fun k => (.fz, k)))).emberStops).zeroCross rising)) ∧
    (s.zcFilt ≤ held → s.domOn 5 = false → s.emberOn = true →
      exec (.zeroCross rising held) s = .next (s.emberCross rising))) ∧
  (∀ (s : State) (rising : Bool), (s.zeroCross rising).zc.lastAt = some s.now ∧ (s.zeroCross rising).zc.lost = false ∧
    (s.zc.lastAt = none → (s.zeroCross rising).rd F.ZC_STAT_ZC_HALF = s.rd F.ZC_STAT_ZC_HALF)) ∧
  (∀ (s : State) (n : Fin 8) (rising : Bool), s.on (F.FZ_CFG_EN n) = true → s.on (F.FZ_CFG_FULLCYC n) = false → s.fzs.length = 8 →
    s.undervolt = false →
    let r := s.claspOut (72 + n)
    let acc := (s.fzs.getD n {}).acc + r
    (s.on (F.FZ_STAT_OVERTEMP n) = false → (s.fzDecide n rising).rd (F.FZ_STAT_CONDUCTING n) = b2n (decide (32768 ≤ acc))) ∧
    (s.on (F.FZ_STAT_OVERTEMP n) = true → (s.fzDecide n rising).rd (F.FZ_STAT_CONDUCTING n) = 0) ∧
    ((s.fzDecide n rising).fzs.getD n {}).acc = (if 32768 ≤ acc then acc - 32768 else acc)) ∧
  (∀ (s : State) (n : Fin 8) (go : Bool), s.fzs.length = 8 →
    let t0 := s.now + 10000 * s.rd (F.FZ_CFG_ZC_DLY n)
    ((s.fzPulse n go).fzs.getD n {}).edges = (s.fzs.getD n {}).edges ++
      (if s.on (F.FZ_CFG_LEVEL n) then [(t0, go)]
       else if go then [(t0, true), (t0 + 10000 * s.rd (F.FZ_CFG_FZ_PW n), false)] else [])) ∧
  (∀ s : State, s.up → s.zc.lost = false → s.zc.since + 25000000 ≤ s.now → Gives .zcLost s (fun t =>
    (s.domOn 5 = true → t.rd F.ZC_STAT_ZC_OK = 0) ∧ t.zc.lost = true ∧ ∀ n : Fin 8, t.rd (F.FZ_STAT_CONDUCTING n) = 0 ∧
      t.rd (F.FZ_HALVES_HALVES n) = s.rd (F.FZ_HALVES_HALVES n))) ∧
  (∀ s : State, s.up → s.zc.lost = true ∨ s.now < s.zc.since + 25000000 → exec .zcLost s = .next s) ∧
  (∀ (s : State) (n : Fin 16) (r : Nat), s.up →
    exec (.thermistorSample n r) s = .next ((s.atEdge [(.th, n.val)]).thSample n r)) ∧
  (∀ (s : State) (n : Fin 16) (r : Nat), s.on (F.TH_CFG_EN n) = true →
    (s.thSample n r).rd (F.TH_STAT_FAULT n) = b2n (sensorBad r) ∧
    (s.thSample n r).rd (F.TH_STAT_TEMP n) =
      let ts := (betaTemp (s.rd (F.TH_CFG_BETA n)) r :: s.ths.getD n []).take 4
      uBits (F.TH_STAT_TEMP n).w (roundHalf (sumI ts) ts.length)) ∧
  (∀ (s : State) (n : Fin 16) (r : Nat), s.on (F.TH_CFG_EN n) = false → s.thSample n r = s) ∧
  (∀ (s : State) (z : Fin 8), s.on (F.FZ_CFG_EN z) = true → s.on (F.FZ_STAT_OVERTEMP z) = false →
    s.on (F.TH_STAT_FAULT (s.rd (F.FZ_CFG_TSRC z))) = true ∨
      16 * (s.rd (F.FZ_TMAX_T_MAX z) : Int) ≤ s.rdS (F.TH_STAT_TEMP (s.rd (F.FZ_CFG_TSRC z))) →
    (s.fzCut z).rd (F.FZ_STAT_OVERTEMP z) = 1 ∧ (s.fzCut z).rd (F.FZ_STAT_CONDUCTING z) = 0 ∧
    (s.fzCut z).rd F.FAULT_STAT_FRAME_STOP ≠ 0) ∧
  (∀ (s : State) (n : Fin 8), s.up →
    let k := s.rd (F.FZ_CFG_TSRC n)
    (s.on (F.TH_STAT_FAULT k) = false → s.rdS (F.TH_STAT_TEMP k) < 16 * ((s.rd (F.FZ_TMAX_T_MAX n) : Int) - 10) →
      Gives (.fuserClr n) s (fun t => t.rd (F.FZ_STAT_OVERTEMP n) = 0 ∧ RegsOnly s t [F.FZ_STAT_OVERTEMP n])) ∧
    (s.on (F.TH_STAT_FAULT k) = true ∨ 16 * ((s.rd (F.FZ_TMAX_T_MAX n) : Int) - 10) ≤ s.rdS (F.TH_STAT_TEMP k) →
      exec (.fuserClr n) s = .next s))

/-- R394–R397, R410, R418: presentations at a Clasp, its HOLD and SAFE, the clear of its counts. -/
def Obligations.ClaspStates : Prop :=
  (∀ (s : State) (u c v : Nat), s.rd (F.CLASP_ACK_ACK c) ≤ s.rd (F.ISL_SIGNET_SIGNET u) → s.isl.switches = [] → c < 104 →
    s.clasps.length = 104 →
    (s.present u c v).rd (F.CLASP_ACK_ACK c) = s.rd (F.ISL_SIGNET_SIGNET u) % 4294967296 ∧
    (s.present u c v).rd (F.CLASP_STAT_STATE c) = 0 ∧ ((s.present u c v).clasps.getD c {}).value = v ∧
    ((s.present u c v).clasps.getD c {}).acceptedAt = s.now) ∧
  (∀ (s : State) (u c v : Nat), s.rd (F.ISL_SIGNET_SIGNET u) < s.rd (F.CLASP_ACK_ACK c) → c < 104 →
    (s.clasps.getD c {}).acceptedAt ≠ s.now ∨ s.rd (F.ISL_SIGNET_SIGNET u) < (s.clasps.getD c {}).ackWas →
    (s.present u c v).rd (F.CLASP_ACK_ACK c) = s.rd (F.CLASP_ACK_ACK c) ∧ (s.present u c v).clasps = s.clasps ∧
    (s.present u c v).rd (F.CLASP_STAT_STALE c) = satAdd (F.CLASP_STAT_STALE c).w (s.rd (F.CLASP_STAT_STALE c)) 1) ∧
  (∀ (s : State) (u c v : Nat), s.rd (F.ISL_SIGNET_SIGNET u) < s.rd (F.CLASP_ACK_ACK c) →
    (s.clasps.getD c {}).acceptedAt = s.now → (s.clasps.getD c {}).ackWas ≤ s.rd (F.ISL_SIGNET_SIGNET u) →
    s.present u c v = s) ∧
  (∀ (s : State) (c : Fin 104) (u : Fin 2) (sh : Option Nat), s.up →
    (s.islState u ≠ 3 ∧ s.islState u ≠ 4 → exec (.claspPresentation c u sh) s = .next s) ∧
    (s.islState u = 3 ∨ s.islState u = 4 → s.domOn (3 + u) = true → s.domOn 5 = true →
      exec (.claspPresentation c u none) s = .next
        ((((s.modIsl u (fun x => { x with alive := true })).present u c (s.islValue u c)).ackTick 0).ackTick 1))) ∧
  (∀ (s : State) (c : Fin 104), s.up → s.domOn 5 = true → s.rd (F.CLASP_STAT_STATE c) = 0 →
    ((s.clasps.getD c {}).acceptedAt + 12000 ≤ s.now → Gives (.claspHold c) s (fun t =>
      t.rd (F.CLASP_STAT_STATE c) = 1 ∧ RegsOnly s t [F.CLASP_STAT_STATE c])) ∧
    (s.now < (s.clasps.getD c {}).acceptedAt + 12000 → exec (.claspHold c) s = .next s)) ∧
  (∀ (s : State) (c : Fin 104), s.up → s.domOn 5 = true → s.rd (F.CLASP_STAT_STATE c) = 1 →
    ((s.clasps.getD c {}).acceptedAt + 1000 * s.rd (F.CLASP_CFG_HOLD_LIM c) < s.now → Gives (.claspSafe c) s (fun t =>
      t.rd (F.CLASP_STAT_STATE c) = 2 ∧ (s.rd F.CLASP_SUMMARY_SAFE_N = 0 → t.rd F.FAULT_STAT_FRAME_STOP ≠ 0))) ∧
    (s.now ≤ (s.clasps.getD c {}).acceptedAt + 1000 * s.rd (F.CLASP_CFG_HOLD_LIM c) → exec (.claspSafe c) s = .next s)) ∧
  (∀ (s : State), s.up → Gives .claspClr s (fun t => t = { s with regs := t.regs } ∧ t.rd F.CLASP_SUMMARY_MM_N = 0 ∧
    ∀ c : Fin 104, t.rd (F.CLASP_STAT_MISMATCH c) = 0 ∧ t.rd (F.CLASP_STAT_STALE c) = 0 ∧
      t.rd (F.CLASP_STAT_STATE c) = s.rd (F.CLASP_STAT_STATE c) ∧ t.rd (F.CLASP_ACK_ACK c) = s.rd (F.CLASP_ACK_ACK c)))

/-- R398–R402, R404, R406–R409, R411, R412, R414, R416, R541: the islands: heartbeats, bids, self-tests, resumption,
fencing, Lockets, the standby's work, ISL_CMD, a transaction that waits for an island. -/
def Obligations.Islands : Prop :=
  (∀ (s : State) (u : Fin 2), (s.bid u 0).rd (F.ISL_SIGNET_SIGNET u) =
    (2 * (s.rd F.CLASP_ACK_MAX_ACK_MAX / 2 + 1) + (1 - u.val)) % 4294967296 ∧
    (s.islState u ≠ 4 → (s.bid u 0).islState u = 3)) ∧
  (∀ (s : State) (u : Fin 2), s.up → s.islState u ≠ 0 → s.domOn (3 + u) = true →
    exec (.heartbeatSend u false) s = .next (s.modIsl u (fun x => { x with alive := false })) ∧
    ((s.island u).sentAt = none → exec (.heartbeatSend u true) s =
      .next ((s.modIsl u (fun x => { x with alive := true })).sendBeat u false false))) ∧
  (∀ (s : State) (u : Fin 2) (b : Beat), s.up → (s.island (1 - u)).beat = some b → (s.island u).heard = none →
    s.islState u ≠ 0 → s.domOn (3 + u) = true → b.resign = false → b.handover = false → s.isl.isls.length = 2 →
    Gives (.heartbeat u true) s (fun t => t.rd (F.ISL_STAT_HB_OK u) = 1 ∧ (t.island u).heard = some b ∧
      (t.island u).heardAt = s.now ∧ (t.island u).peerLost = false ∧ t.host = s.host)) ∧
  (∀ (s : State) (u : Fin 2), s.up → s.domOn (3 + u) = true → s.rd (F.PWR_DOM_LEVEL (4 - u)) ≠ 1 →
    (s.island u).peerLost = false → (s.island u).heardAt + 20000 ≤ s.now → s.islState u = 4 →
    s.rd F.CLASP_ACK_MAX_ACK_MAX ≤ s.rd (F.ISL_SIGNET_SIGNET u) → Gives (.peerLost u) s (fun t =>
      t.rd (F.ISL_STAT_HB_OK u) = 0 ∧ t.islState u = 4 ∧
      t.rd (F.ISL_SIGNET_SIGNET u) = (2 * (s.rd F.CLASP_ACK_MAX_ACK_MAX / 2 + 1) + (1 - u.val)) % 4294967296)) ∧
  (∀ s : State, s.up → (∀ c ∈ s.clasps, c.acceptedAt + 20000 ≤ s.now) → s.domOn 5 = true →
    exec .claspMonitorSilence s = .next ((s.bidTrigger 0 2).bidTrigger 1 2)) ∧
  (∀ (s : State) (u : Fin 2), (∀ x ∈ (s.island u).lostAt, x.1 / 10 ≠ s.now / 10) → s.readyToBid u = s.islReady u) ∧
  (∀ (s : State) (u : Fin 2) (t : Nat) (r : Bool), (s.island u).lostAt = some (t, r) → t / 10 = s.now / 10 → s.readyToBid u = r) ∧
  (∀ (s : State) (u : Fin 2) (c : Nat), s.islState u = 5 → s.readyToBid u = true → s.bidTrigger u c = s.bid u c) ∧
  (∀ (s : State) (u : Fin 2) (c : Nat), s.islState u = 5 → s.readyToBid u = false → (s.island u).noSucc = false →
    (s.bidTrigger u c).islState u = 5 ∧ (s.bidTrigger u c).rd F.FAULT_STAT_FRAME_STOP ≠ 0) ∧
  (∀ (s : State) (u : Fin 2) (flash : List Byte) (err : Bool), s.up → s.islState u = 1 → s.domOn (3 + u) = true →
    Gives (.islandBootComplete u flash err) s (fun t => t.islState u = 2 ∧ t.boot.flashRead = true)) ∧
  (∀ (s : State) (u : Fin 2) (k : Fin 9), s.up → s.islState u = 6 → s.domOn (3 + u) = true → (s.island u).retests = [] →
    Gives (.selftestComplete u (some k)) s (fun t => t.islState u = 7)) ∧
  (∀ (s : State) (u : Fin 2), s.up → s.islState u = 6 → s.domOn (3 + u) = true → (s.island u).retests = [] → s.boot.phase ≠ 3 →
    Gives (.selftestComplete u none) s (fun t => t.islState u = 5)) ∧
  (∀ (s : State) (u : Fin 2), s.up → s.islState u = 2 → s.domOn (3 + u) = true → s.poweringOn = false →
    s.claspsSilent = true → Gives (.selftestComplete u none) s (fun t => t.islState u = 3)) ∧
  (∀ (s : State) (u : Fin 2) (o : Option (Fin 9)), s.up → s.domOn (3 + u) = false →
    exec (.selftestComplete u o) s = .next (s.bootIslands.patchTick)) ∧
  (∀ (s : State) (u : Fin 2) (t0 : Nat), s.up → (s.island u).bidAt = some t0 → s.islState u = 3 → t0 + 2000 ≤ s.now →
    s.domOn (3 + u) = true → s.rd F.CLASP_ACK_MAX_ACK_MAX ≤ s.rd (F.ISL_SIGNET_SIGNET u) →
    Gives (.bidResolve u) s (fun t => t.islState u = 4 ∧ t.rd F.GLB_STATE_ACTIVE_ISL = 1 - u.val ∧
      t.rd (F.ISL_EVENTS_TAKEOVERS u) = (if (s.island u).bidCause = 4 ∧ (s.island u).retested = false then s.rd (F.ISL_EVENTS_TAKEOVERS u)
        else satAdd (F.ISL_EVENTS_TAKEOVERS u).w (s.rd (F.ISL_EVENTS_TAKEOVERS u)) 1))) ∧
  (∀ (s : State) (u : Fin 2), s.up → s.islState u = 4 → (s.island u).resuming = true →
    exec (.takeoverResume u) s = .next ((List.range 160).foldl State.admission
      ((List.range 104).foldl (fun (s : State) (c : Nat) => if (s.driver c).isNone then s.present u c (s.want c) else s)
        (s.modIsl u (fun x => { x with resuming := false }))))) ∧
  (∀ (s : State) (u : Fin 2) (k : Fin 4) (core : Fin 2), s.up → s.islState u = 4 ∨ s.islState u = 5 → s.domOn (3 + u) = true →
    Gives (.islandInternalFault u k core) s (fun t => t.islState u = 6 ∧ t.rd (F.ISL_STAT_FENCE_CAUSE u) = k.val + 2 ∧
      t.rd (F.ISL_EVENTS_FENCES u) = satAdd (F.ISL_EVENTS_FENCES u).w (s.rd (F.ISL_EVENTS_FENCES u)) 1)) ∧
  (∀ s : State, s.up → s.islState 0 = 4 → (s.island 0).alive = true → s.domOn 3 = true → s.domOn 5 = true →
    s.isl.lockets.length = 2 →
    let n := ((s.isl.lockets.filterMap id).foldl (fun a l => max a l.lkseq) 0 + 1) % 4294967296
    Gives .locketWrite s (fun t => t.rd F.LOCKET_STAT_LKSEQ = n ∧ t.rd (F.ISL_LKSEQ_LKSEQ 0) = n ∧
      some (s.locketNow n) ∈ t.isl.lockets ∧ ∀ k ∈ t.host.kept, s.host.tseq - 1 < k.1)) ∧
  (∀ (s : State) (n : Nat), let l := s.locketNow n
    l.lkseq = n ∧ l.tseq = s.host.tseq - 1 ∧ l.etime = s.etime ∧ l.wpos = s.wpos ∧ l.valid = true ∧
    l.bodyLen = (Config.locketBody l.parts).length ∧ l.crc = crc32c (Config.locketBody l.parts)) ∧
  (∀ (s : State) (u : Fin 2) (l : Locket), s.up → s.locket = some l → s.islState u = 5 → s.domOn (3 + u) = true →
    s.isl.isls.length = 2 → Gives (.locketValidate u true) s (fun t => t.rd (F.ISL_LKSEQ_LKSEQ u) = l.lkseq % 4294967296 ∧
      t.host = s.host ∧
      ((∀ n, (s.island u).badLk = some n → n < l.lkseq) → (t.island u).locketOk = true) ∧
      (∀ n, (s.island u).badLk = some n → l.lkseq ≤ n → (t.island u).locketOk = (s.island u).locketOk)) ∧
    Gives (.locketValidate u false) s (fun t => (t.island u).locketOk = false ∧ (t.island u).badLk = some l.lkseq ∧
      t.rd (F.ISL_STAT_READY u) = 0 ∧ (some l ∉ t.isl.lockets ∨ l.valid = false))) ∧
  (∀ (s : State) (u : Fin 2) (n : Nat), s.up → s.islState u = 5 → s.domOn (3 + u) = true →
    Gives (.bistSlice u true true n 0) s (fun t => t.rd (F.ISL_BIST_PASSES u) =
      satAdd (F.ISL_BIST_PASSES u).w (s.rd (F.ISL_BIST_PASSES u)) 1 ∧ t.host = s.host) ∧
    (s.isl.isls.length = 2 → Gives (.bistSlice u true false n 0) s (fun t => t.rd (F.ISL_BIST_FAILS u) =
      satAdd (F.ISL_BIST_FAILS u).w (s.rd (F.ISL_BIST_FAILS u)) 1 ∧ t.rd (F.ISL_STAT_READY u) = 0))) ∧
  (∀ (s : State) (u : Fin 2) (bist ok : Bool) (n k : Nat), s.up → s.islState u ≠ 0 → s.domOn (3 + u) = true →
    Gives (.bistSlice u bist ok n k) s (fun t => t.rd (F.ISL_SCRUB_CE u) =
      satAdd (F.ISL_SCRUB_CE u).w (s.rd (F.ISL_SCRUB_CE u)) k)) ∧
  (∀ (s : State) (u : Fin 2), s.up → s.islState u ≠ 0 → s.islState u ≠ 7 →
    s.etime / 10000000 ≠ (s.island u).healthAt / 10000000 → Gives (.healthRecord u) s (fun t =>
      t.rd (F.ISL_HEALTH_HEALTH u) = s.healthWord u % 4294967296)) ∧
  (∀ (s : State) (u : Fin 2), s.up → s.islState u = 0 ∨ s.islState u = 7 → exec (.healthRecord u) s = .next s) ∧
  (∀ (s : State) (u : Fin 2), s.up → s.isl.isls.length = 2 → s.islState u = 5 → (s.island u).rejoining = true →
    s.domOn (3 + u) = true → s.islState (1 - u) = 4 →
    ((s.island u).slots = [] → Gives (.rejoinComplete u) s (fun t => (t.island u).rejoined = true ∧
      (t.island u).rejoining = false ∧ (t.island u).declaredLost = false ∧ (t.island u).locketOk = s.locketGood ∧
      t.host = s.host)) ∧
    ((s.island u).slots ≠ [] → exec (.rejoinComplete u) s = .next s)) ∧
  (∀ (s : State) (u : Fin 2), s.up → s.islState (1 - u) ≠ 4 → exec (.rejoinComplete u) s = .next s) ∧
  (∀ (s : State) (q : Fin 32) (ds : List Desc), s.up → s.takeable q = some ds → classOf q = 3 → genericFail q ds = none →
    s.islandLacks q ds = true →
    let t := ((s.machState q ds).unserve q ds (s.machTaken q ds).1.tseq).settleHead q ds.length
    (dOpcode (ds.headD 0) = 0x32 → exec (.axMove q) s = .next t) ∧ (dOpcode (ds.headD 0) = 0x34 → exec (.axHome q) s = .next t) ∧
    (dOpcode (ds.headD 0) = 0x36 → dField (ds.headD 0) 10 1 = 3 → exec (.loopCtlAuto q) s = .next t)) ∧
  (∀ (s v : State) (q : Fin 32) (d : Desc) (w r : Nat), s.machReady q [d] →
    (s.machState q [d]).applyMach (s.machRef q [d]) [d] = .done v w r →
    (dOpcode d = 0x38 → dField d 8 1 = 0 → exec (.islCmdSwitch q) s = .next (s.machAnswer q [d] v w r)) ∧
    (dOpcode d = 0x38 → dField d 8 1 = 1 → exec (.islCmdRetest q) s = .next (s.machAnswer q [d] v w r))) ∧
  (∀ (s : State) (ref : Nat) (d : Desc), dOpcode d = 0x38 → dCount d = 0 → dZero d 10 63 = true →
    (dField d 8 1 = 0 → dField d 9 1 = 0 → s.successor = none → s.applyMach ref [d] = .fail 0 5 0 0 id) ∧
    (∀ u, dField d 8 1 = 0 → dField d 9 1 = 0 → s.successor = some u → ∃ t : State, s.applyMach ref [d] = .done t 1 0 ∧
      (none, some ref) ∈ t.isl.switches) ∧
    (∀ u : Fin 2, dField d 8 1 = 1 → dField d 9 1 = u.val + 1 → s.islState u = 7 →
      ∃ t : State, s.applyMach ref [d] = .done t 1 0 ∧ t.islState u = 2) ∧
    (∀ u : Fin 2, dField d 8 1 = 1 → dField d 9 1 = u.val + 1 → s.islState u = 5 →
      ∃ t : State, s.applyMach ref [d] = .done t 1 0 ∧ t.islState u = 6) ∧
    (∀ u : Fin 2, dField d 8 1 = 1 → dField d 9 1 = u.val + 1 → s.islState u ≠ 7 → s.islState u ≠ 5 →
      s.applyMach ref [d] = .fail 0 5 0 0 id)) ∧
  (∀ s : State, s.up → s.rd F.CLASP_ISL_STAT_BUSY = 0 →
    (∀ u, s.successor = some u → Gives .claspIslCmdSwitch s (fun t => t.rd F.CLASP_ISL_STAT_BUSY = 1)) ∧
    (s.successor = none → Gives .claspIslCmdSwitch s (fun t => t.rd F.CLASP_ISL_STAT_STATUS = 5 ∧
      RegsOnly s t [F.CLASP_ISL_STAT_STATUS])) ∧
    (s.islState 0 = 7 → Gives .claspIslCmdRetestA s (fun t => t.rd F.CLASP_ISL_STAT_BUSY = 1 ∧ t.islState 0 = 2)) ∧
    (s.islState 1 = 5 → Gives .claspIslCmdRetestB s (fun t => t.rd F.CLASP_ISL_STAT_BUSY = 1 ∧ t.islState 1 = 6)))

/-- R282, R496, R500, R502–R506, R508, R510–R515: compatibility mode's registers, frames, receiver, and the transmitter of
native mode. -/
def Obligations.CompatibilityMode : Prop :=
  (∀ (s : State) (n : Fin 256) (v : BitVec 16) (c : Fin 16) (k : Fin 8) (v' : BitVec 16), s.up → s.compat = false →
    exec (.legacyWrite n v) s = .next s ∧ exec (.legacyHvCtlWrite c v') s = .next s ∧
    exec (.legacyFzCtlWrite k v') s = .next s) ∧
  (∀ (s : State) (v : BitVec 16), s.up → s.compat = true →
    exec (.legacyWrite 0x0A v) s = .next (((s.legStore 0x0A v.toNat).legEffect 0x0A v.toNat).legInt)) ∧
  (∀ (s : State) (c : Fin 16) (v : BitVec 16), s.up → s.compat = true →
    exec (.legacyHvCtlWrite c v) s = .next (((s.legStore (0x81 + 4 * c) v.toNat).legHvCtl c).legInt)) ∧
  (∀ (s : State) (k : Fin 8) (v : BitVec 16), s.up → s.compat = true →
    exec (.legacyFzCtlWrite k v) s = .next (((s.legStore (0xC1 + 4 * k) v.toNat).legFzCtl k).legInt)) ∧
  (∀ s : State, s.up → s.compat = true →
    (s.armRefusal = none → exec (.legacyRun true) s = .next { (s.wr L.CTRL_RUN 1).armed with
      leg := { (s.wr L.CTRL_RUN 1).armed.leg with stopping := false } }) ∧
    (∀ r f g, s.armRefusal = some (r, f, g) → exec (.legacyRun true) s =
      .next ((((s.wr L.CTRL_RUN 0).armRefused r 0 f g).setW1c L.STAT_CFG_FAULT 1).legIrq 12))) ∧
  (∀ s : State, s.up → s.compat = true → s.rd F.GLB_STATE_ARMED = 0 →
    Gives (.legacyRun false) s (fun t => t.rd L.CTRL_RUN = 0 ∧ t.leg.stopping = false ∧ t.host = s.host)) ∧
  (∀ s : State, s.up → s.compat = true →
    exec .lCtrlFsClr s = .next s.fsClr ∧ exec .lCtrlSafeClr s = .next s.lsafeClr) ∧
  (∀ (s u : State) (w r : Nat), s.up → s.compat = true →
    let z := s.axTarget
    let a := s.rd L.AX_SEL_AXIS
    let v := 32 * s.rd L.AX_VMAX_VMAX
    let x := sInt 32 (z.rd L.AX_TGT_HI_TGT * 65536 + z.rd L.AX_TGT_LO_TGT)
    (z.applyAxis 0 [mkEntry [(8, 1, a), (0, 1, 0x32), (10, 6, uBits 48 x), (16, 4, 256 * v), (20, 4, 10 * v)]] = .done u w r →
      exec .lAxCmdMove s = .next u) ∧
    (z.applyAxis 0 [mkEntry [(8, 1, a), (0, 1, 0x34)]] = .done u w r → exec .lAxCmdHome s = .next u) ∧
    (z.applyAxis 0 [mkEntry [(8, 1, a), (0, 1, 0x35), (9, 1, 0)]] = .done u w r → exec .lAxCmdStop s = .next u) ∧
    (z.applyAxis 0 [mkEntry [(8, 1, a), (0, 1, 0x35), (9, 1, 1)]] = .done u w r → exec .lAxCmdEstop s = .next u) ∧
    (z.applyAxis 0 [mkEntry [(8, 1, a), (0, 1, 0x35), (9, 1, 2)]] = .done u w r → exec .lAxCmdClear s = .next u)) ∧
  (∀ (s : State) (v : Nat), s.leg.axTgt = some v → v < 2 ^ 32 → s.axTarget.leg.axTgt = none ∧
    s.axTarget.rd L.AX_TGT_HI_TGT * 65536 + s.axTarget.rd L.AX_TGT_LO_TGT = v) ∧
  (∀ s : State, s.leg.axTgt = none → s.axTarget = s) ∧
  (∀ (s : State) (st : Fin 4) (m : BitVec 8), s.up → s.compat = true →
    exec (.lDropRestore st m) s = .next (s.dropClr st m.toNat)) ∧
  (∀ (s : State) (n : Fin 256) (p : PairHold), s.up → s.leg.pairs = [p] → p.addr = n.val →
    let hi := min p.addr p.other
    let u := s.dropHold hi
    let old := if p.other = hi then s.pairNow hi / 65536 else s.pairNow hi % 65536
    let v := p.value hi old
    (s.now < p.start + 64000 → exec (.pairHoldExpiry n) s = .next s) ∧
    (p.start + 64000 ≤ s.now → u.pairOk hi v = true → exec (.pairHoldExpiry n) s = .next (u.pairUse hi v)) ∧
    (p.start + 64000 ≤ s.now → u.pairOk hi v = false → exec (.pairHoldExpiry n) s = .next (u.post 1 0xA010 17 0
      [(0, 1, p.addr), (1, 1, p.other), (2, 2, p.val), (4, 2, p.val2.getD old)]))) ∧
  (∀ (s : State) (st : Fin 4), s.up → (s.legSt st).hop = none → exec (.legacyFreqHop st) s = .next s) ∧
  (∀ (s : State) (st : Fin 4) (f : Nat), s.up → (s.legSt st).hop = some f → s.compat = true → s.leg.st.length = 4 →
    s.outOfFrame st = true → f < 2 ^ 28 → Gives (.legacyFreqHop st) s (fun t => (t.legSt st).hop = none ∧
      t.rd (L.SC_FREQ_HI_FREQ st) = f / 65536 ∧ t.rd (L.SC_FREQ_LO_FREQ st) = f % 65536)) ∧
  (∀ (s : State) (st : Fin 4), s.up → s.legRuns st = true → s.legFp st + s.dsNext st ≤ s.wpos → s.leg.st.length = 4 →
    Gives (.legacyFrameStart st) s (fun t => (t.legSt st).next = (s.legSt st).next + 1)) ∧
  (∀ (s : State) (st : Fin 4), s.up → s.legRuns st = false → exec (.legacyFrameStart st) s = .next s) ∧
  (∀ (s : State) (ws : List (BitVec 16)), s.up → s.compat = true → s.on L.STAT_LINK_OK = true → s.leg.looping = false →
    packetParity (s.packetTaken ((ws.map (·.toNat)).headD 0 / 8192 % 4) (ws.map (·.toNat))) ≠ 0 → Gives (.lvrPacket ws) s (fun t =>
      t.rd (L.SSTAT_PARERR ((ws.map (·.toNat)).headD 0 / 8192 % 4)) = 1 ∧
      t.rd F.LVR_STAT_BAD = satAdd F.LVR_STAT_BAD.w (s.rd F.LVR_STAT_BAD) 1 ∧ t.leg.st = s.leg.st)) ∧
  (∀ (s : State) (ws : List (BitVec 16)) (a : Nat), s.up → s.compat = true → s.on L.STAT_LINK_OK = true →
    s.leg.looping = false →
    let h := (ws.map (·.toNat)).headD 0
    let st := h / 8192 % 4
    let e := h / 1024 % 8
    let got := s.packetTaken st (ws.map (·.toNat))
    packetParity got = 0 → (s.legSt st).asked = some a → s.on (L.SC_CTL_EN st) = true →
    h / 512 % 2 = (a + (s.legSt st).first) % 2 → s.legPacket st e a = none →
    exec (.lvrPacket ws) s = .next (s.modLeg st (fun l => { l with
      packets := (e, a, unpackCodes (s.legBpp st) ((got.drop 1).dropLast)) :: l.packets }))) ∧
  (∀ (s : State) (k : Nat), s.up → s.lrdy = true → s.on L.STAT_LINK_OK = false →
    (k ≤ 8 → exec (.linkTrained k) s = .next ((s.wr L.STAT_LINK_OK 1).post 0 0xA001 17 1 [(0, 1, k)])) ∧
    (8 < k → exec (.linkTrained k) s = .next s)) ∧
  (∀ s : State, s.up →
    (s.on L.STAT_LINK_OK = true → exec .linkClockLost s = .next ((s.wr L.STAT_LINK_OK 0).post 1 0xA002 17 1 [(0, 1, 0)])) ∧
    (s.on L.STAT_LINK_OK = true → s.lrdy = false →
      exec .lrdyFall s = .next ((s.wr L.STAT_LINK_OK 0).post 1 0xA002 17 1 [(0, 1, 1)])) ∧
    (s.lrdy = true → exec .lrdyFall s = .next s)) ∧
  (∀ s : State, s.up → s.compat = false → s.on F.LVT_STAT_RDY = false → s.on F.LVT_CFG_EN = true →
    Gives .lvtRdyRise s (fun t => t.rd F.LVT_STAT_RDY = 1 ∧
      t.leg.trainAt = some (s.now + ceilDiv (64 * 16 * 1000) (max 1 (s.rd F.LVT_CFG_RATE))) ∧ t.host = s.host)) ∧
  (∀ (s : State) (st : Fin 8), s.up → s.leg.trainAt = none → s.lvtStations.contains st.val = true → s.lvtUp = true →
    (s.sc st).tf = none → (s.lvtSt st).page = none → s.leg.lvt.length = 8 → Gives (.lvtBdRequest st) s (fun t =>
      ((t.lvtSt st).sent.length = 8) ∧ (t.lvtSt st).facet = (s.lvtSt st).facet + 1 ∧ t.alm = s.alm)) ∧
  (∀ (s : State) (st : Fin 8) (t p : Nat), s.up → s.leg.trainAt = none → s.lvtStations.contains st.val = true → s.lvtUp = true →
    (s.sc st).tf = some t →
    let v := ((s.wr (F.ST_FACET_PERIOD_PERIOD st) (s.now * 250 - t)).modSc st
      (fun c => { c with tf := some (s.now * 250), fno := c.fno + 1 })).lvtPackets st
    (v.lvtSt st).page = some p → exec (.lvtBdRequest st) s =
      .next (if (v.slot p).lines ≤ 8 * (v.lvtSt st).facet then v.lvtEnd st p else v)) ∧
  (∀ (s : State) (st : Fin 8), s.up → s.leg.trainAt = none → s.lvtStations.contains st.val = true → s.leg.lvtOrder = [] →
    s.leg.lvtWait = [] → (s.lvtSt st).page = none → Gives (.lvtTop st) s (fun t => (t.lvtSt st).facet = 0 ∧ t.alm = s.alm)) ∧
  (∀ (s : State) (st : Fin 8), s.up → s.leg.trainAt = none → s.lvtStations.contains st.val = true → (s.lvtSt st).page = none →
    let u := s.modLvt st (fun l => { l with facet := 0 })
    (∀ p, s.leg.lvtOrder.find? (fun p => (s.slot p).mask.testBit st && !(s.slot p).started.testBit st) = some p →
      exec (.lvtTop st) s = .next (u.lvtBegin st p)) ∧
    (∀ p, s.leg.lvtOrder.find? (fun p => (s.slot p).mask.testBit st && !(s.slot p).started.testBit st) = none →
      s.lvtNext st = some p →
      exec (.lvtTop st) s = .next (if ((u.lvtDecide p).slot p).st = .admitted then (u.lvtDecide p).lvtBegin st p
        else u.lvtDecide p))) ∧
  (∀ s : State, s.up → s.on F.LVT_STAT_RDY = true → (∀ st : Fin 8, (s.lvtSt st).page = none) → Gives .lvtEngineLost s (fun t =>
    t.rd F.LVT_STAT_RDY = 0 ∧ t.rd F.LVT_STAT_TRAINED = 0 ∧ t.leg.trainAt = none ∧ t.host = s.host)) ∧
  (∀ s : State, s.up → s.rd F.GLB_STATE_ARMED = 0 → s.on F.LINK_LOOP_EN = true → s.leg.looping = false →
    Gives .linkLoopStart s (fun t => t.leg.looping = true ∧ t.rd F.LINK_LOOP_STAT_DONE = 0 ∧
      RegsOnly { s with leg := t.leg } t [F.LINK_LOOP_STAT_DONE, F.LINK_LOOP_STAT_PASS, F.LINK_LOOP_STAT_ERRORS])) ∧
  (∀ s : State, s.up → s.rd F.GLB_STATE_ARMED ≠ 0 → exec .linkLoopStart s = .next s) ∧
  (∀ (s : State) (ws : List (BitVec 16)), s.up → s.leg.looping = true →
    let e := if s.on F.LINK_LOOP_EXT then min 65535 (wordErrors s.loopSent ws) else 0
    Gives (.linkLoopDone ws) s (fun t => t.leg.looping = false ∧ t.rd F.LINK_LOOP_STAT_DONE = 1 ∧
      t.rd F.LINK_LOOP_STAT_ERRORS = e ∧ t.rd F.LINK_LOOP_STAT_PASS = b2n (e == 0))) ∧
  (∀ s : State, wordErrors s.loopSent s.loopSent = 0) ∧
  (∀ (s : State) (ns : Nat) (a hi lo : Byte), s.spiFrame ns [2, a, hi, lo] = (s.legWrite a.toNat (hi.toNat * 256 + lo.toNat), [])) ∧
  (∀ (s : State) (ns : Nat) (a : Byte), s.spiFrame ns [3, a] = (s, spiReply ns (s.legRead a.toNat))) ∧
  (∀ (s : State) (ns : Nat) (c : Byte) (bs : List Byte), (c = 2 → bs.length ≠ 3) → (c = 3 → bs.length ≠ 1) →
    s.spiFrame ns (c :: bs) = (s, [])) ∧
  (∀ (ns v : Nat), 0 < ns → ∃ k, spiReply ns v = List.replicate k 0 ++ [0xA5, v / 256 % 256, v % 256] ∧ 2000 ≤ k * ns ∧
    (k * ns < 2000 + ns))

/-- R354: at each count change the reported count q follows the raw count onward in direction d, turns when it has gone back
beyond JW, and otherwise holds; q never runs backward by less than JW + 1 counts. -/
def Obligations.ReportedCount : Prop :=
  (∀ (s : State) (n : Fin 8) (r : Int),
    let q := s.rd64 (F.ENC_REP_LO_REP n) (F.ENC_REP_HI_REP n)
    let d : Int := if s.on (F.ENC_STAT_DIR n) then -1 else 1
    let t := (s.encReport n r).1
    (0 < d * (r - q) → t.rd (F.ENC_REP_LO_REP n) = uBits 32 r ∧ t.rd (F.ENC_REP_HI_REP n) = uBits 32 (r / 4294967296) ∧
      t.on (F.ENC_STAT_DIR n) = s.on (F.ENC_STAT_DIR n) ∧ (s.encReport n r).2 = false) ∧
    ((s.rd (F.ENC_CFG_JW n) : Int) < d * (q - r) → t.rd (F.ENC_REP_LO_REP n) = uBits 32 r ∧
      t.rd (F.ENC_REP_HI_REP n) = uBits 32 (r / 4294967296) ∧ t.on (F.ENC_STAT_DIR n) = !s.on (F.ENC_STAT_DIR n)) ∧
    (0 ≤ d * (q - r) → d * (q - r) ≤ s.rd (F.ENC_CFG_JW n) → s.encReport n r = (s, false)) ∧
    (r.natAbs < 2 ^ 62 →
      let q' := t.rd64 (F.ENC_REP_LO_REP n) (F.ENC_REP_HI_REP n)
      d * (q' - q) < 0 → (s.rd (F.ENC_CFG_JW n) : Int) + 1 ≤ d * (q - q'))) ∧
  (∀ (s : State) (n : Fin 8) (a b fwd : Bool), s.up → s.encReady n →
    (s.enc n).a.level ≠ a ∧ (s.enc n).b.level = b ∧ fwd = (a != b) ∨
      (s.enc n).a.level = a ∧ (s.enc n).b.level ≠ b ∧ fwd = (a == b) →
    let r := s.rd64 (F.ENC_RAW_LO_RAW n) (F.ENC_RAW_HI_RAW n) + (if fwd != s.on (F.ENC_CFG_DIR_INV n) then 1 else -1)
    let u := (s.encReport n r).1
    Gives (.encoderCount n a b) s (fun t => t.rd (F.ENC_REP_LO_REP n) = u.rd (F.ENC_REP_LO_REP n) ∧
      t.rd (F.ENC_REP_HI_REP n) = u.rd (F.ENC_REP_HI_REP n) ∧ t.on (F.ENC_STAT_DIR n) = u.on (F.ENC_STAT_DIR n)))

/-- R377: SATRUN counts consecutive saturated ticks in AUTO; SAT_TRIP when it reaches SAT_LIM, and the action of R379. -/
def Obligations.SaturationTrip : Prop :=
  (∀ (s : State) (l : Fin 192), s.loopMode l = 2 →
    (s.satStep l true).rd (F.LP_SUPCNT_SATRUN l) = satAdd (F.LP_SUPCNT_SATRUN l).w (s.rd (F.LP_SUPCNT_SATRUN l)) 1) ∧
  (∀ (s : State) (l : Fin 192), (s.satStep l false).rd (F.LP_SUPCNT_SATRUN l) = 0 ∧
    (s.loopMode l ≠ 2 → (s.satStep l true).rd (F.LP_SUPCNT_SATRUN l) = 0)) ∧
  (∀ (s : State) (l : Fin 192), s.loopMode l = 2 → s.rd (F.LP_SUP_SAT_LIM l) ≠ 0 → s.on (F.LP_STAT_SAT_TRIP l) = false →
    let u := s.inc (F.LP_SUPCNT_SATRUN l)
    (s.rd (F.LP_SUP_SAT_LIM l) ≤ u.rd (F.LP_SUPCNT_SATRUN l) → (s.satStep l true).rd (F.LP_STAT_SAT_TRIP l) = 1 ∧
      s.satStep l true = (u.wr (F.LP_STAT_SAT_TRIP l) 1).loopTrip l 0x6010
        [(0, 2, u.rd (F.LP_SUPCNT_SATRUN l)), (2, 2, s.rd (F.LP_STAT_OUT l))]) ∧
    (u.rd (F.LP_SUPCNT_SATRUN l) < s.rd (F.LP_SUP_SAT_LIM l) → (s.satStep l true).rd (F.LP_STAT_SAT_TRIP l) = 0))

/-- R297: for R52 a station PLL is locked when it is fine-locked (FINE, code 4); while GLB_STATE.TIER reads P (code 2),
coarse-locked (COARSE, code 3, or FINE) is enough. -/
def Obligations.StationPllLocked : Prop :=
  ∀ (s : State) (st : Fin 8), s.pllLocked st = true ↔
    s.rd (F.PLL_STAT_STATE (4 + st)) = 4 ∨
      (s.rd F.GLB_STATE_TIER = 2 ∧ (s.rd (F.PLL_STAT_STATE (4 + st)) = 3 ∨ s.rd (F.PLL_STAT_STATE (4 + st)) = 4))

/-- R70, R83, R107, R125: the band store's bytes: what `putGrans` stores in a run of granules `getGrans` reads back, and every other
address reads as before; so does the store through the scratch aperture; a byte that nothing has written reads 0 (log 9). -/
def Obligations.BandStoreBytes : Prop :=
  (∀ (s : State) (gs : List Nat) (n : Nat) (bs : List Byte),
    (∀ i < bs.length, ∀ j < bs.length, granAddr gs (n + i) = granAddr gs (n + j) → i = j) →
    (s.putGrans gs n bs).getGrans gs n bs.length = bs) ∧
  (∀ (s : State) (gs : List Nat) (n a : Nat) (bs : List Byte), (∀ i, i < bs.length → granAddr gs (n + i) ≠ a) →
    amGet 0#8 (s.putGrans gs n bs).band.mem a = amGet 0#8 s.band.mem a) ∧
  (∀ (s : State) (gs : List Nat) (n : Nat) (bs : List Byte),
    s.putGrans gs n bs = { s with band := { s.band with mem := (s.putGrans gs n bs).band.mem } }) ∧
  (∀ (gs : List Nat) (n i j : Nat), gs.Nodup → n + i < 65536 * gs.length → n + j < 65536 * gs.length →
    granAddr gs (n + i) = granAddr gs (n + j) → i = j) ∧
  (∀ (m : List Host.Cell) (a : Nat) (bs : List Byte), getMem (putMem m a bs) a bs.length = bs ∧
    (∀ b, b < a ∨ a + bs.length ≤ b → amGet 0#8 (putMem m a bs) b = amGet 0#8 m b) ∧
    (Memory.wf m → Memory.wf (putMem m a bs))) ∧
  (∀ (s : State) (fs : List (Nat × Nat)) (out : List Byte) (b : Nat),
    (∀ f ∈ fs, apertureBase ≤ f.1 → b < s.scratchAddr f.1 ∨ s.scratchAddr f.1 + f.2 ≤ b) →
    amGet 0#8 (s.fillChain fs out).band.mem b = amGet 0#8 s.band.mem b) ∧
  (∀ a : Nat, amGet 0#8 State.reset.band.mem a = 0#8) ∧
  (∀ (m m' : List Host.Cell), Memory.wf m → Memory.wf m' → (∀ a, amGet 0#8 m a = amGet 0#8 m' a) → m = m')

/-- R70: every step keeps the canonical form of the band store. -/
def Obligations.BandStoreStaysCanonical : Prop :=
  ∀ s t : State, Memory.wf s.band.mem → step s = .next t → Memory.wf t.band.mem
end

