-- ==== Sys2Proof/Laws/Maps.lean ====
section
/-! SUPPORT. The sorted maps: a read after a write at the same key gives the value, a write leaves every other key
alone, and every operation keeps the canonical form. -/

namespace Sys2Proof.Machine

open Sys2Proof

variable {α : Type}

theorem amGet_amIns_same (d : α) (m : List (Nat × α)) (k : Nat) (v : α) (h : ∀ e ∈ m, e.1 ≠ k) :
    amGet d (amIns m k v) k = v := by
  induction m with
  | nil => simp [amIns, amGet]
  | cons e t ih =>
    obtain ⟨k', v'⟩ := e
    simp only [amIns]
    split
    · simp [amGet]
    · have : k' ≠ k := h (k', v') (by simp)
      simp [amGet, this, ih (fun e he => h e (by simp [he]))]

theorem amGet_amIns_ne (d : α) (m : List (Nat × α)) (k j : Nat) (v : α) (h : k ≠ j) :
    amGet d (amIns m k v) j = amGet d m j := by
  induction m with
  | nil => simp [amIns, amGet, h]
  | cons e t ih =>
    obtain ⟨k', v'⟩ := e
    simp only [amIns]
    split
    · simp [amGet, h]
    · simp [amGet, ih]

theorem mem_amDel (m : List (Nat × α)) (k : Nat) : ∀ e ∈ amDel m k, e.1 ≠ k ∧ e ∈ m := by
  induction m with
  | nil => simp [amDel]
  | cons e t ih =>
    obtain ⟨k', v'⟩ := e
    intro e he
    simp only [amDel] at he
    split at he
    · have := ih e he
      exact ⟨this.1, by simp [this.2]⟩
    · rename_i hk
      rcases List.mem_cons.mp he with rfl | he
      · exact ⟨hk, by simp⟩
      · have := ih e he
        exact ⟨this.1, by simp [this.2]⟩

theorem amGet_notin (d : α) (m : List (Nat × α)) (k : Nat) (h : ∀ e ∈ m, e.1 ≠ k) : amGet d m k = d := by
  induction m with
  | nil => rfl
  | cons e t ih =>
    obtain ⟨k', v'⟩ := e
    have : k' ≠ k := h (k', v') (by simp)
    simp [amGet, this, ih (fun e he => h e (by simp [he]))]

theorem amGet_amDel_ne (d : α) (m : List (Nat × α)) (k j : Nat) (h : k ≠ j) :
    amGet d (amDel m k) j = amGet d m j := by
  induction m with
  | nil => rfl
  | cons e t ih =>
    obtain ⟨k', v'⟩ := e
    simp only [amDel]
    split
    · rename_i hk
      have : k' ≠ j := by omega
      simp [amGet, this, ih]
    · simp [amGet, ih]

/-- A read after a write at the same key gives the value written. -/
theorem amGet_amSet_same [DecidableEq α] (d : α) (m : List (Nat × α)) (k : Nat) (v : α) :
    amGet d (amSet d m k v) k = v := by
  unfold amSet
  split
  · rename_i hv
    rw [amGet_notin _ _ _ (fun e he => (mem_amDel m k e he).1), hv]
  · exact amGet_amIns_same _ _ _ _ (fun e he => (mem_amDel m k e he).1)

/-- A write leaves every other key alone. -/
theorem amGet_amSet_ne [DecidableEq α] (d' d : α) (m : List (Nat × α)) (k j : Nat) (v : α) (h : k ≠ j) :
    amGet d' (amSet d m k v) j = amGet d' m j := by
  unfold amSet
  split
  · exact amGet_amDel_ne _ _ _ _ h
  · rw [amGet_amIns_ne _ _ _ _ _ h, amGet_amDel_ne _ _ _ _ h]

theorem amSorted_weaken (m : List (Nat × α)) (a : Option Nat) (b : Nat) (hab : ∀ l, a = some l → l ≤ b)
    (h : amSorted (some b) m = true) : amSorted a m = true := by
  cases m with
  | nil => rfl
  | cons e t =>
    obtain ⟨k, v⟩ := e
    simp only [amSorted, Bool.and_eq_true, decide_eq_true_eq] at h ⊢
    refine ⟨?_, h.2⟩
    cases a with
    | none => rfl
    | some l =>
      have := hab l rfl
      simp; omega

theorem amSorted_amDel (m : List (Nat × α)) (lo : Option Nat) (k : Nat) (h : amSorted lo m = true) :
    amSorted lo (amDel m k) = true := by
  induction m generalizing lo with
  | nil => rfl
  | cons e t ih =>
    obtain ⟨k', v'⟩ := e
    simp only [amSorted, Bool.and_eq_true] at h
    simp only [amDel]
    split
    · refine ih lo (amSorted_weaken t lo k' ?_ h.2)
      intro l hl
      subst hl
      have := h.1
      simp at this; omega
    · simp only [amSorted, Bool.and_eq_true]
      exact ⟨h.1, ih _ h.2⟩

theorem amSorted_amIns (m : List (Nat × α)) (lo : Option Nat) (k : Nat) (v : α) (h : amSorted lo m = true)
    (hlo : ∀ l, lo = some l → l < k) (hk : ∀ e ∈ m, e.1 ≠ k) : amSorted lo (amIns m k v) = true := by
  induction m generalizing lo with
  | nil =>
    cases lo with
    | none => rfl
    | some l => simpa [amIns, amSorted] using hlo l rfl
  | cons e t ih =>
    obtain ⟨k', v'⟩ := e
    simp only [amSorted, Bool.and_eq_true] at h
    simp only [amIns]
    split
    · rename_i hlt
      simp only [amSorted, Bool.and_eq_true, decide_eq_true_eq]
      refine ⟨?_, hlt, h.2⟩
      cases lo with
      | none => rfl
      | some l => simpa using hlo l rfl
    · rename_i hge
      simp only [amSorted, Bool.and_eq_true]
      refine ⟨h.1, ih _ h.2 ?_ (fun e he => hk e (by simp [he]))⟩
      intro l hl
      have := hk (k', v') (by simp)
      cases hl
      simp at this; omega

/-- A write keeps the keys strictly rising. -/
theorem amSorted_amSet [DecidableEq α] (d : α) (m : List (Nat × α)) (k : Nat) (v : α)
    (h : amSorted none m = true) : amSorted none (amSet d m k v) = true := by
  unfold amSet
  split
  · exact amSorted_amDel _ _ _ h
  · exact amSorted_amIns _ _ _ _ (amSorted_amDel _ _ _ h) (by simp) (fun e he => (mem_amDel m k e he).1)

theorem mem_amIns (m : List (Nat × α)) (k : Nat) (v : α) (e : Nat × α) (h : e ∈ amIns m k v) :
    e = (k, v) ∨ e ∈ m := by
  induction m with
  | nil => simpa [amIns] using h
  | cons x t ih =>
    simp only [amIns] at h
    split at h
    · simpa using h
    · rcases List.mem_cons.mp h with rfl | h
      · simp
      · rcases ih h with h | h <;> simp [h]

/-- A write lists no value that an unlisted key reads as. -/
theorem amSet_listed [DecidableEq α] (d : α) (m : List (Nat × α)) (k : Nat) (v : α) (h : ∀ e ∈ m, e.2 ≠ d) :
    ∀ e ∈ amSet d m k v, e.2 ≠ d := by
  intro e he
  unfold amSet at he
  split at he
  · exact h e (mem_amDel m k e he).2
  · rename_i hv
    rcases mem_amIns _ _ _ _ he with rfl | he
    · exact hv
    · exact h e (mem_amDel m k e he).2

/-- One byte written keeps the band store's canonical form. -/
theorem Memory.wf_amSet (m : List Host.Cell) (a : Nat) (b : Byte) (h : Memory.wf m) :
    Memory.wf (amSet 0#8 m a b) := by
  refine ⟨amSorted_amSet _ _ _ _ h.1, ?_⟩
  have := amSet_listed (0#8) m a b (by simpa using h.2)
  simpa using this

/-- A run of bytes written keeps the band store's canonical form. -/
theorem Memory.wf_putMem (m : List Host.Cell) (a : Nat) (bs : List Byte) (h : Memory.wf m) :
    Memory.wf (putMem m a bs) := by
  induction bs generalizing m a with
  | nil => exact h
  | cons b t ih => exact ih _ _ (Memory.wf_amSet m a b h)

/-- Bytes stored in a run of granules keep the band store's canonical form. -/
theorem Memory.wf_putGrans (s : State) (gs : List Nat) (n : Nat) (bs : List Byte) (h : Memory.wf s.band.mem) :
    Memory.wf (s.putGrans gs n bs).band.mem := by
  induction bs generalizing s n with
  | nil => exact h
  | cons b t ih => exact ih _ _ (Memory.wf_amSet _ _ _ h)

/-- The band store after reset is in canonical form. -/
theorem Memory.wf_reset : Memory.wf State.reset.band.mem := by decide

end Sys2Proof.Machine
end

