-- ==== Sys2Proof/Laws/State.lean ====
section
/-! SUPPORT. What each update of the state leaves alone, one lemma per update and field, so that no proof unfolds a
record update. -/

namespace Sys2Proof.Machine

open Sys2Proof

@[simp] theorem State.wr_pending (s : State) (f : Fld) (v : Nat) : (s.wr f v).pending = s.pending := rfl
@[simp] theorem State.wr_staged (s : State) (f : Fld) (v : Nat) : (s.wr f v).staged = s.staged := rfl
@[simp] theorem State.wr_time (s : State) (f : Fld) (v : Nat) : (s.wr f v).time = s.time := rfl
@[simp] theorem State.wr_host (s : State) (f : Fld) (v : Nat) : (s.wr f v).host = s.host := rfl
@[simp] theorem State.wr_rings (s : State) (f : Fld) (v : Nat) : (s.wr f v).rings = s.rings := rfl
@[simp] theorem State.wr_bezel (s : State) (f : Fld) (v : Nat) : (s.wr f v).bezel = s.bezel := rfl
@[simp] theorem State.wr_alm (s : State) (f : Fld) (v : Nat) : (s.wr f v).alm = s.alm := rfl
@[simp] theorem State.wr_band (s : State) (f : Fld) (v : Nat) : (s.wr f v).band = s.band := rfl
@[simp] theorem State.wr_codec (s : State) (f : Fld) (v : Nat) : (s.wr f v).codec = s.codec := rfl
@[simp] theorem State.wr_tbl (s : State) (f : Fld) (v : Nat) : (s.wr f v).tbl = s.tbl := rfl
@[simp] theorem State.wr_flt (s : State) (f : Fld) (v : Nat) : (s.wr f v).flt = s.flt := rfl
@[simp] theorem State.wr_scan (s : State) (f : Fld) (v : Nat) : (s.wr f v).scan = s.scan := rfl
@[simp] theorem State.wr_regf (s : State) (f : Fld) (v : Nat) : (s.wr f v).regf = s.regf := rfl
@[simp] theorem State.wr_mks (s : State) (f : Fld) (v : Nat) : (s.wr f v).mks = s.mks := rfl
@[simp] theorem State.wr_beams (s : State) (f : Fld) (v : Nat) : (s.wr f v).beams = s.beams := rfl
@[simp] theorem State.wr_octs (s : State) (f : Fld) (v : Nat) : (s.wr f v).octs = s.octs := rfl
@[simp] theorem State.wr_lsafe (s : State) (f : Fld) (v : Nat) : (s.wr f v).lsafe = s.lsafe := rfl
@[simp] theorem State.wr_clasps (s : State) (f : Fld) (v : Nat) : (s.wr f v).clasps = s.clasps := rfl
@[simp] theorem State.wr_clk (s : State) (f : Fld) (v : Nat) : (s.wr f v).clk = s.clk := rfl
@[simp] theorem State.wr_mots (s : State) (f : Fld) (v : Nat) : (s.wr f v).mots = s.mots := rfl
@[simp] theorem State.wr_pins (s : State) (f : Fld) (v : Nat) : (s.wr f v).pins = s.pins := rfl
@[simp] theorem State.wr_xds (s : State) (f : Fld) (v : Nat) : (s.wr f v).xds = s.xds := rfl
@[simp] theorem State.wr_axes (s : State) (f : Fld) (v : Nat) : (s.wr f v).axes = s.axes := rfl
@[simp] theorem State.wr_encs (s : State) (f : Fld) (v : Nat) : (s.wr f v).encs = s.encs := rfl
@[simp] theorem State.wr_web (s : State) (f : Fld) (v : Nat) : (s.wr f v).web = s.web := rfl
@[simp] theorem State.wr_loops (s : State) (f : Fld) (v : Nat) : (s.wr f v).loops = s.loops := rfl
@[simp] theorem State.wr_hvs (s : State) (f : Fld) (v : Nat) : (s.wr f v).hvs = s.hvs := rfl
@[simp] theorem State.wr_fzs (s : State) (f : Fld) (v : Nat) : (s.wr f v).fzs = s.fzs := rfl
@[simp] theorem State.wr_ths (s : State) (f : Fld) (v : Nat) : (s.wr f v).ths = s.ths := rfl
@[simp] theorem State.wr_zc (s : State) (f : Fld) (v : Nat) : (s.wr f v).zc = s.zc := rfl
@[simp] theorem State.wr_isl (s : State) (f : Fld) (v : Nat) : (s.wr f v).isl = s.isl := rfl
@[simp] theorem State.wr_pwr (s : State) (f : Fld) (v : Nat) : (s.wr f v).pwr = s.pwr := rfl
@[simp] theorem State.wr_seq (s : State) (f : Fld) (v : Nat) : (s.wr f v).seq = s.seq := rfl
@[simp] theorem State.wr_boot (s : State) (f : Fld) (v : Nat) : (s.wr f v).boot = s.boot := rfl
@[simp] theorem State.wr_tier (s : State) (f : Fld) (v : Nat) : (s.wr f v).tier = s.tier := rfl
@[simp] theorem State.wr_leg (s : State) (f : Fld) (v : Nat) : (s.wr f v).leg = s.leg := rfl
@[simp] theorem State.wr_justSet (s : State) (f : Fld) (v : Nat) : (s.wr f v).justSet = s.justSet := rfl
@[simp] theorem State.wr_freeCtr (s : State) (f : Fld) (v : Nat) : (s.wr f v).freeCtr = s.freeCtr := rfl

@[simp] theorem State.wrS_pending (s : State) (f : Fld) (v : Int) : (s.wrS f v).pending = s.pending := rfl
@[simp] theorem State.wrS_staged (s : State) (f : Fld) (v : Int) : (s.wrS f v).staged = s.staged := rfl
@[simp] theorem State.wrS_time (s : State) (f : Fld) (v : Int) : (s.wrS f v).time = s.time := rfl
@[simp] theorem State.wrS_host (s : State) (f : Fld) (v : Int) : (s.wrS f v).host = s.host := rfl
@[simp] theorem State.wrS_rings (s : State) (f : Fld) (v : Int) : (s.wrS f v).rings = s.rings := rfl
@[simp] theorem State.wrS_bezel (s : State) (f : Fld) (v : Int) : (s.wrS f v).bezel = s.bezel := rfl
@[simp] theorem State.wrS_alm (s : State) (f : Fld) (v : Int) : (s.wrS f v).alm = s.alm := rfl
@[simp] theorem State.wrS_band (s : State) (f : Fld) (v : Int) : (s.wrS f v).band = s.band := rfl
@[simp] theorem State.wrS_codec (s : State) (f : Fld) (v : Int) : (s.wrS f v).codec = s.codec := rfl
@[simp] theorem State.wrS_tbl (s : State) (f : Fld) (v : Int) : (s.wrS f v).tbl = s.tbl := rfl
@[simp] theorem State.wrS_flt (s : State) (f : Fld) (v : Int) : (s.wrS f v).flt = s.flt := rfl
@[simp] theorem State.wrS_scan (s : State) (f : Fld) (v : Int) : (s.wrS f v).scan = s.scan := rfl
@[simp] theorem State.wrS_regf (s : State) (f : Fld) (v : Int) : (s.wrS f v).regf = s.regf := rfl
@[simp] theorem State.wrS_mks (s : State) (f : Fld) (v : Int) : (s.wrS f v).mks = s.mks := rfl
@[simp] theorem State.wrS_beams (s : State) (f : Fld) (v : Int) : (s.wrS f v).beams = s.beams := rfl
@[simp] theorem State.wrS_octs (s : State) (f : Fld) (v : Int) : (s.wrS f v).octs = s.octs := rfl
@[simp] theorem State.wrS_lsafe (s : State) (f : Fld) (v : Int) : (s.wrS f v).lsafe = s.lsafe := rfl
@[simp] theorem State.wrS_clasps (s : State) (f : Fld) (v : Int) : (s.wrS f v).clasps = s.clasps := rfl
@[simp] theorem State.wrS_clk (s : State) (f : Fld) (v : Int) : (s.wrS f v).clk = s.clk := rfl
@[simp] theorem State.wrS_mots (s : State) (f : Fld) (v : Int) : (s.wrS f v).mots = s.mots := rfl
@[simp] theorem State.wrS_pins (s : State) (f : Fld) (v : Int) : (s.wrS f v).pins = s.pins := rfl
@[simp] theorem State.wrS_xds (s : State) (f : Fld) (v : Int) : (s.wrS f v).xds = s.xds := rfl
@[simp] theorem State.wrS_axes (s : State) (f : Fld) (v : Int) : (s.wrS f v).axes = s.axes := rfl
@[simp] theorem State.wrS_encs (s : State) (f : Fld) (v : Int) : (s.wrS f v).encs = s.encs := rfl
@[simp] theorem State.wrS_web (s : State) (f : Fld) (v : Int) : (s.wrS f v).web = s.web := rfl
@[simp] theorem State.wrS_loops (s : State) (f : Fld) (v : Int) : (s.wrS f v).loops = s.loops := rfl
@[simp] theorem State.wrS_hvs (s : State) (f : Fld) (v : Int) : (s.wrS f v).hvs = s.hvs := rfl
@[simp] theorem State.wrS_fzs (s : State) (f : Fld) (v : Int) : (s.wrS f v).fzs = s.fzs := rfl
@[simp] theorem State.wrS_ths (s : State) (f : Fld) (v : Int) : (s.wrS f v).ths = s.ths := rfl
@[simp] theorem State.wrS_zc (s : State) (f : Fld) (v : Int) : (s.wrS f v).zc = s.zc := rfl
@[simp] theorem State.wrS_isl (s : State) (f : Fld) (v : Int) : (s.wrS f v).isl = s.isl := rfl
@[simp] theorem State.wrS_pwr (s : State) (f : Fld) (v : Int) : (s.wrS f v).pwr = s.pwr := rfl
@[simp] theorem State.wrS_seq (s : State) (f : Fld) (v : Int) : (s.wrS f v).seq = s.seq := rfl
@[simp] theorem State.wrS_boot (s : State) (f : Fld) (v : Int) : (s.wrS f v).boot = s.boot := rfl
@[simp] theorem State.wrS_tier (s : State) (f : Fld) (v : Int) : (s.wrS f v).tier = s.tier := rfl
@[simp] theorem State.wrS_leg (s : State) (f : Fld) (v : Int) : (s.wrS f v).leg = s.leg := rfl
@[simp] theorem State.wrS_justSet (s : State) (f : Fld) (v : Int) : (s.wrS f v).justSet = s.justSet := rfl
@[simp] theorem State.wrS_freeCtr (s : State) (f : Fld) (v : Int) : (s.wrS f v).freeCtr = s.freeCtr := rfl

@[simp] theorem State.inc_pending (s : State) (f : Fld) (k : Nat) : (s.inc f k).pending = s.pending := rfl
@[simp] theorem State.inc_staged (s : State) (f : Fld) (k : Nat) : (s.inc f k).staged = s.staged := rfl
@[simp] theorem State.inc_time (s : State) (f : Fld) (k : Nat) : (s.inc f k).time = s.time := rfl
@[simp] theorem State.inc_host (s : State) (f : Fld) (k : Nat) : (s.inc f k).host = s.host := rfl
@[simp] theorem State.inc_rings (s : State) (f : Fld) (k : Nat) : (s.inc f k).rings = s.rings := rfl
@[simp] theorem State.inc_bezel (s : State) (f : Fld) (k : Nat) : (s.inc f k).bezel = s.bezel := rfl
@[simp] theorem State.inc_alm (s : State) (f : Fld) (k : Nat) : (s.inc f k).alm = s.alm := rfl
@[simp] theorem State.inc_band (s : State) (f : Fld) (k : Nat) : (s.inc f k).band = s.band := rfl
@[simp] theorem State.inc_codec (s : State) (f : Fld) (k : Nat) : (s.inc f k).codec = s.codec := rfl
@[simp] theorem State.inc_tbl (s : State) (f : Fld) (k : Nat) : (s.inc f k).tbl = s.tbl := rfl
@[simp] theorem State.inc_flt (s : State) (f : Fld) (k : Nat) : (s.inc f k).flt = s.flt := rfl
@[simp] theorem State.inc_scan (s : State) (f : Fld) (k : Nat) : (s.inc f k).scan = s.scan := rfl
@[simp] theorem State.inc_regf (s : State) (f : Fld) (k : Nat) : (s.inc f k).regf = s.regf := rfl
@[simp] theorem State.inc_mks (s : State) (f : Fld) (k : Nat) : (s.inc f k).mks = s.mks := rfl
@[simp] theorem State.inc_beams (s : State) (f : Fld) (k : Nat) : (s.inc f k).beams = s.beams := rfl
@[simp] theorem State.inc_octs (s : State) (f : Fld) (k : Nat) : (s.inc f k).octs = s.octs := rfl
@[simp] theorem State.inc_lsafe (s : State) (f : Fld) (k : Nat) : (s.inc f k).lsafe = s.lsafe := rfl
@[simp] theorem State.inc_clasps (s : State) (f : Fld) (k : Nat) : (s.inc f k).clasps = s.clasps := rfl
@[simp] theorem State.inc_clk (s : State) (f : Fld) (k : Nat) : (s.inc f k).clk = s.clk := rfl
@[simp] theorem State.inc_mots (s : State) (f : Fld) (k : Nat) : (s.inc f k).mots = s.mots := rfl
@[simp] theorem State.inc_pins (s : State) (f : Fld) (k : Nat) : (s.inc f k).pins = s.pins := rfl
@[simp] theorem State.inc_xds (s : State) (f : Fld) (k : Nat) : (s.inc f k).xds = s.xds := rfl
@[simp] theorem State.inc_axes (s : State) (f : Fld) (k : Nat) : (s.inc f k).axes = s.axes := rfl
@[simp] theorem State.inc_encs (s : State) (f : Fld) (k : Nat) : (s.inc f k).encs = s.encs := rfl
@[simp] theorem State.inc_web (s : State) (f : Fld) (k : Nat) : (s.inc f k).web = s.web := rfl
@[simp] theorem State.inc_loops (s : State) (f : Fld) (k : Nat) : (s.inc f k).loops = s.loops := rfl
@[simp] theorem State.inc_hvs (s : State) (f : Fld) (k : Nat) : (s.inc f k).hvs = s.hvs := rfl
@[simp] theorem State.inc_fzs (s : State) (f : Fld) (k : Nat) : (s.inc f k).fzs = s.fzs := rfl
@[simp] theorem State.inc_ths (s : State) (f : Fld) (k : Nat) : (s.inc f k).ths = s.ths := rfl
@[simp] theorem State.inc_zc (s : State) (f : Fld) (k : Nat) : (s.inc f k).zc = s.zc := rfl
@[simp] theorem State.inc_isl (s : State) (f : Fld) (k : Nat) : (s.inc f k).isl = s.isl := rfl
@[simp] theorem State.inc_pwr (s : State) (f : Fld) (k : Nat) : (s.inc f k).pwr = s.pwr := rfl
@[simp] theorem State.inc_seq (s : State) (f : Fld) (k : Nat) : (s.inc f k).seq = s.seq := rfl
@[simp] theorem State.inc_boot (s : State) (f : Fld) (k : Nat) : (s.inc f k).boot = s.boot := rfl
@[simp] theorem State.inc_tier (s : State) (f : Fld) (k : Nat) : (s.inc f k).tier = s.tier := rfl
@[simp] theorem State.inc_leg (s : State) (f : Fld) (k : Nat) : (s.inc f k).leg = s.leg := rfl
@[simp] theorem State.inc_justSet (s : State) (f : Fld) (k : Nat) : (s.inc f k).justSet = s.justSet := rfl
@[simp] theorem State.inc_freeCtr (s : State) (f : Fld) (k : Nat) : (s.inc f k).freeCtr = s.freeCtr := rfl

@[simp] theorem State.wr64_pending (s : State) (lo hi : Fld) (v : Int) : (s.wr64 lo hi v).pending = s.pending := rfl
@[simp] theorem State.wr64_staged (s : State) (lo hi : Fld) (v : Int) : (s.wr64 lo hi v).staged = s.staged := rfl
@[simp] theorem State.wr64_time (s : State) (lo hi : Fld) (v : Int) : (s.wr64 lo hi v).time = s.time := rfl
@[simp] theorem State.wr64_host (s : State) (lo hi : Fld) (v : Int) : (s.wr64 lo hi v).host = s.host := rfl
@[simp] theorem State.wr64_rings (s : State) (lo hi : Fld) (v : Int) : (s.wr64 lo hi v).rings = s.rings := rfl
@[simp] theorem State.wr64_bezel (s : State) (lo hi : Fld) (v : Int) : (s.wr64 lo hi v).bezel = s.bezel := rfl
@[simp] theorem State.wr64_alm (s : State) (lo hi : Fld) (v : Int) : (s.wr64 lo hi v).alm = s.alm := rfl
@[simp] theorem State.wr64_band (s : State) (lo hi : Fld) (v : Int) : (s.wr64 lo hi v).band = s.band := rfl
@[simp] theorem State.wr64_codec (s : State) (lo hi : Fld) (v : Int) : (s.wr64 lo hi v).codec = s.codec := rfl
@[simp] theorem State.wr64_tbl (s : State) (lo hi : Fld) (v : Int) : (s.wr64 lo hi v).tbl = s.tbl := rfl
@[simp] theorem State.wr64_flt (s : State) (lo hi : Fld) (v : Int) : (s.wr64 lo hi v).flt = s.flt := rfl
@[simp] theorem State.wr64_scan (s : State) (lo hi : Fld) (v : Int) : (s.wr64 lo hi v).scan = s.scan := rfl
@[simp] theorem State.wr64_regf (s : State) (lo hi : Fld) (v : Int) : (s.wr64 lo hi v).regf = s.regf := rfl
@[simp] theorem State.wr64_mks (s : State) (lo hi : Fld) (v : Int) : (s.wr64 lo hi v).mks = s.mks := rfl
@[simp] theorem State.wr64_beams (s : State) (lo hi : Fld) (v : Int) : (s.wr64 lo hi v).beams = s.beams := rfl
@[simp] theorem State.wr64_octs (s : State) (lo hi : Fld) (v : Int) : (s.wr64 lo hi v).octs = s.octs := rfl
@[simp] theorem State.wr64_lsafe (s : State) (lo hi : Fld) (v : Int) : (s.wr64 lo hi v).lsafe = s.lsafe := rfl
@[simp] theorem State.wr64_clasps (s : State) (lo hi : Fld) (v : Int) : (s.wr64 lo hi v).clasps = s.clasps := rfl
@[simp] theorem State.wr64_clk (s : State) (lo hi : Fld) (v : Int) : (s.wr64 lo hi v).clk = s.clk := rfl
@[simp] theorem State.wr64_mots (s : State) (lo hi : Fld) (v : Int) : (s.wr64 lo hi v).mots = s.mots := rfl
@[simp] theorem State.wr64_pins (s : State) (lo hi : Fld) (v : Int) : (s.wr64 lo hi v).pins = s.pins := rfl
@[simp] theorem State.wr64_xds (s : State) (lo hi : Fld) (v : Int) : (s.wr64 lo hi v).xds = s.xds := rfl
@[simp] theorem State.wr64_axes (s : State) (lo hi : Fld) (v : Int) : (s.wr64 lo hi v).axes = s.axes := rfl
@[simp] theorem State.wr64_encs (s : State) (lo hi : Fld) (v : Int) : (s.wr64 lo hi v).encs = s.encs := rfl
@[simp] theorem State.wr64_web (s : State) (lo hi : Fld) (v : Int) : (s.wr64 lo hi v).web = s.web := rfl
@[simp] theorem State.wr64_loops (s : State) (lo hi : Fld) (v : Int) : (s.wr64 lo hi v).loops = s.loops := rfl
@[simp] theorem State.wr64_hvs (s : State) (lo hi : Fld) (v : Int) : (s.wr64 lo hi v).hvs = s.hvs := rfl
@[simp] theorem State.wr64_fzs (s : State) (lo hi : Fld) (v : Int) : (s.wr64 lo hi v).fzs = s.fzs := rfl
@[simp] theorem State.wr64_ths (s : State) (lo hi : Fld) (v : Int) : (s.wr64 lo hi v).ths = s.ths := rfl
@[simp] theorem State.wr64_zc (s : State) (lo hi : Fld) (v : Int) : (s.wr64 lo hi v).zc = s.zc := rfl
@[simp] theorem State.wr64_isl (s : State) (lo hi : Fld) (v : Int) : (s.wr64 lo hi v).isl = s.isl := rfl
@[simp] theorem State.wr64_pwr (s : State) (lo hi : Fld) (v : Int) : (s.wr64 lo hi v).pwr = s.pwr := rfl
@[simp] theorem State.wr64_seq (s : State) (lo hi : Fld) (v : Int) : (s.wr64 lo hi v).seq = s.seq := rfl
@[simp] theorem State.wr64_boot (s : State) (lo hi : Fld) (v : Int) : (s.wr64 lo hi v).boot = s.boot := rfl
@[simp] theorem State.wr64_tier (s : State) (lo hi : Fld) (v : Int) : (s.wr64 lo hi v).tier = s.tier := rfl
@[simp] theorem State.wr64_leg (s : State) (lo hi : Fld) (v : Int) : (s.wr64 lo hi v).leg = s.leg := rfl
@[simp] theorem State.wr64_justSet (s : State) (lo hi : Fld) (v : Int) : (s.wr64 lo hi v).justSet = s.justSet := rfl
@[simp] theorem State.wr64_freeCtr (s : State) (lo hi : Fld) (v : Int) : (s.wr64 lo hi v).freeCtr = s.freeCtr := rfl

@[simp] theorem State.noteRefusal_pending (s : State) (a b c d : Nat) : (s.noteRefusal a b c d).pending = s.pending := rfl
@[simp] theorem State.noteRefusal_staged (s : State) (a b c d : Nat) : (s.noteRefusal a b c d).staged = s.staged := rfl
@[simp] theorem State.noteRefusal_time (s : State) (a b c d : Nat) : (s.noteRefusal a b c d).time = s.time := rfl
@[simp] theorem State.noteRefusal_host (s : State) (a b c d : Nat) : (s.noteRefusal a b c d).host = s.host := rfl
@[simp] theorem State.noteRefusal_rings (s : State) (a b c d : Nat) : (s.noteRefusal a b c d).rings = s.rings := rfl
@[simp] theorem State.noteRefusal_bezel (s : State) (a b c d : Nat) : (s.noteRefusal a b c d).bezel = s.bezel := rfl
@[simp] theorem State.noteRefusal_alm (s : State) (a b c d : Nat) : (s.noteRefusal a b c d).alm = s.alm := rfl
@[simp] theorem State.noteRefusal_band (s : State) (a b c d : Nat) : (s.noteRefusal a b c d).band = s.band := rfl
@[simp] theorem State.noteRefusal_codec (s : State) (a b c d : Nat) : (s.noteRefusal a b c d).codec = s.codec := rfl
@[simp] theorem State.noteRefusal_tbl (s : State) (a b c d : Nat) : (s.noteRefusal a b c d).tbl = s.tbl := rfl
@[simp] theorem State.noteRefusal_flt (s : State) (a b c d : Nat) : (s.noteRefusal a b c d).flt = s.flt := rfl
@[simp] theorem State.noteRefusal_scan (s : State) (a b c d : Nat) : (s.noteRefusal a b c d).scan = s.scan := rfl
@[simp] theorem State.noteRefusal_regf (s : State) (a b c d : Nat) : (s.noteRefusal a b c d).regf = s.regf := rfl
@[simp] theorem State.noteRefusal_mks (s : State) (a b c d : Nat) : (s.noteRefusal a b c d).mks = s.mks := rfl
@[simp] theorem State.noteRefusal_beams (s : State) (a b c d : Nat) : (s.noteRefusal a b c d).beams = s.beams := rfl
@[simp] theorem State.noteRefusal_octs (s : State) (a b c d : Nat) : (s.noteRefusal a b c d).octs = s.octs := rfl
@[simp] theorem State.noteRefusal_lsafe (s : State) (a b c d : Nat) : (s.noteRefusal a b c d).lsafe = s.lsafe := rfl
@[simp] theorem State.noteRefusal_clasps (s : State) (a b c d : Nat) : (s.noteRefusal a b c d).clasps = s.clasps := rfl
@[simp] theorem State.noteRefusal_clk (s : State) (a b c d : Nat) : (s.noteRefusal a b c d).clk = s.clk := rfl
@[simp] theorem State.noteRefusal_mots (s : State) (a b c d : Nat) : (s.noteRefusal a b c d).mots = s.mots := rfl
@[simp] theorem State.noteRefusal_pins (s : State) (a b c d : Nat) : (s.noteRefusal a b c d).pins = s.pins := rfl
@[simp] theorem State.noteRefusal_xds (s : State) (a b c d : Nat) : (s.noteRefusal a b c d).xds = s.xds := rfl
@[simp] theorem State.noteRefusal_axes (s : State) (a b c d : Nat) : (s.noteRefusal a b c d).axes = s.axes := rfl
@[simp] theorem State.noteRefusal_encs (s : State) (a b c d : Nat) : (s.noteRefusal a b c d).encs = s.encs := rfl
@[simp] theorem State.noteRefusal_web (s : State) (a b c d : Nat) : (s.noteRefusal a b c d).web = s.web := rfl
@[simp] theorem State.noteRefusal_loops (s : State) (a b c d : Nat) : (s.noteRefusal a b c d).loops = s.loops := rfl
@[simp] theorem State.noteRefusal_hvs (s : State) (a b c d : Nat) : (s.noteRefusal a b c d).hvs = s.hvs := rfl
@[simp] theorem State.noteRefusal_fzs (s : State) (a b c d : Nat) : (s.noteRefusal a b c d).fzs = s.fzs := rfl
@[simp] theorem State.noteRefusal_ths (s : State) (a b c d : Nat) : (s.noteRefusal a b c d).ths = s.ths := rfl
@[simp] theorem State.noteRefusal_zc (s : State) (a b c d : Nat) : (s.noteRefusal a b c d).zc = s.zc := rfl
@[simp] theorem State.noteRefusal_isl (s : State) (a b c d : Nat) : (s.noteRefusal a b c d).isl = s.isl := rfl
@[simp] theorem State.noteRefusal_pwr (s : State) (a b c d : Nat) : (s.noteRefusal a b c d).pwr = s.pwr := rfl
@[simp] theorem State.noteRefusal_seq (s : State) (a b c d : Nat) : (s.noteRefusal a b c d).seq = s.seq := rfl
@[simp] theorem State.noteRefusal_boot (s : State) (a b c d : Nat) : (s.noteRefusal a b c d).boot = s.boot := rfl
@[simp] theorem State.noteRefusal_tier (s : State) (a b c d : Nat) : (s.noteRefusal a b c d).tier = s.tier := rfl
@[simp] theorem State.noteRefusal_leg (s : State) (a b c d : Nat) : (s.noteRefusal a b c d).leg = s.leg := rfl
@[simp] theorem State.noteRefusal_justSet (s : State) (a b c d : Nat) : (s.noteRefusal a b c d).justSet = s.justSet := rfl
@[simp] theorem State.noteRefusal_freeCtr (s : State) (a b c d : Nat) : (s.noteRefusal a b c d).freeCtr = s.freeCtr := rfl

@[simp] theorem State.stage_pending (s : State) (f : Fld) (v : Nat) : (s.stage f v).pending = s.pending := rfl
@[simp] theorem State.stage_regs (s : State) (f : Fld) (v : Nat) : (s.stage f v).regs = s.regs := rfl
@[simp] theorem State.stage_time (s : State) (f : Fld) (v : Nat) : (s.stage f v).time = s.time := rfl
@[simp] theorem State.stage_host (s : State) (f : Fld) (v : Nat) : (s.stage f v).host = s.host := rfl
@[simp] theorem State.stage_rings (s : State) (f : Fld) (v : Nat) : (s.stage f v).rings = s.rings := rfl
@[simp] theorem State.stage_bezel (s : State) (f : Fld) (v : Nat) : (s.stage f v).bezel = s.bezel := rfl
@[simp] theorem State.stage_alm (s : State) (f : Fld) (v : Nat) : (s.stage f v).alm = s.alm := rfl
@[simp] theorem State.stage_band (s : State) (f : Fld) (v : Nat) : (s.stage f v).band = s.band := rfl
@[simp] theorem State.stage_codec (s : State) (f : Fld) (v : Nat) : (s.stage f v).codec = s.codec := rfl
@[simp] theorem State.stage_tbl (s : State) (f : Fld) (v : Nat) : (s.stage f v).tbl = s.tbl := rfl
@[simp] theorem State.stage_flt (s : State) (f : Fld) (v : Nat) : (s.stage f v).flt = s.flt := rfl
@[simp] theorem State.stage_scan (s : State) (f : Fld) (v : Nat) : (s.stage f v).scan = s.scan := rfl
@[simp] theorem State.stage_regf (s : State) (f : Fld) (v : Nat) : (s.stage f v).regf = s.regf := rfl
@[simp] theorem State.stage_mks (s : State) (f : Fld) (v : Nat) : (s.stage f v).mks = s.mks := rfl
@[simp] theorem State.stage_beams (s : State) (f : Fld) (v : Nat) : (s.stage f v).beams = s.beams := rfl
@[simp] theorem State.stage_octs (s : State) (f : Fld) (v : Nat) : (s.stage f v).octs = s.octs := rfl
@[simp] theorem State.stage_lsafe (s : State) (f : Fld) (v : Nat) : (s.stage f v).lsafe = s.lsafe := rfl
@[simp] theorem State.stage_clasps (s : State) (f : Fld) (v : Nat) : (s.stage f v).clasps = s.clasps := rfl
@[simp] theorem State.stage_clk (s : State) (f : Fld) (v : Nat) : (s.stage f v).clk = s.clk := rfl
@[simp] theorem State.stage_mots (s : State) (f : Fld) (v : Nat) : (s.stage f v).mots = s.mots := rfl
@[simp] theorem State.stage_pins (s : State) (f : Fld) (v : Nat) : (s.stage f v).pins = s.pins := rfl
@[simp] theorem State.stage_xds (s : State) (f : Fld) (v : Nat) : (s.stage f v).xds = s.xds := rfl
@[simp] theorem State.stage_axes (s : State) (f : Fld) (v : Nat) : (s.stage f v).axes = s.axes := rfl
@[simp] theorem State.stage_encs (s : State) (f : Fld) (v : Nat) : (s.stage f v).encs = s.encs := rfl
@[simp] theorem State.stage_web (s : State) (f : Fld) (v : Nat) : (s.stage f v).web = s.web := rfl
@[simp] theorem State.stage_loops (s : State) (f : Fld) (v : Nat) : (s.stage f v).loops = s.loops := rfl
@[simp] theorem State.stage_hvs (s : State) (f : Fld) (v : Nat) : (s.stage f v).hvs = s.hvs := rfl
@[simp] theorem State.stage_fzs (s : State) (f : Fld) (v : Nat) : (s.stage f v).fzs = s.fzs := rfl
@[simp] theorem State.stage_ths (s : State) (f : Fld) (v : Nat) : (s.stage f v).ths = s.ths := rfl
@[simp] theorem State.stage_zc (s : State) (f : Fld) (v : Nat) : (s.stage f v).zc = s.zc := rfl
@[simp] theorem State.stage_isl (s : State) (f : Fld) (v : Nat) : (s.stage f v).isl = s.isl := rfl
@[simp] theorem State.stage_pwr (s : State) (f : Fld) (v : Nat) : (s.stage f v).pwr = s.pwr := rfl
@[simp] theorem State.stage_seq (s : State) (f : Fld) (v : Nat) : (s.stage f v).seq = s.seq := rfl
@[simp] theorem State.stage_boot (s : State) (f : Fld) (v : Nat) : (s.stage f v).boot = s.boot := rfl
@[simp] theorem State.stage_tier (s : State) (f : Fld) (v : Nat) : (s.stage f v).tier = s.tier := rfl
@[simp] theorem State.stage_leg (s : State) (f : Fld) (v : Nat) : (s.stage f v).leg = s.leg := rfl
@[simp] theorem State.stage_justSet (s : State) (f : Fld) (v : Nat) : (s.stage f v).justSet = s.justSet := rfl
@[simp] theorem State.stage_freeCtr (s : State) (f : Fld) (v : Nat) : (s.stage f v).freeCtr = s.freeCtr := rfl

@[simp] theorem State.modRing_pending (s : State) (q : Nat) (f : Ring → Ring) : (s.modRing q f).pending = s.pending := rfl
@[simp] theorem State.modRing_regs (s : State) (q : Nat) (f : Ring → Ring) : (s.modRing q f).regs = s.regs := rfl
@[simp] theorem State.modRing_staged (s : State) (q : Nat) (f : Ring → Ring) : (s.modRing q f).staged = s.staged := rfl
@[simp] theorem State.modRing_time (s : State) (q : Nat) (f : Ring → Ring) : (s.modRing q f).time = s.time := rfl
@[simp] theorem State.modRing_host (s : State) (q : Nat) (f : Ring → Ring) : (s.modRing q f).host = s.host := rfl
@[simp] theorem State.modRing_bezel (s : State) (q : Nat) (f : Ring → Ring) : (s.modRing q f).bezel = s.bezel := rfl
@[simp] theorem State.modRing_alm (s : State) (q : Nat) (f : Ring → Ring) : (s.modRing q f).alm = s.alm := rfl
@[simp] theorem State.modRing_band (s : State) (q : Nat) (f : Ring → Ring) : (s.modRing q f).band = s.band := rfl
@[simp] theorem State.modRing_codec (s : State) (q : Nat) (f : Ring → Ring) : (s.modRing q f).codec = s.codec := rfl
@[simp] theorem State.modRing_tbl (s : State) (q : Nat) (f : Ring → Ring) : (s.modRing q f).tbl = s.tbl := rfl
@[simp] theorem State.modRing_flt (s : State) (q : Nat) (f : Ring → Ring) : (s.modRing q f).flt = s.flt := rfl
@[simp] theorem State.modRing_scan (s : State) (q : Nat) (f : Ring → Ring) : (s.modRing q f).scan = s.scan := rfl
@[simp] theorem State.modRing_regf (s : State) (q : Nat) (f : Ring → Ring) : (s.modRing q f).regf = s.regf := rfl
@[simp] theorem State.modRing_mks (s : State) (q : Nat) (f : Ring → Ring) : (s.modRing q f).mks = s.mks := rfl
@[simp] theorem State.modRing_beams (s : State) (q : Nat) (f : Ring → Ring) : (s.modRing q f).beams = s.beams := rfl
@[simp] theorem State.modRing_octs (s : State) (q : Nat) (f : Ring → Ring) : (s.modRing q f).octs = s.octs := rfl
@[simp] theorem State.modRing_lsafe (s : State) (q : Nat) (f : Ring → Ring) : (s.modRing q f).lsafe = s.lsafe := rfl
@[simp] theorem State.modRing_clasps (s : State) (q : Nat) (f : Ring → Ring) : (s.modRing q f).clasps = s.clasps := rfl
@[simp] theorem State.modRing_clk (s : State) (q : Nat) (f : Ring → Ring) : (s.modRing q f).clk = s.clk := rfl
@[simp] theorem State.modRing_mots (s : State) (q : Nat) (f : Ring → Ring) : (s.modRing q f).mots = s.mots := rfl
@[simp] theorem State.modRing_pins (s : State) (q : Nat) (f : Ring → Ring) : (s.modRing q f).pins = s.pins := rfl
@[simp] theorem State.modRing_xds (s : State) (q : Nat) (f : Ring → Ring) : (s.modRing q f).xds = s.xds := rfl
@[simp] theorem State.modRing_axes (s : State) (q : Nat) (f : Ring → Ring) : (s.modRing q f).axes = s.axes := rfl
@[simp] theorem State.modRing_encs (s : State) (q : Nat) (f : Ring → Ring) : (s.modRing q f).encs = s.encs := rfl
@[simp] theorem State.modRing_web (s : State) (q : Nat) (f : Ring → Ring) : (s.modRing q f).web = s.web := rfl
@[simp] theorem State.modRing_loops (s : State) (q : Nat) (f : Ring → Ring) : (s.modRing q f).loops = s.loops := rfl
@[simp] theorem State.modRing_hvs (s : State) (q : Nat) (f : Ring → Ring) : (s.modRing q f).hvs = s.hvs := rfl
@[simp] theorem State.modRing_fzs (s : State) (q : Nat) (f : Ring → Ring) : (s.modRing q f).fzs = s.fzs := rfl
@[simp] theorem State.modRing_ths (s : State) (q : Nat) (f : Ring → Ring) : (s.modRing q f).ths = s.ths := rfl
@[simp] theorem State.modRing_zc (s : State) (q : Nat) (f : Ring → Ring) : (s.modRing q f).zc = s.zc := rfl
@[simp] theorem State.modRing_isl (s : State) (q : Nat) (f : Ring → Ring) : (s.modRing q f).isl = s.isl := rfl
@[simp] theorem State.modRing_pwr (s : State) (q : Nat) (f : Ring → Ring) : (s.modRing q f).pwr = s.pwr := rfl
@[simp] theorem State.modRing_seq (s : State) (q : Nat) (f : Ring → Ring) : (s.modRing q f).seq = s.seq := rfl
@[simp] theorem State.modRing_boot (s : State) (q : Nat) (f : Ring → Ring) : (s.modRing q f).boot = s.boot := rfl
@[simp] theorem State.modRing_tier (s : State) (q : Nat) (f : Ring → Ring) : (s.modRing q f).tier = s.tier := rfl
@[simp] theorem State.modRing_leg (s : State) (q : Nat) (f : Ring → Ring) : (s.modRing q f).leg = s.leg := rfl
@[simp] theorem State.modRing_justSet (s : State) (q : Nat) (f : Ring → Ring) : (s.modRing q f).justSet = s.justSet := rfl
@[simp] theorem State.modRing_freeCtr (s : State) (q : Nat) (f : Ring → Ring) : (s.modRing q f).freeCtr = s.freeCtr := rfl

@[simp] theorem State.modTxn_pending (s : State) (i : Nat) (f : MTxn → MTxn) : (s.modTxn i f).pending = s.pending := rfl
@[simp] theorem State.modTxn_regs (s : State) (i : Nat) (f : MTxn → MTxn) : (s.modTxn i f).regs = s.regs := rfl
@[simp] theorem State.modTxn_staged (s : State) (i : Nat) (f : MTxn → MTxn) : (s.modTxn i f).staged = s.staged := rfl
@[simp] theorem State.modTxn_time (s : State) (i : Nat) (f : MTxn → MTxn) : (s.modTxn i f).time = s.time := rfl
@[simp] theorem State.modTxn_rings (s : State) (i : Nat) (f : MTxn → MTxn) : (s.modTxn i f).rings = s.rings := rfl
@[simp] theorem State.modTxn_bezel (s : State) (i : Nat) (f : MTxn → MTxn) : (s.modTxn i f).bezel = s.bezel := rfl
@[simp] theorem State.modTxn_alm (s : State) (i : Nat) (f : MTxn → MTxn) : (s.modTxn i f).alm = s.alm := rfl
@[simp] theorem State.modTxn_band (s : State) (i : Nat) (f : MTxn → MTxn) : (s.modTxn i f).band = s.band := rfl
@[simp] theorem State.modTxn_codec (s : State) (i : Nat) (f : MTxn → MTxn) : (s.modTxn i f).codec = s.codec := rfl
@[simp] theorem State.modTxn_tbl (s : State) (i : Nat) (f : MTxn → MTxn) : (s.modTxn i f).tbl = s.tbl := rfl
@[simp] theorem State.modTxn_flt (s : State) (i : Nat) (f : MTxn → MTxn) : (s.modTxn i f).flt = s.flt := rfl
@[simp] theorem State.modTxn_scan (s : State) (i : Nat) (f : MTxn → MTxn) : (s.modTxn i f).scan = s.scan := rfl
@[simp] theorem State.modTxn_regf (s : State) (i : Nat) (f : MTxn → MTxn) : (s.modTxn i f).regf = s.regf := rfl
@[simp] theorem State.modTxn_mks (s : State) (i : Nat) (f : MTxn → MTxn) : (s.modTxn i f).mks = s.mks := rfl
@[simp] theorem State.modTxn_beams (s : State) (i : Nat) (f : MTxn → MTxn) : (s.modTxn i f).beams = s.beams := rfl
@[simp] theorem State.modTxn_octs (s : State) (i : Nat) (f : MTxn → MTxn) : (s.modTxn i f).octs = s.octs := rfl
@[simp] theorem State.modTxn_lsafe (s : State) (i : Nat) (f : MTxn → MTxn) : (s.modTxn i f).lsafe = s.lsafe := rfl
@[simp] theorem State.modTxn_clasps (s : State) (i : Nat) (f : MTxn → MTxn) : (s.modTxn i f).clasps = s.clasps := rfl
@[simp] theorem State.modTxn_clk (s : State) (i : Nat) (f : MTxn → MTxn) : (s.modTxn i f).clk = s.clk := rfl
@[simp] theorem State.modTxn_mots (s : State) (i : Nat) (f : MTxn → MTxn) : (s.modTxn i f).mots = s.mots := rfl
@[simp] theorem State.modTxn_pins (s : State) (i : Nat) (f : MTxn → MTxn) : (s.modTxn i f).pins = s.pins := rfl
@[simp] theorem State.modTxn_xds (s : State) (i : Nat) (f : MTxn → MTxn) : (s.modTxn i f).xds = s.xds := rfl
@[simp] theorem State.modTxn_axes (s : State) (i : Nat) (f : MTxn → MTxn) : (s.modTxn i f).axes = s.axes := rfl
@[simp] theorem State.modTxn_encs (s : State) (i : Nat) (f : MTxn → MTxn) : (s.modTxn i f).encs = s.encs := rfl
@[simp] theorem State.modTxn_web (s : State) (i : Nat) (f : MTxn → MTxn) : (s.modTxn i f).web = s.web := rfl
@[simp] theorem State.modTxn_loops (s : State) (i : Nat) (f : MTxn → MTxn) : (s.modTxn i f).loops = s.loops := rfl
@[simp] theorem State.modTxn_hvs (s : State) (i : Nat) (f : MTxn → MTxn) : (s.modTxn i f).hvs = s.hvs := rfl
@[simp] theorem State.modTxn_fzs (s : State) (i : Nat) (f : MTxn → MTxn) : (s.modTxn i f).fzs = s.fzs := rfl
@[simp] theorem State.modTxn_ths (s : State) (i : Nat) (f : MTxn → MTxn) : (s.modTxn i f).ths = s.ths := rfl
@[simp] theorem State.modTxn_zc (s : State) (i : Nat) (f : MTxn → MTxn) : (s.modTxn i f).zc = s.zc := rfl
@[simp] theorem State.modTxn_isl (s : State) (i : Nat) (f : MTxn → MTxn) : (s.modTxn i f).isl = s.isl := rfl
@[simp] theorem State.modTxn_pwr (s : State) (i : Nat) (f : MTxn → MTxn) : (s.modTxn i f).pwr = s.pwr := rfl
@[simp] theorem State.modTxn_seq (s : State) (i : Nat) (f : MTxn → MTxn) : (s.modTxn i f).seq = s.seq := rfl
@[simp] theorem State.modTxn_boot (s : State) (i : Nat) (f : MTxn → MTxn) : (s.modTxn i f).boot = s.boot := rfl
@[simp] theorem State.modTxn_tier (s : State) (i : Nat) (f : MTxn → MTxn) : (s.modTxn i f).tier = s.tier := rfl
@[simp] theorem State.modTxn_leg (s : State) (i : Nat) (f : MTxn → MTxn) : (s.modTxn i f).leg = s.leg := rfl
@[simp] theorem State.modTxn_justSet (s : State) (i : Nat) (f : MTxn → MTxn) : (s.modTxn i f).justSet = s.justSet := rfl
@[simp] theorem State.modTxn_freeCtr (s : State) (i : Nat) (f : MTxn → MTxn) : (s.modTxn i f).freeCtr = s.freeCtr := rfl

@[simp] theorem State.modSc_pending (s : State) (n : Nat) (f : Scan → Scan) : (s.modSc n f).pending = s.pending := rfl
@[simp] theorem State.modSc_regs (s : State) (n : Nat) (f : Scan → Scan) : (s.modSc n f).regs = s.regs := rfl
@[simp] theorem State.modSc_staged (s : State) (n : Nat) (f : Scan → Scan) : (s.modSc n f).staged = s.staged := rfl
@[simp] theorem State.modSc_time (s : State) (n : Nat) (f : Scan → Scan) : (s.modSc n f).time = s.time := rfl
@[simp] theorem State.modSc_host (s : State) (n : Nat) (f : Scan → Scan) : (s.modSc n f).host = s.host := rfl
@[simp] theorem State.modSc_rings (s : State) (n : Nat) (f : Scan → Scan) : (s.modSc n f).rings = s.rings := rfl
@[simp] theorem State.modSc_bezel (s : State) (n : Nat) (f : Scan → Scan) : (s.modSc n f).bezel = s.bezel := rfl
@[simp] theorem State.modSc_alm (s : State) (n : Nat) (f : Scan → Scan) : (s.modSc n f).alm = s.alm := rfl
@[simp] theorem State.modSc_band (s : State) (n : Nat) (f : Scan → Scan) : (s.modSc n f).band = s.band := rfl
@[simp] theorem State.modSc_codec (s : State) (n : Nat) (f : Scan → Scan) : (s.modSc n f).codec = s.codec := rfl
@[simp] theorem State.modSc_tbl (s : State) (n : Nat) (f : Scan → Scan) : (s.modSc n f).tbl = s.tbl := rfl
@[simp] theorem State.modSc_flt (s : State) (n : Nat) (f : Scan → Scan) : (s.modSc n f).flt = s.flt := rfl
@[simp] theorem State.modSc_regf (s : State) (n : Nat) (f : Scan → Scan) : (s.modSc n f).regf = s.regf := rfl
@[simp] theorem State.modSc_mks (s : State) (n : Nat) (f : Scan → Scan) : (s.modSc n f).mks = s.mks := rfl
@[simp] theorem State.modSc_beams (s : State) (n : Nat) (f : Scan → Scan) : (s.modSc n f).beams = s.beams := rfl
@[simp] theorem State.modSc_octs (s : State) (n : Nat) (f : Scan → Scan) : (s.modSc n f).octs = s.octs := rfl
@[simp] theorem State.modSc_lsafe (s : State) (n : Nat) (f : Scan → Scan) : (s.modSc n f).lsafe = s.lsafe := rfl
@[simp] theorem State.modSc_clasps (s : State) (n : Nat) (f : Scan → Scan) : (s.modSc n f).clasps = s.clasps := rfl
@[simp] theorem State.modSc_clk (s : State) (n : Nat) (f : Scan → Scan) : (s.modSc n f).clk = s.clk := rfl
@[simp] theorem State.modSc_mots (s : State) (n : Nat) (f : Scan → Scan) : (s.modSc n f).mots = s.mots := rfl
@[simp] theorem State.modSc_pins (s : State) (n : Nat) (f : Scan → Scan) : (s.modSc n f).pins = s.pins := rfl
@[simp] theorem State.modSc_xds (s : State) (n : Nat) (f : Scan → Scan) : (s.modSc n f).xds = s.xds := rfl
@[simp] theorem State.modSc_axes (s : State) (n : Nat) (f : Scan → Scan) : (s.modSc n f).axes = s.axes := rfl
@[simp] theorem State.modSc_encs (s : State) (n : Nat) (f : Scan → Scan) : (s.modSc n f).encs = s.encs := rfl
@[simp] theorem State.modSc_web (s : State) (n : Nat) (f : Scan → Scan) : (s.modSc n f).web = s.web := rfl
@[simp] theorem State.modSc_loops (s : State) (n : Nat) (f : Scan → Scan) : (s.modSc n f).loops = s.loops := rfl
@[simp] theorem State.modSc_hvs (s : State) (n : Nat) (f : Scan → Scan) : (s.modSc n f).hvs = s.hvs := rfl
@[simp] theorem State.modSc_fzs (s : State) (n : Nat) (f : Scan → Scan) : (s.modSc n f).fzs = s.fzs := rfl
@[simp] theorem State.modSc_ths (s : State) (n : Nat) (f : Scan → Scan) : (s.modSc n f).ths = s.ths := rfl
@[simp] theorem State.modSc_zc (s : State) (n : Nat) (f : Scan → Scan) : (s.modSc n f).zc = s.zc := rfl
@[simp] theorem State.modSc_isl (s : State) (n : Nat) (f : Scan → Scan) : (s.modSc n f).isl = s.isl := rfl
@[simp] theorem State.modSc_pwr (s : State) (n : Nat) (f : Scan → Scan) : (s.modSc n f).pwr = s.pwr := rfl
@[simp] theorem State.modSc_seq (s : State) (n : Nat) (f : Scan → Scan) : (s.modSc n f).seq = s.seq := rfl
@[simp] theorem State.modSc_boot (s : State) (n : Nat) (f : Scan → Scan) : (s.modSc n f).boot = s.boot := rfl
@[simp] theorem State.modSc_tier (s : State) (n : Nat) (f : Scan → Scan) : (s.modSc n f).tier = s.tier := rfl
@[simp] theorem State.modSc_leg (s : State) (n : Nat) (f : Scan → Scan) : (s.modSc n f).leg = s.leg := rfl
@[simp] theorem State.modSc_justSet (s : State) (n : Nat) (f : Scan → Scan) : (s.modSc n f).justSet = s.justSet := rfl
@[simp] theorem State.modSc_freeCtr (s : State) (n : Nat) (f : Scan → Scan) : (s.modSc n f).freeCtr = s.freeCtr := rfl

@[simp] theorem State.modReg_pending (s : State) (n : Nat) (f : RegFrame → RegFrame) : (s.modReg n f).pending = s.pending := rfl
@[simp] theorem State.modReg_regs (s : State) (n : Nat) (f : RegFrame → RegFrame) : (s.modReg n f).regs = s.regs := rfl
@[simp] theorem State.modReg_staged (s : State) (n : Nat) (f : RegFrame → RegFrame) : (s.modReg n f).staged = s.staged := rfl
@[simp] theorem State.modReg_time (s : State) (n : Nat) (f : RegFrame → RegFrame) : (s.modReg n f).time = s.time := rfl
@[simp] theorem State.modReg_host (s : State) (n : Nat) (f : RegFrame → RegFrame) : (s.modReg n f).host = s.host := rfl
@[simp] theorem State.modReg_rings (s : State) (n : Nat) (f : RegFrame → RegFrame) : (s.modReg n f).rings = s.rings := rfl
@[simp] theorem State.modReg_bezel (s : State) (n : Nat) (f : RegFrame → RegFrame) : (s.modReg n f).bezel = s.bezel := rfl
@[simp] theorem State.modReg_alm (s : State) (n : Nat) (f : RegFrame → RegFrame) : (s.modReg n f).alm = s.alm := rfl
@[simp] theorem State.modReg_band (s : State) (n : Nat) (f : RegFrame → RegFrame) : (s.modReg n f).band = s.band := rfl
@[simp] theorem State.modReg_codec (s : State) (n : Nat) (f : RegFrame → RegFrame) : (s.modReg n f).codec = s.codec := rfl
@[simp] theorem State.modReg_tbl (s : State) (n : Nat) (f : RegFrame → RegFrame) : (s.modReg n f).tbl = s.tbl := rfl
@[simp] theorem State.modReg_flt (s : State) (n : Nat) (f : RegFrame → RegFrame) : (s.modReg n f).flt = s.flt := rfl
@[simp] theorem State.modReg_scan (s : State) (n : Nat) (f : RegFrame → RegFrame) : (s.modReg n f).scan = s.scan := rfl
@[simp] theorem State.modReg_mks (s : State) (n : Nat) (f : RegFrame → RegFrame) : (s.modReg n f).mks = s.mks := rfl
@[simp] theorem State.modReg_beams (s : State) (n : Nat) (f : RegFrame → RegFrame) : (s.modReg n f).beams = s.beams := rfl
@[simp] theorem State.modReg_octs (s : State) (n : Nat) (f : RegFrame → RegFrame) : (s.modReg n f).octs = s.octs := rfl
@[simp] theorem State.modReg_lsafe (s : State) (n : Nat) (f : RegFrame → RegFrame) : (s.modReg n f).lsafe = s.lsafe := rfl
@[simp] theorem State.modReg_clasps (s : State) (n : Nat) (f : RegFrame → RegFrame) : (s.modReg n f).clasps = s.clasps := rfl
@[simp] theorem State.modReg_clk (s : State) (n : Nat) (f : RegFrame → RegFrame) : (s.modReg n f).clk = s.clk := rfl
@[simp] theorem State.modReg_mots (s : State) (n : Nat) (f : RegFrame → RegFrame) : (s.modReg n f).mots = s.mots := rfl
@[simp] theorem State.modReg_pins (s : State) (n : Nat) (f : RegFrame → RegFrame) : (s.modReg n f).pins = s.pins := rfl
@[simp] theorem State.modReg_xds (s : State) (n : Nat) (f : RegFrame → RegFrame) : (s.modReg n f).xds = s.xds := rfl
@[simp] theorem State.modReg_axes (s : State) (n : Nat) (f : RegFrame → RegFrame) : (s.modReg n f).axes = s.axes := rfl
@[simp] theorem State.modReg_encs (s : State) (n : Nat) (f : RegFrame → RegFrame) : (s.modReg n f).encs = s.encs := rfl
@[simp] theorem State.modReg_web (s : State) (n : Nat) (f : RegFrame → RegFrame) : (s.modReg n f).web = s.web := rfl
@[simp] theorem State.modReg_loops (s : State) (n : Nat) (f : RegFrame → RegFrame) : (s.modReg n f).loops = s.loops := rfl
@[simp] theorem State.modReg_hvs (s : State) (n : Nat) (f : RegFrame → RegFrame) : (s.modReg n f).hvs = s.hvs := rfl
@[simp] theorem State.modReg_fzs (s : State) (n : Nat) (f : RegFrame → RegFrame) : (s.modReg n f).fzs = s.fzs := rfl
@[simp] theorem State.modReg_ths (s : State) (n : Nat) (f : RegFrame → RegFrame) : (s.modReg n f).ths = s.ths := rfl
@[simp] theorem State.modReg_zc (s : State) (n : Nat) (f : RegFrame → RegFrame) : (s.modReg n f).zc = s.zc := rfl
@[simp] theorem State.modReg_isl (s : State) (n : Nat) (f : RegFrame → RegFrame) : (s.modReg n f).isl = s.isl := rfl
@[simp] theorem State.modReg_pwr (s : State) (n : Nat) (f : RegFrame → RegFrame) : (s.modReg n f).pwr = s.pwr := rfl
@[simp] theorem State.modReg_seq (s : State) (n : Nat) (f : RegFrame → RegFrame) : (s.modReg n f).seq = s.seq := rfl
@[simp] theorem State.modReg_boot (s : State) (n : Nat) (f : RegFrame → RegFrame) : (s.modReg n f).boot = s.boot := rfl
@[simp] theorem State.modReg_tier (s : State) (n : Nat) (f : RegFrame → RegFrame) : (s.modReg n f).tier = s.tier := rfl
@[simp] theorem State.modReg_leg (s : State) (n : Nat) (f : RegFrame → RegFrame) : (s.modReg n f).leg = s.leg := rfl
@[simp] theorem State.modReg_justSet (s : State) (n : Nat) (f : RegFrame → RegFrame) : (s.modReg n f).justSet = s.justSet := rfl
@[simp] theorem State.modReg_freeCtr (s : State) (n : Nat) (f : RegFrame → RegFrame) : (s.modReg n f).freeCtr = s.freeCtr := rfl

@[simp] theorem State.modBeam_pending (s : State) (n : Nat) (f : Beam → Beam) : (s.modBeam n f).pending = s.pending := rfl
@[simp] theorem State.modBeam_regs (s : State) (n : Nat) (f : Beam → Beam) : (s.modBeam n f).regs = s.regs := rfl
@[simp] theorem State.modBeam_staged (s : State) (n : Nat) (f : Beam → Beam) : (s.modBeam n f).staged = s.staged := rfl
@[simp] theorem State.modBeam_time (s : State) (n : Nat) (f : Beam → Beam) : (s.modBeam n f).time = s.time := rfl
@[simp] theorem State.modBeam_host (s : State) (n : Nat) (f : Beam → Beam) : (s.modBeam n f).host = s.host := rfl
@[simp] theorem State.modBeam_rings (s : State) (n : Nat) (f : Beam → Beam) : (s.modBeam n f).rings = s.rings := rfl
@[simp] theorem State.modBeam_bezel (s : State) (n : Nat) (f : Beam → Beam) : (s.modBeam n f).bezel = s.bezel := rfl
@[simp] theorem State.modBeam_alm (s : State) (n : Nat) (f : Beam → Beam) : (s.modBeam n f).alm = s.alm := rfl
@[simp] theorem State.modBeam_band (s : State) (n : Nat) (f : Beam → Beam) : (s.modBeam n f).band = s.band := rfl
@[simp] theorem State.modBeam_codec (s : State) (n : Nat) (f : Beam → Beam) : (s.modBeam n f).codec = s.codec := rfl
@[simp] theorem State.modBeam_tbl (s : State) (n : Nat) (f : Beam → Beam) : (s.modBeam n f).tbl = s.tbl := rfl
@[simp] theorem State.modBeam_flt (s : State) (n : Nat) (f : Beam → Beam) : (s.modBeam n f).flt = s.flt := rfl
@[simp] theorem State.modBeam_scan (s : State) (n : Nat) (f : Beam → Beam) : (s.modBeam n f).scan = s.scan := rfl
@[simp] theorem State.modBeam_regf (s : State) (n : Nat) (f : Beam → Beam) : (s.modBeam n f).regf = s.regf := rfl
@[simp] theorem State.modBeam_mks (s : State) (n : Nat) (f : Beam → Beam) : (s.modBeam n f).mks = s.mks := rfl
@[simp] theorem State.modBeam_octs (s : State) (n : Nat) (f : Beam → Beam) : (s.modBeam n f).octs = s.octs := rfl
@[simp] theorem State.modBeam_lsafe (s : State) (n : Nat) (f : Beam → Beam) : (s.modBeam n f).lsafe = s.lsafe := rfl
@[simp] theorem State.modBeam_clasps (s : State) (n : Nat) (f : Beam → Beam) : (s.modBeam n f).clasps = s.clasps := rfl
@[simp] theorem State.modBeam_clk (s : State) (n : Nat) (f : Beam → Beam) : (s.modBeam n f).clk = s.clk := rfl
@[simp] theorem State.modBeam_mots (s : State) (n : Nat) (f : Beam → Beam) : (s.modBeam n f).mots = s.mots := rfl
@[simp] theorem State.modBeam_pins (s : State) (n : Nat) (f : Beam → Beam) : (s.modBeam n f).pins = s.pins := rfl
@[simp] theorem State.modBeam_xds (s : State) (n : Nat) (f : Beam → Beam) : (s.modBeam n f).xds = s.xds := rfl
@[simp] theorem State.modBeam_axes (s : State) (n : Nat) (f : Beam → Beam) : (s.modBeam n f).axes = s.axes := rfl
@[simp] theorem State.modBeam_encs (s : State) (n : Nat) (f : Beam → Beam) : (s.modBeam n f).encs = s.encs := rfl
@[simp] theorem State.modBeam_web (s : State) (n : Nat) (f : Beam → Beam) : (s.modBeam n f).web = s.web := rfl
@[simp] theorem State.modBeam_loops (s : State) (n : Nat) (f : Beam → Beam) : (s.modBeam n f).loops = s.loops := rfl
@[simp] theorem State.modBeam_hvs (s : State) (n : Nat) (f : Beam → Beam) : (s.modBeam n f).hvs = s.hvs := rfl
@[simp] theorem State.modBeam_fzs (s : State) (n : Nat) (f : Beam → Beam) : (s.modBeam n f).fzs = s.fzs := rfl
@[simp] theorem State.modBeam_ths (s : State) (n : Nat) (f : Beam → Beam) : (s.modBeam n f).ths = s.ths := rfl
@[simp] theorem State.modBeam_zc (s : State) (n : Nat) (f : Beam → Beam) : (s.modBeam n f).zc = s.zc := rfl
@[simp] theorem State.modBeam_isl (s : State) (n : Nat) (f : Beam → Beam) : (s.modBeam n f).isl = s.isl := rfl
@[simp] theorem State.modBeam_pwr (s : State) (n : Nat) (f : Beam → Beam) : (s.modBeam n f).pwr = s.pwr := rfl
@[simp] theorem State.modBeam_seq (s : State) (n : Nat) (f : Beam → Beam) : (s.modBeam n f).seq = s.seq := rfl
@[simp] theorem State.modBeam_boot (s : State) (n : Nat) (f : Beam → Beam) : (s.modBeam n f).boot = s.boot := rfl
@[simp] theorem State.modBeam_tier (s : State) (n : Nat) (f : Beam → Beam) : (s.modBeam n f).tier = s.tier := rfl
@[simp] theorem State.modBeam_leg (s : State) (n : Nat) (f : Beam → Beam) : (s.modBeam n f).leg = s.leg := rfl
@[simp] theorem State.modBeam_justSet (s : State) (n : Nat) (f : Beam → Beam) : (s.modBeam n f).justSet = s.justSet := rfl
@[simp] theorem State.modBeam_freeCtr (s : State) (n : Nat) (f : Beam → Beam) : (s.modBeam n f).freeCtr = s.freeCtr := rfl

@[simp] theorem State.modOct_pending (s : State) (n : Nat) (f : Octet → Octet) : (s.modOct n f).pending = s.pending := rfl
@[simp] theorem State.modOct_regs (s : State) (n : Nat) (f : Octet → Octet) : (s.modOct n f).regs = s.regs := rfl
@[simp] theorem State.modOct_staged (s : State) (n : Nat) (f : Octet → Octet) : (s.modOct n f).staged = s.staged := rfl
@[simp] theorem State.modOct_time (s : State) (n : Nat) (f : Octet → Octet) : (s.modOct n f).time = s.time := rfl
@[simp] theorem State.modOct_host (s : State) (n : Nat) (f : Octet → Octet) : (s.modOct n f).host = s.host := rfl
@[simp] theorem State.modOct_rings (s : State) (n : Nat) (f : Octet → Octet) : (s.modOct n f).rings = s.rings := rfl
@[simp] theorem State.modOct_bezel (s : State) (n : Nat) (f : Octet → Octet) : (s.modOct n f).bezel = s.bezel := rfl
@[simp] theorem State.modOct_alm (s : State) (n : Nat) (f : Octet → Octet) : (s.modOct n f).alm = s.alm := rfl
@[simp] theorem State.modOct_band (s : State) (n : Nat) (f : Octet → Octet) : (s.modOct n f).band = s.band := rfl
@[simp] theorem State.modOct_codec (s : State) (n : Nat) (f : Octet → Octet) : (s.modOct n f).codec = s.codec := rfl
@[simp] theorem State.modOct_tbl (s : State) (n : Nat) (f : Octet → Octet) : (s.modOct n f).tbl = s.tbl := rfl
@[simp] theorem State.modOct_flt (s : State) (n : Nat) (f : Octet → Octet) : (s.modOct n f).flt = s.flt := rfl
@[simp] theorem State.modOct_scan (s : State) (n : Nat) (f : Octet → Octet) : (s.modOct n f).scan = s.scan := rfl
@[simp] theorem State.modOct_regf (s : State) (n : Nat) (f : Octet → Octet) : (s.modOct n f).regf = s.regf := rfl
@[simp] theorem State.modOct_mks (s : State) (n : Nat) (f : Octet → Octet) : (s.modOct n f).mks = s.mks := rfl
@[simp] theorem State.modOct_beams (s : State) (n : Nat) (f : Octet → Octet) : (s.modOct n f).beams = s.beams := rfl
@[simp] theorem State.modOct_lsafe (s : State) (n : Nat) (f : Octet → Octet) : (s.modOct n f).lsafe = s.lsafe := rfl
@[simp] theorem State.modOct_clasps (s : State) (n : Nat) (f : Octet → Octet) : (s.modOct n f).clasps = s.clasps := rfl
@[simp] theorem State.modOct_clk (s : State) (n : Nat) (f : Octet → Octet) : (s.modOct n f).clk = s.clk := rfl
@[simp] theorem State.modOct_mots (s : State) (n : Nat) (f : Octet → Octet) : (s.modOct n f).mots = s.mots := rfl
@[simp] theorem State.modOct_pins (s : State) (n : Nat) (f : Octet → Octet) : (s.modOct n f).pins = s.pins := rfl
@[simp] theorem State.modOct_xds (s : State) (n : Nat) (f : Octet → Octet) : (s.modOct n f).xds = s.xds := rfl
@[simp] theorem State.modOct_axes (s : State) (n : Nat) (f : Octet → Octet) : (s.modOct n f).axes = s.axes := rfl
@[simp] theorem State.modOct_encs (s : State) (n : Nat) (f : Octet → Octet) : (s.modOct n f).encs = s.encs := rfl
@[simp] theorem State.modOct_web (s : State) (n : Nat) (f : Octet → Octet) : (s.modOct n f).web = s.web := rfl
@[simp] theorem State.modOct_loops (s : State) (n : Nat) (f : Octet → Octet) : (s.modOct n f).loops = s.loops := rfl
@[simp] theorem State.modOct_hvs (s : State) (n : Nat) (f : Octet → Octet) : (s.modOct n f).hvs = s.hvs := rfl
@[simp] theorem State.modOct_fzs (s : State) (n : Nat) (f : Octet → Octet) : (s.modOct n f).fzs = s.fzs := rfl
@[simp] theorem State.modOct_ths (s : State) (n : Nat) (f : Octet → Octet) : (s.modOct n f).ths = s.ths := rfl
@[simp] theorem State.modOct_zc (s : State) (n : Nat) (f : Octet → Octet) : (s.modOct n f).zc = s.zc := rfl
@[simp] theorem State.modOct_isl (s : State) (n : Nat) (f : Octet → Octet) : (s.modOct n f).isl = s.isl := rfl
@[simp] theorem State.modOct_pwr (s : State) (n : Nat) (f : Octet → Octet) : (s.modOct n f).pwr = s.pwr := rfl
@[simp] theorem State.modOct_seq (s : State) (n : Nat) (f : Octet → Octet) : (s.modOct n f).seq = s.seq := rfl
@[simp] theorem State.modOct_boot (s : State) (n : Nat) (f : Octet → Octet) : (s.modOct n f).boot = s.boot := rfl
@[simp] theorem State.modOct_tier (s : State) (n : Nat) (f : Octet → Octet) : (s.modOct n f).tier = s.tier := rfl
@[simp] theorem State.modOct_leg (s : State) (n : Nat) (f : Octet → Octet) : (s.modOct n f).leg = s.leg := rfl
@[simp] theorem State.modOct_justSet (s : State) (n : Nat) (f : Octet → Octet) : (s.modOct n f).justSet = s.justSet := rfl
@[simp] theorem State.modOct_freeCtr (s : State) (n : Nat) (f : Octet → Octet) : (s.modOct n f).freeCtr = s.freeCtr := rfl

@[simp] theorem State.modClasp_pending (s : State) (n : Nat) (f : Clasp → Clasp) : (s.modClasp n f).pending = s.pending := rfl
@[simp] theorem State.modClasp_regs (s : State) (n : Nat) (f : Clasp → Clasp) : (s.modClasp n f).regs = s.regs := rfl
@[simp] theorem State.modClasp_staged (s : State) (n : Nat) (f : Clasp → Clasp) : (s.modClasp n f).staged = s.staged := rfl
@[simp] theorem State.modClasp_time (s : State) (n : Nat) (f : Clasp → Clasp) : (s.modClasp n f).time = s.time := rfl
@[simp] theorem State.modClasp_host (s : State) (n : Nat) (f : Clasp → Clasp) : (s.modClasp n f).host = s.host := rfl
@[simp] theorem State.modClasp_rings (s : State) (n : Nat) (f : Clasp → Clasp) : (s.modClasp n f).rings = s.rings := rfl
@[simp] theorem State.modClasp_bezel (s : State) (n : Nat) (f : Clasp → Clasp) : (s.modClasp n f).bezel = s.bezel := rfl
@[simp] theorem State.modClasp_alm (s : State) (n : Nat) (f : Clasp → Clasp) : (s.modClasp n f).alm = s.alm := rfl
@[simp] theorem State.modClasp_band (s : State) (n : Nat) (f : Clasp → Clasp) : (s.modClasp n f).band = s.band := rfl
@[simp] theorem State.modClasp_codec (s : State) (n : Nat) (f : Clasp → Clasp) : (s.modClasp n f).codec = s.codec := rfl
@[simp] theorem State.modClasp_tbl (s : State) (n : Nat) (f : Clasp → Clasp) : (s.modClasp n f).tbl = s.tbl := rfl
@[simp] theorem State.modClasp_flt (s : State) (n : Nat) (f : Clasp → Clasp) : (s.modClasp n f).flt = s.flt := rfl
@[simp] theorem State.modClasp_scan (s : State) (n : Nat) (f : Clasp → Clasp) : (s.modClasp n f).scan = s.scan := rfl
@[simp] theorem State.modClasp_regf (s : State) (n : Nat) (f : Clasp → Clasp) : (s.modClasp n f).regf = s.regf := rfl
@[simp] theorem State.modClasp_mks (s : State) (n : Nat) (f : Clasp → Clasp) : (s.modClasp n f).mks = s.mks := rfl
@[simp] theorem State.modClasp_beams (s : State) (n : Nat) (f : Clasp → Clasp) : (s.modClasp n f).beams = s.beams := rfl
@[simp] theorem State.modClasp_octs (s : State) (n : Nat) (f : Clasp → Clasp) : (s.modClasp n f).octs = s.octs := rfl
@[simp] theorem State.modClasp_lsafe (s : State) (n : Nat) (f : Clasp → Clasp) : (s.modClasp n f).lsafe = s.lsafe := rfl
@[simp] theorem State.modClasp_clk (s : State) (n : Nat) (f : Clasp → Clasp) : (s.modClasp n f).clk = s.clk := rfl
@[simp] theorem State.modClasp_mots (s : State) (n : Nat) (f : Clasp → Clasp) : (s.modClasp n f).mots = s.mots := rfl
@[simp] theorem State.modClasp_pins (s : State) (n : Nat) (f : Clasp → Clasp) : (s.modClasp n f).pins = s.pins := rfl
@[simp] theorem State.modClasp_xds (s : State) (n : Nat) (f : Clasp → Clasp) : (s.modClasp n f).xds = s.xds := rfl
@[simp] theorem State.modClasp_axes (s : State) (n : Nat) (f : Clasp → Clasp) : (s.modClasp n f).axes = s.axes := rfl
@[simp] theorem State.modClasp_encs (s : State) (n : Nat) (f : Clasp → Clasp) : (s.modClasp n f).encs = s.encs := rfl
@[simp] theorem State.modClasp_web (s : State) (n : Nat) (f : Clasp → Clasp) : (s.modClasp n f).web = s.web := rfl
@[simp] theorem State.modClasp_loops (s : State) (n : Nat) (f : Clasp → Clasp) : (s.modClasp n f).loops = s.loops := rfl
@[simp] theorem State.modClasp_hvs (s : State) (n : Nat) (f : Clasp → Clasp) : (s.modClasp n f).hvs = s.hvs := rfl
@[simp] theorem State.modClasp_fzs (s : State) (n : Nat) (f : Clasp → Clasp) : (s.modClasp n f).fzs = s.fzs := rfl
@[simp] theorem State.modClasp_ths (s : State) (n : Nat) (f : Clasp → Clasp) : (s.modClasp n f).ths = s.ths := rfl
@[simp] theorem State.modClasp_zc (s : State) (n : Nat) (f : Clasp → Clasp) : (s.modClasp n f).zc = s.zc := rfl
@[simp] theorem State.modClasp_isl (s : State) (n : Nat) (f : Clasp → Clasp) : (s.modClasp n f).isl = s.isl := rfl
@[simp] theorem State.modClasp_pwr (s : State) (n : Nat) (f : Clasp → Clasp) : (s.modClasp n f).pwr = s.pwr := rfl
@[simp] theorem State.modClasp_seq (s : State) (n : Nat) (f : Clasp → Clasp) : (s.modClasp n f).seq = s.seq := rfl
@[simp] theorem State.modClasp_boot (s : State) (n : Nat) (f : Clasp → Clasp) : (s.modClasp n f).boot = s.boot := rfl
@[simp] theorem State.modClasp_tier (s : State) (n : Nat) (f : Clasp → Clasp) : (s.modClasp n f).tier = s.tier := rfl
@[simp] theorem State.modClasp_leg (s : State) (n : Nat) (f : Clasp → Clasp) : (s.modClasp n f).leg = s.leg := rfl
@[simp] theorem State.modClasp_justSet (s : State) (n : Nat) (f : Clasp → Clasp) : (s.modClasp n f).justSet = s.justSet := rfl
@[simp] theorem State.modClasp_freeCtr (s : State) (n : Nat) (f : Clasp → Clasp) : (s.modClasp n f).freeCtr = s.freeCtr := rfl

@[simp] theorem State.modPll_pending (s : State) (n : Nat) (f : Pll → Pll) : (s.modPll n f).pending = s.pending := rfl
@[simp] theorem State.modPll_regs (s : State) (n : Nat) (f : Pll → Pll) : (s.modPll n f).regs = s.regs := rfl
@[simp] theorem State.modPll_staged (s : State) (n : Nat) (f : Pll → Pll) : (s.modPll n f).staged = s.staged := rfl
@[simp] theorem State.modPll_time (s : State) (n : Nat) (f : Pll → Pll) : (s.modPll n f).time = s.time := rfl
@[simp] theorem State.modPll_host (s : State) (n : Nat) (f : Pll → Pll) : (s.modPll n f).host = s.host := rfl
@[simp] theorem State.modPll_rings (s : State) (n : Nat) (f : Pll → Pll) : (s.modPll n f).rings = s.rings := rfl
@[simp] theorem State.modPll_bezel (s : State) (n : Nat) (f : Pll → Pll) : (s.modPll n f).bezel = s.bezel := rfl
@[simp] theorem State.modPll_alm (s : State) (n : Nat) (f : Pll → Pll) : (s.modPll n f).alm = s.alm := rfl
@[simp] theorem State.modPll_band (s : State) (n : Nat) (f : Pll → Pll) : (s.modPll n f).band = s.band := rfl
@[simp] theorem State.modPll_codec (s : State) (n : Nat) (f : Pll → Pll) : (s.modPll n f).codec = s.codec := rfl
@[simp] theorem State.modPll_tbl (s : State) (n : Nat) (f : Pll → Pll) : (s.modPll n f).tbl = s.tbl := rfl
@[simp] theorem State.modPll_flt (s : State) (n : Nat) (f : Pll → Pll) : (s.modPll n f).flt = s.flt := rfl
@[simp] theorem State.modPll_scan (s : State) (n : Nat) (f : Pll → Pll) : (s.modPll n f).scan = s.scan := rfl
@[simp] theorem State.modPll_regf (s : State) (n : Nat) (f : Pll → Pll) : (s.modPll n f).regf = s.regf := rfl
@[simp] theorem State.modPll_mks (s : State) (n : Nat) (f : Pll → Pll) : (s.modPll n f).mks = s.mks := rfl
@[simp] theorem State.modPll_beams (s : State) (n : Nat) (f : Pll → Pll) : (s.modPll n f).beams = s.beams := rfl
@[simp] theorem State.modPll_octs (s : State) (n : Nat) (f : Pll → Pll) : (s.modPll n f).octs = s.octs := rfl
@[simp] theorem State.modPll_lsafe (s : State) (n : Nat) (f : Pll → Pll) : (s.modPll n f).lsafe = s.lsafe := rfl
@[simp] theorem State.modPll_clasps (s : State) (n : Nat) (f : Pll → Pll) : (s.modPll n f).clasps = s.clasps := rfl
@[simp] theorem State.modPll_mots (s : State) (n : Nat) (f : Pll → Pll) : (s.modPll n f).mots = s.mots := rfl
@[simp] theorem State.modPll_pins (s : State) (n : Nat) (f : Pll → Pll) : (s.modPll n f).pins = s.pins := rfl
@[simp] theorem State.modPll_xds (s : State) (n : Nat) (f : Pll → Pll) : (s.modPll n f).xds = s.xds := rfl
@[simp] theorem State.modPll_axes (s : State) (n : Nat) (f : Pll → Pll) : (s.modPll n f).axes = s.axes := rfl
@[simp] theorem State.modPll_encs (s : State) (n : Nat) (f : Pll → Pll) : (s.modPll n f).encs = s.encs := rfl
@[simp] theorem State.modPll_web (s : State) (n : Nat) (f : Pll → Pll) : (s.modPll n f).web = s.web := rfl
@[simp] theorem State.modPll_loops (s : State) (n : Nat) (f : Pll → Pll) : (s.modPll n f).loops = s.loops := rfl
@[simp] theorem State.modPll_hvs (s : State) (n : Nat) (f : Pll → Pll) : (s.modPll n f).hvs = s.hvs := rfl
@[simp] theorem State.modPll_fzs (s : State) (n : Nat) (f : Pll → Pll) : (s.modPll n f).fzs = s.fzs := rfl
@[simp] theorem State.modPll_ths (s : State) (n : Nat) (f : Pll → Pll) : (s.modPll n f).ths = s.ths := rfl
@[simp] theorem State.modPll_zc (s : State) (n : Nat) (f : Pll → Pll) : (s.modPll n f).zc = s.zc := rfl
@[simp] theorem State.modPll_isl (s : State) (n : Nat) (f : Pll → Pll) : (s.modPll n f).isl = s.isl := rfl
@[simp] theorem State.modPll_pwr (s : State) (n : Nat) (f : Pll → Pll) : (s.modPll n f).pwr = s.pwr := rfl
@[simp] theorem State.modPll_seq (s : State) (n : Nat) (f : Pll → Pll) : (s.modPll n f).seq = s.seq := rfl
@[simp] theorem State.modPll_boot (s : State) (n : Nat) (f : Pll → Pll) : (s.modPll n f).boot = s.boot := rfl
@[simp] theorem State.modPll_tier (s : State) (n : Nat) (f : Pll → Pll) : (s.modPll n f).tier = s.tier := rfl
@[simp] theorem State.modPll_leg (s : State) (n : Nat) (f : Pll → Pll) : (s.modPll n f).leg = s.leg := rfl
@[simp] theorem State.modPll_justSet (s : State) (n : Nat) (f : Pll → Pll) : (s.modPll n f).justSet = s.justSet := rfl
@[simp] theorem State.modPll_freeCtr (s : State) (n : Nat) (f : Pll → Pll) : (s.modPll n f).freeCtr = s.freeCtr := rfl

@[simp] theorem State.modMot_pending (s : State) (n : Nat) (f : Mot → Mot) : (s.modMot n f).pending = s.pending := rfl
@[simp] theorem State.modMot_regs (s : State) (n : Nat) (f : Mot → Mot) : (s.modMot n f).regs = s.regs := rfl
@[simp] theorem State.modMot_staged (s : State) (n : Nat) (f : Mot → Mot) : (s.modMot n f).staged = s.staged := rfl
@[simp] theorem State.modMot_time (s : State) (n : Nat) (f : Mot → Mot) : (s.modMot n f).time = s.time := rfl
@[simp] theorem State.modMot_host (s : State) (n : Nat) (f : Mot → Mot) : (s.modMot n f).host = s.host := rfl
@[simp] theorem State.modMot_rings (s : State) (n : Nat) (f : Mot → Mot) : (s.modMot n f).rings = s.rings := rfl
@[simp] theorem State.modMot_bezel (s : State) (n : Nat) (f : Mot → Mot) : (s.modMot n f).bezel = s.bezel := rfl
@[simp] theorem State.modMot_alm (s : State) (n : Nat) (f : Mot → Mot) : (s.modMot n f).alm = s.alm := rfl
@[simp] theorem State.modMot_band (s : State) (n : Nat) (f : Mot → Mot) : (s.modMot n f).band = s.band := rfl
@[simp] theorem State.modMot_codec (s : State) (n : Nat) (f : Mot → Mot) : (s.modMot n f).codec = s.codec := rfl
@[simp] theorem State.modMot_tbl (s : State) (n : Nat) (f : Mot → Mot) : (s.modMot n f).tbl = s.tbl := rfl
@[simp] theorem State.modMot_flt (s : State) (n : Nat) (f : Mot → Mot) : (s.modMot n f).flt = s.flt := rfl
@[simp] theorem State.modMot_scan (s : State) (n : Nat) (f : Mot → Mot) : (s.modMot n f).scan = s.scan := rfl
@[simp] theorem State.modMot_regf (s : State) (n : Nat) (f : Mot → Mot) : (s.modMot n f).regf = s.regf := rfl
@[simp] theorem State.modMot_mks (s : State) (n : Nat) (f : Mot → Mot) : (s.modMot n f).mks = s.mks := rfl
@[simp] theorem State.modMot_beams (s : State) (n : Nat) (f : Mot → Mot) : (s.modMot n f).beams = s.beams := rfl
@[simp] theorem State.modMot_octs (s : State) (n : Nat) (f : Mot → Mot) : (s.modMot n f).octs = s.octs := rfl
@[simp] theorem State.modMot_lsafe (s : State) (n : Nat) (f : Mot → Mot) : (s.modMot n f).lsafe = s.lsafe := rfl
@[simp] theorem State.modMot_clasps (s : State) (n : Nat) (f : Mot → Mot) : (s.modMot n f).clasps = s.clasps := rfl
@[simp] theorem State.modMot_clk (s : State) (n : Nat) (f : Mot → Mot) : (s.modMot n f).clk = s.clk := rfl
@[simp] theorem State.modMot_pins (s : State) (n : Nat) (f : Mot → Mot) : (s.modMot n f).pins = s.pins := rfl
@[simp] theorem State.modMot_xds (s : State) (n : Nat) (f : Mot → Mot) : (s.modMot n f).xds = s.xds := rfl
@[simp] theorem State.modMot_axes (s : State) (n : Nat) (f : Mot → Mot) : (s.modMot n f).axes = s.axes := rfl
@[simp] theorem State.modMot_encs (s : State) (n : Nat) (f : Mot → Mot) : (s.modMot n f).encs = s.encs := rfl
@[simp] theorem State.modMot_web (s : State) (n : Nat) (f : Mot → Mot) : (s.modMot n f).web = s.web := rfl
@[simp] theorem State.modMot_loops (s : State) (n : Nat) (f : Mot → Mot) : (s.modMot n f).loops = s.loops := rfl
@[simp] theorem State.modMot_hvs (s : State) (n : Nat) (f : Mot → Mot) : (s.modMot n f).hvs = s.hvs := rfl
@[simp] theorem State.modMot_fzs (s : State) (n : Nat) (f : Mot → Mot) : (s.modMot n f).fzs = s.fzs := rfl
@[simp] theorem State.modMot_ths (s : State) (n : Nat) (f : Mot → Mot) : (s.modMot n f).ths = s.ths := rfl
@[simp] theorem State.modMot_zc (s : State) (n : Nat) (f : Mot → Mot) : (s.modMot n f).zc = s.zc := rfl
@[simp] theorem State.modMot_isl (s : State) (n : Nat) (f : Mot → Mot) : (s.modMot n f).isl = s.isl := rfl
@[simp] theorem State.modMot_pwr (s : State) (n : Nat) (f : Mot → Mot) : (s.modMot n f).pwr = s.pwr := rfl
@[simp] theorem State.modMot_seq (s : State) (n : Nat) (f : Mot → Mot) : (s.modMot n f).seq = s.seq := rfl
@[simp] theorem State.modMot_boot (s : State) (n : Nat) (f : Mot → Mot) : (s.modMot n f).boot = s.boot := rfl
@[simp] theorem State.modMot_tier (s : State) (n : Nat) (f : Mot → Mot) : (s.modMot n f).tier = s.tier := rfl
@[simp] theorem State.modMot_leg (s : State) (n : Nat) (f : Mot → Mot) : (s.modMot n f).leg = s.leg := rfl
@[simp] theorem State.modMot_justSet (s : State) (n : Nat) (f : Mot → Mot) : (s.modMot n f).justSet = s.justSet := rfl
@[simp] theorem State.modMot_freeCtr (s : State) (n : Nat) (f : Mot → Mot) : (s.modMot n f).freeCtr = s.freeCtr := rfl

@[simp] theorem State.modPin_pending (s : State) (n : Nat) (f : CmdPin → CmdPin) : (s.modPin n f).pending = s.pending := rfl
@[simp] theorem State.modPin_regs (s : State) (n : Nat) (f : CmdPin → CmdPin) : (s.modPin n f).regs = s.regs := rfl
@[simp] theorem State.modPin_staged (s : State) (n : Nat) (f : CmdPin → CmdPin) : (s.modPin n f).staged = s.staged := rfl
@[simp] theorem State.modPin_time (s : State) (n : Nat) (f : CmdPin → CmdPin) : (s.modPin n f).time = s.time := rfl
@[simp] theorem State.modPin_host (s : State) (n : Nat) (f : CmdPin → CmdPin) : (s.modPin n f).host = s.host := rfl
@[simp] theorem State.modPin_rings (s : State) (n : Nat) (f : CmdPin → CmdPin) : (s.modPin n f).rings = s.rings := rfl
@[simp] theorem State.modPin_bezel (s : State) (n : Nat) (f : CmdPin → CmdPin) : (s.modPin n f).bezel = s.bezel := rfl
@[simp] theorem State.modPin_alm (s : State) (n : Nat) (f : CmdPin → CmdPin) : (s.modPin n f).alm = s.alm := rfl
@[simp] theorem State.modPin_band (s : State) (n : Nat) (f : CmdPin → CmdPin) : (s.modPin n f).band = s.band := rfl
@[simp] theorem State.modPin_codec (s : State) (n : Nat) (f : CmdPin → CmdPin) : (s.modPin n f).codec = s.codec := rfl
@[simp] theorem State.modPin_tbl (s : State) (n : Nat) (f : CmdPin → CmdPin) : (s.modPin n f).tbl = s.tbl := rfl
@[simp] theorem State.modPin_flt (s : State) (n : Nat) (f : CmdPin → CmdPin) : (s.modPin n f).flt = s.flt := rfl
@[simp] theorem State.modPin_scan (s : State) (n : Nat) (f : CmdPin → CmdPin) : (s.modPin n f).scan = s.scan := rfl
@[simp] theorem State.modPin_regf (s : State) (n : Nat) (f : CmdPin → CmdPin) : (s.modPin n f).regf = s.regf := rfl
@[simp] theorem State.modPin_mks (s : State) (n : Nat) (f : CmdPin → CmdPin) : (s.modPin n f).mks = s.mks := rfl
@[simp] theorem State.modPin_beams (s : State) (n : Nat) (f : CmdPin → CmdPin) : (s.modPin n f).beams = s.beams := rfl
@[simp] theorem State.modPin_octs (s : State) (n : Nat) (f : CmdPin → CmdPin) : (s.modPin n f).octs = s.octs := rfl
@[simp] theorem State.modPin_lsafe (s : State) (n : Nat) (f : CmdPin → CmdPin) : (s.modPin n f).lsafe = s.lsafe := rfl
@[simp] theorem State.modPin_clasps (s : State) (n : Nat) (f : CmdPin → CmdPin) : (s.modPin n f).clasps = s.clasps := rfl
@[simp] theorem State.modPin_clk (s : State) (n : Nat) (f : CmdPin → CmdPin) : (s.modPin n f).clk = s.clk := rfl
@[simp] theorem State.modPin_mots (s : State) (n : Nat) (f : CmdPin → CmdPin) : (s.modPin n f).mots = s.mots := rfl
@[simp] theorem State.modPin_xds (s : State) (n : Nat) (f : CmdPin → CmdPin) : (s.modPin n f).xds = s.xds := rfl
@[simp] theorem State.modPin_axes (s : State) (n : Nat) (f : CmdPin → CmdPin) : (s.modPin n f).axes = s.axes := rfl
@[simp] theorem State.modPin_encs (s : State) (n : Nat) (f : CmdPin → CmdPin) : (s.modPin n f).encs = s.encs := rfl
@[simp] theorem State.modPin_web (s : State) (n : Nat) (f : CmdPin → CmdPin) : (s.modPin n f).web = s.web := rfl
@[simp] theorem State.modPin_loops (s : State) (n : Nat) (f : CmdPin → CmdPin) : (s.modPin n f).loops = s.loops := rfl
@[simp] theorem State.modPin_hvs (s : State) (n : Nat) (f : CmdPin → CmdPin) : (s.modPin n f).hvs = s.hvs := rfl
@[simp] theorem State.modPin_fzs (s : State) (n : Nat) (f : CmdPin → CmdPin) : (s.modPin n f).fzs = s.fzs := rfl
@[simp] theorem State.modPin_ths (s : State) (n : Nat) (f : CmdPin → CmdPin) : (s.modPin n f).ths = s.ths := rfl
@[simp] theorem State.modPin_zc (s : State) (n : Nat) (f : CmdPin → CmdPin) : (s.modPin n f).zc = s.zc := rfl
@[simp] theorem State.modPin_isl (s : State) (n : Nat) (f : CmdPin → CmdPin) : (s.modPin n f).isl = s.isl := rfl
@[simp] theorem State.modPin_pwr (s : State) (n : Nat) (f : CmdPin → CmdPin) : (s.modPin n f).pwr = s.pwr := rfl
@[simp] theorem State.modPin_seq (s : State) (n : Nat) (f : CmdPin → CmdPin) : (s.modPin n f).seq = s.seq := rfl
@[simp] theorem State.modPin_boot (s : State) (n : Nat) (f : CmdPin → CmdPin) : (s.modPin n f).boot = s.boot := rfl
@[simp] theorem State.modPin_tier (s : State) (n : Nat) (f : CmdPin → CmdPin) : (s.modPin n f).tier = s.tier := rfl
@[simp] theorem State.modPin_leg (s : State) (n : Nat) (f : CmdPin → CmdPin) : (s.modPin n f).leg = s.leg := rfl
@[simp] theorem State.modPin_justSet (s : State) (n : Nat) (f : CmdPin → CmdPin) : (s.modPin n f).justSet = s.justSet := rfl
@[simp] theorem State.modPin_freeCtr (s : State) (n : Nat) (f : CmdPin → CmdPin) : (s.modPin n f).freeCtr = s.freeCtr := rfl

@[simp] theorem State.modXd_pending (s : State) (n : Nat) (f : Xd → Xd) : (s.modXd n f).pending = s.pending := rfl
@[simp] theorem State.modXd_regs (s : State) (n : Nat) (f : Xd → Xd) : (s.modXd n f).regs = s.regs := rfl
@[simp] theorem State.modXd_staged (s : State) (n : Nat) (f : Xd → Xd) : (s.modXd n f).staged = s.staged := rfl
@[simp] theorem State.modXd_time (s : State) (n : Nat) (f : Xd → Xd) : (s.modXd n f).time = s.time := rfl
@[simp] theorem State.modXd_host (s : State) (n : Nat) (f : Xd → Xd) : (s.modXd n f).host = s.host := rfl
@[simp] theorem State.modXd_rings (s : State) (n : Nat) (f : Xd → Xd) : (s.modXd n f).rings = s.rings := rfl
@[simp] theorem State.modXd_bezel (s : State) (n : Nat) (f : Xd → Xd) : (s.modXd n f).bezel = s.bezel := rfl
@[simp] theorem State.modXd_alm (s : State) (n : Nat) (f : Xd → Xd) : (s.modXd n f).alm = s.alm := rfl
@[simp] theorem State.modXd_band (s : State) (n : Nat) (f : Xd → Xd) : (s.modXd n f).band = s.band := rfl
@[simp] theorem State.modXd_codec (s : State) (n : Nat) (f : Xd → Xd) : (s.modXd n f).codec = s.codec := rfl
@[simp] theorem State.modXd_tbl (s : State) (n : Nat) (f : Xd → Xd) : (s.modXd n f).tbl = s.tbl := rfl
@[simp] theorem State.modXd_flt (s : State) (n : Nat) (f : Xd → Xd) : (s.modXd n f).flt = s.flt := rfl
@[simp] theorem State.modXd_scan (s : State) (n : Nat) (f : Xd → Xd) : (s.modXd n f).scan = s.scan := rfl
@[simp] theorem State.modXd_regf (s : State) (n : Nat) (f : Xd → Xd) : (s.modXd n f).regf = s.regf := rfl
@[simp] theorem State.modXd_mks (s : State) (n : Nat) (f : Xd → Xd) : (s.modXd n f).mks = s.mks := rfl
@[simp] theorem State.modXd_beams (s : State) (n : Nat) (f : Xd → Xd) : (s.modXd n f).beams = s.beams := rfl
@[simp] theorem State.modXd_octs (s : State) (n : Nat) (f : Xd → Xd) : (s.modXd n f).octs = s.octs := rfl
@[simp] theorem State.modXd_lsafe (s : State) (n : Nat) (f : Xd → Xd) : (s.modXd n f).lsafe = s.lsafe := rfl
@[simp] theorem State.modXd_clasps (s : State) (n : Nat) (f : Xd → Xd) : (s.modXd n f).clasps = s.clasps := rfl
@[simp] theorem State.modXd_clk (s : State) (n : Nat) (f : Xd → Xd) : (s.modXd n f).clk = s.clk := rfl
@[simp] theorem State.modXd_mots (s : State) (n : Nat) (f : Xd → Xd) : (s.modXd n f).mots = s.mots := rfl
@[simp] theorem State.modXd_pins (s : State) (n : Nat) (f : Xd → Xd) : (s.modXd n f).pins = s.pins := rfl
@[simp] theorem State.modXd_axes (s : State) (n : Nat) (f : Xd → Xd) : (s.modXd n f).axes = s.axes := rfl
@[simp] theorem State.modXd_encs (s : State) (n : Nat) (f : Xd → Xd) : (s.modXd n f).encs = s.encs := rfl
@[simp] theorem State.modXd_web (s : State) (n : Nat) (f : Xd → Xd) : (s.modXd n f).web = s.web := rfl
@[simp] theorem State.modXd_loops (s : State) (n : Nat) (f : Xd → Xd) : (s.modXd n f).loops = s.loops := rfl
@[simp] theorem State.modXd_hvs (s : State) (n : Nat) (f : Xd → Xd) : (s.modXd n f).hvs = s.hvs := rfl
@[simp] theorem State.modXd_fzs (s : State) (n : Nat) (f : Xd → Xd) : (s.modXd n f).fzs = s.fzs := rfl
@[simp] theorem State.modXd_ths (s : State) (n : Nat) (f : Xd → Xd) : (s.modXd n f).ths = s.ths := rfl
@[simp] theorem State.modXd_zc (s : State) (n : Nat) (f : Xd → Xd) : (s.modXd n f).zc = s.zc := rfl
@[simp] theorem State.modXd_isl (s : State) (n : Nat) (f : Xd → Xd) : (s.modXd n f).isl = s.isl := rfl
@[simp] theorem State.modXd_pwr (s : State) (n : Nat) (f : Xd → Xd) : (s.modXd n f).pwr = s.pwr := rfl
@[simp] theorem State.modXd_seq (s : State) (n : Nat) (f : Xd → Xd) : (s.modXd n f).seq = s.seq := rfl
@[simp] theorem State.modXd_boot (s : State) (n : Nat) (f : Xd → Xd) : (s.modXd n f).boot = s.boot := rfl
@[simp] theorem State.modXd_tier (s : State) (n : Nat) (f : Xd → Xd) : (s.modXd n f).tier = s.tier := rfl
@[simp] theorem State.modXd_leg (s : State) (n : Nat) (f : Xd → Xd) : (s.modXd n f).leg = s.leg := rfl
@[simp] theorem State.modXd_justSet (s : State) (n : Nat) (f : Xd → Xd) : (s.modXd n f).justSet = s.justSet := rfl
@[simp] theorem State.modXd_freeCtr (s : State) (n : Nat) (f : Xd → Xd) : (s.modXd n f).freeCtr = s.freeCtr := rfl

@[simp] theorem State.modAxis_pending (s : State) (n : Nat) (f : Axis → Axis) : (s.modAxis n f).pending = s.pending := rfl
@[simp] theorem State.modAxis_regs (s : State) (n : Nat) (f : Axis → Axis) : (s.modAxis n f).regs = s.regs := rfl
@[simp] theorem State.modAxis_staged (s : State) (n : Nat) (f : Axis → Axis) : (s.modAxis n f).staged = s.staged := rfl
@[simp] theorem State.modAxis_time (s : State) (n : Nat) (f : Axis → Axis) : (s.modAxis n f).time = s.time := rfl
@[simp] theorem State.modAxis_host (s : State) (n : Nat) (f : Axis → Axis) : (s.modAxis n f).host = s.host := rfl
@[simp] theorem State.modAxis_rings (s : State) (n : Nat) (f : Axis → Axis) : (s.modAxis n f).rings = s.rings := rfl
@[simp] theorem State.modAxis_bezel (s : State) (n : Nat) (f : Axis → Axis) : (s.modAxis n f).bezel = s.bezel := rfl
@[simp] theorem State.modAxis_alm (s : State) (n : Nat) (f : Axis → Axis) : (s.modAxis n f).alm = s.alm := rfl
@[simp] theorem State.modAxis_band (s : State) (n : Nat) (f : Axis → Axis) : (s.modAxis n f).band = s.band := rfl
@[simp] theorem State.modAxis_codec (s : State) (n : Nat) (f : Axis → Axis) : (s.modAxis n f).codec = s.codec := rfl
@[simp] theorem State.modAxis_tbl (s : State) (n : Nat) (f : Axis → Axis) : (s.modAxis n f).tbl = s.tbl := rfl
@[simp] theorem State.modAxis_flt (s : State) (n : Nat) (f : Axis → Axis) : (s.modAxis n f).flt = s.flt := rfl
@[simp] theorem State.modAxis_scan (s : State) (n : Nat) (f : Axis → Axis) : (s.modAxis n f).scan = s.scan := rfl
@[simp] theorem State.modAxis_regf (s : State) (n : Nat) (f : Axis → Axis) : (s.modAxis n f).regf = s.regf := rfl
@[simp] theorem State.modAxis_mks (s : State) (n : Nat) (f : Axis → Axis) : (s.modAxis n f).mks = s.mks := rfl
@[simp] theorem State.modAxis_beams (s : State) (n : Nat) (f : Axis → Axis) : (s.modAxis n f).beams = s.beams := rfl
@[simp] theorem State.modAxis_octs (s : State) (n : Nat) (f : Axis → Axis) : (s.modAxis n f).octs = s.octs := rfl
@[simp] theorem State.modAxis_lsafe (s : State) (n : Nat) (f : Axis → Axis) : (s.modAxis n f).lsafe = s.lsafe := rfl
@[simp] theorem State.modAxis_clasps (s : State) (n : Nat) (f : Axis → Axis) : (s.modAxis n f).clasps = s.clasps := rfl
@[simp] theorem State.modAxis_clk (s : State) (n : Nat) (f : Axis → Axis) : (s.modAxis n f).clk = s.clk := rfl
@[simp] theorem State.modAxis_mots (s : State) (n : Nat) (f : Axis → Axis) : (s.modAxis n f).mots = s.mots := rfl
@[simp] theorem State.modAxis_pins (s : State) (n : Nat) (f : Axis → Axis) : (s.modAxis n f).pins = s.pins := rfl
@[simp] theorem State.modAxis_xds (s : State) (n : Nat) (f : Axis → Axis) : (s.modAxis n f).xds = s.xds := rfl
@[simp] theorem State.modAxis_encs (s : State) (n : Nat) (f : Axis → Axis) : (s.modAxis n f).encs = s.encs := rfl
@[simp] theorem State.modAxis_web (s : State) (n : Nat) (f : Axis → Axis) : (s.modAxis n f).web = s.web := rfl
@[simp] theorem State.modAxis_loops (s : State) (n : Nat) (f : Axis → Axis) : (s.modAxis n f).loops = s.loops := rfl
@[simp] theorem State.modAxis_hvs (s : State) (n : Nat) (f : Axis → Axis) : (s.modAxis n f).hvs = s.hvs := rfl
@[simp] theorem State.modAxis_fzs (s : State) (n : Nat) (f : Axis → Axis) : (s.modAxis n f).fzs = s.fzs := rfl
@[simp] theorem State.modAxis_ths (s : State) (n : Nat) (f : Axis → Axis) : (s.modAxis n f).ths = s.ths := rfl
@[simp] theorem State.modAxis_zc (s : State) (n : Nat) (f : Axis → Axis) : (s.modAxis n f).zc = s.zc := rfl
@[simp] theorem State.modAxis_isl (s : State) (n : Nat) (f : Axis → Axis) : (s.modAxis n f).isl = s.isl := rfl
@[simp] theorem State.modAxis_pwr (s : State) (n : Nat) (f : Axis → Axis) : (s.modAxis n f).pwr = s.pwr := rfl
@[simp] theorem State.modAxis_seq (s : State) (n : Nat) (f : Axis → Axis) : (s.modAxis n f).seq = s.seq := rfl
@[simp] theorem State.modAxis_boot (s : State) (n : Nat) (f : Axis → Axis) : (s.modAxis n f).boot = s.boot := rfl
@[simp] theorem State.modAxis_tier (s : State) (n : Nat) (f : Axis → Axis) : (s.modAxis n f).tier = s.tier := rfl
@[simp] theorem State.modAxis_leg (s : State) (n : Nat) (f : Axis → Axis) : (s.modAxis n f).leg = s.leg := rfl
@[simp] theorem State.modAxis_justSet (s : State) (n : Nat) (f : Axis → Axis) : (s.modAxis n f).justSet = s.justSet := rfl
@[simp] theorem State.modAxis_freeCtr (s : State) (n : Nat) (f : Axis → Axis) : (s.modAxis n f).freeCtr = s.freeCtr := rfl

@[simp] theorem State.modEnc_pending (s : State) (n : Nat) (f : Enc → Enc) : (s.modEnc n f).pending = s.pending := rfl
@[simp] theorem State.modEnc_regs (s : State) (n : Nat) (f : Enc → Enc) : (s.modEnc n f).regs = s.regs := rfl
@[simp] theorem State.modEnc_staged (s : State) (n : Nat) (f : Enc → Enc) : (s.modEnc n f).staged = s.staged := rfl
@[simp] theorem State.modEnc_time (s : State) (n : Nat) (f : Enc → Enc) : (s.modEnc n f).time = s.time := rfl
@[simp] theorem State.modEnc_host (s : State) (n : Nat) (f : Enc → Enc) : (s.modEnc n f).host = s.host := rfl
@[simp] theorem State.modEnc_rings (s : State) (n : Nat) (f : Enc → Enc) : (s.modEnc n f).rings = s.rings := rfl
@[simp] theorem State.modEnc_bezel (s : State) (n : Nat) (f : Enc → Enc) : (s.modEnc n f).bezel = s.bezel := rfl
@[simp] theorem State.modEnc_alm (s : State) (n : Nat) (f : Enc → Enc) : (s.modEnc n f).alm = s.alm := rfl
@[simp] theorem State.modEnc_band (s : State) (n : Nat) (f : Enc → Enc) : (s.modEnc n f).band = s.band := rfl
@[simp] theorem State.modEnc_codec (s : State) (n : Nat) (f : Enc → Enc) : (s.modEnc n f).codec = s.codec := rfl
@[simp] theorem State.modEnc_tbl (s : State) (n : Nat) (f : Enc → Enc) : (s.modEnc n f).tbl = s.tbl := rfl
@[simp] theorem State.modEnc_flt (s : State) (n : Nat) (f : Enc → Enc) : (s.modEnc n f).flt = s.flt := rfl
@[simp] theorem State.modEnc_scan (s : State) (n : Nat) (f : Enc → Enc) : (s.modEnc n f).scan = s.scan := rfl
@[simp] theorem State.modEnc_regf (s : State) (n : Nat) (f : Enc → Enc) : (s.modEnc n f).regf = s.regf := rfl
@[simp] theorem State.modEnc_mks (s : State) (n : Nat) (f : Enc → Enc) : (s.modEnc n f).mks = s.mks := rfl
@[simp] theorem State.modEnc_beams (s : State) (n : Nat) (f : Enc → Enc) : (s.modEnc n f).beams = s.beams := rfl
@[simp] theorem State.modEnc_octs (s : State) (n : Nat) (f : Enc → Enc) : (s.modEnc n f).octs = s.octs := rfl
@[simp] theorem State.modEnc_lsafe (s : State) (n : Nat) (f : Enc → Enc) : (s.modEnc n f).lsafe = s.lsafe := rfl
@[simp] theorem State.modEnc_clasps (s : State) (n : Nat) (f : Enc → Enc) : (s.modEnc n f).clasps = s.clasps := rfl
@[simp] theorem State.modEnc_clk (s : State) (n : Nat) (f : Enc → Enc) : (s.modEnc n f).clk = s.clk := rfl
@[simp] theorem State.modEnc_mots (s : State) (n : Nat) (f : Enc → Enc) : (s.modEnc n f).mots = s.mots := rfl
@[simp] theorem State.modEnc_pins (s : State) (n : Nat) (f : Enc → Enc) : (s.modEnc n f).pins = s.pins := rfl
@[simp] theorem State.modEnc_xds (s : State) (n : Nat) (f : Enc → Enc) : (s.modEnc n f).xds = s.xds := rfl
@[simp] theorem State.modEnc_axes (s : State) (n : Nat) (f : Enc → Enc) : (s.modEnc n f).axes = s.axes := rfl
@[simp] theorem State.modEnc_web (s : State) (n : Nat) (f : Enc → Enc) : (s.modEnc n f).web = s.web := rfl
@[simp] theorem State.modEnc_loops (s : State) (n : Nat) (f : Enc → Enc) : (s.modEnc n f).loops = s.loops := rfl
@[simp] theorem State.modEnc_hvs (s : State) (n : Nat) (f : Enc → Enc) : (s.modEnc n f).hvs = s.hvs := rfl
@[simp] theorem State.modEnc_fzs (s : State) (n : Nat) (f : Enc → Enc) : (s.modEnc n f).fzs = s.fzs := rfl
@[simp] theorem State.modEnc_ths (s : State) (n : Nat) (f : Enc → Enc) : (s.modEnc n f).ths = s.ths := rfl
@[simp] theorem State.modEnc_zc (s : State) (n : Nat) (f : Enc → Enc) : (s.modEnc n f).zc = s.zc := rfl
@[simp] theorem State.modEnc_isl (s : State) (n : Nat) (f : Enc → Enc) : (s.modEnc n f).isl = s.isl := rfl
@[simp] theorem State.modEnc_pwr (s : State) (n : Nat) (f : Enc → Enc) : (s.modEnc n f).pwr = s.pwr := rfl
@[simp] theorem State.modEnc_seq (s : State) (n : Nat) (f : Enc → Enc) : (s.modEnc n f).seq = s.seq := rfl
@[simp] theorem State.modEnc_boot (s : State) (n : Nat) (f : Enc → Enc) : (s.modEnc n f).boot = s.boot := rfl
@[simp] theorem State.modEnc_tier (s : State) (n : Nat) (f : Enc → Enc) : (s.modEnc n f).tier = s.tier := rfl
@[simp] theorem State.modEnc_leg (s : State) (n : Nat) (f : Enc → Enc) : (s.modEnc n f).leg = s.leg := rfl
@[simp] theorem State.modEnc_justSet (s : State) (n : Nat) (f : Enc → Enc) : (s.modEnc n f).justSet = s.justSet := rfl
@[simp] theorem State.modEnc_freeCtr (s : State) (n : Nat) (f : Enc → Enc) : (s.modEnc n f).freeCtr = s.freeCtr := rfl

@[simp] theorem State.modWeb_pending (s : State) (f : Web → Web) : (s.modWeb f).pending = s.pending := rfl
@[simp] theorem State.modWeb_regs (s : State) (f : Web → Web) : (s.modWeb f).regs = s.regs := rfl
@[simp] theorem State.modWeb_staged (s : State) (f : Web → Web) : (s.modWeb f).staged = s.staged := rfl
@[simp] theorem State.modWeb_time (s : State) (f : Web → Web) : (s.modWeb f).time = s.time := rfl
@[simp] theorem State.modWeb_host (s : State) (f : Web → Web) : (s.modWeb f).host = s.host := rfl
@[simp] theorem State.modWeb_rings (s : State) (f : Web → Web) : (s.modWeb f).rings = s.rings := rfl
@[simp] theorem State.modWeb_bezel (s : State) (f : Web → Web) : (s.modWeb f).bezel = s.bezel := rfl
@[simp] theorem State.modWeb_alm (s : State) (f : Web → Web) : (s.modWeb f).alm = s.alm := rfl
@[simp] theorem State.modWeb_band (s : State) (f : Web → Web) : (s.modWeb f).band = s.band := rfl
@[simp] theorem State.modWeb_codec (s : State) (f : Web → Web) : (s.modWeb f).codec = s.codec := rfl
@[simp] theorem State.modWeb_tbl (s : State) (f : Web → Web) : (s.modWeb f).tbl = s.tbl := rfl
@[simp] theorem State.modWeb_flt (s : State) (f : Web → Web) : (s.modWeb f).flt = s.flt := rfl
@[simp] theorem State.modWeb_scan (s : State) (f : Web → Web) : (s.modWeb f).scan = s.scan := rfl
@[simp] theorem State.modWeb_regf (s : State) (f : Web → Web) : (s.modWeb f).regf = s.regf := rfl
@[simp] theorem State.modWeb_mks (s : State) (f : Web → Web) : (s.modWeb f).mks = s.mks := rfl
@[simp] theorem State.modWeb_beams (s : State) (f : Web → Web) : (s.modWeb f).beams = s.beams := rfl
@[simp] theorem State.modWeb_octs (s : State) (f : Web → Web) : (s.modWeb f).octs = s.octs := rfl
@[simp] theorem State.modWeb_lsafe (s : State) (f : Web → Web) : (s.modWeb f).lsafe = s.lsafe := rfl
@[simp] theorem State.modWeb_clasps (s : State) (f : Web → Web) : (s.modWeb f).clasps = s.clasps := rfl
@[simp] theorem State.modWeb_clk (s : State) (f : Web → Web) : (s.modWeb f).clk = s.clk := rfl
@[simp] theorem State.modWeb_mots (s : State) (f : Web → Web) : (s.modWeb f).mots = s.mots := rfl
@[simp] theorem State.modWeb_pins (s : State) (f : Web → Web) : (s.modWeb f).pins = s.pins := rfl
@[simp] theorem State.modWeb_xds (s : State) (f : Web → Web) : (s.modWeb f).xds = s.xds := rfl
@[simp] theorem State.modWeb_axes (s : State) (f : Web → Web) : (s.modWeb f).axes = s.axes := rfl
@[simp] theorem State.modWeb_encs (s : State) (f : Web → Web) : (s.modWeb f).encs = s.encs := rfl
@[simp] theorem State.modWeb_loops (s : State) (f : Web → Web) : (s.modWeb f).loops = s.loops := rfl
@[simp] theorem State.modWeb_hvs (s : State) (f : Web → Web) : (s.modWeb f).hvs = s.hvs := rfl
@[simp] theorem State.modWeb_fzs (s : State) (f : Web → Web) : (s.modWeb f).fzs = s.fzs := rfl
@[simp] theorem State.modWeb_ths (s : State) (f : Web → Web) : (s.modWeb f).ths = s.ths := rfl
@[simp] theorem State.modWeb_zc (s : State) (f : Web → Web) : (s.modWeb f).zc = s.zc := rfl
@[simp] theorem State.modWeb_isl (s : State) (f : Web → Web) : (s.modWeb f).isl = s.isl := rfl
@[simp] theorem State.modWeb_pwr (s : State) (f : Web → Web) : (s.modWeb f).pwr = s.pwr := rfl
@[simp] theorem State.modWeb_seq (s : State) (f : Web → Web) : (s.modWeb f).seq = s.seq := rfl
@[simp] theorem State.modWeb_boot (s : State) (f : Web → Web) : (s.modWeb f).boot = s.boot := rfl
@[simp] theorem State.modWeb_tier (s : State) (f : Web → Web) : (s.modWeb f).tier = s.tier := rfl
@[simp] theorem State.modWeb_leg (s : State) (f : Web → Web) : (s.modWeb f).leg = s.leg := rfl
@[simp] theorem State.modWeb_justSet (s : State) (f : Web → Web) : (s.modWeb f).justSet = s.justSet := rfl
@[simp] theorem State.modWeb_freeCtr (s : State) (f : Web → Web) : (s.modWeb f).freeCtr = s.freeCtr := rfl

@[simp] theorem State.modLoop_pending (s : State) (n : Nat) (f : LoopSlot → LoopSlot) : (s.modLoop n f).pending = s.pending := rfl
@[simp] theorem State.modLoop_regs (s : State) (n : Nat) (f : LoopSlot → LoopSlot) : (s.modLoop n f).regs = s.regs := rfl
@[simp] theorem State.modLoop_staged (s : State) (n : Nat) (f : LoopSlot → LoopSlot) : (s.modLoop n f).staged = s.staged := rfl
@[simp] theorem State.modLoop_time (s : State) (n : Nat) (f : LoopSlot → LoopSlot) : (s.modLoop n f).time = s.time := rfl
@[simp] theorem State.modLoop_host (s : State) (n : Nat) (f : LoopSlot → LoopSlot) : (s.modLoop n f).host = s.host := rfl
@[simp] theorem State.modLoop_rings (s : State) (n : Nat) (f : LoopSlot → LoopSlot) : (s.modLoop n f).rings = s.rings := rfl
@[simp] theorem State.modLoop_bezel (s : State) (n : Nat) (f : LoopSlot → LoopSlot) : (s.modLoop n f).bezel = s.bezel := rfl
@[simp] theorem State.modLoop_alm (s : State) (n : Nat) (f : LoopSlot → LoopSlot) : (s.modLoop n f).alm = s.alm := rfl
@[simp] theorem State.modLoop_band (s : State) (n : Nat) (f : LoopSlot → LoopSlot) : (s.modLoop n f).band = s.band := rfl
@[simp] theorem State.modLoop_codec (s : State) (n : Nat) (f : LoopSlot → LoopSlot) : (s.modLoop n f).codec = s.codec := rfl
@[simp] theorem State.modLoop_tbl (s : State) (n : Nat) (f : LoopSlot → LoopSlot) : (s.modLoop n f).tbl = s.tbl := rfl
@[simp] theorem State.modLoop_flt (s : State) (n : Nat) (f : LoopSlot → LoopSlot) : (s.modLoop n f).flt = s.flt := rfl
@[simp] theorem State.modLoop_scan (s : State) (n : Nat) (f : LoopSlot → LoopSlot) : (s.modLoop n f).scan = s.scan := rfl
@[simp] theorem State.modLoop_regf (s : State) (n : Nat) (f : LoopSlot → LoopSlot) : (s.modLoop n f).regf = s.regf := rfl
@[simp] theorem State.modLoop_mks (s : State) (n : Nat) (f : LoopSlot → LoopSlot) : (s.modLoop n f).mks = s.mks := rfl
@[simp] theorem State.modLoop_beams (s : State) (n : Nat) (f : LoopSlot → LoopSlot) : (s.modLoop n f).beams = s.beams := rfl
@[simp] theorem State.modLoop_octs (s : State) (n : Nat) (f : LoopSlot → LoopSlot) : (s.modLoop n f).octs = s.octs := rfl
@[simp] theorem State.modLoop_lsafe (s : State) (n : Nat) (f : LoopSlot → LoopSlot) : (s.modLoop n f).lsafe = s.lsafe := rfl
@[simp] theorem State.modLoop_clasps (s : State) (n : Nat) (f : LoopSlot → LoopSlot) : (s.modLoop n f).clasps = s.clasps := rfl
@[simp] theorem State.modLoop_clk (s : State) (n : Nat) (f : LoopSlot → LoopSlot) : (s.modLoop n f).clk = s.clk := rfl
@[simp] theorem State.modLoop_mots (s : State) (n : Nat) (f : LoopSlot → LoopSlot) : (s.modLoop n f).mots = s.mots := rfl
@[simp] theorem State.modLoop_pins (s : State) (n : Nat) (f : LoopSlot → LoopSlot) : (s.modLoop n f).pins = s.pins := rfl
@[simp] theorem State.modLoop_xds (s : State) (n : Nat) (f : LoopSlot → LoopSlot) : (s.modLoop n f).xds = s.xds := rfl
@[simp] theorem State.modLoop_axes (s : State) (n : Nat) (f : LoopSlot → LoopSlot) : (s.modLoop n f).axes = s.axes := rfl
@[simp] theorem State.modLoop_encs (s : State) (n : Nat) (f : LoopSlot → LoopSlot) : (s.modLoop n f).encs = s.encs := rfl
@[simp] theorem State.modLoop_web (s : State) (n : Nat) (f : LoopSlot → LoopSlot) : (s.modLoop n f).web = s.web := rfl
@[simp] theorem State.modLoop_hvs (s : State) (n : Nat) (f : LoopSlot → LoopSlot) : (s.modLoop n f).hvs = s.hvs := rfl
@[simp] theorem State.modLoop_fzs (s : State) (n : Nat) (f : LoopSlot → LoopSlot) : (s.modLoop n f).fzs = s.fzs := rfl
@[simp] theorem State.modLoop_ths (s : State) (n : Nat) (f : LoopSlot → LoopSlot) : (s.modLoop n f).ths = s.ths := rfl
@[simp] theorem State.modLoop_zc (s : State) (n : Nat) (f : LoopSlot → LoopSlot) : (s.modLoop n f).zc = s.zc := rfl
@[simp] theorem State.modLoop_isl (s : State) (n : Nat) (f : LoopSlot → LoopSlot) : (s.modLoop n f).isl = s.isl := rfl
@[simp] theorem State.modLoop_pwr (s : State) (n : Nat) (f : LoopSlot → LoopSlot) : (s.modLoop n f).pwr = s.pwr := rfl
@[simp] theorem State.modLoop_seq (s : State) (n : Nat) (f : LoopSlot → LoopSlot) : (s.modLoop n f).seq = s.seq := rfl
@[simp] theorem State.modLoop_boot (s : State) (n : Nat) (f : LoopSlot → LoopSlot) : (s.modLoop n f).boot = s.boot := rfl
@[simp] theorem State.modLoop_tier (s : State) (n : Nat) (f : LoopSlot → LoopSlot) : (s.modLoop n f).tier = s.tier := rfl
@[simp] theorem State.modLoop_leg (s : State) (n : Nat) (f : LoopSlot → LoopSlot) : (s.modLoop n f).leg = s.leg := rfl
@[simp] theorem State.modLoop_justSet (s : State) (n : Nat) (f : LoopSlot → LoopSlot) : (s.modLoop n f).justSet = s.justSet := rfl
@[simp] theorem State.modLoop_freeCtr (s : State) (n : Nat) (f : LoopSlot → LoopSlot) : (s.modLoop n f).freeCtr = s.freeCtr := rfl

@[simp] theorem State.modHv_pending (s : State) (n : Nat) (f : Hv → Hv) : (s.modHv n f).pending = s.pending := rfl
@[simp] theorem State.modHv_regs (s : State) (n : Nat) (f : Hv → Hv) : (s.modHv n f).regs = s.regs := rfl
@[simp] theorem State.modHv_staged (s : State) (n : Nat) (f : Hv → Hv) : (s.modHv n f).staged = s.staged := rfl
@[simp] theorem State.modHv_time (s : State) (n : Nat) (f : Hv → Hv) : (s.modHv n f).time = s.time := rfl
@[simp] theorem State.modHv_host (s : State) (n : Nat) (f : Hv → Hv) : (s.modHv n f).host = s.host := rfl
@[simp] theorem State.modHv_rings (s : State) (n : Nat) (f : Hv → Hv) : (s.modHv n f).rings = s.rings := rfl
@[simp] theorem State.modHv_bezel (s : State) (n : Nat) (f : Hv → Hv) : (s.modHv n f).bezel = s.bezel := rfl
@[simp] theorem State.modHv_alm (s : State) (n : Nat) (f : Hv → Hv) : (s.modHv n f).alm = s.alm := rfl
@[simp] theorem State.modHv_band (s : State) (n : Nat) (f : Hv → Hv) : (s.modHv n f).band = s.band := rfl
@[simp] theorem State.modHv_codec (s : State) (n : Nat) (f : Hv → Hv) : (s.modHv n f).codec = s.codec := rfl
@[simp] theorem State.modHv_tbl (s : State) (n : Nat) (f : Hv → Hv) : (s.modHv n f).tbl = s.tbl := rfl
@[simp] theorem State.modHv_flt (s : State) (n : Nat) (f : Hv → Hv) : (s.modHv n f).flt = s.flt := rfl
@[simp] theorem State.modHv_scan (s : State) (n : Nat) (f : Hv → Hv) : (s.modHv n f).scan = s.scan := rfl
@[simp] theorem State.modHv_regf (s : State) (n : Nat) (f : Hv → Hv) : (s.modHv n f).regf = s.regf := rfl
@[simp] theorem State.modHv_mks (s : State) (n : Nat) (f : Hv → Hv) : (s.modHv n f).mks = s.mks := rfl
@[simp] theorem State.modHv_beams (s : State) (n : Nat) (f : Hv → Hv) : (s.modHv n f).beams = s.beams := rfl
@[simp] theorem State.modHv_octs (s : State) (n : Nat) (f : Hv → Hv) : (s.modHv n f).octs = s.octs := rfl
@[simp] theorem State.modHv_lsafe (s : State) (n : Nat) (f : Hv → Hv) : (s.modHv n f).lsafe = s.lsafe := rfl
@[simp] theorem State.modHv_clasps (s : State) (n : Nat) (f : Hv → Hv) : (s.modHv n f).clasps = s.clasps := rfl
@[simp] theorem State.modHv_clk (s : State) (n : Nat) (f : Hv → Hv) : (s.modHv n f).clk = s.clk := rfl
@[simp] theorem State.modHv_mots (s : State) (n : Nat) (f : Hv → Hv) : (s.modHv n f).mots = s.mots := rfl
@[simp] theorem State.modHv_pins (s : State) (n : Nat) (f : Hv → Hv) : (s.modHv n f).pins = s.pins := rfl
@[simp] theorem State.modHv_xds (s : State) (n : Nat) (f : Hv → Hv) : (s.modHv n f).xds = s.xds := rfl
@[simp] theorem State.modHv_axes (s : State) (n : Nat) (f : Hv → Hv) : (s.modHv n f).axes = s.axes := rfl
@[simp] theorem State.modHv_encs (s : State) (n : Nat) (f : Hv → Hv) : (s.modHv n f).encs = s.encs := rfl
@[simp] theorem State.modHv_web (s : State) (n : Nat) (f : Hv → Hv) : (s.modHv n f).web = s.web := rfl
@[simp] theorem State.modHv_loops (s : State) (n : Nat) (f : Hv → Hv) : (s.modHv n f).loops = s.loops := rfl
@[simp] theorem State.modHv_fzs (s : State) (n : Nat) (f : Hv → Hv) : (s.modHv n f).fzs = s.fzs := rfl
@[simp] theorem State.modHv_ths (s : State) (n : Nat) (f : Hv → Hv) : (s.modHv n f).ths = s.ths := rfl
@[simp] theorem State.modHv_zc (s : State) (n : Nat) (f : Hv → Hv) : (s.modHv n f).zc = s.zc := rfl
@[simp] theorem State.modHv_isl (s : State) (n : Nat) (f : Hv → Hv) : (s.modHv n f).isl = s.isl := rfl
@[simp] theorem State.modHv_pwr (s : State) (n : Nat) (f : Hv → Hv) : (s.modHv n f).pwr = s.pwr := rfl
@[simp] theorem State.modHv_seq (s : State) (n : Nat) (f : Hv → Hv) : (s.modHv n f).seq = s.seq := rfl
@[simp] theorem State.modHv_boot (s : State) (n : Nat) (f : Hv → Hv) : (s.modHv n f).boot = s.boot := rfl
@[simp] theorem State.modHv_tier (s : State) (n : Nat) (f : Hv → Hv) : (s.modHv n f).tier = s.tier := rfl
@[simp] theorem State.modHv_leg (s : State) (n : Nat) (f : Hv → Hv) : (s.modHv n f).leg = s.leg := rfl
@[simp] theorem State.modHv_justSet (s : State) (n : Nat) (f : Hv → Hv) : (s.modHv n f).justSet = s.justSet := rfl
@[simp] theorem State.modHv_freeCtr (s : State) (n : Nat) (f : Hv → Hv) : (s.modHv n f).freeCtr = s.freeCtr := rfl

@[simp] theorem State.modFz_pending (s : State) (n : Nat) (f : Fz → Fz) : (s.modFz n f).pending = s.pending := rfl
@[simp] theorem State.modFz_regs (s : State) (n : Nat) (f : Fz → Fz) : (s.modFz n f).regs = s.regs := rfl
@[simp] theorem State.modFz_staged (s : State) (n : Nat) (f : Fz → Fz) : (s.modFz n f).staged = s.staged := rfl
@[simp] theorem State.modFz_time (s : State) (n : Nat) (f : Fz → Fz) : (s.modFz n f).time = s.time := rfl
@[simp] theorem State.modFz_host (s : State) (n : Nat) (f : Fz → Fz) : (s.modFz n f).host = s.host := rfl
@[simp] theorem State.modFz_rings (s : State) (n : Nat) (f : Fz → Fz) : (s.modFz n f).rings = s.rings := rfl
@[simp] theorem State.modFz_bezel (s : State) (n : Nat) (f : Fz → Fz) : (s.modFz n f).bezel = s.bezel := rfl
@[simp] theorem State.modFz_alm (s : State) (n : Nat) (f : Fz → Fz) : (s.modFz n f).alm = s.alm := rfl
@[simp] theorem State.modFz_band (s : State) (n : Nat) (f : Fz → Fz) : (s.modFz n f).band = s.band := rfl
@[simp] theorem State.modFz_codec (s : State) (n : Nat) (f : Fz → Fz) : (s.modFz n f).codec = s.codec := rfl
@[simp] theorem State.modFz_tbl (s : State) (n : Nat) (f : Fz → Fz) : (s.modFz n f).tbl = s.tbl := rfl
@[simp] theorem State.modFz_flt (s : State) (n : Nat) (f : Fz → Fz) : (s.modFz n f).flt = s.flt := rfl
@[simp] theorem State.modFz_scan (s : State) (n : Nat) (f : Fz → Fz) : (s.modFz n f).scan = s.scan := rfl
@[simp] theorem State.modFz_regf (s : State) (n : Nat) (f : Fz → Fz) : (s.modFz n f).regf = s.regf := rfl
@[simp] theorem State.modFz_mks (s : State) (n : Nat) (f : Fz → Fz) : (s.modFz n f).mks = s.mks := rfl
@[simp] theorem State.modFz_beams (s : State) (n : Nat) (f : Fz → Fz) : (s.modFz n f).beams = s.beams := rfl
@[simp] theorem State.modFz_octs (s : State) (n : Nat) (f : Fz → Fz) : (s.modFz n f).octs = s.octs := rfl
@[simp] theorem State.modFz_lsafe (s : State) (n : Nat) (f : Fz → Fz) : (s.modFz n f).lsafe = s.lsafe := rfl
@[simp] theorem State.modFz_clasps (s : State) (n : Nat) (f : Fz → Fz) : (s.modFz n f).clasps = s.clasps := rfl
@[simp] theorem State.modFz_clk (s : State) (n : Nat) (f : Fz → Fz) : (s.modFz n f).clk = s.clk := rfl
@[simp] theorem State.modFz_mots (s : State) (n : Nat) (f : Fz → Fz) : (s.modFz n f).mots = s.mots := rfl
@[simp] theorem State.modFz_pins (s : State) (n : Nat) (f : Fz → Fz) : (s.modFz n f).pins = s.pins := rfl
@[simp] theorem State.modFz_xds (s : State) (n : Nat) (f : Fz → Fz) : (s.modFz n f).xds = s.xds := rfl
@[simp] theorem State.modFz_axes (s : State) (n : Nat) (f : Fz → Fz) : (s.modFz n f).axes = s.axes := rfl
@[simp] theorem State.modFz_encs (s : State) (n : Nat) (f : Fz → Fz) : (s.modFz n f).encs = s.encs := rfl
@[simp] theorem State.modFz_web (s : State) (n : Nat) (f : Fz → Fz) : (s.modFz n f).web = s.web := rfl
@[simp] theorem State.modFz_loops (s : State) (n : Nat) (f : Fz → Fz) : (s.modFz n f).loops = s.loops := rfl
@[simp] theorem State.modFz_hvs (s : State) (n : Nat) (f : Fz → Fz) : (s.modFz n f).hvs = s.hvs := rfl
@[simp] theorem State.modFz_ths (s : State) (n : Nat) (f : Fz → Fz) : (s.modFz n f).ths = s.ths := rfl
@[simp] theorem State.modFz_zc (s : State) (n : Nat) (f : Fz → Fz) : (s.modFz n f).zc = s.zc := rfl
@[simp] theorem State.modFz_isl (s : State) (n : Nat) (f : Fz → Fz) : (s.modFz n f).isl = s.isl := rfl
@[simp] theorem State.modFz_pwr (s : State) (n : Nat) (f : Fz → Fz) : (s.modFz n f).pwr = s.pwr := rfl
@[simp] theorem State.modFz_seq (s : State) (n : Nat) (f : Fz → Fz) : (s.modFz n f).seq = s.seq := rfl
@[simp] theorem State.modFz_boot (s : State) (n : Nat) (f : Fz → Fz) : (s.modFz n f).boot = s.boot := rfl
@[simp] theorem State.modFz_tier (s : State) (n : Nat) (f : Fz → Fz) : (s.modFz n f).tier = s.tier := rfl
@[simp] theorem State.modFz_leg (s : State) (n : Nat) (f : Fz → Fz) : (s.modFz n f).leg = s.leg := rfl
@[simp] theorem State.modFz_justSet (s : State) (n : Nat) (f : Fz → Fz) : (s.modFz n f).justSet = s.justSet := rfl
@[simp] theorem State.modFz_freeCtr (s : State) (n : Nat) (f : Fz → Fz) : (s.modFz n f).freeCtr = s.freeCtr := rfl

@[simp] theorem State.modIsl_pending (s : State) (n : Nat) (f : Island → Island) : (s.modIsl n f).pending = s.pending := rfl
@[simp] theorem State.modIsl_regs (s : State) (n : Nat) (f : Island → Island) : (s.modIsl n f).regs = s.regs := rfl
@[simp] theorem State.modIsl_staged (s : State) (n : Nat) (f : Island → Island) : (s.modIsl n f).staged = s.staged := rfl
@[simp] theorem State.modIsl_time (s : State) (n : Nat) (f : Island → Island) : (s.modIsl n f).time = s.time := rfl
@[simp] theorem State.modIsl_host (s : State) (n : Nat) (f : Island → Island) : (s.modIsl n f).host = s.host := rfl
@[simp] theorem State.modIsl_rings (s : State) (n : Nat) (f : Island → Island) : (s.modIsl n f).rings = s.rings := rfl
@[simp] theorem State.modIsl_bezel (s : State) (n : Nat) (f : Island → Island) : (s.modIsl n f).bezel = s.bezel := rfl
@[simp] theorem State.modIsl_alm (s : State) (n : Nat) (f : Island → Island) : (s.modIsl n f).alm = s.alm := rfl
@[simp] theorem State.modIsl_band (s : State) (n : Nat) (f : Island → Island) : (s.modIsl n f).band = s.band := rfl
@[simp] theorem State.modIsl_codec (s : State) (n : Nat) (f : Island → Island) : (s.modIsl n f).codec = s.codec := rfl
@[simp] theorem State.modIsl_tbl (s : State) (n : Nat) (f : Island → Island) : (s.modIsl n f).tbl = s.tbl := rfl
@[simp] theorem State.modIsl_flt (s : State) (n : Nat) (f : Island → Island) : (s.modIsl n f).flt = s.flt := rfl
@[simp] theorem State.modIsl_scan (s : State) (n : Nat) (f : Island → Island) : (s.modIsl n f).scan = s.scan := rfl
@[simp] theorem State.modIsl_regf (s : State) (n : Nat) (f : Island → Island) : (s.modIsl n f).regf = s.regf := rfl
@[simp] theorem State.modIsl_mks (s : State) (n : Nat) (f : Island → Island) : (s.modIsl n f).mks = s.mks := rfl
@[simp] theorem State.modIsl_beams (s : State) (n : Nat) (f : Island → Island) : (s.modIsl n f).beams = s.beams := rfl
@[simp] theorem State.modIsl_octs (s : State) (n : Nat) (f : Island → Island) : (s.modIsl n f).octs = s.octs := rfl
@[simp] theorem State.modIsl_lsafe (s : State) (n : Nat) (f : Island → Island) : (s.modIsl n f).lsafe = s.lsafe := rfl
@[simp] theorem State.modIsl_clasps (s : State) (n : Nat) (f : Island → Island) : (s.modIsl n f).clasps = s.clasps := rfl
@[simp] theorem State.modIsl_clk (s : State) (n : Nat) (f : Island → Island) : (s.modIsl n f).clk = s.clk := rfl
@[simp] theorem State.modIsl_mots (s : State) (n : Nat) (f : Island → Island) : (s.modIsl n f).mots = s.mots := rfl
@[simp] theorem State.modIsl_pins (s : State) (n : Nat) (f : Island → Island) : (s.modIsl n f).pins = s.pins := rfl
@[simp] theorem State.modIsl_xds (s : State) (n : Nat) (f : Island → Island) : (s.modIsl n f).xds = s.xds := rfl
@[simp] theorem State.modIsl_axes (s : State) (n : Nat) (f : Island → Island) : (s.modIsl n f).axes = s.axes := rfl
@[simp] theorem State.modIsl_encs (s : State) (n : Nat) (f : Island → Island) : (s.modIsl n f).encs = s.encs := rfl
@[simp] theorem State.modIsl_web (s : State) (n : Nat) (f : Island → Island) : (s.modIsl n f).web = s.web := rfl
@[simp] theorem State.modIsl_loops (s : State) (n : Nat) (f : Island → Island) : (s.modIsl n f).loops = s.loops := rfl
@[simp] theorem State.modIsl_hvs (s : State) (n : Nat) (f : Island → Island) : (s.modIsl n f).hvs = s.hvs := rfl
@[simp] theorem State.modIsl_fzs (s : State) (n : Nat) (f : Island → Island) : (s.modIsl n f).fzs = s.fzs := rfl
@[simp] theorem State.modIsl_ths (s : State) (n : Nat) (f : Island → Island) : (s.modIsl n f).ths = s.ths := rfl
@[simp] theorem State.modIsl_zc (s : State) (n : Nat) (f : Island → Island) : (s.modIsl n f).zc = s.zc := rfl
@[simp] theorem State.modIsl_pwr (s : State) (n : Nat) (f : Island → Island) : (s.modIsl n f).pwr = s.pwr := rfl
@[simp] theorem State.modIsl_seq (s : State) (n : Nat) (f : Island → Island) : (s.modIsl n f).seq = s.seq := rfl
@[simp] theorem State.modIsl_boot (s : State) (n : Nat) (f : Island → Island) : (s.modIsl n f).boot = s.boot := rfl
@[simp] theorem State.modIsl_tier (s : State) (n : Nat) (f : Island → Island) : (s.modIsl n f).tier = s.tier := rfl
@[simp] theorem State.modIsl_leg (s : State) (n : Nat) (f : Island → Island) : (s.modIsl n f).leg = s.leg := rfl
@[simp] theorem State.modIsl_justSet (s : State) (n : Nat) (f : Island → Island) : (s.modIsl n f).justSet = s.justSet := rfl
@[simp] theorem State.modIsl_freeCtr (s : State) (n : Nat) (f : Island → Island) : (s.modIsl n f).freeCtr = s.freeCtr := rfl

@[simp] theorem State.modRail_pending (s : State) (n : Nat) (f : Rail → Rail) : (s.modRail n f).pending = s.pending := rfl
@[simp] theorem State.modRail_regs (s : State) (n : Nat) (f : Rail → Rail) : (s.modRail n f).regs = s.regs := rfl
@[simp] theorem State.modRail_staged (s : State) (n : Nat) (f : Rail → Rail) : (s.modRail n f).staged = s.staged := rfl
@[simp] theorem State.modRail_time (s : State) (n : Nat) (f : Rail → Rail) : (s.modRail n f).time = s.time := rfl
@[simp] theorem State.modRail_host (s : State) (n : Nat) (f : Rail → Rail) : (s.modRail n f).host = s.host := rfl
@[simp] theorem State.modRail_rings (s : State) (n : Nat) (f : Rail → Rail) : (s.modRail n f).rings = s.rings := rfl
@[simp] theorem State.modRail_bezel (s : State) (n : Nat) (f : Rail → Rail) : (s.modRail n f).bezel = s.bezel := rfl
@[simp] theorem State.modRail_alm (s : State) (n : Nat) (f : Rail → Rail) : (s.modRail n f).alm = s.alm := rfl
@[simp] theorem State.modRail_band (s : State) (n : Nat) (f : Rail → Rail) : (s.modRail n f).band = s.band := rfl
@[simp] theorem State.modRail_codec (s : State) (n : Nat) (f : Rail → Rail) : (s.modRail n f).codec = s.codec := rfl
@[simp] theorem State.modRail_tbl (s : State) (n : Nat) (f : Rail → Rail) : (s.modRail n f).tbl = s.tbl := rfl
@[simp] theorem State.modRail_flt (s : State) (n : Nat) (f : Rail → Rail) : (s.modRail n f).flt = s.flt := rfl
@[simp] theorem State.modRail_scan (s : State) (n : Nat) (f : Rail → Rail) : (s.modRail n f).scan = s.scan := rfl
@[simp] theorem State.modRail_regf (s : State) (n : Nat) (f : Rail → Rail) : (s.modRail n f).regf = s.regf := rfl
@[simp] theorem State.modRail_mks (s : State) (n : Nat) (f : Rail → Rail) : (s.modRail n f).mks = s.mks := rfl
@[simp] theorem State.modRail_beams (s : State) (n : Nat) (f : Rail → Rail) : (s.modRail n f).beams = s.beams := rfl
@[simp] theorem State.modRail_octs (s : State) (n : Nat) (f : Rail → Rail) : (s.modRail n f).octs = s.octs := rfl
@[simp] theorem State.modRail_lsafe (s : State) (n : Nat) (f : Rail → Rail) : (s.modRail n f).lsafe = s.lsafe := rfl
@[simp] theorem State.modRail_clasps (s : State) (n : Nat) (f : Rail → Rail) : (s.modRail n f).clasps = s.clasps := rfl
@[simp] theorem State.modRail_clk (s : State) (n : Nat) (f : Rail → Rail) : (s.modRail n f).clk = s.clk := rfl
@[simp] theorem State.modRail_mots (s : State) (n : Nat) (f : Rail → Rail) : (s.modRail n f).mots = s.mots := rfl
@[simp] theorem State.modRail_pins (s : State) (n : Nat) (f : Rail → Rail) : (s.modRail n f).pins = s.pins := rfl
@[simp] theorem State.modRail_xds (s : State) (n : Nat) (f : Rail → Rail) : (s.modRail n f).xds = s.xds := rfl
@[simp] theorem State.modRail_axes (s : State) (n : Nat) (f : Rail → Rail) : (s.modRail n f).axes = s.axes := rfl
@[simp] theorem State.modRail_encs (s : State) (n : Nat) (f : Rail → Rail) : (s.modRail n f).encs = s.encs := rfl
@[simp] theorem State.modRail_web (s : State) (n : Nat) (f : Rail → Rail) : (s.modRail n f).web = s.web := rfl
@[simp] theorem State.modRail_loops (s : State) (n : Nat) (f : Rail → Rail) : (s.modRail n f).loops = s.loops := rfl
@[simp] theorem State.modRail_hvs (s : State) (n : Nat) (f : Rail → Rail) : (s.modRail n f).hvs = s.hvs := rfl
@[simp] theorem State.modRail_fzs (s : State) (n : Nat) (f : Rail → Rail) : (s.modRail n f).fzs = s.fzs := rfl
@[simp] theorem State.modRail_ths (s : State) (n : Nat) (f : Rail → Rail) : (s.modRail n f).ths = s.ths := rfl
@[simp] theorem State.modRail_zc (s : State) (n : Nat) (f : Rail → Rail) : (s.modRail n f).zc = s.zc := rfl
@[simp] theorem State.modRail_isl (s : State) (n : Nat) (f : Rail → Rail) : (s.modRail n f).isl = s.isl := rfl
@[simp] theorem State.modRail_pwr (s : State) (n : Nat) (f : Rail → Rail) : (s.modRail n f).pwr = s.pwr := rfl
@[simp] theorem State.modRail_boot (s : State) (n : Nat) (f : Rail → Rail) : (s.modRail n f).boot = s.boot := rfl
@[simp] theorem State.modRail_tier (s : State) (n : Nat) (f : Rail → Rail) : (s.modRail n f).tier = s.tier := rfl
@[simp] theorem State.modRail_leg (s : State) (n : Nat) (f : Rail → Rail) : (s.modRail n f).leg = s.leg := rfl
@[simp] theorem State.modRail_justSet (s : State) (n : Nat) (f : Rail → Rail) : (s.modRail n f).justSet = s.justSet := rfl
@[simp] theorem State.modRail_freeCtr (s : State) (n : Nat) (f : Rail → Rail) : (s.modRail n f).freeCtr = s.freeCtr := rfl

@[simp] theorem State.modTbl_pending (s : State) (n : Nat) (f : TblStation → TblStation) : (s.modTbl n f).pending = s.pending := rfl
@[simp] theorem State.modTbl_regs (s : State) (n : Nat) (f : TblStation → TblStation) : (s.modTbl n f).regs = s.regs := rfl
@[simp] theorem State.modTbl_staged (s : State) (n : Nat) (f : TblStation → TblStation) : (s.modTbl n f).staged = s.staged := rfl
@[simp] theorem State.modTbl_time (s : State) (n : Nat) (f : TblStation → TblStation) : (s.modTbl n f).time = s.time := rfl
@[simp] theorem State.modTbl_host (s : State) (n : Nat) (f : TblStation → TblStation) : (s.modTbl n f).host = s.host := rfl
@[simp] theorem State.modTbl_rings (s : State) (n : Nat) (f : TblStation → TblStation) : (s.modTbl n f).rings = s.rings := rfl
@[simp] theorem State.modTbl_bezel (s : State) (n : Nat) (f : TblStation → TblStation) : (s.modTbl n f).bezel = s.bezel := rfl
@[simp] theorem State.modTbl_alm (s : State) (n : Nat) (f : TblStation → TblStation) : (s.modTbl n f).alm = s.alm := rfl
@[simp] theorem State.modTbl_band (s : State) (n : Nat) (f : TblStation → TblStation) : (s.modTbl n f).band = s.band := rfl
@[simp] theorem State.modTbl_codec (s : State) (n : Nat) (f : TblStation → TblStation) : (s.modTbl n f).codec = s.codec := rfl
@[simp] theorem State.modTbl_flt (s : State) (n : Nat) (f : TblStation → TblStation) : (s.modTbl n f).flt = s.flt := rfl
@[simp] theorem State.modTbl_scan (s : State) (n : Nat) (f : TblStation → TblStation) : (s.modTbl n f).scan = s.scan := rfl
@[simp] theorem State.modTbl_regf (s : State) (n : Nat) (f : TblStation → TblStation) : (s.modTbl n f).regf = s.regf := rfl
@[simp] theorem State.modTbl_mks (s : State) (n : Nat) (f : TblStation → TblStation) : (s.modTbl n f).mks = s.mks := rfl
@[simp] theorem State.modTbl_beams (s : State) (n : Nat) (f : TblStation → TblStation) : (s.modTbl n f).beams = s.beams := rfl
@[simp] theorem State.modTbl_octs (s : State) (n : Nat) (f : TblStation → TblStation) : (s.modTbl n f).octs = s.octs := rfl
@[simp] theorem State.modTbl_lsafe (s : State) (n : Nat) (f : TblStation → TblStation) : (s.modTbl n f).lsafe = s.lsafe := rfl
@[simp] theorem State.modTbl_clasps (s : State) (n : Nat) (f : TblStation → TblStation) : (s.modTbl n f).clasps = s.clasps := rfl
@[simp] theorem State.modTbl_clk (s : State) (n : Nat) (f : TblStation → TblStation) : (s.modTbl n f).clk = s.clk := rfl
@[simp] theorem State.modTbl_mots (s : State) (n : Nat) (f : TblStation → TblStation) : (s.modTbl n f).mots = s.mots := rfl
@[simp] theorem State.modTbl_pins (s : State) (n : Nat) (f : TblStation → TblStation) : (s.modTbl n f).pins = s.pins := rfl
@[simp] theorem State.modTbl_xds (s : State) (n : Nat) (f : TblStation → TblStation) : (s.modTbl n f).xds = s.xds := rfl
@[simp] theorem State.modTbl_axes (s : State) (n : Nat) (f : TblStation → TblStation) : (s.modTbl n f).axes = s.axes := rfl
@[simp] theorem State.modTbl_encs (s : State) (n : Nat) (f : TblStation → TblStation) : (s.modTbl n f).encs = s.encs := rfl
@[simp] theorem State.modTbl_web (s : State) (n : Nat) (f : TblStation → TblStation) : (s.modTbl n f).web = s.web := rfl
@[simp] theorem State.modTbl_loops (s : State) (n : Nat) (f : TblStation → TblStation) : (s.modTbl n f).loops = s.loops := rfl
@[simp] theorem State.modTbl_hvs (s : State) (n : Nat) (f : TblStation → TblStation) : (s.modTbl n f).hvs = s.hvs := rfl
@[simp] theorem State.modTbl_fzs (s : State) (n : Nat) (f : TblStation → TblStation) : (s.modTbl n f).fzs = s.fzs := rfl
@[simp] theorem State.modTbl_ths (s : State) (n : Nat) (f : TblStation → TblStation) : (s.modTbl n f).ths = s.ths := rfl
@[simp] theorem State.modTbl_zc (s : State) (n : Nat) (f : TblStation → TblStation) : (s.modTbl n f).zc = s.zc := rfl
@[simp] theorem State.modTbl_isl (s : State) (n : Nat) (f : TblStation → TblStation) : (s.modTbl n f).isl = s.isl := rfl
@[simp] theorem State.modTbl_pwr (s : State) (n : Nat) (f : TblStation → TblStation) : (s.modTbl n f).pwr = s.pwr := rfl
@[simp] theorem State.modTbl_seq (s : State) (n : Nat) (f : TblStation → TblStation) : (s.modTbl n f).seq = s.seq := rfl
@[simp] theorem State.modTbl_boot (s : State) (n : Nat) (f : TblStation → TblStation) : (s.modTbl n f).boot = s.boot := rfl
@[simp] theorem State.modTbl_tier (s : State) (n : Nat) (f : TblStation → TblStation) : (s.modTbl n f).tier = s.tier := rfl
@[simp] theorem State.modTbl_leg (s : State) (n : Nat) (f : TblStation → TblStation) : (s.modTbl n f).leg = s.leg := rfl
@[simp] theorem State.modTbl_justSet (s : State) (n : Nat) (f : TblStation → TblStation) : (s.modTbl n f).justSet = s.justSet := rfl
@[simp] theorem State.modTbl_freeCtr (s : State) (n : Nat) (f : TblStation → TblStation) : (s.modTbl n f).freeCtr = s.freeCtr := rfl

@[simp] theorem State.modTblTxn_pending (s : State) (n : Nat) (f : TblTxn → TblTxn) : (s.modTblTxn n f).pending = s.pending := rfl
@[simp] theorem State.modTblTxn_regs (s : State) (n : Nat) (f : TblTxn → TblTxn) : (s.modTblTxn n f).regs = s.regs := rfl
@[simp] theorem State.modTblTxn_staged (s : State) (n : Nat) (f : TblTxn → TblTxn) : (s.modTblTxn n f).staged = s.staged := rfl
@[simp] theorem State.modTblTxn_time (s : State) (n : Nat) (f : TblTxn → TblTxn) : (s.modTblTxn n f).time = s.time := rfl
@[simp] theorem State.modTblTxn_host (s : State) (n : Nat) (f : TblTxn → TblTxn) : (s.modTblTxn n f).host = s.host := rfl
@[simp] theorem State.modTblTxn_rings (s : State) (n : Nat) (f : TblTxn → TblTxn) : (s.modTblTxn n f).rings = s.rings := rfl
@[simp] theorem State.modTblTxn_bezel (s : State) (n : Nat) (f : TblTxn → TblTxn) : (s.modTblTxn n f).bezel = s.bezel := rfl
@[simp] theorem State.modTblTxn_alm (s : State) (n : Nat) (f : TblTxn → TblTxn) : (s.modTblTxn n f).alm = s.alm := rfl
@[simp] theorem State.modTblTxn_band (s : State) (n : Nat) (f : TblTxn → TblTxn) : (s.modTblTxn n f).band = s.band := rfl
@[simp] theorem State.modTblTxn_codec (s : State) (n : Nat) (f : TblTxn → TblTxn) : (s.modTblTxn n f).codec = s.codec := rfl
@[simp] theorem State.modTblTxn_flt (s : State) (n : Nat) (f : TblTxn → TblTxn) : (s.modTblTxn n f).flt = s.flt := rfl
@[simp] theorem State.modTblTxn_scan (s : State) (n : Nat) (f : TblTxn → TblTxn) : (s.modTblTxn n f).scan = s.scan := rfl
@[simp] theorem State.modTblTxn_regf (s : State) (n : Nat) (f : TblTxn → TblTxn) : (s.modTblTxn n f).regf = s.regf := rfl
@[simp] theorem State.modTblTxn_mks (s : State) (n : Nat) (f : TblTxn → TblTxn) : (s.modTblTxn n f).mks = s.mks := rfl
@[simp] theorem State.modTblTxn_beams (s : State) (n : Nat) (f : TblTxn → TblTxn) : (s.modTblTxn n f).beams = s.beams := rfl
@[simp] theorem State.modTblTxn_octs (s : State) (n : Nat) (f : TblTxn → TblTxn) : (s.modTblTxn n f).octs = s.octs := rfl
@[simp] theorem State.modTblTxn_lsafe (s : State) (n : Nat) (f : TblTxn → TblTxn) : (s.modTblTxn n f).lsafe = s.lsafe := rfl
@[simp] theorem State.modTblTxn_clasps (s : State) (n : Nat) (f : TblTxn → TblTxn) : (s.modTblTxn n f).clasps = s.clasps := rfl
@[simp] theorem State.modTblTxn_clk (s : State) (n : Nat) (f : TblTxn → TblTxn) : (s.modTblTxn n f).clk = s.clk := rfl
@[simp] theorem State.modTblTxn_mots (s : State) (n : Nat) (f : TblTxn → TblTxn) : (s.modTblTxn n f).mots = s.mots := rfl
@[simp] theorem State.modTblTxn_pins (s : State) (n : Nat) (f : TblTxn → TblTxn) : (s.modTblTxn n f).pins = s.pins := rfl
@[simp] theorem State.modTblTxn_xds (s : State) (n : Nat) (f : TblTxn → TblTxn) : (s.modTblTxn n f).xds = s.xds := rfl
@[simp] theorem State.modTblTxn_axes (s : State) (n : Nat) (f : TblTxn → TblTxn) : (s.modTblTxn n f).axes = s.axes := rfl
@[simp] theorem State.modTblTxn_encs (s : State) (n : Nat) (f : TblTxn → TblTxn) : (s.modTblTxn n f).encs = s.encs := rfl
@[simp] theorem State.modTblTxn_web (s : State) (n : Nat) (f : TblTxn → TblTxn) : (s.modTblTxn n f).web = s.web := rfl
@[simp] theorem State.modTblTxn_loops (s : State) (n : Nat) (f : TblTxn → TblTxn) : (s.modTblTxn n f).loops = s.loops := rfl
@[simp] theorem State.modTblTxn_hvs (s : State) (n : Nat) (f : TblTxn → TblTxn) : (s.modTblTxn n f).hvs = s.hvs := rfl
@[simp] theorem State.modTblTxn_fzs (s : State) (n : Nat) (f : TblTxn → TblTxn) : (s.modTblTxn n f).fzs = s.fzs := rfl
@[simp] theorem State.modTblTxn_ths (s : State) (n : Nat) (f : TblTxn → TblTxn) : (s.modTblTxn n f).ths = s.ths := rfl
@[simp] theorem State.modTblTxn_zc (s : State) (n : Nat) (f : TblTxn → TblTxn) : (s.modTblTxn n f).zc = s.zc := rfl
@[simp] theorem State.modTblTxn_isl (s : State) (n : Nat) (f : TblTxn → TblTxn) : (s.modTblTxn n f).isl = s.isl := rfl
@[simp] theorem State.modTblTxn_pwr (s : State) (n : Nat) (f : TblTxn → TblTxn) : (s.modTblTxn n f).pwr = s.pwr := rfl
@[simp] theorem State.modTblTxn_seq (s : State) (n : Nat) (f : TblTxn → TblTxn) : (s.modTblTxn n f).seq = s.seq := rfl
@[simp] theorem State.modTblTxn_boot (s : State) (n : Nat) (f : TblTxn → TblTxn) : (s.modTblTxn n f).boot = s.boot := rfl
@[simp] theorem State.modTblTxn_tier (s : State) (n : Nat) (f : TblTxn → TblTxn) : (s.modTblTxn n f).tier = s.tier := rfl
@[simp] theorem State.modTblTxn_leg (s : State) (n : Nat) (f : TblTxn → TblTxn) : (s.modTblTxn n f).leg = s.leg := rfl
@[simp] theorem State.modTblTxn_justSet (s : State) (n : Nat) (f : TblTxn → TblTxn) : (s.modTblTxn n f).justSet = s.justSet := rfl
@[simp] theorem State.modTblTxn_freeCtr (s : State) (n : Nat) (f : TblTxn → TblTxn) : (s.modTblTxn n f).freeCtr = s.freeCtr := rfl

@[simp] theorem State.modJob_pending (s : State) (n : Nat) (f : Job → Job) : (s.modJob n f).pending = s.pending := rfl
@[simp] theorem State.modJob_regs (s : State) (n : Nat) (f : Job → Job) : (s.modJob n f).regs = s.regs := rfl
@[simp] theorem State.modJob_staged (s : State) (n : Nat) (f : Job → Job) : (s.modJob n f).staged = s.staged := rfl
@[simp] theorem State.modJob_time (s : State) (n : Nat) (f : Job → Job) : (s.modJob n f).time = s.time := rfl
@[simp] theorem State.modJob_host (s : State) (n : Nat) (f : Job → Job) : (s.modJob n f).host = s.host := rfl
@[simp] theorem State.modJob_rings (s : State) (n : Nat) (f : Job → Job) : (s.modJob n f).rings = s.rings := rfl
@[simp] theorem State.modJob_bezel (s : State) (n : Nat) (f : Job → Job) : (s.modJob n f).bezel = s.bezel := rfl
@[simp] theorem State.modJob_alm (s : State) (n : Nat) (f : Job → Job) : (s.modJob n f).alm = s.alm := rfl
@[simp] theorem State.modJob_band (s : State) (n : Nat) (f : Job → Job) : (s.modJob n f).band = s.band := rfl
@[simp] theorem State.modJob_tbl (s : State) (n : Nat) (f : Job → Job) : (s.modJob n f).tbl = s.tbl := rfl
@[simp] theorem State.modJob_flt (s : State) (n : Nat) (f : Job → Job) : (s.modJob n f).flt = s.flt := rfl
@[simp] theorem State.modJob_scan (s : State) (n : Nat) (f : Job → Job) : (s.modJob n f).scan = s.scan := rfl
@[simp] theorem State.modJob_regf (s : State) (n : Nat) (f : Job → Job) : (s.modJob n f).regf = s.regf := rfl
@[simp] theorem State.modJob_mks (s : State) (n : Nat) (f : Job → Job) : (s.modJob n f).mks = s.mks := rfl
@[simp] theorem State.modJob_beams (s : State) (n : Nat) (f : Job → Job) : (s.modJob n f).beams = s.beams := rfl
@[simp] theorem State.modJob_octs (s : State) (n : Nat) (f : Job → Job) : (s.modJob n f).octs = s.octs := rfl
@[simp] theorem State.modJob_lsafe (s : State) (n : Nat) (f : Job → Job) : (s.modJob n f).lsafe = s.lsafe := rfl
@[simp] theorem State.modJob_clasps (s : State) (n : Nat) (f : Job → Job) : (s.modJob n f).clasps = s.clasps := rfl
@[simp] theorem State.modJob_clk (s : State) (n : Nat) (f : Job → Job) : (s.modJob n f).clk = s.clk := rfl
@[simp] theorem State.modJob_mots (s : State) (n : Nat) (f : Job → Job) : (s.modJob n f).mots = s.mots := rfl
@[simp] theorem State.modJob_pins (s : State) (n : Nat) (f : Job → Job) : (s.modJob n f).pins = s.pins := rfl
@[simp] theorem State.modJob_xds (s : State) (n : Nat) (f : Job → Job) : (s.modJob n f).xds = s.xds := rfl
@[simp] theorem State.modJob_axes (s : State) (n : Nat) (f : Job → Job) : (s.modJob n f).axes = s.axes := rfl
@[simp] theorem State.modJob_encs (s : State) (n : Nat) (f : Job → Job) : (s.modJob n f).encs = s.encs := rfl
@[simp] theorem State.modJob_web (s : State) (n : Nat) (f : Job → Job) : (s.modJob n f).web = s.web := rfl
@[simp] theorem State.modJob_loops (s : State) (n : Nat) (f : Job → Job) : (s.modJob n f).loops = s.loops := rfl
@[simp] theorem State.modJob_hvs (s : State) (n : Nat) (f : Job → Job) : (s.modJob n f).hvs = s.hvs := rfl
@[simp] theorem State.modJob_fzs (s : State) (n : Nat) (f : Job → Job) : (s.modJob n f).fzs = s.fzs := rfl
@[simp] theorem State.modJob_ths (s : State) (n : Nat) (f : Job → Job) : (s.modJob n f).ths = s.ths := rfl
@[simp] theorem State.modJob_zc (s : State) (n : Nat) (f : Job → Job) : (s.modJob n f).zc = s.zc := rfl
@[simp] theorem State.modJob_isl (s : State) (n : Nat) (f : Job → Job) : (s.modJob n f).isl = s.isl := rfl
@[simp] theorem State.modJob_pwr (s : State) (n : Nat) (f : Job → Job) : (s.modJob n f).pwr = s.pwr := rfl
@[simp] theorem State.modJob_seq (s : State) (n : Nat) (f : Job → Job) : (s.modJob n f).seq = s.seq := rfl
@[simp] theorem State.modJob_boot (s : State) (n : Nat) (f : Job → Job) : (s.modJob n f).boot = s.boot := rfl
@[simp] theorem State.modJob_tier (s : State) (n : Nat) (f : Job → Job) : (s.modJob n f).tier = s.tier := rfl
@[simp] theorem State.modJob_leg (s : State) (n : Nat) (f : Job → Job) : (s.modJob n f).leg = s.leg := rfl
@[simp] theorem State.modJob_justSet (s : State) (n : Nat) (f : Job → Job) : (s.modJob n f).justSet = s.justSet := rfl
@[simp] theorem State.modJob_freeCtr (s : State) (n : Nat) (f : Job → Job) : (s.modJob n f).freeCtr = s.freeCtr := rfl

@[simp] theorem State.modCapture_pending (s : State) (p : Capture → Bool) (f : Capture → Capture) : (s.modCapture p f).pending = s.pending := rfl
@[simp] theorem State.modCapture_regs (s : State) (p : Capture → Bool) (f : Capture → Capture) : (s.modCapture p f).regs = s.regs := rfl
@[simp] theorem State.modCapture_staged (s : State) (p : Capture → Bool) (f : Capture → Capture) : (s.modCapture p f).staged = s.staged := rfl
@[simp] theorem State.modCapture_time (s : State) (p : Capture → Bool) (f : Capture → Capture) : (s.modCapture p f).time = s.time := rfl
@[simp] theorem State.modCapture_host (s : State) (p : Capture → Bool) (f : Capture → Capture) : (s.modCapture p f).host = s.host := rfl
@[simp] theorem State.modCapture_rings (s : State) (p : Capture → Bool) (f : Capture → Capture) : (s.modCapture p f).rings = s.rings := rfl
@[simp] theorem State.modCapture_bezel (s : State) (p : Capture → Bool) (f : Capture → Capture) : (s.modCapture p f).bezel = s.bezel := rfl
@[simp] theorem State.modCapture_alm (s : State) (p : Capture → Bool) (f : Capture → Capture) : (s.modCapture p f).alm = s.alm := rfl
@[simp] theorem State.modCapture_band (s : State) (p : Capture → Bool) (f : Capture → Capture) : (s.modCapture p f).band = s.band := rfl
@[simp] theorem State.modCapture_tbl (s : State) (p : Capture → Bool) (f : Capture → Capture) : (s.modCapture p f).tbl = s.tbl := rfl
@[simp] theorem State.modCapture_flt (s : State) (p : Capture → Bool) (f : Capture → Capture) : (s.modCapture p f).flt = s.flt := rfl
@[simp] theorem State.modCapture_scan (s : State) (p : Capture → Bool) (f : Capture → Capture) : (s.modCapture p f).scan = s.scan := rfl
@[simp] theorem State.modCapture_regf (s : State) (p : Capture → Bool) (f : Capture → Capture) : (s.modCapture p f).regf = s.regf := rfl
@[simp] theorem State.modCapture_mks (s : State) (p : Capture → Bool) (f : Capture → Capture) : (s.modCapture p f).mks = s.mks := rfl
@[simp] theorem State.modCapture_beams (s : State) (p : Capture → Bool) (f : Capture → Capture) : (s.modCapture p f).beams = s.beams := rfl
@[simp] theorem State.modCapture_octs (s : State) (p : Capture → Bool) (f : Capture → Capture) : (s.modCapture p f).octs = s.octs := rfl
@[simp] theorem State.modCapture_lsafe (s : State) (p : Capture → Bool) (f : Capture → Capture) : (s.modCapture p f).lsafe = s.lsafe := rfl
@[simp] theorem State.modCapture_clasps (s : State) (p : Capture → Bool) (f : Capture → Capture) : (s.modCapture p f).clasps = s.clasps := rfl
@[simp] theorem State.modCapture_clk (s : State) (p : Capture → Bool) (f : Capture → Capture) : (s.modCapture p f).clk = s.clk := rfl
@[simp] theorem State.modCapture_mots (s : State) (p : Capture → Bool) (f : Capture → Capture) : (s.modCapture p f).mots = s.mots := rfl
@[simp] theorem State.modCapture_pins (s : State) (p : Capture → Bool) (f : Capture → Capture) : (s.modCapture p f).pins = s.pins := rfl
@[simp] theorem State.modCapture_xds (s : State) (p : Capture → Bool) (f : Capture → Capture) : (s.modCapture p f).xds = s.xds := rfl
@[simp] theorem State.modCapture_axes (s : State) (p : Capture → Bool) (f : Capture → Capture) : (s.modCapture p f).axes = s.axes := rfl
@[simp] theorem State.modCapture_encs (s : State) (p : Capture → Bool) (f : Capture → Capture) : (s.modCapture p f).encs = s.encs := rfl
@[simp] theorem State.modCapture_web (s : State) (p : Capture → Bool) (f : Capture → Capture) : (s.modCapture p f).web = s.web := rfl
@[simp] theorem State.modCapture_loops (s : State) (p : Capture → Bool) (f : Capture → Capture) : (s.modCapture p f).loops = s.loops := rfl
@[simp] theorem State.modCapture_hvs (s : State) (p : Capture → Bool) (f : Capture → Capture) : (s.modCapture p f).hvs = s.hvs := rfl
@[simp] theorem State.modCapture_fzs (s : State) (p : Capture → Bool) (f : Capture → Capture) : (s.modCapture p f).fzs = s.fzs := rfl
@[simp] theorem State.modCapture_ths (s : State) (p : Capture → Bool) (f : Capture → Capture) : (s.modCapture p f).ths = s.ths := rfl
@[simp] theorem State.modCapture_zc (s : State) (p : Capture → Bool) (f : Capture → Capture) : (s.modCapture p f).zc = s.zc := rfl
@[simp] theorem State.modCapture_isl (s : State) (p : Capture → Bool) (f : Capture → Capture) : (s.modCapture p f).isl = s.isl := rfl
@[simp] theorem State.modCapture_pwr (s : State) (p : Capture → Bool) (f : Capture → Capture) : (s.modCapture p f).pwr = s.pwr := rfl
@[simp] theorem State.modCapture_seq (s : State) (p : Capture → Bool) (f : Capture → Capture) : (s.modCapture p f).seq = s.seq := rfl
@[simp] theorem State.modCapture_boot (s : State) (p : Capture → Bool) (f : Capture → Capture) : (s.modCapture p f).boot = s.boot := rfl
@[simp] theorem State.modCapture_tier (s : State) (p : Capture → Bool) (f : Capture → Capture) : (s.modCapture p f).tier = s.tier := rfl
@[simp] theorem State.modCapture_leg (s : State) (p : Capture → Bool) (f : Capture → Capture) : (s.modCapture p f).leg = s.leg := rfl
@[simp] theorem State.modCapture_justSet (s : State) (p : Capture → Bool) (f : Capture → Capture) : (s.modCapture p f).justSet = s.justSet := rfl
@[simp] theorem State.modCapture_freeCtr (s : State) (p : Capture → Bool) (f : Capture → Capture) : (s.modCapture p f).freeCtr = s.freeCtr := rfl

@[simp] theorem State.modLeg_pending (s : State) (n : Nat) (f : LegStation → LegStation) : (s.modLeg n f).pending = s.pending := rfl
@[simp] theorem State.modLeg_regs (s : State) (n : Nat) (f : LegStation → LegStation) : (s.modLeg n f).regs = s.regs := rfl
@[simp] theorem State.modLeg_staged (s : State) (n : Nat) (f : LegStation → LegStation) : (s.modLeg n f).staged = s.staged := rfl
@[simp] theorem State.modLeg_time (s : State) (n : Nat) (f : LegStation → LegStation) : (s.modLeg n f).time = s.time := rfl
@[simp] theorem State.modLeg_host (s : State) (n : Nat) (f : LegStation → LegStation) : (s.modLeg n f).host = s.host := rfl
@[simp] theorem State.modLeg_rings (s : State) (n : Nat) (f : LegStation → LegStation) : (s.modLeg n f).rings = s.rings := rfl
@[simp] theorem State.modLeg_bezel (s : State) (n : Nat) (f : LegStation → LegStation) : (s.modLeg n f).bezel = s.bezel := rfl
@[simp] theorem State.modLeg_alm (s : State) (n : Nat) (f : LegStation → LegStation) : (s.modLeg n f).alm = s.alm := rfl
@[simp] theorem State.modLeg_band (s : State) (n : Nat) (f : LegStation → LegStation) : (s.modLeg n f).band = s.band := rfl
@[simp] theorem State.modLeg_codec (s : State) (n : Nat) (f : LegStation → LegStation) : (s.modLeg n f).codec = s.codec := rfl
@[simp] theorem State.modLeg_tbl (s : State) (n : Nat) (f : LegStation → LegStation) : (s.modLeg n f).tbl = s.tbl := rfl
@[simp] theorem State.modLeg_flt (s : State) (n : Nat) (f : LegStation → LegStation) : (s.modLeg n f).flt = s.flt := rfl
@[simp] theorem State.modLeg_scan (s : State) (n : Nat) (f : LegStation → LegStation) : (s.modLeg n f).scan = s.scan := rfl
@[simp] theorem State.modLeg_regf (s : State) (n : Nat) (f : LegStation → LegStation) : (s.modLeg n f).regf = s.regf := rfl
@[simp] theorem State.modLeg_mks (s : State) (n : Nat) (f : LegStation → LegStation) : (s.modLeg n f).mks = s.mks := rfl
@[simp] theorem State.modLeg_beams (s : State) (n : Nat) (f : LegStation → LegStation) : (s.modLeg n f).beams = s.beams := rfl
@[simp] theorem State.modLeg_octs (s : State) (n : Nat) (f : LegStation → LegStation) : (s.modLeg n f).octs = s.octs := rfl
@[simp] theorem State.modLeg_lsafe (s : State) (n : Nat) (f : LegStation → LegStation) : (s.modLeg n f).lsafe = s.lsafe := rfl
@[simp] theorem State.modLeg_clasps (s : State) (n : Nat) (f : LegStation → LegStation) : (s.modLeg n f).clasps = s.clasps := rfl
@[simp] theorem State.modLeg_clk (s : State) (n : Nat) (f : LegStation → LegStation) : (s.modLeg n f).clk = s.clk := rfl
@[simp] theorem State.modLeg_mots (s : State) (n : Nat) (f : LegStation → LegStation) : (s.modLeg n f).mots = s.mots := rfl
@[simp] theorem State.modLeg_pins (s : State) (n : Nat) (f : LegStation → LegStation) : (s.modLeg n f).pins = s.pins := rfl
@[simp] theorem State.modLeg_xds (s : State) (n : Nat) (f : LegStation → LegStation) : (s.modLeg n f).xds = s.xds := rfl
@[simp] theorem State.modLeg_axes (s : State) (n : Nat) (f : LegStation → LegStation) : (s.modLeg n f).axes = s.axes := rfl
@[simp] theorem State.modLeg_encs (s : State) (n : Nat) (f : LegStation → LegStation) : (s.modLeg n f).encs = s.encs := rfl
@[simp] theorem State.modLeg_web (s : State) (n : Nat) (f : LegStation → LegStation) : (s.modLeg n f).web = s.web := rfl
@[simp] theorem State.modLeg_loops (s : State) (n : Nat) (f : LegStation → LegStation) : (s.modLeg n f).loops = s.loops := rfl
@[simp] theorem State.modLeg_hvs (s : State) (n : Nat) (f : LegStation → LegStation) : (s.modLeg n f).hvs = s.hvs := rfl
@[simp] theorem State.modLeg_fzs (s : State) (n : Nat) (f : LegStation → LegStation) : (s.modLeg n f).fzs = s.fzs := rfl
@[simp] theorem State.modLeg_ths (s : State) (n : Nat) (f : LegStation → LegStation) : (s.modLeg n f).ths = s.ths := rfl
@[simp] theorem State.modLeg_zc (s : State) (n : Nat) (f : LegStation → LegStation) : (s.modLeg n f).zc = s.zc := rfl
@[simp] theorem State.modLeg_isl (s : State) (n : Nat) (f : LegStation → LegStation) : (s.modLeg n f).isl = s.isl := rfl
@[simp] theorem State.modLeg_pwr (s : State) (n : Nat) (f : LegStation → LegStation) : (s.modLeg n f).pwr = s.pwr := rfl
@[simp] theorem State.modLeg_seq (s : State) (n : Nat) (f : LegStation → LegStation) : (s.modLeg n f).seq = s.seq := rfl
@[simp] theorem State.modLeg_boot (s : State) (n : Nat) (f : LegStation → LegStation) : (s.modLeg n f).boot = s.boot := rfl
@[simp] theorem State.modLeg_tier (s : State) (n : Nat) (f : LegStation → LegStation) : (s.modLeg n f).tier = s.tier := rfl
@[simp] theorem State.modLeg_justSet (s : State) (n : Nat) (f : LegStation → LegStation) : (s.modLeg n f).justSet = s.justSet := rfl
@[simp] theorem State.modLeg_freeCtr (s : State) (n : Nat) (f : LegStation → LegStation) : (s.modLeg n f).freeCtr = s.freeCtr := rfl

@[simp] theorem State.modLvt_pending (s : State) (n : Nat) (f : LvtStation → LvtStation) : (s.modLvt n f).pending = s.pending := rfl
@[simp] theorem State.modLvt_regs (s : State) (n : Nat) (f : LvtStation → LvtStation) : (s.modLvt n f).regs = s.regs := rfl
@[simp] theorem State.modLvt_staged (s : State) (n : Nat) (f : LvtStation → LvtStation) : (s.modLvt n f).staged = s.staged := rfl
@[simp] theorem State.modLvt_time (s : State) (n : Nat) (f : LvtStation → LvtStation) : (s.modLvt n f).time = s.time := rfl
@[simp] theorem State.modLvt_host (s : State) (n : Nat) (f : LvtStation → LvtStation) : (s.modLvt n f).host = s.host := rfl
@[simp] theorem State.modLvt_rings (s : State) (n : Nat) (f : LvtStation → LvtStation) : (s.modLvt n f).rings = s.rings := rfl
@[simp] theorem State.modLvt_bezel (s : State) (n : Nat) (f : LvtStation → LvtStation) : (s.modLvt n f).bezel = s.bezel := rfl
@[simp] theorem State.modLvt_alm (s : State) (n : Nat) (f : LvtStation → LvtStation) : (s.modLvt n f).alm = s.alm := rfl
@[simp] theorem State.modLvt_band (s : State) (n : Nat) (f : LvtStation → LvtStation) : (s.modLvt n f).band = s.band := rfl
@[simp] theorem State.modLvt_codec (s : State) (n : Nat) (f : LvtStation → LvtStation) : (s.modLvt n f).codec = s.codec := rfl
@[simp] theorem State.modLvt_tbl (s : State) (n : Nat) (f : LvtStation → LvtStation) : (s.modLvt n f).tbl = s.tbl := rfl
@[simp] theorem State.modLvt_flt (s : State) (n : Nat) (f : LvtStation → LvtStation) : (s.modLvt n f).flt = s.flt := rfl
@[simp] theorem State.modLvt_scan (s : State) (n : Nat) (f : LvtStation → LvtStation) : (s.modLvt n f).scan = s.scan := rfl
@[simp] theorem State.modLvt_regf (s : State) (n : Nat) (f : LvtStation → LvtStation) : (s.modLvt n f).regf = s.regf := rfl
@[simp] theorem State.modLvt_mks (s : State) (n : Nat) (f : LvtStation → LvtStation) : (s.modLvt n f).mks = s.mks := rfl
@[simp] theorem State.modLvt_beams (s : State) (n : Nat) (f : LvtStation → LvtStation) : (s.modLvt n f).beams = s.beams := rfl
@[simp] theorem State.modLvt_octs (s : State) (n : Nat) (f : LvtStation → LvtStation) : (s.modLvt n f).octs = s.octs := rfl
@[simp] theorem State.modLvt_lsafe (s : State) (n : Nat) (f : LvtStation → LvtStation) : (s.modLvt n f).lsafe = s.lsafe := rfl
@[simp] theorem State.modLvt_clasps (s : State) (n : Nat) (f : LvtStation → LvtStation) : (s.modLvt n f).clasps = s.clasps := rfl
@[simp] theorem State.modLvt_clk (s : State) (n : Nat) (f : LvtStation → LvtStation) : (s.modLvt n f).clk = s.clk := rfl
@[simp] theorem State.modLvt_mots (s : State) (n : Nat) (f : LvtStation → LvtStation) : (s.modLvt n f).mots = s.mots := rfl
@[simp] theorem State.modLvt_pins (s : State) (n : Nat) (f : LvtStation → LvtStation) : (s.modLvt n f).pins = s.pins := rfl
@[simp] theorem State.modLvt_xds (s : State) (n : Nat) (f : LvtStation → LvtStation) : (s.modLvt n f).xds = s.xds := rfl
@[simp] theorem State.modLvt_axes (s : State) (n : Nat) (f : LvtStation → LvtStation) : (s.modLvt n f).axes = s.axes := rfl
@[simp] theorem State.modLvt_encs (s : State) (n : Nat) (f : LvtStation → LvtStation) : (s.modLvt n f).encs = s.encs := rfl
@[simp] theorem State.modLvt_web (s : State) (n : Nat) (f : LvtStation → LvtStation) : (s.modLvt n f).web = s.web := rfl
@[simp] theorem State.modLvt_loops (s : State) (n : Nat) (f : LvtStation → LvtStation) : (s.modLvt n f).loops = s.loops := rfl
@[simp] theorem State.modLvt_hvs (s : State) (n : Nat) (f : LvtStation → LvtStation) : (s.modLvt n f).hvs = s.hvs := rfl
@[simp] theorem State.modLvt_fzs (s : State) (n : Nat) (f : LvtStation → LvtStation) : (s.modLvt n f).fzs = s.fzs := rfl
@[simp] theorem State.modLvt_ths (s : State) (n : Nat) (f : LvtStation → LvtStation) : (s.modLvt n f).ths = s.ths := rfl
@[simp] theorem State.modLvt_zc (s : State) (n : Nat) (f : LvtStation → LvtStation) : (s.modLvt n f).zc = s.zc := rfl
@[simp] theorem State.modLvt_isl (s : State) (n : Nat) (f : LvtStation → LvtStation) : (s.modLvt n f).isl = s.isl := rfl
@[simp] theorem State.modLvt_pwr (s : State) (n : Nat) (f : LvtStation → LvtStation) : (s.modLvt n f).pwr = s.pwr := rfl
@[simp] theorem State.modLvt_seq (s : State) (n : Nat) (f : LvtStation → LvtStation) : (s.modLvt n f).seq = s.seq := rfl
@[simp] theorem State.modLvt_boot (s : State) (n : Nat) (f : LvtStation → LvtStation) : (s.modLvt n f).boot = s.boot := rfl
@[simp] theorem State.modLvt_tier (s : State) (n : Nat) (f : LvtStation → LvtStation) : (s.modLvt n f).tier = s.tier := rfl
@[simp] theorem State.modLvt_justSet (s : State) (n : Nat) (f : LvtStation → LvtStation) : (s.modLvt n f).justSet = s.justSet := rfl
@[simp] theorem State.modLvt_freeCtr (s : State) (n : Nat) (f : LvtStation → LvtStation) : (s.modLvt n f).freeCtr = s.freeCtr := rfl

@[simp] theorem State.modInFlight_pending (s : State) (f : Slot → Slot) : (s.modInFlight f).pending = s.pending := rfl
@[simp] theorem State.modInFlight_regs (s : State) (f : Slot → Slot) : (s.modInFlight f).regs = s.regs := rfl
@[simp] theorem State.modInFlight_staged (s : State) (f : Slot → Slot) : (s.modInFlight f).staged = s.staged := rfl
@[simp] theorem State.modInFlight_time (s : State) (f : Slot → Slot) : (s.modInFlight f).time = s.time := rfl
@[simp] theorem State.modInFlight_host (s : State) (f : Slot → Slot) : (s.modInFlight f).host = s.host := rfl
@[simp] theorem State.modInFlight_rings (s : State) (f : Slot → Slot) : (s.modInFlight f).rings = s.rings := rfl
@[simp] theorem State.modInFlight_bezel (s : State) (f : Slot → Slot) : (s.modInFlight f).bezel = s.bezel := rfl
@[simp] theorem State.modInFlight_band (s : State) (f : Slot → Slot) : (s.modInFlight f).band = s.band := rfl
@[simp] theorem State.modInFlight_codec (s : State) (f : Slot → Slot) : (s.modInFlight f).codec = s.codec := rfl
@[simp] theorem State.modInFlight_tbl (s : State) (f : Slot → Slot) : (s.modInFlight f).tbl = s.tbl := rfl
@[simp] theorem State.modInFlight_flt (s : State) (f : Slot → Slot) : (s.modInFlight f).flt = s.flt := rfl
@[simp] theorem State.modInFlight_scan (s : State) (f : Slot → Slot) : (s.modInFlight f).scan = s.scan := rfl
@[simp] theorem State.modInFlight_regf (s : State) (f : Slot → Slot) : (s.modInFlight f).regf = s.regf := rfl
@[simp] theorem State.modInFlight_mks (s : State) (f : Slot → Slot) : (s.modInFlight f).mks = s.mks := rfl
@[simp] theorem State.modInFlight_beams (s : State) (f : Slot → Slot) : (s.modInFlight f).beams = s.beams := rfl
@[simp] theorem State.modInFlight_octs (s : State) (f : Slot → Slot) : (s.modInFlight f).octs = s.octs := rfl
@[simp] theorem State.modInFlight_lsafe (s : State) (f : Slot → Slot) : (s.modInFlight f).lsafe = s.lsafe := rfl
@[simp] theorem State.modInFlight_clasps (s : State) (f : Slot → Slot) : (s.modInFlight f).clasps = s.clasps := rfl
@[simp] theorem State.modInFlight_clk (s : State) (f : Slot → Slot) : (s.modInFlight f).clk = s.clk := rfl
@[simp] theorem State.modInFlight_mots (s : State) (f : Slot → Slot) : (s.modInFlight f).mots = s.mots := rfl
@[simp] theorem State.modInFlight_pins (s : State) (f : Slot → Slot) : (s.modInFlight f).pins = s.pins := rfl
@[simp] theorem State.modInFlight_xds (s : State) (f : Slot → Slot) : (s.modInFlight f).xds = s.xds := rfl
@[simp] theorem State.modInFlight_axes (s : State) (f : Slot → Slot) : (s.modInFlight f).axes = s.axes := rfl
@[simp] theorem State.modInFlight_encs (s : State) (f : Slot → Slot) : (s.modInFlight f).encs = s.encs := rfl
@[simp] theorem State.modInFlight_web (s : State) (f : Slot → Slot) : (s.modInFlight f).web = s.web := rfl
@[simp] theorem State.modInFlight_loops (s : State) (f : Slot → Slot) : (s.modInFlight f).loops = s.loops := rfl
@[simp] theorem State.modInFlight_hvs (s : State) (f : Slot → Slot) : (s.modInFlight f).hvs = s.hvs := rfl
@[simp] theorem State.modInFlight_fzs (s : State) (f : Slot → Slot) : (s.modInFlight f).fzs = s.fzs := rfl
@[simp] theorem State.modInFlight_ths (s : State) (f : Slot → Slot) : (s.modInFlight f).ths = s.ths := rfl
@[simp] theorem State.modInFlight_zc (s : State) (f : Slot → Slot) : (s.modInFlight f).zc = s.zc := rfl
@[simp] theorem State.modInFlight_isl (s : State) (f : Slot → Slot) : (s.modInFlight f).isl = s.isl := rfl
@[simp] theorem State.modInFlight_pwr (s : State) (f : Slot → Slot) : (s.modInFlight f).pwr = s.pwr := rfl
@[simp] theorem State.modInFlight_seq (s : State) (f : Slot → Slot) : (s.modInFlight f).seq = s.seq := rfl
@[simp] theorem State.modInFlight_boot (s : State) (f : Slot → Slot) : (s.modInFlight f).boot = s.boot := rfl
@[simp] theorem State.modInFlight_tier (s : State) (f : Slot → Slot) : (s.modInFlight f).tier = s.tier := rfl
@[simp] theorem State.modInFlight_leg (s : State) (f : Slot → Slot) : (s.modInFlight f).leg = s.leg := rfl
@[simp] theorem State.modInFlight_justSet (s : State) (f : Slot → Slot) : (s.modInFlight f).justSet = s.justSet := rfl
@[simp] theorem State.modInFlight_freeCtr (s : State) (f : Slot → Slot) : (s.modInFlight f).freeCtr = s.freeCtr := rfl

end Sys2Proof.Machine
end

