-- ==== Sys2Proof/Laws/Ops.lean ====
section
/-! SUPPORT. One lemma per shared operation: what register fields read after it, and what an event leaves alone. -/

namespace Sys2Proof.Machine

open Sys2Proof

/-! ### Register fields -/

/-- A field written reads the low bits of the value. -/
theorem State.rd_wr_same (s : State) (f : Fld) (v : Nat) (h : f.w ≤ 32) : (s.wr f v).rd f = v % 2 ^ f.w := by
  have h2 : 2 ^ f.w ≤ 2 ^ 32 := Nat.pow_le_pow_right (by omega) h
  have h1 : v % 2 ^ f.w < 2 ^ f.w := Nat.mod_lt _ (Nat.pos_of_ne_zero (by simp))
  simp only [State.rd, State.wr, amGet_amSet_same, BitVec.toNat_ofNat]
  exact Nat.mod_eq_of_lt (by omega)

/-- A write leaves every field of another place alone. -/
theorem State.rd_wr_ne (s : State) (f g : Fld) (v : Nat) (h : f.key ≠ g.key) : (s.wr f v).rd g = s.rd g := by
  simp only [State.rd, State.wr, amGet_amSet_ne _ _ _ _ _ _ h]

theorem State.rd_wrS_ne (s : State) (f g : Fld) (v : Int) (h : f.key ≠ g.key) : (s.wrS f v).rd g = s.rd g :=
  State.rd_wr_ne _ _ _ _ h

theorem State.rd_inc_ne (s : State) (f g : Fld) (k : Nat) (h : f.key ≠ g.key) : (s.inc f k).rd g = s.rd g :=
  State.rd_wr_ne _ _ _ _ h

/-- A counter increased reads the saturated sum. -/
theorem State.rd_inc_same (s : State) (f : Fld) (k : Nat) (h : f.w ≤ 32) :
    (s.inc f k).rd f = satAdd f.w (s.rd f) k := by
  rw [State.inc, State.rd_wr_same _ _ _ h]
  refine Nat.mod_eq_of_lt ?_
  have : 0 < 2 ^ f.w := Nat.pos_of_ne_zero (by simp)
  simp only [satAdd]
  omega

/-- Reading a field looks at `regs` alone. -/
theorem State.rd_congr (s t : State) (f : Fld) (h : t.regs = s.regs) : t.rd f = s.rd f := by
  simp only [State.rd, h]

@[simp] theorem State.rd_modRing (s : State) (q : Nat) (g : Ring → Ring) (f : Fld) : (s.modRing q g).rd f = s.rd f :=
  State.rd_congr _ _ _ rfl
@[simp] theorem State.rd_stage (s : State) (g : Fld) (v : Nat) (f : Fld) : (s.stage g v).rd f = s.rd f := rfl
@[simp] theorem State.rd_modTxn (s : State) (i : Nat) (g : MTxn → MTxn) (f : Fld) : (s.modTxn i g).rd f = s.rd f :=
  State.rd_congr _ _ _ rfl
@[simp] theorem State.rd_modSc (s : State) (n : Nat) (g : Scan → Scan) (f : Fld) : (s.modSc n g).rd f = s.rd f :=
  State.rd_congr _ _ _ rfl
@[simp] theorem State.rd_modBeam (s : State) (n : Nat) (g : Beam → Beam) (f : Fld) : (s.modBeam n g).rd f = s.rd f :=
  State.rd_congr _ _ _ rfl
@[simp] theorem State.rd_modOct (s : State) (n : Nat) (g : Octet → Octet) (f : Fld) : (s.modOct n g).rd f = s.rd f :=
  State.rd_congr _ _ _ rfl
@[simp] theorem State.rd_modClasp (s : State) (n : Nat) (g : Clasp → Clasp) (f : Fld) : (s.modClasp n g).rd f = s.rd f :=
  State.rd_congr _ _ _ rfl
@[simp] theorem State.rd_modPll (s : State) (n : Nat) (g : Pll → Pll) (f : Fld) : (s.modPll n g).rd f = s.rd f :=
  State.rd_congr _ _ _ rfl
@[simp] theorem State.rd_modMot (s : State) (n : Nat) (g : Mot → Mot) (f : Fld) : (s.modMot n g).rd f = s.rd f :=
  State.rd_congr _ _ _ rfl
@[simp] theorem State.rd_modXd (s : State) (n : Nat) (g : Xd → Xd) (f : Fld) : (s.modXd n g).rd f = s.rd f :=
  State.rd_congr _ _ _ rfl
@[simp] theorem State.rd_modAxis (s : State) (n : Nat) (g : Axis → Axis) (f : Fld) : (s.modAxis n g).rd f = s.rd f :=
  State.rd_congr _ _ _ rfl
@[simp] theorem State.rd_modEnc (s : State) (n : Nat) (g : Enc → Enc) (f : Fld) : (s.modEnc n g).rd f = s.rd f :=
  State.rd_congr _ _ _ rfl
@[simp] theorem State.rd_modWeb (s : State) (g : Web → Web) (f : Fld) : (s.modWeb g).rd f = s.rd f :=
  State.rd_congr _ _ _ rfl
@[simp] theorem State.rd_modLoop (s : State) (n : Nat) (g : LoopSlot → LoopSlot) (f : Fld) : (s.modLoop n g).rd f = s.rd f :=
  State.rd_congr _ _ _ rfl
@[simp] theorem State.rd_modHv (s : State) (n : Nat) (g : Hv → Hv) (f : Fld) : (s.modHv n g).rd f = s.rd f :=
  State.rd_congr _ _ _ rfl
@[simp] theorem State.rd_modFz (s : State) (n : Nat) (g : Fz → Fz) (f : Fld) : (s.modFz n g).rd f = s.rd f :=
  State.rd_congr _ _ _ rfl
@[simp] theorem State.rd_modIsl (s : State) (n : Nat) (g : Island → Island) (f : Fld) : (s.modIsl n g).rd f = s.rd f :=
  State.rd_congr _ _ _ rfl
@[simp] theorem State.rd_modRail (s : State) (n : Nat) (g : Rail → Rail) (f : Fld) : (s.modRail n g).rd f = s.rd f :=
  State.rd_congr _ _ _ rfl
@[simp] theorem State.rd_modTbl (s : State) (n : Nat) (g : TblStation → TblStation) (f : Fld) : (s.modTbl n g).rd f = s.rd f :=
  State.rd_congr _ _ _ rfl
@[simp] theorem State.rd_modJob (s : State) (n : Nat) (g : Job → Job) (f : Fld) : (s.modJob n g).rd f = s.rd f :=
  State.rd_congr _ _ _ rfl
@[simp] theorem State.rd_modInFlight (s : State) (g : Slot → Slot) (f : Fld) : (s.modInFlight g).rd f = s.rd f :=
  State.rd_congr _ _ _ rfl

@[simp] theorem State.rd_modSlot (s : State) (p : Nat) (g : Slot → Slot) (f : Fld) : (s.modSlot p g).rd f = s.rd f := by
  unfold State.modSlot; split <;> exact State.rd_congr _ _ _ rfl

/-! ### Vectors and records -/

@[simp] theorem State.vecCause_regs (s : State) (n : Nat) (imm : Bool) : (s.vecCause n imm).regs = s.regs := by
  unfold State.vecCause; split <;> rfl

@[simp] theorem State.rd_vecCause (s : State) (n : Nat) (imm : Bool) (f : Fld) : (s.vecCause n imm).rd f = s.rd f :=
  State.rd_congr _ _ _ (by simp)

/-- Records that begin to wait give a vector a cause and change nothing else. -/
@[simp] theorem State.begunWait_regs (s t : State) : (s.begunWait t).regs = t.regs := by
  unfold State.begunWait; split <;> simp

@[simp] theorem State.queueRec_regs (s : State) (q : Nat) (r : Rec) : (s.queueRec q r).regs = s.regs := by
  unfold State.queueRec; simp

@[simp] theorem State.rd_queueRec (s : State) (q : Nat) (r : Rec) (f : Fld) : (s.queueRec q r).rd f = s.rd f :=
  State.rd_congr _ _ _ (by simp)

/-! ### Events in native mode -/

/-- In native mode an event shows in no legacy register. -/
theorem State.legEvent_native (s : State) (sev code inst : Nat) (h : s.rd F.GLB_MODE_MODE ≠ 1) :
    s.legEvent sev code inst = s := by
  simp [State.legEvent, h]

theorem State.rd_postRaw (s : State) (sev code block inst : Nat) (d : BitVec 80) (src tag : Nat) (f : Fld)
    (h : s.rd F.GLB_MODE_MODE ≠ 1) (hf : F.EVT_DROPPED_DROPPED.key ≠ f.key) :
    (s.postRaw sev code block inst d src tag).rd f = s.rd f := by
  unfold State.postRaw
  rw [State.legEvent_native _ _ _ _ h]
  simp only
  split
  · rfl
  · split
    · rw [State.rd_vecCause, State.rd_inc_ne _ _ _ _ hf]; rfl
    · split
      · rw [State.rd_vecCause, State.rd_inc_ne _ _ _ _ hf]; rfl
      · rw [State.rd_vecCause, State.rd_inc_ne _ _ _ _ hf]; rfl

/-- A NOTE, WARN, SOFT or SAFE event changes no register but EVT_DROPPED. -/
theorem State.rd_post (s : State) (sev code block inst : Nat) (d : List (Nat × Nat × Nat)) (tag : Nat) (f : Fld)
    (h : s.rd F.GLB_MODE_MODE ≠ 1) (hf : F.EVT_DROPPED_DROPPED.key ≠ f.key) (hs : sev ≠ 3) :
    (s.post sev code block inst d tag).rd f = s.rd f := by
  simp only [State.post, State.postBy, hs, if_false]
  exact State.rd_postRaw _ _ _ _ _ _ _ _ _ h hf

/-- Only registers and what the host side holds change with a cause of a vector. -/
theorem State.vecCause_frame (s : State) (n : Nat) (imm : Bool) :
    s.vecCause n imm = { s with host := (s.vecCause n imm).host } := by
  unfold State.vecCause; split <;> rfl

/-- In native mode an event changes registers and the host side alone. -/
theorem State.postRaw_frame (s : State) (sev code block inst : Nat) (d : BitVec 80) (src tag : Nat)
    (h : s.rd F.GLB_MODE_MODE ≠ 1) : s.postRaw sev code block inst d src tag =
      { s with
        regs := (s.postRaw sev code block inst d src tag).regs
        host := (s.postRaw sev code block inst d src tag).host } := by
  unfold State.postRaw
  rw [State.legEvent_native _ _ _ _ h]
  simp only
  split
  · rfl
  · split
    · rw [State.vecCause_frame]; rfl
    · split
      · rw [State.vecCause_frame]; rfl
      · rw [State.vecCause_frame]; rfl

/-- An event below HARD, in native mode, changes registers and the host side alone. -/
theorem State.post_frame (s : State) (sev code block inst : Nat) (d : List (Nat × Nat × Nat)) (tag : Nat)
    (h : s.rd F.GLB_MODE_MODE ≠ 1) (hs : sev ≠ 3) : s.post sev code block inst d tag =
      { s with
        regs := (s.post sev code block inst d tag).regs
        host := (s.post sev code block inst d tag).host } := by
  simp only [State.post, State.postBy, hs, if_false]
  exact State.postRaw_frame _ _ _ _ _ _ _ _ h

/-- What an event below HARD does, in native mode. -/
theorem State.post_spec (s : State) (sev code block inst : Nat) (d : List (Nat × Nat × Nat)) (tag : Nat)
    (h : s.rd F.GLB_MODE_MODE ≠ 1) (hs : sev ≠ 3) :
    RegsAndHost s (s.post sev code block inst d tag) [F.EVT_DROPPED_DROPPED] := by
  refine ⟨State.post_frame _ _ _ _ _ _ _ h hs, fun g hg => State.rd_post _ _ _ _ _ _ _ _ h ?_ hs⟩
  exact hg _ (by simp)

/-! ### Ring transactions -/

/-- A transaction that stands ready and meets the row's test is taken. -/
theorem State.takeWhen_ready (s : State) (q : Nat) (ds : List Desc) (t : List Desc → Bool) (f : List Desc → State → State)
    (h : s.ringReady q ds) (ht : t ds = true) : s.takeWhen q t f = (f ds s).settleHead q ds.length := by
  simp only [State.takeWhen, h.2.1, h.2.2, ht, if_true]

/-! ### Machine transactions -/

/-- A machine transaction whose effect is `v`: taken, applied, answered. -/
theorem State.machOp_done (s : State) (q : Nat) (ds : List Desc) (t : List Desc → Bool) (v : State) (w r : Nat)
    (h : s.machReady q ds) (ht : t ds = true) (hv : s.entersVigil ds = false) (hc : s.endsCycle ds = false)
    (ha : (s.machState q ds).applyMach (s.machRef q ds) ds = .done v w r) :
    s.machOp q t = s.machAnswer q ds v w r := by
  obtain ⟨-, h1, h2, h3, h4⟩ := h
  simp only [State.machOp, State.takeWhen, h1, h2, h3, h4, hc, ht, State.takeMach, hv, ha, State.machAnswer,
    State.answerTxn, beq_self_eq_true, Bool.true_and, if_true, Bool.false_eq_true, if_false]

/-! ### Power-on reset -/

theorem State.live_up (s t : State) (h : s.boot.porst = false) : s.live t = t := by simp [State.live, h]

theorem State.live_held (s t : State) (h : s.boot.porst = true) : s.live t = s := by simp [State.live, h]

end Sys2Proof.Machine
end

