-- ==== Sys2Proof/Tests/Slice0.lean ====
section
/-! SUPPORT. Tests: ill-formed commands refused, small facts worked out from the spec's text, and, for every statement, a
state and operands that meet its premises together, clause by clause. -/

namespace Sys2Proof.Tests

open Sys2Proof Sys2Proof.Machine

set_option Elab.async false

/-- The state after reset with PORST_N released, in native mode. -/
def live : State := { State.reset with boot := { State.reset.boot with porst := false } }

/-- `live` with register fields set. -/
def regs (vs : List (Fld × Nat)) : State := live.wrs vs

/-- The same in compatibility mode. -/
def leg (vs : List (Fld × Nat)) : State := regs ((F.GLB_MODE_MODE, 1) :: vs)

/-- `now` and ETIME moved on. -/
def at_ (t : Nat) (s : State) : State := { s with time := { s.time with now := t, etime := t } }

/-- Island A ACTIVE, its cores advancing. -/
def served (s : State) : State :=
  (s.modIsl 0 (fun x => { x with alive := true })).wrs [(F.ISL_STAT_STATE 0, 4), (F.PWR_DOM_LEVEL 3, 2)]

/-- Ring `q` in RUN with a transaction read, and an island that serves it. -/
def ringed (q : Nat) (ds : List Desc) (s : State) : State :=
  ((served s).modRing q (fun g => { g with fetched := ds })).wrs [(F.RING_STAT_STATE q, 1)]

def isDone : Applied → Bool
  | .done _ _ _ => true
  | .fail _ _ _ _ _ => false

def isDone1 : Applied → Bool
  | .done _ w _ => w != 0
  | .fail _ _ _ _ _ => false

theorem done1_of (a : Applied) (h : isDone1 a = true) : ∃ v w r, a = .done v (w + 1) r := by
  cases a with
  | done v w r => cases w with
    | zero => simp [isDone1] at h
    | succ w => exact ⟨v, w, r, rfl⟩
  | fail => simp [isDone1] at h

theorem done_of (a : Applied) (h : isDone a = true) : ∃ v w r, a = .done v w r := by
  cases a with
  | done v w r => exact ⟨v, w, r, rfl⟩
  | fail => simp [isDone] at h


/-- A page of one line of eight pixels on station 1 (R42–R44), PACKED, its frame at 100,000,000. -/
def pageDs : List Desc :=
  [mkEntry [(0, 1, 1), (1, 1, 2), (2, 2, 2), (16, 1, 2), (17, 1, 2), (20, 4, 40000), (24, 4, 1)],
   mkEntry [(0, 1, 2), (1, 1, 2), (8, 1, 1), (9, 1, 0x10), (14, 2, 8), (24, 2, 1), (32, 8, 8)],
   mkEntry [(0, 1, 3), (8, 1, 0), (16, 8, 100000000)]]

/-- Station 1 configured, and a host window that allows reads of the lowest 4 KiB (R239). -/
def pageRegs : List (Fld × Nat) :=
  [(F.ST_OCTETS_OCT_MASK 1, 1), (F.ST_GEOM_PIXELS 1, 64), (F.ST_DS_NOM_DS_NOM 1, 1000), (F.ALM_DELIV_POS_DELIV_POS, 1000000),
   (F.FW_BASE_LO_VALID 0, 1), (F.FW_BASE_LO_READ 0, 1)]

/-- Slot 3 as given. -/
def slot3 (f : Slot → Slot) (s : State) : State := s.modSlot 3 f

/-- Its one line. -/
def page8 : List Byte := [0, 255, 0, 0, 0, 0, 0, 0]

/-- A slot of that page. -/
def slotAt (x : SlotState) (y : Slot) : Slot :=
  { y with
    st := x, tag := 7, mask := 2, lines := 1, frameLen := 40000, fp := 100000000, eve := 99000000
    planes := [{ station := 1, coding := 0x10, width := 8, sgCount := 1, srcLen := 8, check := crc32c page8, grans := [0] }] }

def webAt (p : Int) (s : State) : State := { s with web := { s.web with g := 256 * p } }

/-! ## Ill-formed commands: one for each check, and it is refused -/

theorem smoke_host :
    (Instr.barMissizedAccess 1 0 0 true 4).wellFormed = false ∧
    (Instr.barMissizedAccess 0 16777216 0 true 4).wellFormed = false ∧
    (Instr.barMissizedAccess 0 0 256 true 4).wellFormed = false ∧
    (Instr.barMissizedAccess 2 0 0 false 0).wellFormed = false ∧
    (Instr.barMissizedAccess 2 0 0 false 1025).wellFormed = false ∧
    (Instr.doorbell 0 4294967296).wellFormed = false ∧
    (Instr.lvrPacket []).wellFormed = false := by decide +kernel

theorem smoke_pages :
    (Instr.stagingComplete 0 (List.replicate 17 ⟨[], [], [], [], 0⟩)).wellFormed = false ∧
    (Instr.stageFail 0 0 false false 7).wellFormed = false ∧
    (Instr.stageFail 0 0 false true 3).wellFormed = false ∧
    (Instr.stageFail 0 0 false true 0).wellFormed = false ∧
    (Instr.bandFetchComplete 0 false [49153] []).wellFormed = false ∧
    (Instr.bandFetchComplete 0 false [] [49153]).wellFormed = false ∧
    (Instr.codecJobComplete 0 ⟨[], 0⟩ [] [] [1, 2] 0 [] []).wellFormed = false ∧
    (Instr.codecJobComplete 0 ⟨[], 0⟩ [] [] [] 0 [(786432, 0)] []).wellFormed = false ∧
    (Instr.codecJobComplete 0 ⟨[], 0⟩ [] [] [] 0 [] [(0, 2048)]).wellFormed = false ∧
    (Instr.tableTxnComplete 0 (List.replicate 17 none)).wellFormed = false := by decide +kernel

theorem smoke_beams :
    (Instr.thermalSample 0 65537).wellFormed = false ∧
    (Instr.energyScaleUpdate 0 65536).wellFormed = false ∧
    (Instr.apcSample 0 65536).wellFormed = false ∧
    (Instr.bmStatClear 0 4294967296 0 false).wellFormed = false ∧
    (Instr.vbsOk 0 65536).wellFormed = false ∧
    (Instr.beamSupply 0 65536).wellFormed = false ∧
    (Instr.stDropClr 0 4294967296).wellFormed = false := by decide +kernel

theorem smoke_clocks :
    (Instr.refLost []).wellFormed = false ∧
    (Instr.pllSearchDone 0 256).wellFormed = false ∧
    (Instr.pllFine 0 0 65536).wellFormed = false ∧
    (Instr.pllHopClr 0 4294967296).wellFormed = false ∧
    (Instr.refLost (List.replicate 12 65536)).wellFormed = false ∧
    (Instr.sweepComplete 0 65536 0 0).wellFormed = false ∧
    (Instr.sweepComplete 0 0 65536 0).wellFormed = false ∧
    (Instr.sweepComplete 0 0 0 65536).wellFormed = false := by decide +kernel

theorem smoke_motors :
    (Instr.cmdPinMeasure 0 [] 0 0).wellFormed = false ∧
    (Instr.cmdPinMeasure 0 (List.replicate 10 4096) 0 0).wellFormed = false ∧
    (Instr.cmdPinMeasure 0 (List.replicate 10 0) 1 0).wellFormed = false ∧
    (Instr.alignComplete 0 []).wellFormed = false ∧
    (Instr.hvSenseSample 0 4096).wellFormed = false ∧
    (Instr.thermistorSample 0 65537).wellFormed = false ∧
    (Instr.emberSample 65537).wellFormed = false ∧
    (Instr.bistSlice 0 false true 65536 0).wellFormed = false := by decide +kernel

theorem smoke_islandBoot : (Instr.islandBootComplete 0 (List.replicate 262273 0#8) false).wellFormed = false := by
  simp only [Instr.wellFormed, List.length_replicate]; decide

theorem smoke_patchRead : (Instr.patchReadComplete (List.replicate 4294967296 0#8) false).wellFormed = false := by
  simp only [Instr.wellFormed, List.length_replicate]; decide

/-! ## Worked examples of the spec -/

/-- Chapter 7, the example of R193: octet 5 at 4,180 (1/16 °C) and line 992 has S = 18,398. -/
theorem test_energy_scale :
    let ect (q v : Nat) : Fld × Nat :=
      (if q % 2 = 0 then F.OCT_ECT_E_EVEN 5 (q / 2) else F.OCT_ECT_E_ODD 5 (q / 2), v)
    let s := regs [ect 49 18432, ect 50 18944, ect 58 17920, ect 59 18432]
    s.energyScale 5 992 4180 = 18398 := by decide +kernel

/-- Chapter 14, the example: the PI step on AUTO gives 12,288 and then 12,416. -/
theorem test_pi_loop :
    let w : List Int := [0x5000, 0x4800, 0, 0, 0, 0, 0, 0]
    let prog := [mkStep 1 0 0 1 4 1 [0x4000, 0xC000], mkStep 2 1 4 0 5 1 [0x2000, 0x400], mkStep 5 0 5 0 6 0 [0, 0x6000, 0]].map progStep
    let a := runSteps ⟨true, some 12288⟩ prog [] { w := w, sts := [] }
    let b := runSteps ⟨true, none⟩ prog a.sts { w := w, sts := [] }
    a.w.getD 6 0 = 12288 ∧ b.w.getD 6 0 = 12416 := by decide +kernel

/-- Chapter 13, the example: JW 2: two counts back are within the window, the third reverses the web,
three forward again resume it, and one more moves WPOS on. -/
theorem test_web_reversal :
    let s : State := { regs [(F.WEB_CFG_EN, 1), (F.ENC_CFG_EN 0, 1), (F.ENC_SCALE_SCALE 0, 5 * 16777216), (F.WEB_STAT_RUN, 1)] with
      web := { live.web with o := 128000000000 } }
    let go (s : State) (l : List Bool) : State := l.foldl (fun (s : State) (b : Bool) =>
      ((at_ (s.time.now + 1000000) s).encCount 0 b).webTick) s
    let a := go s [true, true, true, true, false, false]
    let b := go a [false]
    let c := go b [true, true, true]
    a.rd F.WEB_STAT_REVERSED = 0 ∧ b.rd F.WEB_STAT_REVERSED = 1 ∧ b.rd F.WEB_REV_DEPTH_DEPTH = 15 ∧
      c.rd F.WEB_STAT_REVERSED = 0 ∧ c.wpos = 500000020 ∧ (go c [true]).wpos = 500000025 := by decide +kernel

/-- Chapter 20, the example: f_pix 36,283,465 Hz gives SDIV 6, a DCO of 3,483.21 MHz and FCW 139.3285; a packet has 1,538
words. -/
theorem test_legacy_frequency :
    legSdiv 36283465 = 6 ∧ legFcw 36283465 * 10000 / 2 ^ 23 = 1393285 ∧ packetWords 12288 2 = 1538 := by decide +kernel

/-- R438: a delay of 1.0 ms takes 33 Vigil cycles, 1.007 ms. -/
theorem test_vigil_rounding : vigNs 1000000 = ceilDiv (33 * 1000000000) 32768 ∧ vigNs 1000000 / 1000 = 1007 := by decide +kernel

/-- R103: a DEFLATE block of fixed codes, as RFC 1951 gives them: "hello hello hello hello". -/
theorem test_inflate :
    ((rawInflate [0xcb, 0x48, 0xcd, 0xc9, 0xc9, 0x57, 0xc8, 0x40, 0x27, 0x01]).1.map (·.toNat),
      (rawInflate [0xcb, 0x48, 0xcd, 0xc9, 0xc9, 0x57, 0xc8, 0x40, 0x27, 0x01]).2) =
      ((List.replicate 4 [104, 101, 108, 108, 111, 32]).flatten.take 23, some 10) := by decide +kernel

/-- R443: an on request and an off request of one Vigil cycle, in ON: the off request acts, the other is latched. -/
theorem test_requests_of_one_cycle :
    let s := (regs [(F.SEQ_STAT_STATE, 2), (F.SEQ_CASC_CASC_WAIT, 5)]).onReq 1
    (s.offReq 0).seq.cascAt.isSome = true ∧ (s.offReq 0).rd F.SEQ_STAT_PEND_ON = 1 := by decide +kernel

/-! ## Witnesses: one theorem per statement, a state and operands for each clause with premises -/

theorem witness_StepRunsTheFrontCommand :
    let s : State := {live with pending := [.fsClr]}; let c : Instr := .fsClr; let rest : List Instr := [];
    (s.pending = c :: rest) :=
  by decide +kernel

theorem witness_IdleStepIsOneNanosecond :
    (let s : State := live; (s.pending = [])) ∧ (let s : State := State.reset; (s.boot.porst = true)) :=
  by decide +kernel

theorem witness_PowerOnReset :
    ((let s : State := State.reset; let mode : Fin 4 := 2; (s.boot.porst = true) ∧ ((mode.val ≠ 1))) ∧
    (let s : State := State.reset; (s.boot.porst = true)) ∧ (let s : State := regs [(F.BOOT_STAT_STAGE, 1)]; (s.up) ∧
    ((s.rd F.BOOT_STAT_STAGE = 1)))) ∧ ((let s : State := at_ 2000000000 (regs [(F.BOOT_STAT_STAGE,1)]); (s.up) ∧
    ((s.rd F.BOOT_STAT_STAGE = 1) ∧ ((s.boot.releasedAt + 2000000000 ≤ s.now) ∧ ((s.domOn 1 = false))))) ∧
    (let s : State := at_ 2000000000 (regs [(F.BOOT_STAT_STAGE,1),(F.PWR_DOM_LEVEL 1,2)]); (s.up) ∧
    ((s.rd F.BOOT_STAT_STAGE = 1) ∧ ((s.boot.releasedAt + 2000000000 ≤ s.now) ∧ ((s.domOn 1 = true))))) ∧
    (let s : State := regs [(F.GLB_MODE_MODE, 3)]; (s.rd F.GLB_MODE_MODE = 3) ∧ ((s.rd F.SEQ_CTL_BOOT = 0)))) ∧
    ((let s : State := at_ 100000 live; (s.up) ∧ ((s.boot.refFixed = false) ∧ ((s.boot.releasedAt + 100000 ≤ s.now)))) ∧
    (let t0 : Nat := 0; let s : State := { live with pwr := { live.pwr with wakeAgain := some 0 } }; (s.up) ∧
    ((s.pwr.wakeAgain = some t0) ∧ ((t0 ≤ s.now) ∧ ((s.seqState ≠ 5) ∧ ((s.seqState ≠ 6))))))) :=
  ⟨by decide +kernel, by decide +kernel, by decide +kernel⟩

theorem witness_RegisterAccess :
    ((let s : State := live; (s.native)) ∧ (let s : State := live; (s.native) ∧
    ((s.isPending (groupOfKey (F.ST_DS_NOM_DS_NOM 1).key) = false))) ∧ (let s : State := live;
    let off : BitVec 24 := 0x00FFFFF0; (s.up) ∧ ((legWindow off.toNat = false) ∧ ((findReg off.toNat = none) ∧
    ((off.toNat % 4 = 0) ∧ ((off.toNat ≠ F.VIG_WAKE_EN_WAKE_EN.off))))))) ∧ ((let s : State := live; let q : Fin 32 := 3;
    let off : BitVec 24 := 0x3000; (s.up) ∧ ((off.toNat = q.val * 4096))) ∧ (let s : State := live;
    let off : BitVec 24 := 0x3004; (s.up) ∧ ((off.toNat % 4096 ≠ 0))) ∧ (let s : State := live; (s.up))) ∧
    ((let off : BitVec 24 := 0x0; let h : RegHit := (findReg off.toNat).get (by decide +kernel); let s : State := live;
    (s.native) ∧ ((off.toNat % 4 = 0) ∧ ((legWindow off.toNat = false) ∧ ((findReg off.toNat = some h) ∧ (((∀ x ∈ h.fields,
    x.1 = .ro ∨ x.1 = .roh))))))) ∧ (let s : State := live; let off : BitVec 24 := 0x70;
    let h : RegHit := (findReg off.toNat).get (by decide +kernel); (s.native) ∧ ((off.toNat % 4 = 0) ∧
    ((slotCopy off.toNat = off.toNat) ∧ ((legWindow off.toNat = false) ∧ ((amFind s.host.hiSnap off.toNat = none) ∧
    ((s.viewWord off.toNat = none) ∧ ((off.toNat ≠ 0x2001C) ∧ ((off.toNat ≠ 0x20020) ∧ ((findReg off.toNat = some h) ∧
    (((∀ x ∈ h.fields, x.1 = .wo)))))))))))) ∧ (let off : BitVec 24 := 0x580004;
    let h : RegHit := (findReg off.toNat).get (by decide +kernel); let s : State := regs [(F.ENC_CFG_EN 0,1)];
    let f : Fld := F.ENC_SCALE_SCALE 0; (s.native) ∧ ((off.toNat % 4 = 0) ∧ ((legWindow off.toNat = false) ∧
    ((findReg off.toNat = some h) ∧ (((∀ x ∈ h.fields, x.1 = .rwf)) ∧ ((h.fields.getLast? = some (.rwf, f)) ∧
    ((s.frozen h = true) ∧ ((s.isPending h.group = false)))))))))) ∧ ((let off : BitVec 24 := 0x100100;
    let h : RegHit := (findReg off.toNat).get (by decide +kernel); let f : Fld := F.ST_DS_NOM_DS_NOM 0;
    let s : State := { live with bezel := { live.bezel with pending := [⟨((findReg 0x100100).get (by decide +kernel)).group, none⟩] } };
    (s.native) ∧ ((off.toNat % 4 = 0) ∧ ((legWindow off.toNat = false) ∧ ((findReg off.toNat = some h) ∧
    ((h.fields = [(.rws, f)]) ∧ ((ownCommand h f = false) ∧ ((s.isPending h.group = true) ∧
    ((off.toNat ≠ F.VIG_WAKE_EN_WAKE_EN.off))))))))) ∧ (let s : State := live; let v : Word := 0x123; (s.native) ∧
    ((v.getLsbD 0 = true) ∧ (((∀ e ∈ s.justSet, e.1 ≠ F.GLB_STATE_ETIME_RESEEDED.key))))) ∧
    (let s : State := { (regs [(F.GLB_STATE_ETIME_RESEEDED,1)]) with justSet := [(F.GLB_STATE_ETIME_RESEEDED.key, 1, live.now)] };
    let v : Word := 1; (s.native) ∧ ((v.getLsbD 0 = true) ∧ ((s.rd F.GLB_STATE_ETIME_RESEEDED = 1) ∧
    (((F.GLB_STATE_ETIME_RESEEDED.key, 1, s.time.now) ∈ s.justSet)))))) ∧ ((let s : State := live; let v : Word := 2;
    (s.native) ∧ ((v.getLsbD 0 = false))) ∧ (let l : Fin 192 := 0; let off : BitVec 24 := 0x600018; let s : State := live;
    (s.native) ∧ ((off.toNat = 0x600018 + l.val * 0x80))) ∧ (let l : Fin 192 := 3; let u : Fin 2 := 1;
    let c : SlotCopy := ⟨3,[],{}⟩; let s : State := live.modIsl 1 (fun x => { x with slots := [⟨3,[],{}⟩] });
    ((s.isl.isls.getD u {}).slots.find? (fun c => c.slot == l.val) = some c))) :=
  ⟨by decide +kernel, by decide +kernel, by decide +kernel, by decide +kernel, by decide +kernel⟩

theorem witness_WposPreset :
    (let s : State := live; (s.up) ∧ ((s.inFlight = 0))) ∧
    (let s : State := { live with web := { live.web with preset := some 7 } }; let v : Int := 7; (s.web.preset = some v)) ∧
    (let s : State := live.modSlot 0 (fun x => { x with st := .imaging }); (s.native) ∧ ((s.inFlight ≠ 0))) :=
  by decide +kernel

theorem witness_PowerOrders :
    ((let d : Desc := mkEntry [(0,1,0x50),(8,1,1)]; let q : Fin 32 := 16;
    let s : State := ringed 16 [d] (regs [(F.PWR_STAT_STATE,2)]); (s.machReady q [d]) ∧ ((dOpcode d = 0x50) ∧
    ((dCount d = 0) ∧ ((dField d 8 1 = 1) ∧ ((dZero d 9 63 = true) ∧ (((s.machState q [d]).pwr.job = none) ∧
    (((s.machState q [d]).pwr.wanted = []) ∧ ((1 < (s.machState q [d]).pstate) ∧
    (((s.machState q [d]).entryRefuser 1 = none)))))))))) ∧ (let d : Desc := mkEntry [(0,1,0x50),(8,1,2)];
    let q : Fin 32 := 16; let s : State := ringed 16 [d] (regs [(F.PWR_STAT_STATE,1)]); (s.machReady q [d]) ∧
    ((dOpcode d = 0x50) ∧ ((dCount d = 0) ∧ ((dField d 8 1 = 2) ∧ ((dZero d 9 63 = true) ∧
    (((s.machState q [d]).pwr.job = none) ∧ (((s.machState q [d]).pwr.wanted = []) ∧
    (((s.machState q [d]).pstate < 2))))))))) ∧ (let d : Desc := mkEntry [(0,1,0x50),(8,1,0)]; let q : Fin 32 := 16;
    let s : State := ringed 16 [d] (regs [(F.PWR_STAT_STATE,2)]); (s.machReady q [d]) ∧ ((s.entersVigil [d] = true) ∧
    (((s.machState q [d]).pwr.job = none) ∧ (((s.machState q [d]).pwr.wanted = []) ∧ ((0 < (s.machState q [d]).pstate) ∧
    (((s.machState q [d]).entryRefuser 0 = none)))))))) ∧ ((let s : State := regs [(F.PWR_STAT_STATE,2)]; (s.up) ∧
    ((s.rd F.PWR_CMD_STAT_BUSY = 0) ∧ ((s.pwr.job = none) ∧ ((s.pwr.wanted = []) ∧ ((s.pstate = 2) ∧
    ((s.rd F.GLB_STATE_ARMED = 0) ∧ ((s.slotsWhere (fun y => y.st != .free) = []) ∧ ((s.codec.jobs = []) ∧
    ((s.tbl.txns = []) ∧ (((∀ q : Fin 32, (s.ring q).waiting = [])) ∧ ((s.wakeBits = [])))))))))))) ∧
    (let s : State := regs [(F.PWR_STAT_STATE,1)]; (s.up) ∧ ((s.rd F.PWR_CMD_STAT_BUSY = 0) ∧ ((s.pwr.job = none) ∧
    ((s.pwr.wanted = []) ∧ ((0 < s.pstate) ∧ ((s.entryRefuser 0 = none))))))) ∧
    (let s : State := regs [(F.PWR_STAT_STATE,2)]; (s.up) ∧ ((s.rd F.PWR_CMD_STAT_BUSY = 0) ∧ ((s.pwr.job = none) ∧
    ((s.pwr.wanted = []) ∧ ((1 < s.pstate) ∧ ((s.entryRefuser 1 = none)))))))) ∧
    ((let s : State := regs [(F.PWR_STAT_STATE,1)]; (s.up) ∧ ((s.rd F.PWR_CMD_STAT_BUSY = 0) ∧ ((s.pwr.job = none) ∧
    ((s.pwr.wanted = []) ∧ ((s.pstate < 2)))))) ∧ (let s : State := regs [(F.PWR_STAT_STATE,3)]; (s.up) ∧
    ((s.rd F.PWR_CMD_STAT_BUSY = 0) ∧ ((s.pwr.job = none) ∧ ((s.pwr.wanted = []) ∧ ((2 ≤ s.pstate) ∧ ((s.pstate ≤ 3))))))) ∧
    (let s : State := live; (s.up))) :=
  ⟨by decide +kernel, by decide +kernel, by decide +kernel⟩

theorem witness_DomainLevels :
    ((let d : Desc := mkEntry [(0,1,0x51),(8,1,8),(9,1,3)]; let q : Fin 32 := 16;
    let s : State := ringed 16 [d] (regs [(F.PWR_STAT_STATE,2),(F.PWR_DOM_LEVEL 5,2)]); (s.machReady q [d]) ∧
    ((dOpcode d = 0x51) ∧ ((dCount d = 0) ∧ ((7 ≤ dField d 8 1) ∧ ((dField d 8 1 ≤ 31) ∧ ((dField d 9 1 ≤ 3) ∧
    ((dZero d 10 63 = true) ∧ (((s.machState q [d]).reqRefused (dField d 8 1) (dField d 9 1) = none))))))))) ∧
    (let d : Fin 32 := 8; let req : Fin 4 := 3; let s : State := live; (s.up) ∧ ((7 ≤ d.val) ∧
    ((s.reqRefused d req = none)))) ∧ (let k : Nat := 0; let d : Fin 32 := 8; let req : Fin 4 := 2; let s : State := live;
    (s.native) ∧ ((7 ≤ d.val) ∧ ((s.reqRefused d req = some k))))) ∧ ((let d : Fin 32 := 9; (8 ≤ d.val)) ∧
    (let d : Fin 32 := 8; let req : Fin 4 := 3; let s : State := regs [(F.PWR_STAT_STATE,1)]; (s.up) ∧ ((7 ≤ d.val) ∧
    ((s.reqRefused d req = none) ∧ ((s.pstate < 2))))) ∧
    (let s : State := at_ 100000000 {served (regs [(F.PWR_STAT_STATE,2),(F.PWR_DOM_LEVEL 7,2)]) with pwr := {live.pwr with codecIdle := some 0}};
    let t0 : Nat := 0; (s.up) ∧ ((s.pwr.codecIdle = some t0) ∧ ((t0 + 100000000 ≤ s.now) ∧ ((s.codecBusy = false) ∧
    ((s.rd (F.PWR_DOM_REQ 7) = 0) ∧ ((s.level 7 = 2) ∧ ((2 ≤ s.pstate) ∧ ((s.islandServes = true)))))))))) ∧
    (let s : State := regs [(F.PWR_DOM_LEVEL 7,2)]; (s.level 7 = 2)) :=
  ⟨by decide +kernel, by decide +kernel, by decide +kernel⟩

theorem witness_Waking :
    ((let j : PowerJob := { frm := 1, target := 2, powerOn := false, left := [5], all := [5] };
    let s : State := {live with pwr := {live.pwr with job := some j}}; (s.up) ∧ ((s.pwr.job = some j) ∧
    ((j.retryAt = none) ∧ ((j.left ≠ []) ∧ ((s.stepReady j = true)))))) ∧
    (let j : PowerJob := { frm := 1, target := 2, powerOn := false, left := [5], all := [5] }; let d : Nat := 5;
    let rest : List Nat := []; (j.left = d :: rest) ∧ ((j.step < 4))) ∧
    (let j : PowerJob := { frm := 1, target := 2, powerOn := false, left := [5], all := [5] };
    let s : State := at_ 1000000000 {live with pwr := {live.pwr with job := some j}}; (s.up) ∧ ((s.pwr.job = some j) ∧
    ((j.retryAt = none) ∧ ((j.left ≠ []) ∧ ((j.stepAt + s.stepTmo j ≤ s.now))))))) ∧
    ((let j : PowerJob := { frm := 1, target := 2, powerOn := false, left := [5], all := [5], retryAt := some 0 };
    let t0 : Nat := 0; let s : State := {live with pwr := {live.pwr with job := some j}}; (s.up) ∧ ((s.pwr.job = some j) ∧
    ((j.retryAt = some t0) ∧ ((t0 ≤ s.now))))) ∧ (let s : State := live; let b : Fin 9 := 3;
    let rise : Bool := (live.rd F.VIG_WAKE_EN_WPOL).testBit 3; (s.up) ∧ ((b.val < 4) ∧
    ((rise = (s.rd F.VIG_WAKE_EN_WPOL).testBit b.val)))) ∧ (let b : Fin 9 := 3;
    let rise : Bool := (live.rd F.VIG_WAKE_EN_WPOL).testBit 3; let s : State := regs [(F.PWR_STAT_STATE,2)]; (s.up) ∧
    ((b.val < 4) ∧ ((rise = (s.rd F.VIG_WAKE_EN_WPOL).testBit b.val) ∧ ((2 ≤ s.pstate) ∧ ((s.seqState ≠ 6) ∧
    ((s.pwr.job = none)))))))) ∧
    (let s : State := {live with pwr := {live.pwr with alarmed := false}, time := {live.time with vtime := 2^48}}; (s.up) ∧
    ((s.pwr.alarmed = false) ∧
    ((s.rd F.VIG_ALARM_LO_ALARM + s.rd F.VIG_ALARM_HI_ALARM % 65536 * 4294967296 ≤ s.time.vtime)))) :=
  ⟨by decide +kernel, by decide +kernel, by decide +kernel⟩

theorem witness_EmberAndJunction :
    ((let r : Nat := 32768;
    let s : State := regs [(F.PWR_STAT_STATE,1),(F.VIG_EMBER_CFG_EMBER_EN,1),(F.VIG_EMBER_CFG_EMBER_TMAX,200)]; (s.up) ∧
    ((s.emberOn = true) ∧ ((s.pwr.emberAt = none) ∧ ((s.pwr.emberTemps = []) ∧ ((sensorBad r = false) ∧
    ((betaTemp (s.rd (F.TH_CFG_BETA (s.rd F.VIG_EMBER_CFG_TH))) r < 16 * (s.rd F.VIG_EMBER_CFG_EMBER_TMAX : Int)))))))) ∧
    (let s : State := regs [(F.VIG_EMBER_CFG_EMBER_TMAX,200)]; (s.up) ∧
    ((s.rdS F.VIG_EMBER_STAT_TEMP < 16 * ((s.rd F.VIG_EMBER_CFG_EMBER_TMAX : Int) - 10)))) ∧
    (let s : State := regs [(F.VIG_EMBER_CFG_EMBER_TMAX,5)]; (s.up) ∧
    ((¬ s.rdS F.VIG_EMBER_STAT_TEMP < 16 * ((s.rd F.VIG_EMBER_CFG_EMBER_TMAX : Int) - 10))))) ∧ ((let s : State := live;
    (s.up)) ∧ (let s : State := regs [(F.PWR_DOM_LEVEL 1,2)]; let a : Int := 400; let b : Int := 0; let c : Int := 0;
    let d : Int := 0; (s.up) ∧ ((s.domOn 1 = true) ∧ ((maxI 0 [a, b, c, d] < 2000) ∧
    ((maxI 0 [a, b, c, d] < 16 * (s.rd F.VIG_TJ_TJ_WARN : Int)))))) ∧ (let low : Fin 16 := 1; let s : State := live;
    (s.up) ∧ ((low.val % 8 ≠ 0) ∧ ((s.emberOn = false))))) ∧
    ((let s : State := { (regs [(F.VIG_EMBER_CFG_EMBER_EN,1),(F.VIG_EMBER_CFG_ZONE,2)]) with pwr := { live.pwr with low := 15 } };
    (s.emberBarred = true)) ∧ (let z : Nat := 2;
    let s : State := regs [(F.VIG_EMBER_CFG_EMBER_EN,1),(F.VIG_EMBER_CFG_ZONE,2)]; (s.emberZone z = true)) ∧
    (let s : State := regs [(F.VIG_EMBER_CFG_EMBER_EN,1),(F.VIG_EMBER_CFG_EMBER_SET,100),(F.VIG_EMBER_CFG_EMBER_RATIO,40),(F.FZ_CFG_FULLCYC 0,0)];
    (s.emberOn = true) ∧ ((s.on (F.FZ_CFG_FULLCYC (s.rd F.VIG_EMBER_CFG_ZONE)) = false) ∧
    ((s.on F.VIG_EMBER_STAT_CUT = false) ∧
    ((s.rdS F.VIG_EMBER_STAT_TEMP < 16 * (s.rd F.VIG_EMBER_CFG_EMBER_SET : Int))))))) :=
  ⟨by decide +kernel, by decide +kernel, by decide +kernel⟩

theorem witness_RailEvents :
    ((let k : Fin 24 := 23; let s : State := at_ 10000000000000 (regs [(F.SEQ_RAIL_STAT_STATE 23,1)]); (s.up) ∧
    ((s.railState k = 1) ∧ (((s.rail k).since + vigNs (100000 * s.rd (F.SEQ_RAIL_CFG_ON_DLY k)) ≤ s.now) ∧
    ((s.rd (F.SEQ_RAIL_CFG_PMB k) = 0) ∧
    (((s.rd F.SEQ_PG_MAP_PG).testBit k = false ∨ s.rd (F.SEQ_RAIL_CFG_PG_SRC k) = 1)))))) ∧ (let k : Fin 24 := 2;
    let s : State := at_ 1000000000 (regs [(F.SEQ_RAIL_STAT_STATE 2,1),(F.SEQ_PG_MAP_PG,4)]); (s.up) ∧
    ((s.railState k = 1) ∧ (((s.rail k).since + vigNs (100000 * s.rd (F.SEQ_RAIL_CFG_ON_DLY k)) ≤ s.now) ∧
    (((s.rd F.SEQ_PG_MAP_PG).testBit k = true) ∧ ((s.rd (F.SEQ_RAIL_CFG_PG_SRC k) = 0)))))) ∧ (let level : Bool := true;
    let k : Fin 24 := 23; let s : State := regs [(F.SEQ_RAIL_STAT_STATE 23,2)]; (s.up) ∧
    ((s.rd (F.SEQ_RAIL_CFG_PG_SRC k) = 0) ∧ ((s.railState k = 2) ∧ ((level = !s.on (F.SEQ_RAIL_CFG_PG_POL k))))))) ∧
    ((let k : Fin 24 := 23; let s : State := live; (s.up) ∧ ((s.rd (F.SEQ_RAIL_CFG_PG_SRC k) = 0) ∧ ((s.railState k = 0) ∧
    ((s.seq.relWait = none))))) ∧ (let k : Fin 24 := 23;
    let s : State := at_ 10000000000000 (regs [(F.SEQ_RAIL_STAT_STATE 23,2)]); (s.up) ∧ ((s.railState k = 2) ∧
    ((s.railOwner k ≠ 2) ∧ (((s.rail k).since + s.pgTmo k ≤ s.now))))) ∧ (let k : Fin 24 := 23;
    let s : State := regs [(F.SEQ_RAIL_STAT_STATE 23,3)]; (s.up) ∧ ((s.rd (F.SEQ_RAIL_CFG_PG_SRC k) = 0) ∧
    ((s.railState k = 3))))) ∧ ((let k : Fin 24 := 23;
    let s : State := regs [(F.SEQ_RAIL_STAT_STATE 23,3),(F.SEQ_RAIL_CFG_FAULT_ACT 23,1),(F.SEQ_RAIL_CFG_SEQ 23,1)];
    (s.railState k = 3) ∧ ((s.railDomain k = none) ∧ ((s.rd (F.SEQ_RAIL_CFG_FAULT_ACT k) = 1)))) ∧ (let k : Fin 24 := 10;
    let d : Nat := 5; let s : State := regs [(F.SEQ_RAIL_STAT_STATE 10,3),(F.PWR_DOM_RAIL_EN 5,1),(F.PWR_DOM_RAIL 5,10)];
    (s.railState k = 3) ∧ ((s.railDomain k = some d) ∧ ((s.railOwner k = 2))))) :=
  ⟨by decide +kernel, by decide +kernel, by decide +kernel⟩

theorem witness_SequencerSteps :
    ((let s : State := regs [(F.SEQ_CTL_CASC_IN,0)]; (s.up) ∧ ((s.rd F.SEQ_CTL_CASC_IN = 0))) ∧
    (let s : State := regs [(F.SEQ_CTL_CASC_IN,1)]; (s.up) ∧ ((s.rd F.SEQ_CTL_CASC_IN = 1))) ∧ (let t0 : Nat := 0;
    let s : State := at_ 10000000000000 {regs [(F.SEQ_STAT_STATE,1),(F.BOOT_STAT_STAGE,7)] with seq := {live.seq with topAt := some 0}};
    (s.up) ∧ ((s.seq.topAt = some t0) ∧ ((s.seqState = 1) ∧ ((t0 + vigNs (s.rd F.SEQ_CASC_OUT_DLY * 100000) ≤ s.now) ∧
    ((s.seq.ups = []) ∧ ((s.rd F.BOOT_STAT_STAGE ≠ 2) ∧ ((s.seq.restarted = false))))))))) ∧ ((let x : Nat := 0; (x < 8)) ∧
    (let t0 : Nat := 0; let c : Nat := 4;
    let s : State := at_ 10000000000000 {regs [(F.SEQ_STAT_STATE,2)] with seq := {live.seq with cascAt := some (0,4)}};
    (s.up) ∧ ((s.seq.cascAt = some (t0, c)) ∧ ((s.seqState = 2) ∧
    ((t0 + vigNs (s.rd F.SEQ_CASC_CASC_WAIT * 1000000) ≤ s.now))))) ∧ (let k : Nat := 3;
    let s : State := at_ 10000000000000 (regs [(F.SEQ_STAT_STATE,3),(F.SEQ_RAIL_STAT_STATE 3,3)]); (s.up) ∧
    ((s.seqState = 3) ∧ ((s.seq.relWait = none) ∧ ((s.highestOn = some k) ∧
    ((s.seq.relAt + vigNs (s.rd (F.SEQ_RAIL_CFG_OFF_DLY k) * 100000) ≤ s.now))))))) ∧
    ((let s : State := at_ 10000000000000 (regs [(F.SEQ_STAT_PEND_ON,1),(F.SEQ_STAT_PFI_GOOD,1),(F.SEQ_CTL_CASC_IN,0)]);
    (s.up) ∧ ((s.rd F.SEQ_STAT_PEND_ON = 1) ∧ ((s.seqMayStart = true)))) ∧
    (let s : State := regs ((List.range 24).map (fun k => (F.SEQ_RAIL_CFG_SEQ k,0))); (s.programme = []))) :=
  ⟨by decide +kernel, by decide +kernel, by decide +kernel⟩

theorem witness_PowerFail :
    ((let s : State := regs [(F.SEQ_STAT_PFI_GOOD,1),(F.SEQ_CTL_PF_EN,1),(F.SEQ_STAT_STATE,2)]; (s.up) ∧
    ((s.rd F.SEQ_STAT_PFI_GOOD = 1) ∧ ((s.seqState < 5) ∧ ((s.rd F.SEQ_CTL_PF_EN = 1))))) ∧ (let s : State := live;
    (s.seq.onAt = none) ∧ ((s.seq.offAt = none))) ∧
    (let s : State := { live with seq := { live.seq with tripCycle := some live.time.vtime } };
    (s.seq.tripCycle = some s.time.vtime))) ∧ ((let s : State := regs [(F.SEQ_STAT_PFI_GOOD,1),(F.SEQ_STAT_STATE,6)];
    (s.up) ∧ ((s.rd F.SEQ_STAT_PFI_GOOD = 1) ∧ ((s.seqState = 6) ∧ (((∀ x ∈ s.seq.onAt, x.1 ≠ s.time.vtime)))))) ∧
    (let s : State := at_ 2000000 (regs [(F.SEQ_STAT_STATE,5)]); (s.up) ∧ ((s.seqState = 5) ∧ ((s.seq.domsDown = false) ∧
    ((s.seq.tripAt + 2000000 ≤ s.now))))) ∧
    (let s : State := {regs [(F.SEQ_STAT_STATE,5)] with seq := {live.seq with domsDown := true}}; (s.up) ∧
    ((s.seqState = 5) ∧ ((s.seq.domsDown = true) ∧ ((s.shutNext = none)))))) ∧ ((let k : Nat := 3;
    let s : State := at_ 10000000000000 {regs [(F.SEQ_STAT_STATE,5),(F.SEQ_RAIL_STAT_STATE 3,3)] with seq := {live.seq with domsDown := true}};
    (s.up) ∧ ((s.seqState = 5) ∧ ((s.seq.domsDown = true) ∧ ((s.shutNext = some k) ∧
    ((s.seq.relAt + max (vigNs 1) (vigNs (s.rd (F.SEQ_RAIL_CFG_OFF_DLY k) * 100000)) ≤ s.now)))))) ∧
    (let s : State := regs [(F.SEQ_STAT_PFI_GOOD,0)]; (s.up) ∧ ((s.rd F.SEQ_STAT_PFI_GOOD = 0) ∧
    ((s.rd F.SEQ_STAT_PEND_ON = 0)))) ∧ (let s : State := at_ 10000000000000 (regs [(F.SEQ_STAT_PFI_GOOD,1)]); (s.up) ∧
    ((s.seqState ≠ 5) ∧ ((s.rd F.SEQ_STAT_PFI_GOOD = 1) ∧ ((s.seq.goodAt + 1000000 ≤ s.now)))))) ∧
    (let s : State := at_ 10000000000000 {regs [(F.SEQ_STAT_PFI_GOOD,1),(F.SEQ_STAT_STATE,6),(F.SEQ_STAT_SEQ_IN,1),(F.SEQ_CTL_AUTO_RESTART,1)] with seq := {live.seq with back := true}};
    (s.up) ∧ ((s.restartDue = true) ∧ ((s.rd F.SEQ_CTL_AUTO_RESTART = 1)))) :=
  ⟨by decide +kernel, by decide +kernel, by decide +kernel, by decide +kernel⟩

theorem witness_PmbusPort :
    ((let k : Nat := 3; let s : State := regs [(F.PMB_CFG_ROLE,1),(F.SEQ_RAIL_CFG_PG_SRC 3,1),(F.SEQ_RAIL_STAT_STATE 3,3)];
    (s.up) ∧ ((s.polled = [k]) ∧ (((s.rail k).polledAt = none)))) ∧ (let s : State := live; (s.seqState ≠ 5)) ∧
    (let x : PmXfer := {addr := 5, page := none, cmd := 0x20, kind := 3, data := 0, rail := none, ref := none};
    let rest : List PmXfer := []; let s : State := {live with seq := {live.seq with xfers := [x]}}; (s.up) ∧
    ((s.seq.xfers = x :: rest) ∧ ((x.ref = none) ∧ ((x.rail = none)))))) ∧
    ((let x : PmXfer := {addr := 5, page := none, cmd := 0x20, kind := 3, data := 0, rail := none, ref := none};
    let fail : Fin 5 := 2; let rest : List PmXfer := [];
    let s : State := {regs [(F.PMB_CFG_RETRIES,2),(F.PWR_DOM_LEVEL 1,2)] with seq := {live.seq with xfers := [x]}};
    (s.native) ∧ ((s.seq.xfers = x :: rest) ∧ ((fail ≠ 0) ∧ (((fail = 2 → s.rd F.PMB_CFG_PEC = 1)) ∧
    ((x.tries < s.rd F.PMB_CFG_RETRIES) ∧ ((s.domOn 1 = true) ∧ ((s.seqState ≠ 5)))))))) ∧ (let data : BitVec 16 := 0;
    let x : PmXfer := { addr := 1, page := none, cmd := 2, kind := 1, data := 3, rail := none, ref := none };
    let rest : List PmXfer := []; let fail : Fin 5 := 1;
    let s : State := { (regs [(F.PMB_CFG_ROLE,1),(F.PMB_CFG_RETRIES,3),(F.PWR_DOM_LEVEL 1,2),(F.SEQ_STAT_STATE,5)]) with seq := { live.seq with xfers := [{ addr := 1, page := none, cmd := 2, kind := 1, data := 3, rail := none, ref := none }] } };
    (s.native) ∧ ((s.seq.xfers = x :: rest) ∧ ((fail ≠ 0) ∧ ((fail ≠ 2) ∧ ((x.tries < s.rd F.PMB_CFG_RETRIES) ∧
    ((s.domOn 1 = true) ∧ ((s.seqState = 5) ∧ ((x.isOff = false))))))))) ∧ (let s : State := regs [(F.PMB_CFG_PEC,0)];
    (s.rd F.PMB_CFG_PEC = 0))) ∧ ((let s : State := regs [(F.PMB_CFG_ROLE,2)]; (s.up) ∧ ((s.rd F.PMB_CFG_ROLE = 2))) ∧
    (let s : State := {regs [(F.PMB_CFG_ROLE,2)] with seq := {live.seq with alert := true}}; (s.up) ∧
    ((s.rd F.PMB_CFG_ROLE = 2) ∧ ((s.seq.alert = true))))) :=
  ⟨by decide +kernel, by decide +kernel, by decide +kernel⟩

theorem witness_SequencerTransactions :
    ((let d : Desc := mkEntry [(0,1,0x58)]; let q : Fin 32 := 16; let s : State := ringed 16 [d] (regs [(F.SEQ_STAT_STATE,2)]);
    (s.machReady q [d]) ∧ ((dOpcode d = 0x58) ∧ ((dCount d = 0) ∧ ((dZero d 8 63 = true) ∧
    (((s.machState q [d]).seqState = 2) ∧ (((s.machState q [d]).seq.cascAt = none))))))) ∧
    (let d : Desc := mkEntry [(0,1,0x58)]; let q : Fin 32 := 16;
    let s : State := ringed 16 [d] (regs [(F.SEQ_STAT_STATE,0)]); (s.machReady q [d]) ∧ ((dOpcode d = 0x58) ∧
    ((dCount d = 0) ∧ ((dZero d 8 63 = true) ∧ (((s.machState q [d]).seqState ≤ 1) ∧
    ((((s.machState q [d]).onReq 0).seqState ≠ 2))))))) ∧ (let d : Desc := mkEntry [(0,1,0x59)]; let q : Fin 32 := 16;
    let s : State := ringed 16 [d] (regs [(F.SEQ_STAT_STATE,2)]); (s.machReady q [d]) ∧ ((dOpcode d = 0x59) ∧
    ((dCount d = 0) ∧ ((dZero d 8 63 = true) ∧ (((s.machState q [d]).rd F.GLB_STATE_ARMED = 0) ∧ (((∀ k : Fin 24,
    (s.machState q [d]).railOwner k = 2 → (s.machState q [d]).railState k = 0)) ∧ (((s.machState q [d]).seqState = 2) ∧
    ((((s.machState q [d]).offReq 0).seqState ≠ 2)))))))))) ∧ ((let d : Desc := mkEntry [(0,1,0x5A),(8,1,23),(9,1,1)];
    let q : Fin 32 := 16; let s : State := ringed 16 [d] (regs [(F.SEQ_RAIL_CFG_SEQ 23,0)]); (s.machReady q [d]) ∧
    ((dOpcode d = 0x5A) ∧ ((dCount d = 0) ∧ ((dZero d 10 63 = true) ∧ ((dField d 8 1 ≤ 23) ∧ ((dField d 9 1 = 1) ∧
    (((s.machState q [d]).railOwner (dField d 8 1) = 0) ∧ (((s.machState q [d]).railState (dField d 8 1) = 0))))))))) ∧
    (let d : Desc := mkEntry [(0,1,0x5B),(8,1,23)]; let q : Fin 32 := 16;
    let s : State := ringed 16 [d] (regs [(F.SEQ_RAIL_STAT_STATE 23,4)]); (s.machReady q [d]) ∧ ((dOpcode d = 0x5B) ∧
    ((dCount d = 0) ∧ ((dZero d 9 63 = true) ∧ ((dField d 8 1 ≤ 23) ∧ (((s.machState q [d]).railState (dField d 8 1) = 4) ∧
    (((s.machState q [d]).seqState ≠ 4)))))))) ∧ (let k : Nat := 23; let s : State := regs [(F.SEQ_RAIL_STAT_STATE 23,4)];
    (k < 24) ∧ ((s.railState k = 4) ∧ ((s.seqState ≠ 4))))) ∧ ((let d : Desc := mkEntry [(0,1,0x5C),(8,1,127),(10,1,4)];
    let q : Fin 32 := 16; let s : State := ringed 16 [d] (regs [(F.PMB_CFG_ROLE,1)]); (s.machReady q [d]) ∧
    ((dOpcode d = 0x5C) ∧ ((dCount d = 0) ∧ ((dZero d 14 63 = true) ∧ ((dField d 8 1 ≤ 127) ∧ ((dField d 10 1 ≤ 4) ∧
    ((dField d 11 1 = 0) ∧ (((s.machState q [d]).rd F.PMB_CFG_ROLE = 1))))))))) ∧ (let s : State := live; (s.up) ∧
    ((s.rd F.SEQ_CMD_STAT_BUSY = 0) ∧ ((s.seqState = 0) ∧ ((((s.wr F.SEQ_CMD_STAT_BUSY 1).onReq 0).seqState ≠ 2))))) ∧
    (let s : State := live; (s.up) ∧ ((s.rd F.SEQ_CMD_STAT_BUSY = 0) ∧ ((s.seqState = 0) ∧ ((s.rd F.GLB_STATE_ARMED = 0) ∧
    (((∀ k : Fin 24, s.railOwner k ≠ 2)))))))) ∧ ((let s : State := live; let k : Fin 32 := 23; (s.up) ∧
    ((s.rd F.SEQ_CMD_STAT_BUSY = 0) ∧ ((k.val ≤ 23) ∧ ((s.railOwner k = 0) ∧ ((s.railState k = 0)))))) ∧
    (let s : State := live; let k : Fin 32 := 23; (s.up) ∧ ((s.rd F.SEQ_CMD_STAT_BUSY = 0) ∧ ((k.val ≤ 23) ∧
    ((s.railOwner k = 0) ∧ (((s.rail k).waits = [])))))) ∧ (let k : Fin 32 := 23;
    let s : State := regs [(F.SEQ_RAIL_STAT_STATE 23,4)]; (s.up) ∧ ((s.rd F.SEQ_CMD_STAT_BUSY = 0) ∧ ((k.val ≤ 23) ∧
    ((s.railState k = 4)))))) :=
  ⟨by decide +kernel, by decide +kernel, by decide +kernel, by decide +kernel⟩

theorem witness_PatchesAndServiceTier :
    ((let s : State := (regs [(F.ISL_STAT_STATE 1,5),(F.PWR_DOM_LEVEL 4,2)]).modIsl 1 (fun x => { x with bistOk := true, scrubOk := true, locketOk := true, rejoined := true });
    (s.up) ∧ ((s.rd F.GLB_STATE_ARMED = 0) ∧ ((s.rd F.PATCH_STAT_STATE = 0) ∧ ((s.islState 1 = 5) ∧
    ((s.islReady 1 = true)))))) ∧ (let s : State := regs [(F.GLB_STATE_ARMED,1)]; (s.native) ∧
    ((s.rd F.GLB_STATE_ARMED = 1))) ∧
    (let img : List Byte := [0x4B,0x58,0x50,0x31,1,0,0,0,0,0,0,0,16,0,0,0] ++ List.replicate 128 0;
    let s : State := ({ ((regs [(F.PATCH_STAT_STATE,1),(F.ISL_STAT_STATE 0,5),(F.PWR_DOM_LEVEL 3,2),(F.BOOT_FUSE_KEY_SET,1),(F.GLB_REV_ROM_REV,0),(F.BOOT_FUSE_SVN_MIN,0)]).modIsl 0 (fun x => { x with bistOk := true, scrubOk := true, locketOk := true, rejoined := true })) with boot := { live.boot with load := (144, true) } } : State);
    (s.up) ∧ ((s.rd F.PATCH_STAT_STATE = 1) ∧ ((s.rd F.BOOT_FUSE_KEY_SET = 1) ∧ ((bField img 0 4 = 0x3150584B) ∧
    ((bField img 4 2 = 1) ∧ ((bField img 10 2 = 0) ∧ ((bField img 112 16 = 0) ∧ ((bField img 12 4 % 16 = 0) ∧
    ((16 ≤ bField img 12 4) ∧ ((bField img 12 4 ≤ 262144) ∧ ((img.length = 128 + bField img 12 4) ∧
    ((s.boot.load = (img.length, true)) ∧ ((bField img 6 2 = s.rd F.GLB_REV_ROM_REV) ∧
    ((s.rd F.BOOT_FUSE_SVN_MIN ≤ bField img 8 2) ∧ ((s.islState 0 = 5) ∧ ((s.islReady 0 = true)))))))))))))))))) ∧
    ((let s : State := (regs [(F.PATCH_STAT_STATE,1),(F.ISL_STAT_STATE 0,5),(F.PWR_DOM_LEVEL 3,2),(F.BOOT_FUSE_KEY_SET,0),(F.GLB_REV_ROM_REV,0),(F.BOOT_FUSE_SVN_MIN,0)]).modIsl 0 (fun x => { x with bistOk := true, scrubOk := true, locketOk := true, rejoined := true });
    (s.native) ∧ ((s.rd F.PATCH_STAT_STATE = 1) ∧ ((s.islState 0 = 5) ∧ ((s.islReady 0 = true))))) ∧
    (let s : State := regs [(F.PATCH_STAT_STATE,1),(F.BOOT_FUSE_KEY_SET,0)]; (s.native) ∧ ((s.rd F.PATCH_STAT_STATE = 1) ∧
    ((s.rd F.BOOT_FUSE_KEY_SET = 0)))) ∧ (let s : State := {live with tier := {live.tier with evalAt := some live.etime}};
    (s.up) ∧ ((s.tier.evalAt = some s.etime)))) ∧ ((let s : State := regs [(F.TIER_CFG_RISE_MS,5)]; (s.native) ∧
    ((s.tier = {}) ∧ ((s.rd F.GLB_STATE_ARMED = 0) ∧ ((s.rd F.GLB_STATE_TIER = 0) ∧ ((0 < s.rd F.TIER_CFG_RISE_MS)))))) ∧
    (let s : State := regs [(F.GLB_STATE_ARMED,1),(F.GLB_STATE_TIER,3)]; (s.native) ∧ ((s.tier = {}) ∧
    ((s.rd F.GLB_STATE_ARMED = 1) ∧ ((s.rd F.GLB_STATE_TIER = 3))))) ∧
    (let s : State := { (at_ 1000000000 (regs [(F.GLB_STATE_ARMED,1),(F.ST_OCTETS_OCT_MASK 1,1),(F.PWR_DOM_LEVEL 9,2),(F.PWR_DOM_LEVEL 16,2),(F.XD_CFG_POLY_EN 0,1),(F.XD_CFG_STATION 0,1),(F.XD_STAT_AT_SPEED 0,1),(F.PLL_STAT_STATE 5,4),(F.ST_SCANCTL_SCAN_EN 1,1),(F.ST_ROLL_STAT_PHASE 1,3),(F.ST_FACET_STAT_SIG_STATE 1,2),(F.ST_PH_STAT_PH_LOCKED 1,1),(F.ST_REG_CTL_REF 1,1),(F.BAND_STAT_IN_SERVICE,1),(F.TIER_CFG_REQ_STANDBY,0)])) with tier := { live.tier with fSince := some 0 } };
    let t0 : Nat := 0; (s.up) ∧ ((s.etime % 10000 = 0) ∧ (((∀ x ∈ s.tier.evalAt, x / 10000 ≠ s.etime / 10000)) ∧
    (((s.tierBlock true).2 = 0) ∧ ((s.tier.fSince = some t0) ∧
    ((t0 + max 1 (s.rd F.TIER_CFG_RISE_MS) * 1000000 ≤ s.etime)))))))) ∧
    ((let s : State := { (at_ 1000000000 (regs [(F.GLB_STATE_ARMED,1),(F.ST_OCTETS_OCT_MASK 1,1),(F.PWR_DOM_LEVEL 9,2),(F.PWR_DOM_LEVEL 16,2),(F.XD_CFG_POLY_EN 0,1),(F.XD_CFG_STATION 0,1),(F.XD_STAT_AT_SPEED 0,1),(F.PLL_STAT_STATE 5,3),(F.ST_SCANCTL_SCAN_EN 1,1),(F.ST_ROLL_STAT_PHASE 1,3),(F.ST_FACET_STAT_SIG_STATE 1,2),(F.ST_PH_STAT_PH_LOCKED 1,1),(F.ST_REG_CTL_REF 1,1),(F.BAND_STAT_IN_SERVICE,1),(F.TIER_CFG_REQ_STANDBY,0)])) with tier := { live.tier with pSince := some 0 } };
    let t0 : Nat := 0; (s.up) ∧ ((s.etime % 10000 = 0) ∧ (((∀ x ∈ s.tier.evalAt, x / 10000 ≠ s.etime / 10000)) ∧
    ((s.qualified (if (s.tierBlock true).2 = 0 then some (s.tier.fSince.getD s.etime) else none) = false) ∧
    (((s.tierBlock false).2 = 0) ∧ ((s.tier.pSince = some t0) ∧
    ((t0 + max 1 (s.rd F.TIER_CFG_RISE_MS) * 1000000 ≤ s.etime)))))))) ∧ (let s : State := live; (s.up) ∧
    ((s.etime % 10000 = 0) ∧ (((∀ x ∈ s.tier.evalAt, x / 10000 ≠ s.etime / 10000)) ∧ (((s.tierBlock true).2 ≠ 0) ∧
    (((s.tierBlock false).2 ≠ 0)))))) ∧ (let v : Nat := 2; let t0 : Nat := 50;
    let s : State := { live with tier := { live.tier with next := some (2, 50) } }; (s.tier.next = some (v, t0)) ∧
    ((s.now < t0)))) ∧ ((let v : Nat := 2; let t0 : Nat := 50;
    let s : State := at_ 50 { live with tier := { live.tier with next := some (2, 50) } }; (s.tier.next = some (v, t0)) ∧
    ((t0 ≤ s.now))) ∧ (let s : State := regs [(F.GLB_STATE_TIER,3)]; (s.rd F.GLB_STATE_TIER = 3))) :=
  ⟨by decide +kernel, by decide +kernel, by decide +kernel, by decide +kernel, by decide +kernel⟩

theorem witness_FaultsAndRecovery :
    ((let s : State := regs [(F.FAULT_STAT_FRAME_STOP,1),(F.PLL_STAT_STATE 0,4),(F.PLL_STAT_STATE 1,4),(F.PLL_STAT_STATE 2,4),(F.PLL_STAT_STATE 3,4),(F.ISL_STAT_STATE 0,4)];
    (s.native) ∧ ((s.rd F.FAULT_STAT_FRAME_STOP = 1) ∧ ((s.rd F.FAULT_STAT_SAFE = 0) ∧ (((∀ x ∈ s.flt.hardAt,
    x / 10 ≠ s.now / 10)) ∧ ((s.faultHold = 0)))))) ∧ (let s : State := regs [(F.FAULT_STAT_FRAME_STOP,1)]; (s.native) ∧
    ((s.rd F.FAULT_STAT_FRAME_STOP = 1) ∧ (let same := s.flt.hardAt.any (fun x => x / 10 == s.now / 10);
    (s.faultHold ≠ 0 ∨ s.rd F.FAULT_STAT_SAFE = 1 ∨ same = true)))) ∧ (let s : State := live; (s.up) ∧
    ((s.rd F.FAULT_STAT_FRAME_STOP = 0)))) ∧ ((let t0 : Nat := 0;
    let s : State := at_ 1000000000 {regs [(F.FAULT_STAT_FRAME_STOP,1)] with flt := {live.flt with webZeroSince := some 0}};
    (s.up) ∧ ((s.flt.webZeroSince = some t0) ∧ ((s.rd F.FAULT_STAT_FRAME_STOP = 1) ∧ ((t0 + 1000000000 ≤ s.now))))) ∧
    (let p : Nat := 3; let s : State := slot3 (slotAt .admitted) (regs [(F.FAULT_STAT_FLUSHABLE,1)]); (s.up) ∧
    ((s.rd F.FAULT_STAT_FLUSHABLE = 1) ∧ ((s.slotsWhere (fun x => x.st.inFlight) = [p])))) ∧
    (let s : State := regs [(F.FAULT_STAT_FLUSHABLE,0)]; (s.up) ∧ ((s.rd F.FAULT_STAT_FLUSHABLE = 0)))) ∧
    (let s : State := at_ 10000000000000 (regs [(F.TEL_CFG_EN,1)]); (s.up) ∧ ((s.rd F.TEL_CFG_EN = 1) ∧
    ((s.flt.telAt + max 1 (s.rd F.TEL_CFG_PERIOD) * 1000000 ≤ s.etime)))) :=
  ⟨by decide +kernel, by decide +kernel, by decide +kernel⟩

theorem witness_FrameStop :
    ((let s : State := regs [(F.FAULT_STAT_FRAME_STOP,0)]; let code : Nat := 65535; (s.rd F.GLB_MODE_MODE = 0) ∧
    ((s.rd F.FAULT_STAT_FRAME_STOP = 0) ∧ ((s.clrUndone = false) ∧ ((code < 65536))))) ∧
    (let s : State := regs [(F.FAULT_STAT_FRAME_STOP,1)]; (s.rd F.GLB_MODE_MODE = 0) ∧
    ((s.rd F.FAULT_STAT_FRAME_STOP = 1))) ∧ (let p : Nat := 3; let s : State := slot3 (slotAt .admitted) live; (p < 160) ∧
    ((p < s.alm.slots.length) ∧ (((s.slot p).st.inFlight = true))))) ∧ ((let p : Nat := 3;
    let s : State := slot3 (slotAt .staged) live; (p < 160) ∧ (((s.slot p).st.inFlight = false) ∧
    ((¬ ((s.slot p).st.waiting = true ∧ (s.slot p).eveFired = true ∧ (s.slot p).eveAt / 10 = s.now / 10))))) ∧
    (let p : Nat := 3;
    let s : State := at_ 20 (slot3 (fun y => { slotAt .staged y with eveFired := true, eveAt := 20 }) live); (p < 160) ∧
    ((p < s.alm.slots.length) ∧ (((s.slot p).st.waiting = true) ∧ (((s.slot p).eveFired = true) ∧
    (((s.slot p).eveAt / 10 = s.now / 10)))))) ∧
    (let s : State := { live with flt := { live.flt with clr := some (0, 7, (0, 0)) } }; (s.rd F.GLB_MODE_MODE = 0) ∧
    ((s.rd F.FAULT_STAT_FRAME_STOP = 0) ∧ ((s.clrUndone = true))))) :=
  ⟨by decide +kernel, by decide +kernel⟩

theorem witness_PageSubmission :
    ((let ds : List Desc := pageDs; let q : Fin 32 := 0; let s : State := ringed 0 pageDs (regs pageRegs); (s.ringReady q ds) ∧
    ((classOf q = 0) ∧ ((dOpcode (ds.headD 0) ≠ 4) ∧ ((s.islandLacks q ds = false) ∧
    ((((s.passTxn q ds.length).keep ds).2.pageRefusal q ds = none)))))) ∧ (let ds : List Desc := pageDs;
    let q : Fin 32 := 0; let cause : Nat := 0x1009; let det : List (Nat × Nat × Nat) := [(4,1,1)];
    let s : State := ringed 0 pageDs live; (s.ringReady q ds) ∧ ((classOf q = 0) ∧ ((dOpcode (ds.headD 0) ≠ 4) ∧
    ((s.islandLacks q ds = false) ∧ ((((s.passTxn q ds.length).keep ds).2.pageRefusal q ds = some (cause, det))))))) ∧
    (let q : Fin 32 := 0; let ds : List Desc := pageDs;
    let s : State := (live.wrs pageRegs).modRing 0 (fun g => { g with fetched := pageDs }) |>.wrs [(F.RING_STAT_STATE 0, 1)];
    (s.ringReady q ds) ∧ ((classOf q = 0) ∧ ((dOpcode (ds.headD 0) ≠ 4) ∧ ((s.islandLacks q ds = true)))))) ∧
    ((let s : State := live; (s.rd F.GLB_MODE_MODE = 0)) ∧ (let p : Nat := 0; let s : State := regs pageRegs;
    (s.alm.slots.length = 160) ∧ (((s.slotsWhere (fun x => x.st = .free)).head? = some p)))) :=
  ⟨by decide +kernel, by decide +kernel⟩

theorem witness_CancelAndPriority :
    ((let d : Desc := mkEntry [(0,1,4),(8,8,9)]; let q : Fin 32 := 0; let p : Nat := 3;
    let s : State := ringed 0 [d] (slot3 (fun y => { slotAt .staged y with pageId := 9 }) live); (s.ringReady q [d]) ∧
    ((classOf q = 0) ∧ ((dOpcode d = 4) ∧ ((dCount d = 0) ∧ ((dZero d 16 63 = true) ∧ ((s.islandLacks q [d] = false) ∧
    (((((s.passTxn q 1).keep [d]).2.trace 0 q [d] ((s.passTxn q 1).keep [d]).1).cancelSlots q (dField d 8 8) = [p]) ∧
    ((((((s.passTxn q 1).keep [d]).2.trace 0 q [d] ((s.passTxn q 1).keep [d]).1).slot p).st.waiting = true) ∧
    ((((((s.passTxn q 1).keep [d]).2.trace 0 q [d] ((s.passTxn q 1).keep [d]).1).slot p).eveFired = false) ∧
    (((((s.passTxn q 1).keep [d]).2.trace 0 q [d] ((s.passTxn q 1).keep [d]).1).wpos < ((((s.passTxn q 1).keep [d]).2.trace 0 q [d] ((s.passTxn q 1).keep [d]).1).slot p).eve))))))))))) ∧
    (let d : Desc := mkEntry [(0,1,0x60)]; let s : State := ringed 28 [d] live; (s.ringReady 28 [d]) ∧ ((dOpcode d = 0x60) ∧
    ((priFormat d = true)))) ∧ (let p : Nat := 3; let s : State := slot3 (slotAt .imaging) live; (p < s.alm.slots.length) ∧
    ((p < 160) ∧ ((s.rd F.GLB_MODE_MODE = 0) ∧ (((s.slot p).st = .imaging)))))) ∧ ((let d : Desc := mkEntry [(0,1,0x61)];
    let s : State := ringed 28 [d] live; (s.ringReady 28 [d]) ∧ ((dOpcode d = 0x61) ∧ ((priFormat d = true)))) ∧
    (let d : Desc := mkEntry [(0,1,0x62)]; let s : State := ringed 28 [d] live; (s.ringReady 28 [d]) ∧ ((dOpcode d = 0x62) ∧
    ((priFormat d = true)))) ∧ (let s : State := live; (s.rd F.GLB_MODE_MODE = 0))) ∧ (let d : Desc := mkEntry [(0,1,0x63)];
    let s : State := ringed 28 [d] live; (s.ringReady 28 [d]) ∧ ((dOpcode d = 0x63) ∧ ((priFormat d = true)))) :=
  ⟨by decide +kernel, by decide +kernel, by decide +kernel⟩

theorem witness_PageStaging :
    ((let p : Fin 160 := 3; let s : State := slot3 (slotAt .loaded) live; (s.up) ∧ ((s.poolOrder.head? = some p.val) ∧
    (((s.slot p).eveFired = false) ∧ ((needOf (s.slot p).planes (s.slot p).lines ≤ s.poolFree) ∧
    (((s.slotsWhere (fun y => y.st = .staging)).length < 16)))))) ∧ (let p : Fin 160 := 3;
    let srcs : List SrcRead := [⟨[(0,8)],page8,[],[],1⟩];
    let l : List (List Nat × List Byte) := [([0], (stagePacked 0 8 1 page8).1)];
    let s : State := slot3 (fun y => { slotAt .staging y with wins := [⟨0,4095,true,false⟩] }) live; (s.up) ∧
    (((s.slot p).st = .staging) ∧ ((s.eveGone (s.slot p) = false) ∧ (((s.slot p).staffed = true) ∧
    (let u := s.scratchErrors p srcs; let sm := u.smudged srcs;
    (sm.stageAll (s.slot p).wins (s.slot p).lines (stagePlan (s.slot p)) srcs = .inr l)))))) ∧ (let p : Fin 160 := 3;
    let srcs : List SrcRead := [⟨[(0,8)],List.replicate 8 0x11#8,[],[],1⟩]; let st : Nat := 1; let c : Nat := 0x1010;
    let d : Nat := 4; let tag : Bool := false;
    let s : State := slot3 (fun y => { slotAt .staging y with wins := [⟨0,4095,true,false⟩] }) live; (s.up) ∧
    (((s.slot p).st = .staging) ∧ ((s.eveGone (s.slot p) = false) ∧ (let u := s.scratchErrors p srcs;
    let sm := u.smudged srcs; (sm.stageAll (s.slot p).wins (s.slot p).lines (stagePlan (s.slot p)) srcs = .inl (st, tag, c,
    d))))))) ∧ ((let p : Fin 160 := 3; let st : Fin 8 := 1; let codec : Bool := true; let sub : Nat := 2;
    let s : State := slot3 (slotAt .staging) live; (s.up) ∧ (((s.slot p).st = .staging) ∧
    (((s.slot p).mask.testBit st.val = true) ∧ ((1 ≤ sub) ∧ ((sub ≤ (if codec then 2 else 6))))))) ∧ (let p : Nat := 159;
    let s : State := live; (p < 160) ∧ ((p < s.alm.slots.length)))) :=
  ⟨by decide +kernel, by decide +kernel⟩

theorem witness_EveAndAdmission :
    ((let p : Fin 160 := 3; let s : State := webAt 99000000 (slot3 (slotAt .staged) live); (s.up) ∧ (((s.slot p).st = .staged) ∧
    (((s.slot p).eveFired = false) ∧ (((s.slot p).lvt = false) ∧ (((s.slot p).eve ≤ s.wpos)))))) ∧
    (let s : State := regs [(F.FAULT_STAT_FRAME_STOP,1)]; (s.rd F.FAULT_STAT_FRAME_STOP = 1)) ∧
    (let s : State := at_ 20 { live with flt := { live.flt with clr := some (25, 7, (0, 0)) } }; let t0 : Nat := 25;
    let c : Nat := 7; let r : Nat × Nat := (0,0); (s.rd F.FAULT_STAT_FRAME_STOP = 0) ∧ ((s.flt.clr = some (t0, c, r)) ∧
    ((t0 / 10 = s.now / 10))))) ∧ ((let p : Fin 160 := 3;
    let s : State := at_ 20 (slot3 (fun y => { slotAt .staged y with eveFired := true }) (served live)); (s.up) ∧
    (((s.slot p).st = .staged) ∧ (((s.slot p).eveFired = true) ∧ (((s.slot p).eveAt / 10 < s.now / 10) ∧
    ((s.islandServes = true) ∧ ((s.pastBackstop (s.slot p) = false))))))) ∧ (let p : Fin 160 := 3;
    let s : State := webAt 99900000 (at_ 50 (slot3 (fun y => { slotAt .staged y with eveFired := true, eveAt := 20 }) (served live)));
    (s.up) ∧ (((s.slot p).st = .staged) ∧ (((s.slot p).eveFired = true) ∧ (((s.slot p).eveAt / 10 < s.now / 10) ∧
    ((s.pastBackstop (s.slot p) = true)))))) ∧ (let p : Nat := 3;
    let s : State := slot3 (slotAt .staged) (regs [(F.GLB_STATE_TIER,3)]); ((s.slot p).eveCause = 0) ∧
    (((s.slot p).eveTier ≠ 2) ∧ (((s.slot p).minTier ≤ s.rd F.GLB_STATE_TIER) ∧ ((p < 160) ∧
    ((p < s.alm.slots.length))))))) ∧ ((let p : Nat := 3;
    let s : State := slot3 (fun y => { slotAt .staged y with eveTier := 2 }) live; ((s.slot p).eveCause = 0) ∧
    (((s.slot p).eveTier = 2) ∧ ((s.rd F.GLB_MODE_MODE = 0) ∧ ((p < 160) ∧ ((p < s.alm.slots.length)))))) ∧
    (let x : Slot := ({ slotAt .admitted {} with minTier := 2 } : Slot); let v : Nat := 1;
    (x.st = .admitted ∨ x.st = .imaging) ∧ ((v < x.minTier) ∧ ((x.minTier = 2)))) ∧
    (let x : Slot := ({ slotAt .imaging {} with minTier := 3 } : Slot); let v : Nat := 1;
    (x.st = .admitted ∨ x.st = .imaging) ∧ ((v < x.minTier) ∧ ((x.minTier ≠ 2))))) ∧
    ((let x : Slot := ({ slotAt .imaging {} with minTier := 3 } : Slot); let v : Nat := 1;
    (x.st = .admitted ∨ x.st = .imaging) ∧ ((v < x.minTier) ∧ ((x.outcome < 1)))) ∧
    (let s : State := regs [(F.GLB_STATE_TIER,3)]; let v : Nat := 1; (v < s.rd F.GLB_STATE_TIER)) ∧ (let p : Nat := 3;
    let s : State := slot3 (fun y => { slotAt .staged y with eveCause := 0x1020 }) live; ((s.slot p).eveCause ≠ 0))) ∧
    (let p : Fin 160 := 3;
    let s : State := webAt 200000000 (slot3 (fun y => { slotAt .staged y with eveFired := true }) live); (s.up) ∧
    (((s.slot p).st = .staged) ∧ (((s.slot p).eveFired = true) ∧
    (((s.slot p).fp + (s.slot p).dFirst - 200000 ≤ s.wpos))))) :=
  ⟨by decide +kernel, by decide +kernel, by decide +kernel, by decide +kernel, by decide +kernel⟩

theorem witness_FramesAndDelivery :
    ((let st : Fin 8 := 1; let p : Fin 160 := 3; let s : State := webAt 200000000 (slot3 (slotAt .admitted) (regs pageRegs));
    (s.up) ∧ ((s.startsNow st p = true))) ∧ (let st : Fin 8 := 1; let p : Fin 160 := 3;
    let s : State := webAt 200000000 (slot3 (slotAt .staged) live); (s.up) ∧ ((s.startsNow st p = false))) ∧
    (let st : Fin 8 := 1; let p : Nat := 3;
    let s : State := webAt 200000000 (slot3 (fun y => { slotAt .imaging y with started := 2 }) live); (s.up) ∧
    ((s.slotOn st = some p) ∧ ((s.frameOver st p = true))))) ∧ ((let p : Fin 160 := 3;
    let s : State := webAt 200000000 (slot3 (slotAt .transit) live); (s.up) ∧ (((s.slot p).st = .transit) ∧
    (((s.slot p).fp + (s.slot p).delivPos ≤ s.wpos) ∧ ((p.val < s.alm.slots.length))))) ∧ (let p : Fin 160 := 3;
    let s : State := webAt 300000000 (slot3 (slotAt .delivered) (regs [(F.ALM_CTL_DELIV_MK_EN,1)])); (s.native) ∧
    (((s.slot p).st = .delivered) ∧ ((s.rd F.ALM_CTL_DELIV_MK_EN = 1) ∧ (((s.slot p).delivClosed = false) ∧
    (((s.slot p).delivEdge = false) ∧ (((s.slot p).fp + (s.slot p).delivPos + s.rd F.ALM_DELIV_WIN_DELIV_WIN < s.wpos) ∧
    ((p.val < s.alm.slots.length)))))))) ∧ (let r : Rec := { entries := [], slot := some 3 }; let rest : List Rec := [];
    let p : Nat := 3;
    let s : State := ((slot3 (slotAt .delivered) live).modRing 20 (fun g => { g with waiting := [r] })).wrs [(F.RING_STAT_STATE 20, 1),(F.RING_CFG_LOG2_SIZE 20,4)];
    (s.up) ∧ (((s.ring 20).waiting = r :: rest) ∧ ((r.slot = some p) ∧ ((p < 160) ∧
    ((s.roomFor 20 { r with entries := pageRecord p (s.slot p) } = true) ∧ ((s.recordReady p = true) ∧
    ((p < s.alm.slots.length))))))))) :=
  ⟨by decide +kernel, by decide +kernel⟩

theorem witness_OutcomeOnlyWorsens :
    (let x : Slot := {}; let o : Nat := 0; (o ≤ x.outcome)) ∧ (let x : Slot := {}; let o : Nat := 2; (x.outcome < o)) :=
  by decide +kernel

theorem witness_BandFetches :
    ((let st : Fin 8 := 1; let p : Fin 160 := 3; let tag : Bool := false;
    let s : State := (slot3 (fun y => { slotAt .imaging y with started := 2 }) live); (s.up) ∧
    (((s.slotsAhead st).contains p.val = true) ∧ (((s.sc st).nextBand p tag < bandCount (s.slot p).lines) ∧
    (((s.sc st).bands tag < 4) ∧ (((tag = true → ((s.slot p).plane st).tagCoding % 16 = 4))))))) ∧ (let st : Fin 8 := 1;
    let tag : Bool := false; let p : Nat := 3; let b : Nat := 0;
    let s : State := (slot3 (fun y => { slotAt .imaging y with started := 2 }) live).modSc 1 (fun c => { c with asked := [(3, false, 0)] });
    (s.up) ∧ (((s.sc st).asked.find? (fun a => a.2.1 = tag) = some (p, tag, b)) ∧ ((s.scan.length = 8)))) ∧
    (let st : Fin 8 := 1;
    let h : BandHeld := { slot := 3, tag := false, index := 0, arrived := 0, bytes := List.replicate 32 0 ++ [0x54,0x42,0,0,0,0,0,0,1,0] };
    let s : State := (slot3 (fun y => { slotAt .transit y with started := 2, ended := 2 }) live).modSc 1 (fun c => { c with held := [h] });
    (s.up) ∧ ((s.scan.length = 8) ∧ ((h.skipCheck = false) ∧ ((h.trailerBad = false) ∧ (((s.sc st).held = [h]) ∧
    (((s.slot h.slot).started.testBit st = true) ∧ ((s.bandOver st h = true) ∧ (let pl := (s.slot h.slot).plane st;
    let coding := if h.tag then 4 else pl.coding % 16; let n := bandLines (s.slot h.slot).lines h.index;
    let len := payloadLen coding pl.width n; let t := h.bytes.drop (pad32 len); (bField t 0 2 = 0x4254) ∧
    ((bField t 4 4 = h.index) ∧ ((bField t 8 2 = n)))))))))))) ∧ ((let code : Nat := 0x2020;
    let h : BandHeld := { slot := 3, tag := false, index := 0, arrived := 0, bytes := [] };
    let s : State := (slot3 (fun y => { slotAt .imaging y with started := 2 }) live); (s.rd F.GLB_MODE_MODE = 0) ∧
    ((h.slot < s.alm.slots.length) ∧ ((h.slot < 160) ∧ ((code = 0x2020 ∨ code = 0x2021) ∧
    (((s.slot h.slot).stFlags.length = 8)))))) ∧ (let st : Fin 8 := 1; let code : Nat := 0x2020;
    let h : BandHeld := { slot := 3, tag := false, index := 0, arrived := 0, bytes := [] };
    let s : State := (slot3 (fun y => { slotAt .imaging y with started := 2, once := [(0x2020, 1)] }) live);
    (s.rd F.GLB_MODE_MODE = 0) ∧ ((h.slot < s.alm.slots.length) ∧ ((h.slot < 160) ∧ ((code = 0x2020 ∨ code = 0x2021) ∧
    (((s.slot h.slot).stFlags.length = 8) ∧ (((s.slot h.slot).once.contains (0x2020, st.val) = true))))))) ∧
    (let s : State := live; (s.up))) :=
  ⟨by decide +kernel, by decide +kernel⟩

theorem witness_LineStarts :
    ((let st : Fin 8 := 1; let e : Fin 32 := 0;
    let s : State := ((regs [(F.ST_SCANCTL_SCAN_EN 1,1),(F.ST_SCANCTL_NOSCAN 1,0),(F.ST_OCTETS_OCT_MASK 1,1),(F.PLL_STAT_STATE 5,4),(F.VIG_LSAFE_LATCHED,0),(F.OCT_STAT_VBS_OK 0,1),(F.ST_WDOG_MAX_ON 1,1000)]).modOct 0 (fun o => { o with enabled := true })).modSc 1 (fun c => { c with tf := some 0, m := some 0 });
    let u := s.atEdge [(.beam, s.beamOf st e)];
    let v := (((u.modSc st (fun c => { c with begun := setBit c.begun e })).octLineOff (u.beamOf st e)).thermAct st (u.beamOf st e)).lineBegins st (u.beamOf st e);
    (s.up) ∧ ((u.on (F.ST_SCANCTL_SCAN_EN st) = true) ∧ ((u.on (F.ST_SCANCTL_NOSCAN st) = false) ∧
    (((u.sc st).tf.isSome = true) ∧ (((u.sc st).begun.testBit e = false) ∧ ((e.val < u.beamCount st) ∧
    ((v.slotOn st = none)))))))) ∧ (let st : Fin 8 := 1; let e : Fin 32 := 0; let p : Nat := 3; let y : Nat := 0;
    let s : State := slot3 (fun y => { slotAt .imaging y with started := 2 }) (((regs [(F.ST_SCANCTL_SCAN_EN 1,1),(F.ST_SCANCTL_NOSCAN 1,0),(F.ST_OCTETS_OCT_MASK 1,1),(F.PLL_STAT_STATE 5,4),(F.VIG_LSAFE_LATCHED,0),(F.OCT_STAT_VBS_OK 0,1),(F.ST_WDOG_MAX_ON 1,1000)]).modOct 0 (fun o => { o with enabled := true })).modSc 1 (fun c => { c with tf := some 0, m := some 0, wrote := [(0, 1)] }));
    let u := s.atEdge [(.beam, s.beamOf st e)];
    let v := (((u.modSc st (fun c => { c with begun := setBit c.begun e })).octLineOff (u.beamOf st e)).thermAct st (u.beamOf st e)).lineBegins st (u.beamOf st e);
    (s.up) ∧ ((u.on (F.ST_SCANCTL_SCAN_EN st) = true) ∧ ((u.on (F.ST_SCANCTL_NOSCAN st) = false) ∧
    (((u.sc st).tf.isSome = true) ∧ (((u.sc st).begun.testBit e = false) ∧ ((e.val < u.beamCount st) ∧
    ((v.slotOn st = some p) ∧ ((v.lineUnder st p e = some y) ∧ ((v.suppressed st e y = true)))))))))) ∧
    (let st : Fin 8 := 1; let e : Fin 32 := 0; let p : Nat := 3; let y : Nat := 0;
    let s : State := slot3 (fun y => { slotAt .imaging y with started := 2 }) (((regs [(F.ST_SCANCTL_SCAN_EN 1,1),(F.ST_SCANCTL_NOSCAN 1,0),(F.ST_OCTETS_OCT_MASK 1,1),(F.PLL_STAT_STATE 5,4),(F.VIG_LSAFE_LATCHED,0),(F.OCT_STAT_VBS_OK 0,1),(F.ST_WDOG_MAX_ON 1,1000)]).modOct 0 (fun o => { o with enabled := true })).modSc 1 (fun c => { c with tf := some 0, m := some 0 }));
    let u := s.atEdge [(.beam, s.beamOf st e)];
    let v := (((u.modSc st (fun c => { c with begun := setBit c.begun e })).octLineOff (u.beamOf st e)).thermAct st (u.beamOf st e)).lineBegins st (u.beamOf st e);
    (s.up) ∧ ((u.on (F.ST_SCANCTL_SCAN_EN st) = true) ∧ ((u.on (F.ST_SCANCTL_NOSCAN st) = false) ∧
    (((u.sc st).tf.isSome = true) ∧ (((u.sc st).begun.testBit e = false) ∧ ((e.val < u.beamCount st) ∧
    ((v.slotOn st = some p) ∧ ((v.lineUnder st p e = some y) ∧ ((v.suppressed st e y = false))))))))))) ∧
    ((let b : Nat := 127; let s : State := live; (b < s.beams.length)) ∧ (let st : Nat := 1; let e : Nat := 0;
    let p : Nat := 3; let y : Nat := 0;
    let s : State := (slot3 (fun y => { slotAt .imaging y with started := 2 }) ((regs [(F.ST_SCANCTL_SCAN_EN 1,1),(F.ST_SCANCTL_NOSCAN 1,0),(F.ST_OCTETS_OCT_MASK 1,1),(F.PLL_STAT_STATE 5,4),(F.VIG_LSAFE_LATCHED,0),(F.OCT_STAT_VBS_OK 0,1)]).modSc 1 (fun c => { c with tf := some 0, m := some 0, held := [{ slot := 3, tag := false, index := 0, arrived := 0, bytes := page8 }] }))).modOct 0 (fun o => { o with enabled := true });
    (p < 160) ∧ (let a := (s.idleLine (s.beamOf st e)).useBands st p y;
    let b := if a.paired st && e < a.nAdv st then a else a.modSc st (fun c => { c with done := c.done ++ [y] });
    let w := b.modSc st (fun c => { c with lineFno := c.fno });
    let x := w.capture st p y (some (w.lineLevels st p y)) false; ((w.slot p).aborted = false) ∧
    ((¬ ((w.sc st).prevFno = (w.sc st).fno ∧ (w.sc st).fno ≠ 0)) ∧ ((w.lineAbsent st p y = none) ∧
    ((w.lineCut st (s.beamOf st e) p = none) ∧ ((x.lostOn st e (x.sc st).fno = false))))))) ∧ (let st : Nat := 1;
    let e : Nat := 0; let s : State := live; (s.beamOf st e < s.beams.length))) :=
  ⟨by decide +kernel, by decide +kernel⟩

theorem witness_CodecTransactions :
    ((let d : Desc := mkEntry [(0,1,0x20),(8,1,0),(9,1,0),(14,2,1)]; let q : Fin 32 := 15; let s : State := ringed 15 [d] live;
    (s.ringReady q [d]) ∧ ((classOf q = 2) ∧ ((dOpcode d = 0x20) ∧ ((jobFormat d = true) ∧ ((jobOp d = 0)))))) ∧
    (let d : Desc := mkEntry [(0,1,0x20),(8,1,1),(9,1,0),(14,2,1)]; let q : Fin 32 := 15;
    let s : State := ringed 15 [d] live; (s.ringReady q [d]) ∧ ((classOf q = 2) ∧ ((dOpcode d = 0x20) ∧
    ((jobFormat d = true) ∧ ((jobOp d = 1)))))) ∧
    (let d : Desc := mkEntry [(0,1,0x20),(8,1,2),(9,1,2),(12,2,8),(14,2,1),(44,4,1),(24,8,8)]; let q : Fin 32 := 15;
    let s : State := ringed 15 [d] live; (s.ringReady q [d]) ∧ ((classOf q = 2) ∧ ((dOpcode d = 0x20) ∧
    ((jobFormat d = true) ∧ ((jobOp d = 2))))))) ∧
    ((let d : Desc := mkEntry [(0,1,0x20),(8,1,3),(9,1,3),(12,2,8),(14,2,1),(44,4,1),(24,8,8)]; let q : Fin 32 := 15;
    let s : State := ringed 15 [d] live; (s.ringReady q [d]) ∧ ((classOf q = 2) ∧ ((dOpcode d = 0x20) ∧
    ((jobFormat d = true) ∧ ((jobOp d = 3)))))) ∧ (let d : Desc := mkEntry [(0,1,0x20),(8,1,4),(9,1,0),(14,2,0)];
    let q : Fin 32 := 15; let s : State := ringed 15 [d] live; (s.ringReady q [d]) ∧ ((classOf q = 2) ∧
    ((dOpcode d = 0x20) ∧ ((jobFormat d = true) ∧ ((jobOp d = 4)))))) ∧
    (let d : Desc := mkEntry [(0,1,0x20),(8,1,0),(9,1,0),(14,2,0)]; let q : Fin 32 := 15;
    let s : State := ringed 15 [d] live; (s.ringReady q [d]) ∧ ((classOf q = 2) ∧ ((dOpcode d = 0x20) ∧
    ((jobFormat d = false) ∧ ((jobOp d = 0))))))) ∧ ((let d : Desc := mkEntry [(0,1,0x21),(8,4,9)]; let q : Fin 32 := 15;
    let s : State := ringed 15 [d] live; (s.ringReady q [d]) ∧ ((classOf q = 2) ∧ ((dOpcode d = 0x21) ∧
    ((holdFormat d = true))))) ∧ (let d : Desc := mkEntry [(0,1,0x22),(8,4,9)];
    let c : Capture := { id := 9, slot := 3, station := 1, tag := 0, pageId := 0, lines := 1, pixels := 8, fp := 0, closed := true };
    let q : Fin 32 := 15; let s : State := ringed 15 [d] { live with codec := { live.codec with captures := [c] } };
    (s.ringReady q [d]) ∧ ((classOf q = 2) ∧ ((dOpcode d = 0x22) ∧ ((holdFormat d = true) ∧
    (let u := (s.passTxn q 1).trace 0 q [d] 0;
    (u.codec.captures.find? (fun c => c.id = dField d 8 4 && c.closed) = some c)))))) ∧
    (let d : Desc := mkEntry [(0,1,0x22),(8,4,9)]; let q : Fin 32 := 15; let s : State := ringed 15 [d] live;
    (s.ringReady q [d]) ∧ ((classOf q = 2) ∧ ((dOpcode d = 0x22) ∧ ((holdFormat d = true) ∧
    (let u := (s.passTxn q 1).trace 0 q [d] 0;
    (u.codec.captures.find? (fun c => c.id = dField d 8 4 && c.closed) = none))))))) ∧ (let s : State := live;
    (s.rd F.GLB_MODE_MODE = 0)) :=
  ⟨by decide +kernel, by decide +kernel, by decide +kernel, by decide +kernel⟩

theorem witness_CodecJobsRun :
    ((let j : Job := { id := 5, ring := 13, desc := mkEntry [(0,1,0x20),(14,2,1)], op := 0 }; let es : List Nat := [0];
    let id : Nat := 5; let s : State := { live with codec := { live.codec with jobs := [j] } }; (s.up) ∧
    ((s.job id = some j) ∧ ((s.startable j.ring = some (j, es)) ∧ ((j.id = id) ∧ ((s.nextJobRing = some j.ring) ∧
    ((j.op ≠ 4))))))) ∧ (let v : Bool := true;
    let j : Job := { id := 5, ring := 13, desc := mkEntry [(0,1,0x20),(14,2,1)], op := 0, started := true, suspendedAt := some 0 };
    let t : Nat := 0; let s : State := at_ 100000000000 { live with codec := { live.codec with jobs := [j] } }; (s.up) ∧
    ((s.job j.id = some j) ∧ ((j.suspendedAt = some t) ∧
    ((j.polledAt + max 1 (s.rd F.CODEC_CHAIN_CTL_CHAIN_POLL) * 1000 ≤ s.now) ∧ ((s.entryValid j v = true)))))) ∧
    (let j : Job := { id := 5, ring := 13, desc := mkEntry [(0,1,0x20),(14,2,1)], op := 0, started := true, suspendedAt := some 0 };
    let t : Nat := 0; let v : Bool := false;
    let s : State := at_ 100000000000 (({ live with codec := { live.codec with jobs := [{ id := 5, ring := 13, desc := mkEntry [(0,1,0x20),(14,2,1)], op := 0, started := true, suspendedAt := some 0 }] } } : State).wrs [(F.CODEC_CHAIN_CTL_CHAIN_TMO,0)]);
    (s.up) ∧ ((s.job j.id = some j) ∧ ((j.suspendedAt = some t) ∧
    ((j.polledAt + max 1 (s.rd F.CODEC_CHAIN_CTL_CHAIN_POLL) * 1000 ≤ s.now) ∧ ((s.entryValid j v = false) ∧
    ((s.rd F.CODEC_CHAIN_CTL_CHAIN_TMO = 0)))))))) ∧
    ((let j : Job := { id := 5, ring := 13, desc := mkEntry [(0,1,0x20),(14,2,1)], op := 0, started := true, suspendedAt := some 0 };
    let t : Nat := 0; let v : Bool := false;
    let s : State := at_ 100000000000 (({ live with codec := { live.codec with jobs := [{ id := 5, ring := 13, desc := mkEntry [(0,1,0x20),(14,2,1)], op := 0, started := true, suspendedAt := some 0 }] } } : State).wrs [(F.CODEC_CHAIN_CTL_CHAIN_TMO,1)]);
    (s.up) ∧ ((s.job j.id = some j) ∧ ((j.suspendedAt = some t) ∧
    ((j.polledAt + max 1 (s.rd F.CODEC_CHAIN_CTL_CHAIN_POLL) * 1000 ≤ s.now) ∧ ((s.entryValid j v = false) ∧
    ((s.rd F.CODEC_CHAIN_CTL_CHAIN_TMO ≠ 0) ∧ ((t + s.rd F.CODEC_CHAIN_CTL_CHAIN_TMO * 1000000 ≤ s.now)))))))) ∧
    (let j : Job := { id := 5, ring := 13, desc := mkEntry [(0,1,0x20),(8,1,2),(9,1,2),(12,2,8),(14,2,1),(24,8,8),(44,4,1)], op := 2, started := true, wins := [⟨0,4095,true,true⟩] };
    let r : CodecRun := { frags := ⟨[(0,8)],1⟩, input := page8, chain := [⟨64,64,1,true⟩], mismatches := [], rerunAt := 0, ce := [], ue := [] };
    let s : State := { live with codec := { live.codec with jobs := [j] } };
    let out : List Byte := (s.jobOutput j.desc { r with input := s.jobInput j.desc r }).2.1;
    let cf : Nat := (s.jobOutput j.desc { r with input := s.jobInput j.desc r }).2.2.1;
    let ovr : Nat := (s.jobOutput j.desc { r with input := s.jobInput j.desc r }).2.2.2;
    let bufs : List (Nat × Nat) := [(64,64)]; let a : Nat := (s.jobChain j r.chain out.length).2.2; (s.up) ∧
    ((s.job j.id = some j) ∧ ((j.started = true) ∧ ((j.suspendedAt = none) ∧ ((r.mismatches = []) ∧ ((r.ce = []) ∧
    ((r.ue = []) ∧ (((j.op ≠ 4 → s.inWin j.wins false (dField j.desc 16 8) (16 * dField j.desc 14 2) = true ∧
    s.fragsPass j.wins r.frags.early (s.jobFrags j.desc r) = true ∧ dField j.desc 24 8 ≤ (s.jobInput j.desc r).length)) ∧
    ((s.jobOutput j.desc { r with input := s.jobInput j.desc r } = (0, out, cf, ovr)) ∧
    ((s.jobChain j r.chain out.length = (bufs, 0, a)))))))))))) ∧ (let r : Rec := { entries := [0, 0] };
    let rest : List Rec := [];
    let s : State := (live.modRing 23 (fun g => { g with waiting := [r] })).wrs [(F.RING_STAT_STATE 23,1)]; (s.up) ∧
    (((s.ring 23).waiting = r :: rest) ∧ ((s.roomFor 23 r = true))))) ∧ ((let r : Rec := { entries := [0, 0] };
    let rest : List Rec := [];
    let s : State := (live.modRing 29 (fun g => { g with waiting := [r] })).wrs [(F.RING_STAT_STATE 29,1)]; (s.up) ∧
    (((s.ring 29).waiting = r :: rest) ∧ ((s.roomFor 29 r = true)))) ∧ (let r : Rec := { entries := [0, 0] };
    let s : State := regs [(F.RING_STAT_STATE 29,1)]; (s.roomFor 29 r = true) ∧ ((s.rings.length = 32) ∧
    ((s.rd (F.RING_CFG_LOG2_SIZE 29) ≤ 16))))) :=
  ⟨by decide +kernel, by decide +kernel, by decide +kernel⟩

theorem witness_TableTransactions :
    ((let ds : List Desc := [mkEntry [(0,1,0x10)]]; let q : Fin 32 := 8; let s : State := ringed 8 ds live; (s.ringReady q ds) ∧
    ((classOf q = 1) ∧ ((dOpcode (ds.headD 0) = 0x10)))) ∧ (let ds : List Desc := [mkEntry [(0,1,0x11)]];
    let q : Fin 32 := 8; let s : State := ringed 8 ds live; (s.ringReady q ds) ∧ ((classOf q = 1) ∧
    ((dOpcode (ds.headD 0) = 0x11)))) ∧ (let t : TblTxn := { id := 4, ring := 8, descs := [mkEntry [(0,1,0x10)]] };
    let s : State := { live with tbl := { live.tbl with txns := [t] } }; (s.up) ∧ ((s.tblTxn t.id = some t) ∧
    ((t.started = false) ∧ ((s.tblMayStart t = true)))))) ∧
    ((let t : TblTxn := { id := 4, ring := 8, descs := [mkEntry [(0,1,0x10)]], started := true };
    let s : State := { live with tbl := { live.tbl with txns := [t] } }; (s.up) ∧ ((s.tblTxn t.id = some t) ∧
    ((t.started = true) ∧ ((t.left = 0))))) ∧ (let r : Rec := { entries := [0] }; let rest : List Rec := [];
    let s : State := (live.modRing 22 (fun g => { g with waiting := [r] })).wrs [(F.RING_STAT_STATE 22,1)]; (s.up) ∧
    (((s.ring 22).waiting = r :: rest) ∧ ((s.roomFor 22 r = true)))) ∧ (let d : Desc := mkEntry [(0,1,0x11),(8,1,2)];
    let id : Nat := 4; let st : Nat := 1; let t : TblTxn := { id := 4, ring := 8, descs := [d] };
    let s : State := ({ live with tbl := { live.tbl with txns := [t] } } : State).modTbl 1 (fun x => { x with banks := x.banks.map (fun b => { b with valid := 2047 }) });
    (s.tblTxn id = some t) ∧ ((switchFormat d = true) ∧ (((s.bank st (1 - s.activeBank st)).switchable = true) ∧
    ((dField d 9 1 = 0) ∧ ((s.slotOn st = none))))))) ∧ ((let d : Desc := mkEntry [(0,1,0x11),(8,1,2)]; let st : Nat := 1;
    let s : State := live; (switchFormat d = true) ∧ (((s.bank st (1 - s.activeBank st)).switchable = false))) ∧
    (let d : Desc := 0; let k : Nat := 3; (k < 4) ∧ ((loadType d = 0) ∧ ((loadIndex d ≠ k))))) :=
  ⟨by decide +kernel, by decide +kernel, by decide +kernel⟩

theorem witness_ScanEdges :
    ((let st : Fin 8 := 1; let t : Nat := 0; let e : Nat := 0;
    let s : State := (regs [(F.ST_SCANCTL_SCAN_EN 1,1),(F.ST_SCANCTL_NOSCAN 1,0),(F.ST_OCTETS_OCT_MASK 1,1),(F.PLL_STAT_STATE 5,4),(F.VIG_LSAFE_LATCHED,0),(F.OCT_STAT_VBS_OK 0,1),(F.ST_WDOG_MAX_ON 1,1000),(F.ST_ROLL_STAT_PHASE 1,1)]).modOct 0 (fun o => { o with enabled := true });
    (s.up) ∧ (((s.emitters st).find? (fun e => s.pulseOn st e t) = some e))) ∧ (let st : Fin 8 := 1; let t : Nat := 5;
    let s : State := (regs [(F.ST_SCANCTL_SCAN_EN 1,1),(F.ST_SCANCTL_NOSCAN 1,0),(F.ST_OCTETS_OCT_MASK 1,1)]); (s.up) ∧
    (((s.emitters st).find? (fun e => s.pulseOn st e t) = none))) ∧ (let st : Fin 8 := 1; let e : Nat := 0;
    let g : Edge := ⟨0,5,0⟩; let t : Nat := 50;
    let s : State := ((regs [(F.ST_SCANCTL_SCAN_EN 1,1),(F.ST_SCANCTL_NOSCAN 1,0),(F.ST_OCTETS_OCT_MASK 1,1),(F.PLL_STAT_STATE 5,4),(F.VIG_LSAFE_LATCHED,0),(F.OCT_STAT_VBS_OK 0,1),(F.ST_WDOG_MAX_ON 1,1000),(F.ST_SCAN_REF_T_REF 1,1000)]).modOct 0 (fun o => { o with enabled := true })).modSc 1 (fun c => { c with tf := some 0, last := [g] });
    (s.up) ∧ (((s.emitters st).find? (fun e => s.eosOn st e t) = some e) ∧
    (((if (s.sc st).refDone then (s.sc st).edges else (s.sc st).last).find? (fun g => g.e = e) = some g))))) ∧
    ((let s : State := live; let st : Fin 8 := 1; let t : Nat := 50; (s.up) ∧
    (((s.emitters st).find? (fun e => s.eosOn st e t) = none))) ∧ (let st : Fin 8 := 1; let e : Nat := 0; let t : Int := 50;
    let s : State := ((regs [(F.ST_SCANCTL_SCAN_EN 1,1),(F.ST_SCANCTL_NOSCAN 1,0),(F.ST_OCTETS_OCT_MASK 1,1),(F.PLL_STAT_STATE 5,4),(F.VIG_LSAFE_LATCHED,0),(F.OCT_STAT_VBS_OK 0,1),(F.ST_WDOG_MAX_ON 1,1000),(F.ST_SCAN_REF_T_REF 1,1000)]).modOct 0 (fun o => { o with enabled := true })).modSc 1 (fun c => { c with tf := some 0, last := [⟨0,5,0⟩] });
    (s.eosOn st e t = true)) ∧ (let st : Fin 8 := 1; let g : Edge := ⟨0,5,0⟩;
    let s : State := (regs [(F.ST_SCANCTL_SCAN_EN 1,1),(F.ST_SCANCTL_NOSCAN 1,0),(F.ST_OCTETS_OCT_MASK 1,1)]).modSc 1 (fun c => { c with edges := [g] });
    (s.up) ∧ ((s.scan.length = 8) ∧ ((s.on (F.ST_SCANCTL_SCAN_EN st) = true) ∧ ((s.on (F.ST_SCANCTL_NOSCAN st) = false) ∧
    (((s.sc st).refDone = false) ∧ (((s.sc st).edges = [g]) ∧ ((g.e = 0) ∧ ((s.sigState st ≠ 3) ∧
    (((s.sc st).gap = false))))))))))) ∧ ((let st : Fin 8 := 1; let t : Nat := 0;
    let s : State := at_ 100000 ((regs [(F.ST_FACET_PERIOD_PERIOD 1,1000)]).modSc 1 (fun c => { c with bdT := some 0 }));
    (s.up) ∧ (((s.sc st).bdT = some t) ∧ ((s.period st ≠ 0) ∧ ((t + 2 * s.period st < s.now * 250))))) ∧
    (let s : State := live; (s.up))) :=
  ⟨by decide +kernel, by decide +kernel, by decide +kernel⟩

theorem witness_MarksAndRegistration :
    ((let s : State := live; let k : Fin 16 := 2; let level : Bool := false; (s.up) ∧ (((s.mkPin k).raw = level))) ∧
    (let s : State := live; let k : Fin 16 := 0; let level : Bool := true; (s.up) ∧ ((s.mks.length = 16) ∧
    (((s.mkPin k).raw ≠ level) ∧ ((0 < s.rd (F.MK_CFG_FILT k)))))) ∧ (let k : Fin 16 := 2;
    let s : State := at_ 20000 { live with mks := live.mks.modify 2 (fun m => { m with raw := true }) };
    ((s.mkPin k).raw ≠ (s.mkPin k).level) ∧ (((s.mkPin k).at_ + 10 * s.rd (F.MK_CFG_FILT k) ≤ s.now)))) ∧
    ((let k : Fin 16 := 2; let i : Nat := 0; let n : Nat := 5; let w : Int := 0;
    let s : State := { regs [(F.MK_CFG_EN 2,1),(F.ALM_CTL_DELIV_MK_EN,0),(F.REG_PLAN_EN 5,1),(F.REG_PLAN_STATION 5,1),(F.REG_PLAN_SENSOR 5,2)] with regf := [{ mask := 2 }] };
    (s.on F.ALM_CTL_DELIV_MK_EN = false) ∧ ((s.on (F.MK_CFG_EN k) = true) ∧ ((s.markLead k w = some (i, n))))) ∧
    (let k : Fin 16 := 2; let i : Nat := 0; let n : Nat := 5; let t0 : Nat := 3; let w0 : Int := 0; let w : Int := 0;
    let s : State := { regs [(F.MK_CFG_EN 2,1),(F.ALM_CTL_DELIV_MK_EN,0),(F.REG_PLAN_EN 5,1),(F.REG_PLAN_STATION 5,1),(F.REG_PLAN_SENSOR 5,2)] with regf := [{ mask := 2, lead := [(5, 3, 0)] }] };
    (s.on F.ALM_CTL_DELIV_MK_EN = false) ∧ ((s.on (F.MK_CFG_EN k) = true) ∧ ((s.markTrail k w = some (i, n, t0, w0))))) ∧
    (let i : Nat := 0; let s : State := { live with regf := [{ mask := 2 }] }; (i < s.regf.length) ∧
    ((s.on F.MK_CTL_REC_EN = false)))) ∧ ((let st : Fin 8 := 1; let r : RegFrame := { mask := 2 };
    let s : State := { live with regf := [r] }; (s.up) ∧ ((s.regf = [r]) ∧ ((r.mask.testBit st = true) ∧
    ((r.updated.testBit st = false) ∧ ((s.marksClosed r = true)))))) ∧ (let r : RegFrame := { mask := 2 };
    let st : Nat := 1; let s : State := regs [(F.ST_REG_CTL_REF 1,0),(F.ST_REG_CTL_MIN_MARKS 1,1)];
    (s.rd (F.ST_REG_CTL_REF st) ≠ st) ∧ ((s.regCurrent r = false) ∧
    (((diffs r.inTrack st (s.rd (F.ST_REG_CTL_REF st))).length < s.rd (F.ST_REG_CTL_MIN_MARKS st)))))) :=
  ⟨by decide +kernel, by decide +kernel, by decide +kernel⟩

theorem witness_Octets :
    ((let s : State := live; (s.up)) ∧ (let r : Nat := 0; (sensorBad r = true)) ∧ (let n : Fin 16 := 15; let r : Nat := 32768;
    let s : State := regs [(F.OCT_TLIM_T_WARN 15,100),(F.OCT_TLIM_T_DERATE 15,110),(F.OCT_TLIM_T_CUT 15,120),(F.OCT_THERM_BETA 15,3435)];
    let t : Int := roundHalf (sumI ((betaTemp (s.rd (F.OCT_THERM_BETA n)) r :: (s.oct n).temps).take 4)) ((betaTemp (s.rd (F.OCT_THERM_BETA n)) r :: (s.oct n).temps).take 4).length;
    (sensorBad r = false) ∧
    ((t = roundHalf (sumI ((betaTemp (s.rd (F.OCT_THERM_BETA n)) r :: (s.oct n).temps).take 4)) ((betaTemp (s.rd (F.OCT_THERM_BETA n)) r :: (s.oct n).temps).take 4).length) ∧
    ((t < 16 * s.rd (F.OCT_TLIM_T_WARN n)) ∧ ((t < 16 * s.rd (F.OCT_TLIM_T_DERATE n)) ∧
    ((t < 16 * s.rd (F.OCT_TLIM_T_CUT n)) ∧ ((s.rd (F.OCT_STAT_CUT_HELD n) = 0) ∧
    ((s.rd (F.OCT_STAT_DERATED n) = 0))))))))) ∧ ((let n : Fin 16 := 0; let st : Nat := 1; let m : Nat := 100;
    let s : State := ((regs [(F.ST_SCANCTL_SCAN_EN 1,1),(F.ST_SCANCTL_NOSCAN 1,0),(F.ST_OCTETS_OCT_MASK 1,1),(F.PLL_STAT_STATE 5,4),(F.VIG_LSAFE_LATCHED,0),(F.OCT_STAT_VBS_OK 0,1),(F.ST_WDOG_MAX_ON 1,1000),(F.BM_APC_APC_EN 0,1),(F.BM_MOD_MOD 0,500),(F.BM_MOD_LIM_MOD_MAX 0,900),(F.BM_MOD_LIM_MOD_MIN 0,1)]).modOct 0 (fun o => { o with enabled := true })).modSc 1 (fun c => { c with tf := some 0, revs := 1 });
    (s.up) ∧ ((s.stationOf n = some st) ∧ (let b := s.apcBeam st n; let e := s.emitterOf st b;
    (s.on (F.BM_APC_APC_EN b) = true) ∧ ((s.on (F.ST_SCANCTL_SCAN_EN st) = true) ∧ (((s.sc st).tf.isSome = true) ∧
    ((s.pllKept st = true) ∧ ((s.excluded st b = false) ∧ ((s.dropped st e = false) ∧ (((s.oct n).enabled = true) ∧
    ((s.on (F.OCT_STAT_VBS_OK n) = true) ∧ ((s.on (F.ST_SCANCTL_NOSCAN st) = false) ∧ ((s.beamsBarred = false) ∧
    ((s.apcFits st e = true) ∧ ((s.apcMod b m ≠ s.rd (F.BM_MOD_LIM_MOD_MIN b)) ∧
    ((s.apcMod b m ≠ s.rd (F.BM_MOD_LIM_MOD_MAX b))))))))))))))))) ∧ (let n : Fin 16 := 0; let st : Nat := 1;
    let s : State := ((regs [(F.ST_SCANCTL_SCAN_EN 1,1),(F.ST_SCANCTL_NOSCAN 1,0),(F.ST_OCTETS_OCT_MASK 1,1),(F.PLL_STAT_STATE 5,4),(F.VIG_LSAFE_LATCHED,0),(F.OCT_STAT_VBS_OK 0,1),(F.ST_WDOG_MAX_ON 1,1000),(F.BM_APC_APC_EN 0,1),(F.BM_MOD_MOD 0,500),(F.BM_MOD_LIM_MOD_MAX 0,900),(F.BM_MOD_LIM_MOD_MIN 0,1),(F.ST_SCAN_REF_T_REF 1,1),(F.ST_SCAN_SOS_OFS 1,60000)]).modOct 0 (fun o => { o with enabled := true })).modSc 1 (fun c => { c with tf := some 0 });
    (s.up) ∧ ((s.stationOf n = some st) ∧ (let b := s.apcBeam st n; (s.on (F.BM_APC_APC_EN b) = true) ∧
    ((s.on (F.ST_SCANCTL_SCAN_EN st) = true) ∧ (((s.sc st).tf.isSome = true) ∧ ((s.pllKept st = true) ∧
    ((s.excluded st b = false) ∧ ((s.dropped st (s.emitterOf st b) = false) ∧ (((s.oct n).enabled = true) ∧
    ((s.on (F.OCT_STAT_VBS_OK n) = true) ∧ ((s.on (F.ST_SCANCTL_NOSCAN st) = false) ∧ ((s.beamsBarred = false) ∧
    ((s.apcFits st (s.emitterOf st b) = false)))))))))))))) ∧ (let b : Nat := 127; let s : State := live;
    (s.rd (F.BM_MOD_LIM_MOD_MIN b) ≤ s.rd (F.BM_MOD_LIM_MOD_MAX b)))) ∧ (let n : Fin 16 := 15; let v : Nat := 0;
    let t0 : Nat := 0;
    let s : State := at_ 1000000 ((regs [(F.OCT_VBS_WIN_VBS_MIN 15,0)]).modOct 15 (fun o => { o with bsenAt := some 0 }));
    (s.up) ∧ (((s.oct n).bsenAt = some t0) ∧ ((t0 + 1000000 ≤ s.now) ∧ ((s.vbsIn n v = true))))) :=
  ⟨by decide +kernel, by decide +kernel, by decide +kernel⟩

theorem witness_BeamCuts :
    ((let b : Fin 128 := 9; let run : Nat := 7; let st : Nat := 1;
    let s : State := (regs [(F.ST_SCANCTL_SCAN_EN 1,1),(F.ST_SCANCTL_NOSCAN 1,0),(F.ST_OCTETS_OCT_MASK 1,2),(F.PLL_STAT_STATE 5,4),(F.VIG_LSAFE_LATCHED,0),(F.OCT_STAT_VBS_OK 1,1),(F.BM_APC_APC_EN 8,1),(F.BM_MOD_LIM_MOD_MAX 8,1000),(F.BM_MOD_LIM_MOD_MIN 8,5)]);
    (s.up) ∧ ((s.beams.length = 128) ∧ ((s.stationOf (b / 8) = some st) ∧
    ((s.rd (F.ST_WDOG_MAX_ON st) < run ∨ s.inScan st (s.now * 250) = false))))) ∧ (let b : Fin 128 := 0;
    let run : Nat := 10; let st : Nat := 1;
    let s : State := (regs [(F.ST_SCANCTL_SCAN_EN 1,1),(F.ST_SCANCTL_NOSCAN 1,0),(F.ST_OCTETS_OCT_MASK 1,1),(F.PLL_STAT_STATE 5,4),(F.VIG_LSAFE_LATCHED,0),(F.OCT_STAT_VBS_OK 0,1),(F.ST_WDOG_MAX_ON 1,1000),(F.ST_ROLL_STAT_PHASE 1,1)]).modOct 0 (fun o => { o with enabled := true });
    (s.up) ∧ ((s.beams.length = 128) ∧ ((s.stationOf (b / 8) = some st) ∧ ((run ≤ s.rd (F.ST_WDOG_MAX_ON st)) ∧
    ((s.inScan st (s.now * 250) = true)))))) ∧ (let b : Fin 128 := 9;
    let s : State := (regs [(F.ST_SCANCTL_SCAN_EN 1,1),(F.ST_SCANCTL_NOSCAN 1,0),(F.ST_OCTETS_OCT_MASK 1,2),(F.PLL_STAT_STATE 5,4),(F.VIG_LSAFE_LATCHED,0),(F.OCT_STAT_VBS_OK 1,1),(F.BM_APC_APC_EN 8,1),(F.BM_MOD_LIM_MOD_MAX 8,1000),(F.BM_MOD_LIM_MOD_MIN 8,5),(F.BM_STAT_WD_CUT 9,1)]);
    (s.up) ∧ ((s.excluded ((s.stationOf (b / 8)).getD 8) b = true)))) ∧
    ((let s : State := (regs [(F.ST_SCANCTL_SCAN_EN 1,1),(F.ST_SCANCTL_NOSCAN 1,0),(F.ST_OCTETS_OCT_MASK 1,2),(F.PLL_STAT_STATE 5,4),(F.VIG_LSAFE_LATCHED,0),(F.OCT_STAT_VBS_OK 1,1),(F.BM_APC_APC_EN 8,1),(F.BM_MOD_LIM_MOD_MAX 8,1000),(F.BM_MOD_LIM_MOD_MIN 8,5)]);
    (s.up) ∧ (((∀ x ∈ s.justSet, x.2.2 / 10 ≠ s.now / 10)))) ∧ (let t : Nat := 0; let b : Fin 128 := 3;
    let s : State := { live with justSet := [((F.BM_STAT_WD_CUT 3).key, 1, live.now)] }; (s.up) ∧ ((t / 10 = s.now / 10) ∧
    ((((F.BM_STAT_WD_CUT b).key, 1, t) ∈ s.justSet)))) ∧
    (let s : State := (regs [(F.ST_SCANCTL_SCAN_EN 1,1),(F.ST_SCANCTL_NOSCAN 1,0),(F.ST_OCTETS_OCT_MASK 1,2),(F.PLL_STAT_STATE 5,4),(F.VIG_LSAFE_LATCHED,0),(F.OCT_STAT_VBS_OK 1,1),(F.BM_APC_APC_EN 8,1),(F.BM_MOD_LIM_MOD_MAX 8,1000),(F.BM_MOD_LIM_MOD_MIN 8,5)]);
    (s.up))) ∧ ((let st : Fin 8 := 1; let per : Nat := 1000;
    let s : State := at_ 1000000000 (((regs [(F.ST_SCANCTL_SCAN_EN 1,1),(F.ST_SCANCTL_NOSCAN 1,0),(F.ST_OCTETS_OCT_MASK 1,2),(F.PLL_STAT_STATE 5,4),(F.VIG_LSAFE_LATCHED,0),(F.OCT_STAT_VBS_OK 1,1),(F.BM_APC_APC_EN 8,1),(F.BM_MOD_LIM_MOD_MAX 8,1000),(F.BM_MOD_LIM_MOD_MIN 8,5),(F.ST_FACET_PERIOD_PERIOD 1,1000)])).modSc 1 (fun c => { c with first := false }));
    (s.up) ∧ ((s.duePeriod st = some per) ∧ ((s.on (F.ST_SCANCTL_SCAN_EN st) = true) ∧
    ((s.on (F.ST_SCANCTL_NOSCAN st) = false) ∧ (((s.sc st).since * 250 + 2 * per < s.now * 250)))))) ∧ (let st : Fin 8 := 1;
    let s : State := regs [(F.ST_SCANCTL_NOSCAN 1,1)]; (s.up) ∧ ((s.on (F.ST_SCANCTL_SCAN_EN st) = false))) ∧
    (let st : Fin 8 := 1; let s : State := regs [(F.ST_SCANCTL_NOSCAN 1,1),(F.ST_SCANCTL_SCAN_EN 1,1)]; (s.up) ∧
    ((s.on (F.ST_SCANCTL_SCAN_EN st) = true) ∧ ((s.phase st = 0))))) ∧ (let s : State := live; let st : Fin 8 := 1; (s.up) ∧
    ((s.on (F.ST_SCANCTL_SCAN_EN st) = false) ∧ ((s.on (F.ST_SCANCTL_NOSCAN st) = false)))) :=
  ⟨by decide +kernel, by decide +kernel, by decide +kernel, by decide +kernel⟩

theorem witness_SafetyLatch :
    ((let b : Bool := true; let s : State := regs [(F.VIG_LSAFE_B_LOW,0)]; (s.up) ∧
    ((s.on (if b then F.VIG_LSAFE_B_LOW else F.VIG_LSAFE_A_LOW) = false))) ∧ (let b : Bool := true;
    let s : State := regs [(F.VIG_LSAFE_B_LOW,1)]; (s.up) ∧
    ((s.on (if b then F.VIG_LSAFE_B_LOW else F.VIG_LSAFE_A_LOW) = true))) ∧ (let n : Fin 16 := 1; let v : Nat := 0;
    let s : State := ((regs [(F.ST_SCANCTL_SCAN_EN 1,1),(F.ST_SCANCTL_NOSCAN 1,0),(F.ST_OCTETS_OCT_MASK 1,2),(F.PLL_STAT_STATE 5,4),(F.VIG_LSAFE_LATCHED,0),(F.OCT_STAT_VBS_OK 1,1),(F.BM_APC_APC_EN 8,1),(F.BM_MOD_LIM_MOD_MAX 8,1000),(F.BM_MOD_LIM_MOD_MIN 8,5),(F.OCT_VBS_WIN_VBS_MIN 1,500),(F.OCT_VBS_WIN_VBS_MAX 1,900)])).modOct 1 (fun o => { o with bsenAt := some 0 });
    (s.up) ∧ (((s.oct n).bsenAt.isSome = true) ∧ ((s.on (F.OCT_STAT_VBS_OK n) = true) ∧ ((s.vbsIn n v = false)))))) ∧
    ((let s : State := at_ 100000000 (regs [(F.VIG_LSAFE_A_LOW,1),(F.VIG_LSAFE_B_LOW,0)]); (s.up) ∧
    ((s.lsafeDiffer = true) ∧ ((s.on F.VIG_LSAFE_DISAGREE = false) ∧ ((s.lsafe.changed + 50000000 < s.now))))) ∧
    (let s : State := at_ 100000000 (regs [(F.VIG_LSAFE_A_LOW,0),(F.VIG_LSAFE_B_LOW,0)]); (s.up) ∧
    ((s.lsafeDiffer = false) ∧ ((s.lsafe.changed + 10000000 ≤ s.now)))) ∧ (let k : Nat := 0;
    let s : State := regs [(F.VIG_LSAFE_A_LOW,1)]; (s.up) ∧ ((s.lsafeRefusal = some k)))) ∧
    ((let s : State := at_ 100000000 (regs [(F.VIG_LSAFE_A_LOW,0),(F.VIG_LSAFE_B_LOW,0),(F.VIG_LSAFE_LATCHED,1)]); (s.up) ∧
    ((s.lsafeRefusal = none) ∧ ((s.on F.VIG_LSAFE_LATCHED = true)))) ∧
    (let s : State := at_ 100000000 (regs [(F.VIG_LSAFE_A_LOW,0),(F.VIG_LSAFE_B_LOW,0),(F.VIG_LSAFE_LATCHED,1)]);
    (s.lsafeRefusal = none))) :=
  ⟨by decide +kernel, by decide +kernel, by decide +kernel⟩

theorem witness_RollCall :
    ((let st : Fin 8 := 1;
    let s : State := ((regs [(F.ST_SCANCTL_SCAN_EN 1,1),(F.ST_SCANCTL_NOSCAN 1,0),(F.ST_OCTETS_OCT_MASK 1,2),(F.PLL_STAT_STATE 5,4),(F.VIG_LSAFE_LATCHED,0),(F.OCT_STAT_VBS_OK 1,1),(F.BM_APC_APC_EN 8,1),(F.BM_MOD_LIM_MOD_MAX 8,1000),(F.BM_MOD_LIM_MOD_MIN 8,5),(F.ST_ROLL_STAT_PHASE 1,3)])).modSc 1 (fun c => { c with refDone := true });
    (s.up) ∧ ((s.scan.length = 8) ∧ (((s.sc st).refDone = true) ∧ ((2 ≤ s.phase st))))) ∧ (let st : Fin 8 := 1;
    let e : Nat := 2; let g : Edge := ⟨2,5,0⟩;
    let s : State := ((regs [(F.ST_SCANCTL_SCAN_EN 1,1),(F.ST_SCANCTL_NOSCAN 1,0),(F.ST_OCTETS_OCT_MASK 1,2),(F.PLL_STAT_STATE 5,4),(F.VIG_LSAFE_LATCHED,0),(F.OCT_STAT_VBS_OK 1,1),(F.BM_APC_APC_EN 8,1),(F.BM_MOD_LIM_MOD_MAX 8,1000),(F.BM_MOD_LIM_MOD_MIN 8,5)])).modSc 1 (fun c => { c with edges := [g] });
    ((s.sc st).edges.find? (fun g => g.e = e) = some g)) ∧ (let st : Fin 8 := 1; let e : Nat := 2;
    let s : State := (regs [(F.ST_SCANCTL_SCAN_EN 1,1),(F.ST_SCANCTL_NOSCAN 1,0),(F.ST_OCTETS_OCT_MASK 1,2),(F.PLL_STAT_STATE 5,4),(F.VIG_LSAFE_LATCHED,0),(F.OCT_STAT_VBS_OK 1,1),(F.BM_APC_APC_EN 8,1),(F.BM_MOD_LIM_MOD_MAX 8,1000),(F.BM_MOD_LIM_MOD_MIN 8,5)]);
    (e < 32) ∧ (((s.sc st).edges.find? (fun g => g.e = e) = none) ∧ ((s.dropped st e = false) ∧
    ((s.rd (F.BM_ROLL_MISS_RUN (s.beamOf st e)) = 0)))))) ∧ ((let st : Fin 8 := 1; let e : Nat := 2;
    let s : State := (regs [(F.ST_SCANCTL_SCAN_EN 1,1),(F.ST_SCANCTL_NOSCAN 1,0),(F.ST_OCTETS_OCT_MASK 1,2),(F.PLL_STAT_STATE 5,4),(F.VIG_LSAFE_LATCHED,0),(F.OCT_STAT_VBS_OK 1,1),(F.BM_APC_APC_EN 8,1),(F.BM_MOD_LIM_MOD_MAX 8,1000),(F.BM_MOD_LIM_MOD_MIN 8,5),(F.BM_ROLL_MISS_RUN 10,1)]);
    (e < 32) ∧ (((s.sc st).edges.find? (fun g => g.e = e) = none) ∧ ((s.dropped st e = false) ∧
    ((s.rd (F.BM_ROLL_MISS_RUN (s.beamOf st e)) = 1))))) ∧ (let st : Fin 8 := 1; let p : Nat := 3;
    let s : State := slot3 (fun y => { slotAt .imaging y with started := 2 }) live; (s.up) ∧ ((s.slotOn st = some p))) ∧
    (let st : Fin 8 := 1; let e : Fin 32 := 2;
    let s : State := (regs [(F.ST_SCANCTL_SCAN_EN 1,1),(F.ST_SCANCTL_NOSCAN 1,0),(F.ST_OCTETS_OCT_MASK 1,2),(F.PLL_STAT_STATE 5,4),(F.VIG_LSAFE_LATCHED,0),(F.OCT_STAT_VBS_OK 1,1),(F.BM_APC_APC_EN 8,1),(F.BM_MOD_LIM_MOD_MAX 8,1000),(F.BM_MOD_LIM_MOD_MIN 8,5),(F.ST_DROP_MAP_DROPPED 1,4)]);
    (s.up) ∧ ((s.slotOn st = none) ∧ ((s.dropped st e = true) ∧ ((s.rd (F.ST_RESTORE_PEND_PEND st) = 0) ∧
    (((∀ x ∈ (s.sc st).dropNow, x.1 = e.val → x.2 / 10 ≠ s.now / 10)))))))) ∧ (let s : State := live; (s.up)) :=
  ⟨by decide +kernel, by decide +kernel, by decide +kernel⟩

theorem witness_RingsAndHostResets :
    ((let q : Fin 32 := 0; let v : Nat := 7; let s : State := regs [(F.RING_STAT_STATE 0,1)]; (s.native) ∧
    ((s.ringState q ≠ 0) ∧ ((v < s.ringSize q) ∧ ((v < 65536) ∧ ((isH2D q = true) ∧ ((q ≠ 28))))))) ∧ (let q : Fin 32 := 20;
    let v : Nat := 7; let s : State := regs [(F.RING_STAT_STATE 20,1)]; (s.native) ∧ ((s.ringState q ≠ 0) ∧
    ((v < s.ringSize q) ∧ ((v < 65536) ∧ ((isH2D q = false)))))) ∧ (let s : State := live; let q : Fin 32 := 0; (s.native) ∧
    ((s.ringState q = 0)))) ∧ ((let q : Fin 32 := 0; let v : Nat := 65535;
    let s : State := regs [(F.RING_STAT_STATE 0,1),(F.RING_CFG_LOG2_SIZE 0,3)]; (s.native) ∧ ((s.ringState q ≠ 0) ∧
    ((s.ringSize q ≤ v)))) ∧ (let q : Fin 32 := 0;
    let s : State := regs [(F.RING_CFG_LOG2_SIZE 0,3),(F.FW_BASE_LO_VALID 0,1),(F.FW_BASE_LO_READ 0,1)]; (s.native) ∧
    ((s.rings.length = 32) ∧ ((s.ringState q = 0) ∧ ((s.ringBad q = none))))) ∧ (let s : State := live; let q : Fin 32 := 0;
    let r : Nat := 1; (s.native) ∧ ((s.ringState q = 0) ∧ ((s.ringBad q = some r))))) ∧ ((let q : Fin 32 := 0;
    let s : State := regs [(F.RING_STAT_STATE 0,1)]; (s.native) ∧ ((s.rings.length = 32) ∧ ((s.ringState q ≠ 0)))) ∧
    (let s : State := live; (s.up)) ∧ (let t0 : Nat := 0;
    let s : State := {live with host := {live.host with flrAt := some 0}}; (s.up) ∧ ((s.host.flrAt = some t0)))) ∧
    ((let k : Nat := 1; let s : State := {live with host := {live.host with resetCause := some 1}}; (s.up) ∧
    ((s.host.resetCause = some k))) ∧ (let s : State := live; (s.up) ∧ ((s.host.resetCause = none)))) :=
  ⟨by decide +kernel, by decide +kernel, by decide +kernel, by decide +kernel⟩

theorem witness_DescriptorReads :
    ((let q : Fin 32 := 0; let d : Desc := mkEntry [(1,1,1)];
    let s : State := regs [(F.RING_STAT_STATE 0,1),(F.RING_IDX_PI 0,2)]; (s.up) ∧ ((isH2D q = true) ∧ ((s.ringState q = 1) ∧
    (((s.ring q).rereadAt = none) ∧ (((s.ring q).errAt = none) ∧ (((s.ring q).fetched.length < s.produced q) ∧
    ((dPhase d = s.expectedPhase q (s.ring q).fetched.length)))))))) ∧ (let q : Fin 32 := 0; let d : Desc := 0;
    let s : State := regs [(F.RING_STAT_STATE 0,1),(F.RING_IDX_PI 0,2)]; (s.up) ∧ ((isH2D q = true) ∧ ((s.ringState q = 1) ∧
    (((s.ring q).rereadAt = none) ∧ (((s.ring q).errAt = none) ∧ (((s.ring q).fetched.length < s.produced q) ∧
    ((dPhase d ≠ s.expectedPhase q (s.ring q).fetched.length)))))))) ∧ (let q : Fin 32 := 0; let t : Nat := 0;
    let d : Desc := mkEntry [(1,1,1)];
    let s : State := (regs [(F.RING_STAT_STATE 0,1),(F.RING_IDX_PI 0,2)]).modRing 0 (fun g => { g with rereadAt := some 0 });
    (s.up) ∧ ((s.ringState q = 1) ∧ (((s.ring q).rereadAt = some t) ∧ ((t ≤ s.now) ∧
    ((dPhase d = s.expectedPhase q (s.ring q).fetched.length))))))) ∧ ((let q : Fin 32 := 0; let t : Nat := 0;
    let d : Desc := 0;
    let s : State := (regs [(F.RING_STAT_STATE 0,1),(F.RING_IDX_PI 0,2)]).modRing 0 (fun g => { g with rereadAt := some 0 });
    (s.up) ∧ ((s.ringState q = 1) ∧ (((s.ring q).rereadAt = some t) ∧ ((t ≤ s.now) ∧
    ((dPhase d ≠ s.expectedPhase q (s.ring q).fetched.length)))))) ∧ (let q : Fin 32 := 0;
    let s : State := regs [(F.RING_STAT_STATE 0,1),(F.RING_IDX_PI 0,2)]; (s.headTxn q = none)) ∧ (let c : Nat := 1;
    let s : State := regs [(F.RING_STAT_STATE 0,1),(F.RING_IDX_PI 0,2)]; (s.rings.length = 32) ∧ ((c < 4)))) ∧
    ((let q : Fin 32 := 0; let k : Fin 32 := 1; let c : Nat := 1;
    let s : State := regs [(F.RING_STAT_STATE 0,1),(F.RING_IDX_PI 0,2)]; (s.rings.length = 32) ∧ ((c < 4) ∧ ((k ≠ q)))) ∧
    (let q : Fin 32 := 0; let s : State := regs [(F.RING_STAT_STATE 0,1),(F.RING_IDX_PI 0,2)]; (s.up) ∧ ((isH2D q = true) ∧
    ((s.ringState q = 1) ∧ ((q ≠ 28) ∧ (((s.ring q).errAt = none) ∧ (((s.ring q).fetched.length < s.produced q) ∧
    (((s.ring q).retry = false)))))))) ∧ (let q : Fin 32 := 0;
    let s : State := (regs [(F.RING_STAT_STATE 0,1),(F.RING_IDX_PI 0,2)]).modRing 0 (fun g => { g with retry := true });
    (s.up) ∧ ((isH2D q = true) ∧ ((s.ringState q = 1) ∧ ((q ≠ 28) ∧ (((s.ring q).errAt = none) ∧
    (((s.ring q).fetched.length < s.produced q) ∧ (((s.ring q).retry = true))))))))) ∧ ((let p : Fin 160 := 3;
    let st : Fin 8 := 1; let s : State := slot3 (slotAt .staging) live; (s.up) ∧ (((s.slot p).st = .staging) ∧
    (((s.slot p).mask.testBit st = true)))) ∧ (let d : Desc := mkEntry [(1,1,1)];
    let s : State := regs [(F.RING_STAT_STATE 28,1),(F.RING_IDX_PI 28,2)]; (s.up) ∧ ((s.ringState 28 = 1) ∧
    (((s.ring 28).polledAt = none) ∧ (((s.ring 28).fetched = []) ∧ (((s.ring 28).rereadAt = none) ∧
    (((s.ring 28).errAt = none) ∧ ((dPhase d = s.expectedPhase 28 0) ∧ ((s.produced 28 ≠ 0))))))))) ∧ (let d : Desc := 0;
    let s : State := regs [(F.RING_STAT_STATE 28,1)]; (s.up) ∧ ((s.ringState 28 = 1) ∧ (((s.ring 28).polledAt = none) ∧
    (((s.ring 28).fetched = []) ∧ (((s.ring 28).rereadAt = none) ∧ (((s.ring 28).errAt = none) ∧
    ((dPhase d ≠ s.expectedPhase 28 0) ∧ (((s.ring 28).bell = s.rd (F.RING_IDX_CI 28))))))))))) :=
  ⟨by decide +kernel, by decide +kernel, by decide +kernel, by decide +kernel⟩

theorem witness_RecordsAndMessages :
    ((let q : Fin 32 := 0;
    let s : State := (regs [(F.RING_STAT_STATE 0,1),(F.RING_WB_LO_WB_L 0,4),(F.FW_BASE_LO_VALID 0,1),(F.FW_BASE_LO_WRITE 0,1)]).modRing 0 (fun g => { g with wbDue := true });
    (s.up) ∧ ((s.rings.length = 32) ∧ (((s.ring q).wbDue = true) ∧ (((s.ring q).wbAt = none) ∧ ((s.ringWb q ≠ 0) ∧
    ((isH2D q = true) ∧ ((s.inWindow true (s.ringWb q) 4 = true)))))))) ∧ (let s : State := live; let q : Fin 32 := 0;
    (s.up) ∧ ((s.inWindow true (s.ringWb q) 4 = false))) ∧
    (let e : Ev := ({ sev := 1, code := 0x9020, block := 2, inst := 0, detail := 0, etime := 0, wpos := 0, src := 0, tag := 0, seq := 0 } : Ev);
    let rest : List Ev := [];
    let s : State := { regs [(F.RING_STAT_STATE 25,1)] with host := { live.host with evq := [e] } }; (s.up) ∧
    ((s.host.evq = e :: rest) ∧ ((s.roomFor 25 ⟨[eventEntry e], false, none, none, none⟩ = true))))) ∧
    ((let r : Rec := { entries := [0] }; let rest : List Rec := [];
    let s : State := (live.modRing 24 (fun g => { g with waiting := [r] })).wrs [(F.RING_STAT_STATE 24,1)]; (s.up) ∧
    (((s.ring 24).waiting = r :: rest) ∧ ((s.roomFor 24 r = true)))) ∧ (let v : Fin 64 := 63; let t0 : Nat := 0;
    let s : State := at_ 100000000000 { live with host := { live.host with vecs := live.host.vecs.map (fun x => { x with firstAt := some 0 }) } };
    (s.up) ∧ ((s.host.vecs.length = 64) ∧ (((s.host.vecs.getD v {}).firstAt = some t0) ∧
    ((t0 + s.rd (F.VEC_MOD_MOD_TIME v) * 1000 ≤ s.now))))) ∧ (let s : State := live; (s.up) ∧
    ((s.host.vecs.length = 64)))) ∧ ((let n : Nat := 63;
    let s : State := { live with host := { live.host with vecs := live.host.vecs.map (fun x => { x with masked := false }) } };
    (n < s.host.vecs.length) ∧ ((s.rd F.GLB_MODE_MODE = 0) ∧ (((s.host.vecs.getD n {}).masked = false)))) ∧
    (let s : State := live; let q : Nat := 20; let r : Rec := { entries := [0] }; (s.roomFor q r = false)) ∧
    (let s : State := live; (s.host.evq.length ≤ 256))) ∧
    (let e := ({ sev := 1, code := 0x9020, block := 2, inst := 0, detail := 0, etime := 0, wpos := 0, src := 0, tag := 0, seq := 0 } : Ev);
    let sev : Nat := 1; let s : State := { live with host := { live.host with evq := List.replicate 256 e } };
    (s.rd F.GLB_MODE_MODE = 0) ∧ ((sev ≤ 1) ∧ ((256 ≤ s.host.evq.length)))) :=
  ⟨by decide +kernel, by decide +kernel, by decide +kernel, by decide +kernel⟩

theorem witness_RingAdministration :
    ((let ds : List Desc := [mkEntry [(0,1,112)]]; let s : State := ringed 31 ds live; (s.ringReady 31 ds) ∧
    ((dOpcode (ds.headD 0) = 0x70))) ∧ (let ds : List Desc := [mkEntry [(0,1,113)]]; let s : State := ringed 31 ds live;
    (s.ringReady 31 ds) ∧ ((dOpcode (ds.headD 0) = 0x71))) ∧ (let ds : List Desc := [mkEntry [(0,1,114)]];
    let s : State := ringed 31 ds live; (s.ringReady 31 ds) ∧ ((dOpcode (ds.headD 0) = 0x72)))) ∧
    ((let ds : List Desc := [mkEntry [(0,1,115)]]; let s : State := ringed 31 ds live; (s.ringReady 31 ds) ∧
    ((dOpcode (ds.headD 0) = 0x73))) ∧ (let ds : List Desc := [mkEntry [(0,1,116)]]; let s : State := ringed 31 ds live;
    (s.ringReady 31 ds) ∧ ((dOpcode (ds.headD 0) = 0x74))) ∧ (let ds : List Desc := [mkEntry [(0,1,117)]];
    let s : State := ringed 31 ds live; (s.ringReady 31 ds) ∧ ((dOpcode (ds.headD 0) = 0x75)))) ∧
    ((let d : Desc := mkEntry [(0,1,0x70)]; let s : State := regs [(F.RING_STAT_STATE 0,1)]; (dCount d = 0) ∧
    ((dZero d 9 63 = true) ∧ ((dField d 8 1 < 31) ∧ ((dOpcode d = 0x70) ∧ ((s.ringState (dField d 8 1) = 1)))))) ∧
    (let d : Desc := mkEntry [(0,1,0x71)]; let s : State := regs [(F.RING_STAT_STATE 0,2)]; (dCount d = 0) ∧
    ((dZero d 9 63 = true) ∧ ((dField d 8 1 < 31) ∧ ((dOpcode d = 0x71) ∧ ((s.ringState (dField d 8 1) = 2)))))) ∧
    (let d : Desc := mkEntry [(0,1,0x72)]; let s : State := regs [(F.RING_STAT_STATE 0,3)]; (dCount d = 0) ∧
    ((dZero d 9 63 = true) ∧ ((dField d 8 1 < 31) ∧ ((dOpcode d = 0x72) ∧
    ((s.ringState (dField d 8 1) = 2 ∨ s.ringState (dField d 8 1) = 3))))))) ∧ ((let d : Desc := mkEntry [(0,1,0x70)];
    let s : State := live; (dCount d = 0) ∧ ((dZero d 9 63 = true) ∧ ((dField d 8 1 < 31) ∧ ((dOpcode d = 0x70) ∧
    ((s.ringState (dField d 8 1) ≠ 1)))))) ∧ (let d : Desc := mkEntry [(0,1,0x71)]; let s : State := live; (dCount d = 0) ∧
    ((dZero d 9 63 = true) ∧ ((dField d 8 1 < 31) ∧ ((dOpcode d = 0x71) ∧ ((s.ringState (dField d 8 1) ≠ 2)))))) ∧
    (let d : Desc := mkEntry [(0,1,0x72)]; let s : State := live; (dCount d = 0) ∧ ((dZero d 9 63 = true) ∧
    ((dField d 8 1 < 31) ∧ ((dOpcode d = 0x72) ∧ ((s.ringState (dField d 8 1) = 0 ∨ s.ringState (dField d 8 1) = 1))))))) ∧
    ((let d : Desc := mkEntry [(0,1,0x72),(8,1,31)]; (dOpcode d = 0x70 ∨ dOpcode d = 0x71 ∨ dOpcode d = 0x72) ∧
    ((dCount d = 0) ∧ ((dZero d 9 63 = true) ∧ ((dField d 8 1 = 31))))) ∧
    (let d : Desc := mkEntry [(0,1,0x74),(8,1,5),(9,1,3),(16,8,4096),(24,8,8191)]; let s : State := live;
    let v : State := ((s.admin d).elim (fun _ => (s, false)) id).1; let b : Bool := ((s.admin d).elim (fun _ => (s,
    false)) id).2; (s.admin d = .inr (v, b)) ∧ ((dOpcode d = 0x74))) ∧ (let i : Nat := 0; let ds : List Desc := [];
    let s : State := live; let v : State := live; let n : Bool := false; let b : Bool := false;
    (adminAll i ds s n = .inr (v, b)))) :=
  ⟨by decide +kernel, by decide +kernel, by decide +kernel, by decide +kernel, by decide +kernel⟩

theorem witness_Bezel :
    ((let ds : List Desc := [mkEntry [(0,1,0x40),(8,4,0x580004),(12,4,0xFFFFFFFF),(16,4,7)]]; let q : Fin 32 := 16;
    let s : State := ringed 16 ds live; (s.machReady q ds) ∧ ((s.endsCycle ds = true) ∧ ((bezelRow ds = 0x40)))) ∧
    (let ds : List Desc := [mkEntry [(0,1,0x41)]]; let q : Fin 32 := 16;
    let s : State := { (ringed 16 ds live) with bezel := { live.bezel with late := [9] } }; (s.machReady q ds) ∧
    ((s.endsCycle ds = true) ∧ ((bezelRow ds = 0x41)))) ∧ (let ds : List Desc := [mkEntry [(0,1,0x44)]];
    let q : Fin 32 := 16; let s : State := { (ringed 16 ds live) with bezel := { live.bezel with late := [9] } };
    (s.machReady q ds) ∧ ((s.endsCycle ds = true) ∧ ((bezelRow ds = 0x44))))) ∧
    ((let ds : List Desc := [mkEntry [(0,1,0x42)]]; let q : Fin 32 := 16;
    let s : State := { (ringed 16 ds live) with bezel := { live.bezel with late := [9] } }; (s.machReady q ds) ∧
    ((s.endsCycle ds = true) ∧ ((bezelRow ds = 0x42)))) ∧ (let ds : List Desc := [mkEntry [(0,1,0x43)]];
    let q : Fin 32 := 16; let s : State := { (ringed 16 ds live) with bezel := { live.bezel with late := [9] } };
    (s.machReady q ds) ∧ ((s.endsCycle ds = true) ∧ ((bezelRow ds = 0x43)))) ∧ (let d : Desc := mkEntry [(0,1,0x42)];
    let s : State := regs [(F.PWR_STAT_STATE,2),(F.ISL_STAT_STATE 0,4),(F.ALM_DELIV_POS_DELIV_POS,1000)];
    (dOpcode d = 0x42) ∧ ((bezelShape [d] = true) ∧ ((bezelFormat d = true) ∧ ((s.armRefusal = none)))))) ∧
    ((let s : State := live; let d : Desc := mkEntry [(0,1,0x43)]; (dOpcode d = 0x43) ∧ ((bezelShape [d] = true) ∧
    ((bezelFormat d = true) ∧ ((s.inFlight = 0))))) ∧ (let s : State := live; let d : Desc := mkEntry [(0,1,0x44)];
    (dOpcode d = 0x44) ∧ ((dField d 8 1 = 0) ∧ ((bezelShape [d] = true) ∧ ((bezelFormat d = true) ∧
    ((s.discardFail s.writtenGroups = none)))))) ∧ (let k : Nat := (F.ST_DS_NOM_DS_NOM 1).key;
    let gs : List Nat := [groupOfKey k]; (gs.contains (groupOfKey k) = true))) ∧ ((let s : State := live; (s.up) ∧
    ((s.commitFail s.writtenGroups = none))) ∧ (let g : Nat := groupOfKey (F.ST_DS_NOM_DS_NOM 1).key;
    let s : State := regs [(F.BEZEL_CMD_FIELD_FIELD_ID, fieldId (F.ST_DS_NOM_DS_NOM 1).key)]; (s.up) ∧
    ((groupOfFieldId (s.rd F.BEZEL_CMD_FIELD_FIELD_ID) = some g) ∧ ((s.commitFail [g] = none)))) ∧
    (let g : Nat := groupOfKey (F.ST_DS_NOM_DS_NOM 1).key;
    let s : State := regs [(F.BEZEL_CMD_FIELD_FIELD_ID, fieldId (F.ST_DS_NOM_DS_NOM 1).key)]; (s.up) ∧
    ((groupOfFieldId (s.rd F.BEZEL_CMD_FIELD_FIELD_ID) = some g) ∧ ((s.discardFail [g] = none))))) ∧
    ((let s : State := live; (s.up) ∧ ((s.discardFail s.writtenGroups = none))) ∧
    (let s : State := regs [(F.PWR_STAT_STATE,2),(F.ISL_STAT_STATE 0,4),(F.ALM_DELIV_POS_DELIV_POS,1000)]; (s.up) ∧
    ((s.armRefusal = none) ∧ ((s.rd F.GLB_MODE_MODE = 0)))) ∧ (let s : State := live; (s.up) ∧ ((s.inFlight = 0) ∧
    ((s.rd F.GLB_MODE_MODE = 0))))) ∧ (let g : Nat := groupOfKey (F.ST_DS_NOM_DS_NOM 1).key;
    let k : Nat := (F.ST_DS_NOM_DS_NOM 1).key; let fid : Word := BitVec.ofNat 32 (fieldId k); let rest : List Nat := [];
    let s : State := live.stage (F.ST_DS_NOM_DS_NOM 1) 5; (s.up) ∧ ((groupOfFieldId fid.toNat = some g) ∧
    ((s.stagedKeys g ++ (s.leg.due.map (·.1)).filter (fun k => groupOfKey k = g) = k :: rest) ∧
    ((s.effectDue (kindOfKey k).1 (kindOfKey k).2.1 = true))))) ∧
    (let ds : List Desc := [mkEntry [(0,1,0x40),(8,4,0x110100),(12,4,0xFFFFFFFF),(16,4,64)]]; let q : Fin 32 := 16;
    let s : State := ringed 16 ds (live); (s.machReady q ds ∧ s.entersVigil ds = false ∧ s.endsCycle ds = false ∧
    bezelRow ds = 0x40) ∧ ((∃ o₁ o₂ o₃, (s.machState q ds).applyMach (s.machRef q ds) ds = .done o₁ o₂ o₃))) ∧
    (let ds : List Desc := [mkEntry [(0,1,0x41)]]; let q : Fin 32 := 16; let s : State := ringed 16 ds (live);
    (s.machReady q ds ∧ s.entersVigil ds = false ∧ s.endsCycle ds = false ∧ bezelRow ds = 0x41) ∧ ((∃ o₁ o₂ o₃,
    (s.machState q ds).applyMach (s.machRef q ds) ds = .done o₁ o₂ o₃))) ∧ (let ds : List Desc := [mkEntry [(0,1,0x44)]];
    let q : Fin 32 := 16; let s : State := ringed 16 ds (live); (s.machReady q ds ∧ s.entersVigil ds = false ∧
    s.endsCycle ds = false ∧ bezelRow ds = 0x44) ∧ ((∃ o₁ o₂ o₃,
    (s.machState q ds).applyMach (s.machRef q ds) ds = .done o₁ o₂ o₃))) ∧ (let ds : List Desc := [mkEntry [(0,1,0x42)]];
    let q : Fin 32 := 16;
    let s : State := ringed 16 ds (regs [(F.PWR_STAT_STATE,2),(F.ISL_STAT_STATE 0,4),(F.ALM_DELIV_POS_DELIV_POS,1000)]);
    (s.machReady q ds ∧ s.entersVigil ds = false ∧ s.endsCycle ds = false ∧ bezelRow ds = 0x42) ∧ ((∃ o₁ o₂ o₃,
    (s.machState q ds).applyMach (s.machRef q ds) ds = .done o₁ o₂ o₃))) ∧ (let ds : List Desc := [mkEntry [(0,1,0x43)]];
    let q : Fin 32 := 16; let s : State := ringed 16 ds (live); (s.machReady q ds ∧ s.entersVigil ds = false ∧
    s.endsCycle ds = false ∧ bezelRow ds = 0x43) ∧ ((∃ o₁ o₂ o₃,
    (s.machState q ds).applyMach (s.machRef q ds) ds = .done o₁ o₂ o₃))) :=
  ⟨by decide +kernel, by decide +kernel, by decide +kernel, by decide +kernel, by decide +kernel, by decide +kernel,
    ⟨by decide +kernel, done_of _ (by decide +kernel)⟩, ⟨by decide +kernel, done_of _ (by decide +kernel)⟩,
    ⟨by decide +kernel, done_of _ (by decide +kernel)⟩, ⟨by decide +kernel, done_of _ (by decide +kernel)⟩,
    ⟨by decide +kernel, done_of _ (by decide +kernel)⟩⟩

theorem witness_PllStates :
    ((let s : State := live; let p : Fin 12 := 11; (s.up) ∧ ((4 ≤ p.val))) ∧ (let p : Fin 12 := 5;
    let s : State := regs [(F.PWR_DOM_LEVEL 9,2)]; (s.up) ∧ ((4 ≤ p.val) ∧ ((s.pllState p = 0) ∧
    (((s.wr (F.PLL_CTL_EN p) 1).domOn (4 + p) = true))))) ∧ (let p : Fin 12 := 5; let fcw : Nat := 1342177280;
    let k : Nat := 0;
    let s : State := regs [(F.PLL_BAND_B_VALID 5 0,1),(F.PLL_BAND_A_FMIN 5 0,35000),(F.PLL_BAND_A_FMAX 5 0,45000)];
    (s.bezel.pending = []) ∧ ((s.bandServes p fcw = some k)))) ∧ ((let p : Fin 12 := 5;
    let s : State := at_ 100000 (live.modPll 5 (fun x => { x with searching := true })); (s.up) ∧
    (((s.pll p).searching = true) ∧ (((s.pll p).pullAt + 36000 ≤ s.now)))) ∧ (let p : Fin 12 := 5; let err : Int := 0;
    let s : State := regs [(F.PLL_STAT_STATE 5,2)]; (s.up) ∧ ((s.pllState p = 2) ∧
    ((err.natAbs ≤ s.rd (F.PLL_LOCKCFG_CWIN p))))) ∧ (let p : Fin 12 := 5; let err : Int := 0; let k : Nat := 2;
    let s : State := regs [(F.PLL_STAT_STATE 5,3),(F.PLL_HOP_B_VALID 5 2,1),(F.PLL_HOP_A_FCW 5 2,1342177280),(F.PLL_RAMP_FCW_FCW_NOW 5,1342177280)];
    (s.up) ∧ ((s.pllState p = 3) ∧ ((err.natAbs ≤ s.rd (F.PLL_LOCKCFG_LOCK_WIN p)) ∧ (((s.pll p).hops = []) ∧
    ((s.hopFor p (s.fcwUse p) = some k))))))) ∧ ((let p : Fin 12 := 5; let err : Int := 100000;
    let s : State := regs [(F.PLL_STAT_STATE 5,4)]; (s.up) ∧ ((s.pllState p = 4) ∧
    ((s.rd (F.PLL_LOCKCFG_LOCK_WIN p) < err.natAbs)))) ∧ (let p : Fin 12 := 5; let err : Int := 100000;
    let s : State := regs [(F.PLL_STAT_STATE 5,4)]; (s.up) ∧ ((s.coarse p = true) ∧
    ((s.rd (F.PLL_LOCKCFG_CWIN p) < err.natAbs)))) ∧ (let p : Fin 12 := 5; let s : State := regs [(F.PLL_STAT_STATE 5,4)];
    (s.up) ∧ ((s.coarse p = true)))) ∧ ((let p : Fin 12 := 5; let s : State := regs [(F.PLL_STAT_STATE 5,2)]; (s.up) ∧
    ((s.coarse p = false) ∧ ((s.pllState p = 2)))) ∧ (let p : Fin 12 := 5;
    let s : State := at_ 1000000 (regs [(F.PLL_STAT_STATE 5,2),(F.PLL_CTL_SEARCH_EN 5,1)]); (s.up) ∧ ((s.pllState p = 2) ∧
    (((s.pll p).pullAt + 1000000 ≤ s.now) ∧ (((s.pll p).searched = false) ∧ ((s.on (F.PLL_CTL_SEARCH_EN p) = true)))))) ∧
    (let p : Fin 12 := 5;
    let s : State := at_ 1000000 ((regs [(F.PLL_STAT_STATE 5,2)]).modPll 5 (fun x => { x with searched := true })); (s.up) ∧
    ((s.pllState p = 2) ∧ (((s.pll p).pullAt + 1000000 ≤ s.now) ∧ (((s.pll p).searched = true)))))) ∧
    ((let s : State := regs [(F.CLK_REF_REF_OK,1)]; (s.up) ∧ ((s.on F.CLK_REF_REF_OK = true))) ∧
    (let s : State := at_ 100000000 (regs [(F.CLK_REF_REF_OK,0)]); (s.up) ∧ ((s.on F.CLK_REF_REF_OK = false) ∧
    ((s.clk.refLostAt + 10000 ≤ s.now)))) ∧ (let s : State := live; (s.up))) ∧ ((let p : Fin 12 := 5; let t0 : Nat := 0;
    let s : State := at_ 10000000 (live.modPll 5 (fun x => { x with hops := [(none, 0)] })); (s.up) ∧
    ((s.clk.plls.length = 12) ∧ (((s.pll p).hops = [(none, t0)]) ∧ ((t0 + 2000000 ≤ s.now))))) ∧ (let p : Fin 12 := 2;
    let err : Int := 30000; let s : State := regs [(F.PLL_STAT_STATE 2,4)]; (s.up) ∧ ((p.val < 4) ∧ ((s.pllState p = 4) ∧
    ((s.rd (F.PLL_LOCKCFG_LOCK_WIN p) < err.natAbs) ∧ ((err.natAbs < 32768))))))) :=
  ⟨by decide +kernel, by decide +kernel, by decide +kernel, by decide +kernel, by decide +kernel, by decide +kernel⟩

theorem witness_ClockCommands :
    ((let d : Desc := mkEntry [(0,1,0x3C),(8,1,5),(9,1,0),(12,4,1342177280)]; let q : Fin 32 := 16;
    let s : State := ringed 16 [d] (regs [(F.PLL_FCW_FCW 5,1342177280),(F.PLL_RAMP_FCW_FCW_NOW 5,1342177280),(F.PLL_STAT_STATE 5,4),(F.PLL_BAND_B_VALID 5 0,1),(F.PLL_BAND_A_FMIN 5 0,35000),(F.PLL_BAND_A_FMAX 5 0,45000)]);
    (s.machReady q [d]) ∧ ((dOpcode d = 0x3C))) ∧ (let d : Desc := mkEntry [(0,1,0x3C),(8,1,5),(9,1,0)];
    (clkFormat d = true) ∧ ((4 ≤ dField d 8 1) ∧ ((dOpcode d = 0x3C) ∧ ((dField d 9 1 = 0))))) ∧
    (let d : Desc := mkEntry [(0,1,0x3D),(8,1,5),(9,1,0)];
    let s : State := regs [(F.PLL_FCW_FCW 5,1342177280),(F.PLL_RAMP_FCW_FCW_NOW 5,1342177280),(F.PLL_STAT_STATE 5,4),(F.PLL_BAND_B_VALID 5 0,1),(F.PLL_BAND_A_FMIN 5 0,35000),(F.PLL_BAND_A_FMAX 5 0,45000)];
    (clkFormat d = true) ∧ ((4 ≤ dField d 8 1) ∧ ((dOpcode d = 0x3D) ∧ ((dField d 9 1 = 0) ∧
    ((s.pllState (dField d 8 1) = 4))))))) ∧ ((let d : Desc := mkEntry [(0,1,0x3D),(8,1,5),(9,1,1)]; (clkFormat d = true) ∧
    ((4 ≤ dField d 8 1) ∧ ((dOpcode d = 0x3D) ∧ ((dField d 9 1 = 1))))) ∧
    (let d : Desc := mkEntry [(0,1,0x3D),(8,1,5),(9,1,2)]; (clkFormat d = true) ∧ ((4 ≤ dField d 8 1) ∧
    ((dOpcode d = 0x3D) ∧ ((dField d 9 1 = 2))))) ∧ (let d : Desc := mkEntry [(0,1,0x3E),(8,1,5),(9,1,7)];
    let s : State := regs [(F.PLL_FCW_FCW 5,1342177280),(F.PLL_RAMP_FCW_FCW_NOW 5,1342177280),(F.PLL_STAT_STATE 5,0),(F.PLL_BAND_B_VALID 5 0,1),(F.PLL_BAND_A_FMIN 5 0,35000),(F.PLL_BAND_A_FMAX 5 0,45000)];
    (clkFormat d = true) ∧ ((4 ≤ dField d 8 1) ∧ ((dOpcode d = 0x3E) ∧ ((s.pllState (dField d 8 1) = 0) ∧
    (((s.pll (dField d 8 1)).sweep = none))))))) ∧ ((let p : Nat := 5; let fcw : Nat := 1342177280;
    let ref : Option Nat := some 16; let h : RegHit := (findReg (F.PLL_FCW_FCW 5).off).get (by decide +kernel);
    let s : State := regs [(F.PLL_FCW_FCW 5,1342177280),(F.PLL_RAMP_FCW_FCW_NOW 5,1342177280),(F.PLL_STAT_STATE 5,4),(F.PLL_BAND_B_VALID 5 0,1),(F.PLL_BAND_A_FMIN 5 0,35000),(F.PLL_BAND_A_FMAX 5 0,45000)];
    (4 ≤ p) ∧ ((p < 12) ∧ ((findReg (F.PLL_FCW_FCW p).off = some h) ∧
    (let u := if ref.isSome then s.stage (F.PLL_FCW_FCW p) fcw else s.putField .rwf (F.PLL_FCW_FCW p) fcw;
    (s.writeRefusal h .rwf = 0) ∧ ((u.commitFail [h.group] = none)))))) ∧ (let d : Desc := mkEntry [(0,1,0x3C),(8,1,3)];
    (clkFormat d = true) ∧ ((dField d 8 1 < 4) ∧ ((dOpcode d = 0x3C)))) ∧ (let p : Fin 12 := 5;
    let j : SweepJob := { cap := 7, stage := false, entry := 0, start := 0, ref := none };
    let s : State := at_ 1000000 (live.modPll 5 (fun x => { x with sweep := some j })); (s.up) ∧
    (((s.pll p).sweep = some j) ∧ ((j.start + 40000 ≤ s.now) ∧ ((j.boot = false) ∧ ((j.stage = false) ∧
    ((s.pllState p = 0)))))))) ∧ ((let p : Fin 12 := 5;
    let s : State := at_ 1000000 ((regs [(F.PLL_FCW_FCW 5,1342177280),(F.PLL_RAMP_FCW_FCW_NOW 5,1342177280),(F.PLL_STAT_STATE 5,4),(F.PLL_BAND_B_VALID 5 0,1),(F.PLL_BAND_A_FMIN 5 0,35000),(F.PLL_BAND_A_FMAX 5 0,45000),(F.PLL_RAMP_STAT_RUN 5,1),(F.PLL_RAMP_F_FCW 5 0,1342177280)]).modPll 5 (fun x => { x with rampFrom := 1342177280 }));
    let seg : Nat := (s.rampAsk p).1; let ask : Nat := (s.rampAsk p).2; (s.up) ∧ ((4 ≤ p.val) ∧
    ((s.on (F.PLL_RAMP_STAT_RUN p) = true) ∧ (((s.pll p).returning = false) ∧ (((s.pll p).rampNext ≤ s.now) ∧
    ((s.rampAsk p = (seg, ask)) ∧ ((s.fcwUse p - s.fcwUse p / 10000 ≤ ask) ∧
    ((ask ≤ s.fcwUse p + s.fcwUse p / 10000))))))))) ∧ (let p : Nat := 2; let r : Option Nat := some 3;
    let s : State := (regs [(F.PLL_FCW_FCW 2,5)]).modPll 2 (fun x => { x with backs := [some 3] });
    ((s.pll p).backs = [r]) ∧ ((s.fcwUse p = s.rd (F.PLL_FCW_FCW p)))) ∧ (let p : Fin 12 := 5; let fcw : Nat := 1342177380;
    let k : Nat := 0;
    let s : State := regs [(F.PLL_FCW_FCW 5,1342177280),(F.PLL_RAMP_FCW_FCW_NOW 5,1342177280),(F.PLL_STAT_STATE 5,4),(F.PLL_BAND_B_VALID 5 0,1),(F.PLL_BAND_A_FMIN 5 0,35000),(F.PLL_BAND_A_FMAX 5 0,45000),(F.PLL_STAT_SRC 5,0),(F.PLL_STAT_BAND 5,0)];
    (s.bandInUse p = some k) ∧ ((s.bandHas p k fcw = true)))) ∧ ((let per : Nat := 3; (0 < per)) ∧ (let ceil : Nat := 10;
    let iv : Nat := 2500; let per : Nat := 3; (0 < per) ∧ ((ceil * 250 ≤ iv))) ∧ (let s : State := live; let st : Nat := 3;
    let g : List (Nat × Nat) := [(100,5)]; ((∀ x ∈ g, s.rd (F.CLK_OUT_CEIL_CEIL st) * 250 ≤ x.1)))) ∧
    ((let s : State := live; let c : Fin 24 := 23; (s.up) ∧ ((20 ≤ c.val))) ∧ (let p : Fin 16 := 5;
    let s : State := regs [(F.PLL_FCW_FCW 5,1342177280),(F.PLL_RAMP_FCW_FCW_NOW 5,1342177280),(F.PLL_STAT_STATE 5,4),(F.PLL_BAND_B_VALID 5 0,1),(F.PLL_BAND_A_FMIN 5 0,35000),(F.PLL_BAND_A_FMAX 5 0,45000),(F.CLK_CMD_FCW_FCW,1342177280),(F.PLL_HOP_B_VALID 5 2,1),(F.PLL_HOP_A_FCW 5 2,1342177280)];
    (s.up) ∧ ((s.on F.CLK_CMD_STAT_BUSY = false) ∧ ((4 ≤ p.val) ∧ ((p.val ≤ 11) ∧ (let u := s.wr F.CLK_CMD_STAT_BUSY 1;
    (u.pllState p = 4)))))) ∧ (let p : Fin 16 := 5;
    let s : State := regs [(F.PLL_FCW_FCW 5,1342177280),(F.PLL_RAMP_FCW_FCW_NOW 5,1342177280),(F.PLL_STAT_STATE 5,4),(F.PLL_BAND_B_VALID 5 0,1),(F.PLL_BAND_A_FMIN 5 0,35000),(F.PLL_BAND_A_FMAX 5 0,45000),(F.CLK_CMD_FCW_FCW,1342177280),(F.PLL_HOP_B_VALID 5 2,1),(F.PLL_HOP_A_FCW 5 2,1342177280)];
    (s.up) ∧ ((s.on F.CLK_CMD_STAT_BUSY = false) ∧ ((4 ≤ p.val) ∧ ((p.val ≤ 11)))))) ∧ ((let p : Fin 16 := 5;
    let s : State := regs [(F.PLL_FCW_FCW 5,1342177280),(F.PLL_RAMP_FCW_FCW_NOW 5,1342177280),(F.PLL_STAT_STATE 5,4),(F.PLL_BAND_B_VALID 5 0,1),(F.PLL_BAND_A_FMIN 5 0,35000),(F.PLL_BAND_A_FMAX 5 0,45000),(F.PLL_FCW_FCW 5,1342177380)];
    (s.up) ∧ ((s.on F.CLK_CMD_STAT_BUSY = false) ∧ ((4 ≤ p.val) ∧ ((p.val ≤ 11) ∧ (let u := s.wr F.CLK_CMD_STAT_BUSY 1;
    ((u.pll p).backs = []) ∧ ((u.fcwUse p ≠ u.rd (F.PLL_FCW_FCW p)) ∧ ((s.clk.plls.length = 12)))))))) ∧
    (let p : Fin 16 := 5; let ent : Fin 256 := 3;
    let s : State := regs [(F.PLL_FCW_FCW 5,1342177280),(F.PLL_RAMP_FCW_FCW_NOW 5,1342177280),(F.PLL_STAT_STATE 5,0),(F.PLL_BAND_B_VALID 5 0,1),(F.PLL_BAND_A_FMIN 5 0,35000),(F.PLL_BAND_A_FMAX 5 0,45000)];
    (s.up) ∧ ((s.on F.CLK_CMD_STAT_BUSY = false) ∧ ((4 ≤ p.val) ∧ ((p.val ≤ 11) ∧ (let u := s.wr F.CLK_CMD_STAT_BUSY 1;
    (ent.val % 128 < 64) ∧ ((u.pllState p = 0) ∧ (((u.pll p).sweep = none))))))))) ∧
    (let d : Desc := mkEntry [(0,1,0x3D),(8,1,5),(9,1,0)]; let q : Fin 32 := 16;
    let s : State := ringed 16 [d] (regs [(F.PLL_FCW_FCW 5,1342177280),(F.PLL_RAMP_FCW_FCW_NOW 5,1342177280),(F.PLL_STAT_STATE 5,4),(F.PLL_BAND_B_VALID 5 0,1),(F.PLL_BAND_A_FMIN 5 0,35000),(F.PLL_BAND_A_FMAX 5 0,45000)]);
    (s.machReady q [d] ∧ dOpcode d = 0x3D ∧ dField d 9 1 = 0) ∧ ((∃ o₁ o₂ o₃,
    (s.machState q [d]).applyMach (s.machRef q [d]) [d] = .done o₁ o₂ o₃))) ∧
    (let d : Desc := mkEntry [(0,1,0x3D),(8,1,5),(9,1,1)]; let q : Fin 32 := 16;
    let s : State := ringed 16 [d] (regs [(F.PLL_FCW_FCW 5,1342177280),(F.PLL_RAMP_FCW_FCW_NOW 5,1342177280),(F.PLL_STAT_STATE 5,4),(F.PLL_BAND_B_VALID 5 0,1),(F.PLL_BAND_A_FMIN 5 0,35000),(F.PLL_BAND_A_FMAX 5 0,45000)]);
    (s.machReady q [d] ∧ dOpcode d = 0x3D ∧ dField d 9 1 = 1) ∧ ((∃ o₁ o₂ o₃,
    (s.machState q [d]).applyMach (s.machRef q [d]) [d] = .done o₁ o₂ o₃))) ∧
    (let d : Desc := mkEntry [(0,1,0x3D),(8,1,5),(9,1,2)]; let q : Fin 32 := 16;
    let s : State := ringed 16 [d] (regs [(F.PLL_FCW_FCW 5,1342177280),(F.PLL_RAMP_FCW_FCW_NOW 5,1342177280),(F.PLL_STAT_STATE 5,4),(F.PLL_BAND_B_VALID 5 0,1),(F.PLL_BAND_A_FMIN 5 0,35000),(F.PLL_BAND_A_FMAX 5 0,45000)]);
    (s.machReady q [d] ∧ dOpcode d = 0x3D ∧ dField d 9 1 = 2) ∧ ((∃ o₁ o₂ o₃,
    (s.machState q [d]).applyMach (s.machRef q [d]) [d] = .done o₁ o₂ o₃))) ∧
    (let d : Desc := mkEntry [(0,1,0x3E),(8,1,5),(9,1,7)]; let q : Fin 32 := 16;
    let s : State := ringed 16 [d] (regs [(F.PLL_FCW_FCW 5,1342177280),(F.PLL_RAMP_FCW_FCW_NOW 5,1342177280),(F.PLL_STAT_STATE 5,0),(F.PLL_BAND_B_VALID 5 0,1),(F.PLL_BAND_A_FMIN 5 0,35000),(F.PLL_BAND_A_FMAX 5 0,45000)]);
    (s.machReady q [d] ∧ dOpcode d = 0x3E) ∧ ((∃ o₁ o₂ o₃,
    (s.machState q [d]).applyMach (s.machRef q [d]) [d] = .done o₁ o₂ o₃))) ∧ (let p : Fin 16 := 5;
    let s : State := regs [(F.PLL_FCW_FCW 5,1342177280),(F.PLL_RAMP_FCW_FCW_NOW 5,1342177280),(F.PLL_STAT_STATE 5,4),(F.PLL_BAND_B_VALID 5 0,1),(F.PLL_BAND_A_FMIN 5 0,35000),(F.PLL_BAND_A_FMAX 5 0,45000),(F.CLK_CMD_FCW_FCW,1342177280),(F.PLL_HOP_B_VALID 5 2,1),(F.PLL_HOP_A_FCW 5 2,1342177280)];
    let u := s.wr F.CLK_CMD_STAT_BUSY 1; (s.up ∧ s.on F.CLK_CMD_STAT_BUSY = false ∧ 4 ≤ p.val ∧ p.val ≤ 11) ∧ ((∃ o₁ o₂ o₃,
    u.clkHop none p (u.rd F.CLK_CMD_FCW_FCW) none 0 = .done o₁ (o₂ + 1) o₃))) ∧ (let p : Fin 16 := 5;
    let arg : Fin 256 := 2;
    let s : State := regs [(F.PLL_FCW_FCW 5,1342177280),(F.PLL_RAMP_FCW_FCW_NOW 5,1342177280),(F.PLL_STAT_STATE 5,4),(F.PLL_BAND_B_VALID 5 0,1),(F.PLL_BAND_A_FMIN 5 0,35000),(F.PLL_BAND_A_FMAX 5 0,45000),(F.CLK_CMD_FCW_FCW,1342177280),(F.PLL_HOP_B_VALID 5 2,1),(F.PLL_HOP_A_FCW 5 2,1342177280)];
    let u := s.wr F.CLK_CMD_STAT_BUSY 1; (s.up ∧ s.on F.CLK_CMD_STAT_BUSY = false ∧ 4 ≤ p.val ∧ p.val ≤ 11 ∧ arg.val ≤ 15) ∧
    ((∃ o₁ o₂ o₃, u.clkHop none p 0 (some arg) 0 = .done o₁ (o₂ + 1) o₃))) :=
  ⟨by decide +kernel, by decide +kernel, by decide +kernel, by decide +kernel, by decide +kernel, by decide +kernel,
    by decide +kernel, ⟨by decide +kernel, done_of _ (by decide +kernel)⟩, ⟨by decide +kernel,
    done_of _ (by decide +kernel)⟩, ⟨by decide +kernel, done_of _ (by decide +kernel)⟩, ⟨by decide +kernel,
    done_of _ (by decide +kernel)⟩, ⟨by decide +kernel, done1_of _ (by decide +kernel)⟩, ⟨by decide +kernel,
    done1_of _ (by decide +kernel)⟩⟩

theorem witness_MotorChannels :
    ((let s : State := live; (s.up)) ∧ (let m : Fin 16 := 15; let s : State := regs [(F.GLB_STATE_HOLD,0)]; (s.motState m = 0) ∧
    ((s.on F.GLB_STATE_HOLD = false) ∧ ((s.undervolt = false)))) ∧ (let m : Fin 16 := 5;
    let x : MotSample := { iu := 20000000, iv := 0, iw := 0, vu := 0, vv := 0, vw := 0, obsAng := 0, obsSpd := 0, injAng := 0, injSpd := 0, aMeas := 0 };
    let s : State := (regs [(F.MOT_CFG_POLE_PAIRS 5,4),(F.MOT_RATED_RATED_SPD 5,100),(F.MOT_START_CATCH 5,10),(F.MOT_MODEL_KE 5,0),(F.MOT_PROT_OC_TRIP 5,100),(F.MOT_CFG_PWM_KHZ 5,20),(F.MOT_ISCALE_ISCALE 5,65535),(F.MOT_STAT_STATE 5,4)]);
    let ph : Nat := (((s.motSample m).track m x).overCurrent m (((s.motSample m).track m x).sampled m x) |>.getD (0,0)).1;
    let i : Int := (((s.motSample m).track m x).overCurrent m (((s.motSample m).track m x).sampled m x) |>.getD (0,0)).2;
    (s.motState m = 4 ∨ s.motState m = 5 ∨ s.motState m = 6) ∧ (let u := (s.motSample m).track m x;
    (u.overCurrent m (u.sampled m x) = some (ph, i))))) ∧ ((let m : Fin 16 := 5;
    let s : State := ((regs [(F.MOT_CFG_POLE_PAIRS 5,4),(F.MOT_RATED_RATED_SPD 5,100),(F.MOT_START_CATCH 5,10),(F.MOT_MODEL_KE 5,0),(F.MOT_PROT_OC_TRIP 5,100),(F.MOT_CFG_PWM_KHZ 5,20),(F.MOT_STAT_STATE 5,3),(F.GLB_STATE_HOLD,0),(F.PWR_DOM_LEVEL 5,2)]).modClasp 5 (fun c => { c with value := 1, want := 1 }));
    (s.motState m = 3) ∧ ((s.claspOut m % 2 = 1) ∧ ((s.on F.GLB_STATE_HOLD = false) ∧ ((s.undervolt = false))))) ∧
    (let m : Fin 16 := 5;
    let s : State := ((regs [(F.MOT_CFG_POLE_PAIRS 5,4),(F.MOT_RATED_RATED_SPD 5,100),(F.MOT_START_CATCH 5,10),(F.MOT_MODEL_KE 5,0),(F.MOT_PROT_OC_TRIP 5,100),(F.MOT_CFG_PWM_KHZ 5,20),(F.MOT_STAT_STATE 5,3),(F.GLB_STATE_HOLD,0),(F.PWR_DOM_LEVEL 5,2)]).modClasp 5 (fun c => { c with value := 1, want := 1 }));
    (s.motState m = 3) ∧ ((s.claspOut m % 2 = 1) ∧ ((s.on F.GLB_STATE_HOLD = false) ∧ ((s.undervolt = false) ∧
    (((s.mot m).cmds = [])))))) ∧ (let m : Fin 16 := 5;
    let s : State := at_ 2000000 ((regs [(F.MOT_CFG_POLE_PAIRS 5,4),(F.MOT_RATED_RATED_SPD 5,100),(F.MOT_START_CATCH 5,10),(F.MOT_MODEL_KE 5,0),(F.MOT_PROT_OC_TRIP 5,100),(F.MOT_CFG_PWM_KHZ 5,20),(F.MOT_STAT_STATE 5,1)]).modMot 5 (fun x => { x with emf := none }));
    (s.up) ∧ ((s.mots.length = 16) ∧ ((s.motState m = 1) ∧ (((s.mot m).stateAt + 2000000 ≤ s.now) ∧
    (((s.emfRead m).2 = true))))))) ∧ ((let m : Fin 16 := 5;
    let s : State := at_ 2000000 ((regs [(F.MOT_CFG_POLE_PAIRS 5,4),(F.MOT_RATED_RATED_SPD 5,100),(F.MOT_START_CATCH 5,10),(F.MOT_MODEL_KE 5,0),(F.MOT_PROT_OC_TRIP 5,100),(F.MOT_CFG_PWM_KHZ 5,20),(F.MOT_STAT_STATE 5,1)]).modMot 5 (fun x => { x with emf := some ⟨0, 1000000, 0, 655360, 100000⟩ }));
    (s.up) ∧ ((s.mots.length = 16) ∧ ((s.motState m = 1) ∧ (((s.mot m).stateAt + 2000000 ≤ s.now) ∧
    (((s.emfRead m).2 = false) ∧ ((0 < (s.emfRead m).1))))))) ∧ (let m : Fin 16 := 5;
    let s : State := at_ 2000000 ((regs [(F.MOT_CFG_POLE_PAIRS 5,4),(F.MOT_RATED_RATED_SPD 5,100),(F.MOT_START_CATCH 5,10),(F.MOT_MODEL_KE 5,0),(F.MOT_PROT_OC_TRIP 5,100),(F.MOT_CFG_PWM_KHZ 5,20),(F.MOT_STAT_STATE 5,1)]).modMot 5 (fun x => { x with emf := some ⟨0, 1000000, 0, -655360, 100000⟩ }));
    (s.up) ∧ ((s.mots.length = 16) ∧ ((s.motState m = 1) ∧ (((s.mot m).stateAt + 2000000 ≤ s.now) ∧
    (((s.emfRead m).2 = false) ∧ (((s.emfRead m).1 ≤ 0))))))) ∧ (let m : Fin 16 := 5;
    let s : State := at_ 11000000 ((regs [(F.MOT_CFG_POLE_PAIRS 5,4),(F.MOT_RATED_RATED_SPD 5,100),(F.MOT_START_CATCH 5,10),(F.MOT_MODEL_KE 5,0),(F.MOT_PROT_OC_TRIP 5,100),(F.MOT_CFG_PWM_KHZ 5,20),(F.MOT_STAT_STATE 5,2)]).modMot 5 (fun x => { x with emf := none }));
    (s.up) ∧ ((s.mots.length = 16) ∧ ((s.motState m = 2) ∧ (((s.mot m).measuredAt + 11000000 ≤ s.now) ∧
    (((s.emfRead m).2 = true))))))) ∧ ((let m : Fin 16 := 5;
    let s : State := at_ 11000000 ((regs [(F.MOT_CFG_POLE_PAIRS 5,4),(F.MOT_RATED_RATED_SPD 5,100),(F.MOT_START_CATCH 5,10),(F.MOT_MODEL_KE 5,0),(F.MOT_PROT_OC_TRIP 5,100),(F.MOT_CFG_PWM_KHZ 5,20),(F.MOT_STAT_STATE 5,2)]).modMot 5 (fun x => { x with emf := some ⟨0, 1000000, 0, 655360, 100000⟩ }));
    (s.up) ∧ ((s.mots.length = 16) ∧ ((s.motState m = 2) ∧ (((s.mot m).measuredAt + 11000000 ≤ s.now) ∧
    (((s.emfRead m).2 = false)))))) ∧ (let m : Fin 16 := 5;
    let s : State := at_ 2000000000 (regs [(F.MOT_CFG_POLE_PAIRS 5,4),(F.MOT_RATED_RATED_SPD 5,100),(F.MOT_START_CATCH 5,10),(F.MOT_MODEL_KE 5,0),(F.MOT_PROT_OC_TRIP 5,100),(F.MOT_STAT_STATE 5,2)]);
    (s.up) ∧ ((s.motState m = 2) ∧ (((s.mot m).stateAt + 2000000000 ≤ s.now)))) ∧ (let m : Fin 16 := 5;
    let ps : List MotPulse := ⟨20000000, 0, 0, [(0, 0, 0)]⟩ :: List.replicate 11 ⟨0, 0, 0, [(0, 0, 0)]⟩;
    let s : State := at_ 0 (regs [(F.MOT_CFG_POLE_PAIRS 5,4),(F.MOT_RATED_RATED_SPD 5,100),(F.MOT_START_CATCH 5,10),(F.MOT_MODEL_KE 5,0),(F.MOT_PROT_OC_TRIP 5,100),(F.MOT_CFG_PWM_KHZ 5,20),(F.MOT_STAT_STATE 5,3),(F.MOT_ISCALE_ISCALE 5,65535)]);
    (s.up) ∧ ((s.mots.length = 16) ∧ ((s.motState m = 3) ∧ (let r := s.attempt m ps; (r.2 = true)))))) ∧
    ((let m : Fin 16 := 5; let ps : List MotPulse := ⟨1000, 0, 0, [(0, 0, 0)]⟩ :: List.replicate 11 ⟨0, 0, 0, [(0, 0, 0)]⟩;
    let s : State := at_ 2000000000 ((regs [(F.MOT_CFG_POLE_PAIRS 5,4),(F.MOT_RATED_RATED_SPD 5,100),(F.MOT_START_CATCH 5,10),(F.MOT_MODEL_KE 5,0),(F.MOT_PROT_OC_TRIP 5,100),(F.MOT_CFG_PWM_KHZ 5,20),(F.MOT_STAT_STATE 5,3),(F.MOT_ISCALE_ISCALE 5,65535),(F.MOT_START_CONTRAST 5,0)]).modMot 5 (fun x => { x with attempt := 1 }));
    let dt : Nat := (s.alignTime m ps).getD 0; (s.up) ∧ ((s.mots.length = 16) ∧ ((s.motState m = 3) ∧
    (let r := s.attempt m ps; let k := r.1.bestPulse m; let pm := r.1.rd (F.MOT_PULSE_PEAK m k);
    let po := r.1.rd (F.MOT_PULSE_PEAK m ((k + 6) % 12)); (r.2 = false) ∧ ((s.alignTime m ps = some dt) ∧
    (((s.mot m).stateAt + dt ≤ s.now) ∧ ((s.rd (F.MOT_START_CONTRAST m) * pm ≤ (pm - po) * 256)))))))) ∧
    (let m : Fin 16 := 5; let ps : List MotPulse := ⟨100000, 0, 0, [(0, 0, 0)]⟩ :: ⟨-100000, 0, 0,
    [(0, 0, 0)]⟩ :: List.replicate 10 ⟨0, 0, 0, [(0, 0, 0)]⟩;
    let s : State := at_ 2000000000 ((regs [(F.MOT_CFG_POLE_PAIRS 5,4),(F.MOT_RATED_RATED_SPD 5,100),(F.MOT_START_CATCH 5,10),(F.MOT_MODEL_KE 5,0),(F.MOT_PROT_OC_TRIP 5,100),(F.MOT_CFG_PWM_KHZ 5,20),(F.MOT_STAT_STATE 5,3),(F.MOT_ISCALE_ISCALE 5,65535),(F.MOT_START_CONTRAST 5,255)]).modMot 5 (fun x => { x with attempt := 1 }));
    let dt : Nat := (s.alignTime m ps).getD 0; (s.up) ∧ ((s.mots.length = 16) ∧ ((s.motState m = 3) ∧
    (let r := s.attempt m ps; let k := r.1.bestPulse m; let pm := r.1.rd (F.MOT_PULSE_PEAK m k);
    let po := r.1.rd (F.MOT_PULSE_PEAK m ((k + 6) % 12)); (r.2 = false) ∧ ((s.alignTime m ps = some dt) ∧
    (((s.mot m).stateAt + dt ≤ s.now) ∧ (((pm - po) * 256 < s.rd (F.MOT_START_CONTRAST m) * pm) ∧
    (((s.mot m).attempt = 1))))))))) ∧ (let m : Fin 16 := 5; let ps : List MotPulse := ⟨100000, 0, 0,
    [(0, 0, 0)]⟩ :: ⟨-100000, 0, 0, [(0, 0, 0)]⟩ :: List.replicate 10 ⟨0, 0, 0, [(0, 0, 0)]⟩;
    let s : State := at_ 2000000000 ((regs [(F.MOT_CFG_POLE_PAIRS 5,4),(F.MOT_RATED_RATED_SPD 5,100),(F.MOT_START_CATCH 5,10),(F.MOT_MODEL_KE 5,0),(F.MOT_PROT_OC_TRIP 5,100),(F.MOT_CFG_PWM_KHZ 5,20),(F.MOT_STAT_STATE 5,3),(F.MOT_ISCALE_ISCALE 5,65535),(F.MOT_START_CONTRAST 5,255)]).modMot 5 (fun x => { x with attempt := 2 }));
    let dt : Nat := (s.alignTime m ps).getD 0; (s.up) ∧ ((s.mots.length = 16) ∧ ((s.motState m = 3) ∧
    (let r := s.attempt m ps; let k := r.1.bestPulse m; let pm := r.1.rd (F.MOT_PULSE_PEAK m k);
    let po := r.1.rd (F.MOT_PULSE_PEAK m ((k + 6) % 12)); (r.2 = false) ∧ ((s.alignTime m ps = some dt) ∧
    (((s.mot m).stateAt + dt ≤ s.now) ∧ (((pm - po) * 256 < s.rd (F.MOT_START_CONTRAST m) * pm) ∧
    (((s.mot m).attempt ≠ 1)))))))))) ∧ ((let m : Fin 16 := 5; let t0 : Nat := 0;
    let s : State := at_ 20000000 ((regs [(F.MOT_STAT_STATE 5,4)]).modMot 5 (fun x => { x with lowSince := some 0 }));
    (s.up) ∧ (((s.mot m).lowSince = some t0) ∧ ((s.motState m = 4) ∧ ((s.rd (F.MOT_STAT_ASRC m) ≠ 3) ∧
    ((t0 + 20000000 ≤ s.now)))))) ∧ (let m : Fin 16 := 5; let t0 : Nat := 0;
    let s : State := at_ 20000000 ((regs [(F.MOT_STAT_STATE 5,5)]).modMot 5 (fun x => { x with okSince := some 0 }));
    (s.up) ∧ (((s.mot m).okSince = some t0) ∧ ((s.motState m = 5) ∧ ((t0 + 10000000 ≤ s.now))))) ∧ (let m : Fin 16 := 5;
    let s : State := at_ 50000000 (regs [(F.MOT_CFG_POLE_PAIRS 5,4),(F.MOT_RATED_RATED_SPD 5,100),(F.MOT_START_CATCH 5,10),(F.MOT_MODEL_KE 5,0),(F.MOT_PROT_OC_TRIP 5,100),(F.MOT_STAT_STATE 5,5)]);
    (s.up) ∧ ((s.motState m = 5) ∧ (((s.mot m).stateAt + 50000000 ≤ s.now))))) ∧ (let m : Fin 16 := 5; let t0 : Nat := 0;
    let s : State := at_ 10000000000000 (live.modMot 5 (fun x => { x with atSince := some 0 })); (s.up) ∧
    (((s.mot m).atSince = some t0) ∧ ((s.on (F.MOT_STAT_AT_SPEED m) = false) ∧
    ((t0 + s.rd (F.MOT_AT_AT_TIME m) * 1000000 ≤ s.now))))) :=
  ⟨by decide +kernel, by decide +kernel, by decide +kernel, by decide +kernel, by decide +kernel, by decide +kernel,
    by decide +kernel⟩

theorem witness_MotorCommands :
    ((let d : Desc := mkEntry [(0,1,0x30),(8,1,5),(9,1,0),(12,2,7)];
    let s : State := regs [(F.MOT_RATED_RATED_I 5,1),(F.MOT_RATED_RATED_SPD 5,1),(F.MOT_PROT_OC_TRIP 5,1),(F.MOT_MODEL_KE 5,1),(F.MOT_IND_LD 5,1),(F.MOT_IND_LQ 5,1),(F.GLB_STATE_HOLD,0),(F.MOT_STAT_STATE 5,0)];
    (dOpcode d = 0x30) ∧ ((dCount d = 0) ∧ ((dZero d 14 63 = true) ∧ ((dField d 8 1 ≤ 15) ∧ ((dField d 10 1 ≤ 1) ∧
    ((dField d 11 1 = 0) ∧ (let m := dField d 8 1; (dField d 9 1 = 0) ∧ ((s.motState m ≠ 7) ∧
    ((s.on F.GLB_STATE_HOLD = false) ∧ ((s.motUnset m = none))))))))))) ∧
    (let d : Desc := mkEntry [(0,1,0x30),(8,1,5),(9,1,0),(12,2,7)];
    let s : State := regs [(F.MOT_RATED_RATED_I 5,1),(F.MOT_RATED_RATED_SPD 5,1),(F.MOT_PROT_OC_TRIP 5,1),(F.MOT_MODEL_KE 5,1),(F.MOT_IND_LD 5,1),(F.MOT_IND_LQ 5,1),(F.GLB_STATE_HOLD,0),(F.MOT_STAT_STATE 5,7)];
    (dOpcode d = 0x30) ∧ ((dCount d = 0) ∧ ((dZero d 14 63 = true) ∧ ((dField d 8 1 ≤ 15) ∧ ((dField d 10 1 ≤ 1) ∧
    ((dField d 11 1 = 0) ∧ (let m := dField d 8 1; (dField d 9 1 = 0) ∧ ((s.motState m = 7))))))))) ∧
    (let d : Desc := mkEntry [(0,1,0x30),(8,1,5),(9,1,1),(12,2,7)];
    let s : State := regs [(F.MOT_RATED_RATED_I 5,1),(F.MOT_RATED_RATED_SPD 5,1),(F.MOT_PROT_OC_TRIP 5,1),(F.MOT_MODEL_KE 5,1),(F.MOT_IND_LD 5,1),(F.MOT_IND_LQ 5,1),(F.GLB_STATE_HOLD,0),(F.MOT_STAT_STATE 5,0)];
    (dOpcode d = 0x30) ∧ ((dCount d = 0) ∧ ((dZero d 14 63 = true) ∧ ((dField d 8 1 ≤ 15) ∧ ((dField d 10 1 ≤ 1) ∧
    ((dField d 11 1 = 0) ∧ (let m := dField d 8 1; (dField d 9 1 = 1) ∧ ((s.pinOf m = none) ∧ ((s.driver m = none) ∧
    ((s.on (F.MOT_CFG_POLY_EN m) = false)))))))))))) ∧ ((let d : Desc := mkEntry [(0,1,0x30),(8,1,5),(9,1,3),(12,2,7)];
    (dOpcode d = 0x30) ∧ ((dCount d = 0) ∧ ((dZero d 14 63 = true) ∧ ((dField d 8 1 ≤ 15) ∧ ((dField d 10 1 ≤ 1) ∧
    ((dField d 11 1 = 0) ∧ ((dField d 9 1 = 2 ∨ dField d 9 1 = 3)))))))) ∧
    (let d : Desc := mkEntry [(0,1,0x30),(8,1,5),(9,1,4),(12,2,7)];
    let s : State := regs [(F.MOT_RATED_RATED_I 5,1),(F.MOT_RATED_RATED_SPD 5,1),(F.MOT_PROT_OC_TRIP 5,1),(F.MOT_MODEL_KE 5,1),(F.MOT_IND_LD 5,1),(F.MOT_IND_LQ 5,1),(F.GLB_STATE_HOLD,0),(F.MOT_STAT_STATE 5,7)];
    (dOpcode d = 0x30) ∧ ((dCount d = 0) ∧ ((dZero d 14 63 = true) ∧ ((dField d 8 1 ≤ 15) ∧ ((dField d 10 1 ≤ 1) ∧
    ((dField d 11 1 = 0) ∧ (let m := dField d 8 1; (dField d 9 1 = 4) ∧ ((s.motState m = 7))))))))) ∧
    (let d : Desc := mkEntry [(0,1,0x30),(8,1,5),(9,1,4),(12,2,7)];
    let s : State := regs [(F.MOT_RATED_RATED_I 5,1),(F.MOT_RATED_RATED_SPD 5,1),(F.MOT_PROT_OC_TRIP 5,1),(F.MOT_MODEL_KE 5,1),(F.MOT_IND_LD 5,1),(F.MOT_IND_LQ 5,1),(F.GLB_STATE_HOLD,0),(F.MOT_STAT_STATE 5,0)];
    (dOpcode d = 0x30) ∧ ((dCount d = 0) ∧ ((dZero d 14 63 = true) ∧ ((dField d 8 1 ≤ 15) ∧ ((dField d 10 1 ≤ 1) ∧
    ((dField d 11 1 = 0) ∧ (let m := dField d 8 1; (dField d 9 1 = 4) ∧ ((s.motState m ≠ 7)))))))))) ∧
    ((let d : Desc := mkEntry [(0,1,0x31),(8,1,7),(12,4,9)];
    let s : State := served (regs [(F.GLB_STATE_HOLD,0),(F.PWR_DOM_LEVEL 5,2),(F.XD_CFG_MODE 7,2),(F.XD_VALUE_VALUE 7,9),(F.CLASP_STAT_STATE 87,0)]);
    (dOpcode d = 0x31) ∧ ((dCount d = 0) ∧ ((dZero d 16 63 = true) ∧ ((dField d 8 1 ≤ 7) ∧ ((dZero d 9 11 = true) ∧
    (let n := dField d 8 1; let u := s.setCmd (80 + n) (dField d 12 4); (u.xdCmdUsed n = true))))))) ∧
    (let d : Desc := mkEntry [(0,1,0x31),(8,1,7),(12,4,9)];
    let s : State := (regs [(F.GLB_STATE_HOLD,0)]).modXd 7 (fun x => { x with next := some (9, 100) }); (dOpcode d = 0x31) ∧
    ((dCount d = 0) ∧ ((dZero d 16 63 = true) ∧ ((dField d 8 1 ≤ 7) ∧ ((dZero d 9 11 = true) ∧ (let n := dField d 8 1;
    let u := s.setCmd (80 + n) (dField d 12 4); (u.xdCmdUsed n = false))))))) ∧ (let s : State := live; (s.up))) ∧
    ((let n : Fin 8 := 7; let s : State := regs [(F.CMD_CFG_MODE 7,1)]; (s.pins.length = 8) ∧
    ((s.rd (F.CMD_CFG_MODE n) ≠ 0) ∧ (((s.pins.getD n {}).invalid = false)))) ∧ (let n : Fin 8 := 7; let high : Nat := 5000;
    let per : Nat := 10000; let s : State := regs [(F.CMD_CFG_MODE 7,2)]; (s.pins.length = 8) ∧
    ((s.rd (F.CMD_CFG_MODE n) ≠ 0) ∧ (((s.pins.getD n {}).invalid = false) ∧ (let mode := s.rd (F.CMD_CFG_MODE n);
    (pinRange mode high per = true))))) ∧ (let n : Fin 8 := 7; let high : Nat := 0; let per : Nat := 10000;
    let s : State := regs [(F.CMD_CFG_MODE 7,2)]; (s.pins.length = 8) ∧ ((s.rd (F.CMD_CFG_MODE n) ≠ 0) ∧
    (((s.pins.getD n {}).invalid = false) ∧ (let mode := s.rd (F.CMD_CFG_MODE n); (pinRange mode high per = false)))))) ∧
    ((let codes : List Nat := List.replicate 10 4095; ((∀ c ∈ codes, c < 4096)) ∧ ((codes.length = 10))) ∧
    (let n : Fin 8 := 7; let s : State := at_ 1000000000 (regs [(F.CMD_CFG_MODE 7,3)]); (s.up) ∧
    ((s.rd (F.CMD_CFG_MODE n) = 3) ∧ (((s.pins.getD n {}).lastAt + 200000000 ≤ s.now)))) ∧ (let n : Fin 8 := 7;
    let s : State := at_ 1000000000 (regs [(F.CMD_CFG_MODE 7,2)]); (s.up) ∧ ((s.rd (F.CMD_CFG_MODE n) = 2) ∧
    (((s.pins.getD n {}).lastAt + 20000000 ≤ s.now))))) ∧ (let m : Fin 16 := 5; let ref : Nat := 16; let t0 : Nat := 0;
    let s : State := at_ 5000000000 (live.modMot 5 (fun x => { x with cmds := [(16, 0, 0)] })); (s.up) ∧
    (((s.mot m).cmds = [(ref, 0, t0)]) ∧ ((t0 + 5000000000 ≤ s.now)))) ∧
    (let d : Desc := mkEntry [(0,1,0x30),(8,1,5),(9,1,0),(12,2,7)]; let q : Fin 32 := 16;
    let s : State := ringed 16 [d] (regs [(F.MOT_RATED_RATED_I 5,1),(F.MOT_RATED_RATED_SPD 5,1),(F.MOT_PROT_OC_TRIP 5,1),(F.MOT_MODEL_KE 5,1),(F.MOT_IND_LD 5,1),(F.MOT_IND_LQ 5,1),(F.GLB_STATE_HOLD,0),(F.MOT_STAT_STATE 5,0)]);
    (s.machReady q [d] ∧ dOpcode d = 0x30 ∧ dField d 9 1 = 0) ∧ ((∃ o₁ o₂ o₃,
    (s.machState q [d]).applyMach (s.machRef q [d]) [d] = .done o₁ o₂ o₃))) ∧
    (let d : Desc := mkEntry [(0,1,0x30),(8,1,5),(9,1,1),(12,2,7)]; let q : Fin 32 := 16;
    let s : State := ringed 16 [d] (regs [(F.MOT_RATED_RATED_I 5,1),(F.MOT_RATED_RATED_SPD 5,1),(F.MOT_PROT_OC_TRIP 5,1),(F.MOT_MODEL_KE 5,1),(F.MOT_IND_LD 5,1),(F.MOT_IND_LQ 5,1),(F.GLB_STATE_HOLD,0),(F.MOT_STAT_STATE 5,0)]);
    (s.machReady q [d] ∧ dOpcode d = 0x30 ∧ dField d 9 1 = 1) ∧ ((∃ o₁ o₂ o₃,
    (s.machState q [d]).applyMach (s.machRef q [d]) [d] = .done o₁ o₂ o₃))) ∧
    (let d : Desc := mkEntry [(0,1,0x30),(8,1,5),(9,1,2),(12,2,7)]; let q : Fin 32 := 16;
    let s : State := ringed 16 [d] (regs [(F.MOT_RATED_RATED_I 5,1),(F.MOT_RATED_RATED_SPD 5,1),(F.MOT_PROT_OC_TRIP 5,1),(F.MOT_MODEL_KE 5,1),(F.MOT_IND_LD 5,1),(F.MOT_IND_LQ 5,1),(F.GLB_STATE_HOLD,0),(F.MOT_STAT_STATE 5,0)]);
    (s.machReady q [d] ∧ dOpcode d = 0x30 ∧ dField d 9 1 = 2) ∧ ((∃ o₁ o₂ o₃,
    (s.machState q [d]).applyMach (s.machRef q [d]) [d] = .done o₁ o₂ o₃))) ∧
    (let d : Desc := mkEntry [(0,1,0x30),(8,1,5),(9,1,3),(12,2,7)]; let q : Fin 32 := 16;
    let s : State := ringed 16 [d] (regs [(F.MOT_RATED_RATED_I 5,1),(F.MOT_RATED_RATED_SPD 5,1),(F.MOT_PROT_OC_TRIP 5,1),(F.MOT_MODEL_KE 5,1),(F.MOT_IND_LD 5,1),(F.MOT_IND_LQ 5,1),(F.GLB_STATE_HOLD,0),(F.MOT_STAT_STATE 5,0)]);
    (s.machReady q [d] ∧ dOpcode d = 0x30 ∧ dField d 9 1 = 3) ∧ ((∃ o₁ o₂ o₃,
    (s.machState q [d]).applyMach (s.machRef q [d]) [d] = .done o₁ o₂ o₃))) ∧
    (let d : Desc := mkEntry [(0,1,0x30),(8,1,5),(9,1,4),(12,2,7)]; let q : Fin 32 := 16;
    let s : State := ringed 16 [d] (regs [(F.MOT_RATED_RATED_I 5,1),(F.MOT_RATED_RATED_SPD 5,1),(F.MOT_PROT_OC_TRIP 5,1),(F.MOT_MODEL_KE 5,1),(F.MOT_IND_LD 5,1),(F.MOT_IND_LQ 5,1),(F.GLB_STATE_HOLD,0),(F.MOT_STAT_STATE 5,7)]);
    (s.machReady q [d] ∧ dOpcode d = 0x30 ∧ dField d 9 1 = 4) ∧ ((∃ o₁ o₂ o₃,
    (s.machState q [d]).applyMach (s.machRef q [d]) [d] = .done o₁ o₂ o₃))) ∧
    (let d : Desc := mkEntry [(0,1,0x31),(8,1,5),(9,1,0),(12,4,7)]; let q : Fin 32 := 16;
    let s : State := ringed 16 [d] (regs [(F.GLB_STATE_HOLD,0)]); (s.machReady q [d] ∧ dOpcode d = 0x31) ∧ ((∃ o₁ o₂ o₃,
    (s.machState q [d]).applyMach (s.machRef q [d]) [d] = .done o₁ o₂ o₃))) :=
  ⟨by decide +kernel, by decide +kernel, by decide +kernel, by decide +kernel, by decide +kernel, by decide +kernel,
    ⟨by decide +kernel, done_of _ (by decide +kernel)⟩, ⟨by decide +kernel, done_of _ (by decide +kernel)⟩,
    ⟨by decide +kernel, done_of _ (by decide +kernel)⟩, ⟨by decide +kernel, done_of _ (by decide +kernel)⟩,
    ⟨by decide +kernel, done_of _ (by decide +kernel)⟩, ⟨by decide +kernel, done_of _ (by decide +kernel)⟩⟩

theorem witness_AxisCommands :
    ((let d : Desc := mkEntry [(0,1,0x32),(8,1,5),(10,6,100),(16,4,25600),(20,4,1000),(24,4,0)];
    let s : State := regs [(F.AX_STAT_STATE 5,1),(F.AX_TIMING_STEP_W 5,4)]; (dOpcode d = 0x32) ∧ ((s.moveFormat d = true) ∧
    (let a := dField d 8 1; let u := if s.axState a = 2 then s.refill a else s; let m := moveOf d (u.queueEnd a);
    (targetOk m.target = true) ∧ ((s.axState a ∉ [0, 3, 5, 6]) ∧ (((u.axis a).queue.length < 64) ∧
    ((u.intoLimit a (u.queueEnd a) m.target = false))))))) ∧
    (let d : Desc := mkEntry [(0,1,0x32),(8,1,5),(10,6,100),(16,4,25600),(20,4,1000),(24,4,0)];
    let s : State := regs [(F.AX_STAT_STATE 5,6),(F.AX_TIMING_STEP_W 5,4)]; (dOpcode d = 0x32) ∧ ((s.moveFormat d = true) ∧
    (let a := dField d 8 1; let u := if s.axState a = 2 then s.refill a else s; let m := moveOf d (u.queueEnd a);
    (targetOk m.target = true) ∧ ((s.axState a ∈ [0, 3, 5, 6]))))) ∧
    (let m0 := ({ target := 500, vmax := 25600, amax := 1000, jmax := 0, blend := 0, tag := 0, notify := false } : Move);
    let d : Desc := mkEntry [(0,1,0x32),(8,1,5),(10,6,100),(16,4,25600),(20,4,1000),(24,4,0)];
    let s : State := (regs [(F.AX_STAT_STATE 5,2),(F.AX_TIMING_STEP_W 5,4)]).modAxis 5 (fun x => { x with queue := List.replicate 64 m0 });
    (dOpcode d = 0x32) ∧ ((s.moveFormat d = true) ∧ (let a := dField d 8 1;
    let u := if s.axState a = 2 then s.refill a else s; let m := moveOf d (u.queueEnd a); (targetOk m.target = true) ∧
    ((s.axState a ∉ [0, 3, 5, 6]) ∧ ((64 ≤ (u.axis a).queue.length))))))) ∧
    ((let d : Desc := mkEntry [(0,1,0x32),(8,1,5),(9,1,0)];
    let s : State := regs [(F.AX_STAT_STATE 5,1),(F.AX_TIMING_STEP_W 5,4)]; (dOpcode d = 0x32 ∨ dOpcode d = 0x33) ∧
    ((s.moveFormat d = false))) ∧
    (let m0 : Move := { target := 500, vmax := 25600, amax := 1000, jmax := 0, blend := 0, tag := 0, notify := false };
    let d : Desc := mkEntry [(0,1,0x33),(8,1,5),(10,6,100),(16,4,25600),(20,4,1000),(24,4,0)]; let rest : List Move := [];
    let s : State := (regs [(F.AX_STAT_STATE 5,2),(F.AX_TIMING_STEP_W 5,4)]).modAxis 5 (fun x => { x with queue := [m0] });
    (dOpcode d = 0x33) ∧ ((s.moveFormat d = true) ∧ (let a := dField d 8 1; let u := s.refill a;
    let m := moveOf d m0.target; (s.axState a = 2) ∧ (((u.axis a).queue = m0 :: rest) ∧ ((targetOk m.target = true) ∧
    ((u.intoLimit a (u.axPos a) m.target = false))))))) ∧ (let d : Desc := mkEntry [(0,1,0x34),(8,1,5),(9,1,0)];
    let s : State := regs [(F.AX_STAT_STATE 5,1),(F.AX_TIMING_STEP_W 5,4)]; (dOpcode d = 0x34) ∧ ((dCount d = 0) ∧
    ((dField d 8 1 ≤ 31) ∧ ((dZero d 9 63 = true) ∧ (let a := dField d 8 1; (s.axState a = 1) ∧
    (((s.axis a).queue = [])))))))) ∧ ((let d : Desc := mkEntry [(0,1,0x34),(8,1,5),(9,1,0)];
    let s : State := regs [(F.AX_STAT_STATE 5,2),(F.AX_TIMING_STEP_W 5,4)]; (dOpcode d = 0x34) ∧ ((dCount d = 0) ∧
    ((dField d 8 1 ≤ 31) ∧ ((dZero d 9 63 = true) ∧ (let a := dField d 8 1; (s.axState a ≠ 1 ∨ (s.axis a).queue ≠ [])))))) ∧
    (let d : Desc := mkEntry [(0,1,0x35),(8,1,5),(9,1,0)];
    let s : State := regs [(F.AX_STAT_STATE 5,1),(F.AX_TIMING_STEP_W 5,4)]; (dOpcode d = 0x35) ∧ ((dCount d = 0) ∧
    ((dField d 8 1 ≤ 31) ∧ ((dZero d 16 63 = true) ∧ (((dField d 9 1 ≠ 3 → dZero d 10 15 = true)) ∧ (let a := dField d 8 1;
    let op := dField d 9 1; (op = 0) ∧ ((s.axState a = 1)))))))) ∧ (let d : Desc := mkEntry [(0,1,0x35),(8,1,5),(9,1,0)];
    let s : State := regs [(F.AX_STAT_STATE 5,2),(F.AX_TIMING_STEP_W 5,4)]; (dOpcode d = 0x35) ∧ ((dCount d = 0) ∧
    ((dField d 8 1 ≤ 31) ∧ ((dZero d 16 63 = true) ∧ (((dField d 9 1 ≠ 3 → dZero d 10 15 = true)) ∧ (let a := dField d 8 1;
    let op := dField d 9 1; (op = 0) ∧ ((s.axState a = 2))))))))) ∧ ((let d : Desc := mkEntry [(0,1,0x35),(8,1,5),(9,1,1)];
    let s : State := regs [(F.AX_STAT_STATE 5,3),(F.AX_TIMING_STEP_W 5,4)]; (dOpcode d = 0x35) ∧ ((dCount d = 0) ∧
    ((dField d 8 1 ≤ 31) ∧ ((dZero d 16 63 = true) ∧ (((dField d 9 1 ≠ 3 → dZero d 10 15 = true)) ∧ (let a := dField d 8 1;
    let op := dField d 9 1; (op = 1) ∧ ((s.axState a = 2 ∨ s.axState a = 3 ∨ s.axState a = 4)))))))) ∧
    (let d : Desc := mkEntry [(0,1,0x35),(8,1,5),(9,1,1)];
    let s : State := regs [(F.AX_STAT_STATE 5,6),(F.AX_TIMING_STEP_W 5,4)]; (dOpcode d = 0x35) ∧ ((dCount d = 0) ∧
    ((dField d 8 1 ≤ 31) ∧ ((dZero d 16 63 = true) ∧ (((dField d 9 1 ≠ 3 → dZero d 10 15 = true)) ∧ (let a := dField d 8 1;
    let op := dField d 9 1; (op = 1) ∧ ((s.axState a = 6)))))))) ∧ (let d : Desc := mkEntry [(0,1,0x35),(8,1,5),(9,1,2)];
    let s : State := regs [(F.AX_STAT_STATE 5,6),(F.AX_TIMING_STEP_W 5,4)]; (dOpcode d = 0x35) ∧ ((dCount d = 0) ∧
    ((dField d 8 1 ≤ 31) ∧ ((dZero d 16 63 = true) ∧ (((dField d 9 1 ≠ 3 → dZero d 10 15 = true)) ∧ (let a := dField d 8 1;
    let op := dField d 9 1; (op = 2) ∧ ((s.axState a = 6))))))))) ∧ ((let d : Desc := mkEntry [(0,1,0x35),(8,1,5),(9,1,2)];
    let s : State := regs [(F.AX_STAT_STATE 5,1),(F.AX_TIMING_STEP_W 5,4)]; (dOpcode d = 0x35) ∧ ((dCount d = 0) ∧
    ((dField d 8 1 ≤ 31) ∧ ((dZero d 16 63 = true) ∧ (((dField d 9 1 ≠ 3 → dZero d 10 15 = true)) ∧ (let a := dField d 8 1;
    let op := dField d 9 1; (op = 2) ∧ ((s.axState a ≠ 6)))))))) ∧ (let d : Desc := mkEntry [(0,1,0x35),(8,1,5),(9,1,3)];
    let s : State := regs [(F.AX_STAT_STATE 5,1),(F.AX_TIMING_STEP_W 5,4)]; (dOpcode d = 0x35) ∧ ((dCount d = 0) ∧
    ((dField d 8 1 ≤ 31) ∧ ((dZero d 16 63 = true) ∧ (((dField d 9 1 ≠ 3 → dZero d 10 15 = true)) ∧ (let a := dField d 8 1;
    let op := dField d 9 1; (op = 3) ∧ ((s.axState a = 1)))))))) ∧ (let d : Desc := mkEntry [(0,1,0x35),(8,1,5),(9,1,3)];
    let s : State := regs [(F.AX_STAT_STATE 5,2),(F.AX_TIMING_STEP_W 5,4)]; (dOpcode d = 0x35) ∧ ((dCount d = 0) ∧
    ((dField d 8 1 ≤ 31) ∧ ((dZero d 16 63 = true) ∧ (((dField d 9 1 ≠ 3 → dZero d 10 15 = true)) ∧ (let a := dField d 8 1;
    let op := dField d 9 1; (op = 3) ∧ ((s.axState a ≠ 1))))))))) ∧ (let d : Desc := mkEntry [(0,1,0x35),(8,1,5),(9,1,4)];
    (dOpcode d = 0x35) ∧ ((dCount d = 0) ∧ ((dField d 8 1 ≤ 31) ∧ ((dZero d 16 63 = true) ∧ (((dField d 9 1 ≠ 3 →
    dZero d 10 15 = true)) ∧ (let op := dField d 9 1; (3 < op))))))) ∧
    (let ds : List Desc := [mkEntry [(0,1,0x32),(8,1,5),(10,6,100),(16,4,25600),(20,4,1000),(24,4,0)]];
    let q : Fin 32 := 16; let s : State := ringed 16 ds (regs [(F.AX_STAT_STATE 5,1),(F.AX_TIMING_STEP_W 5,4)]);
    (s.machReady q ds ∧ dOpcode (ds.headD 0) = 0x32) ∧ ((∃ o₁ o₂ o₃,
    (s.machState q ds).applyMach (s.machRef q ds) ds = .done o₁ o₂ o₃))) ∧
    (let m0 := ({ target := 500, vmax := 25600, amax := 1000, jmax := 0, blend := 0, tag := 0, notify := false } : Move);
    let ds : List Desc := [mkEntry [(0,1,0x33),(8,1,5),(10,6,100),(16,4,25600),(20,4,1000),(24,4,0)]]; let q : Fin 32 := 16;
    let s : State := ringed 16 ds ((regs [(F.AX_STAT_STATE 5,2),(F.AX_TIMING_STEP_W 5,4)]).modAxis 5 (fun x => { x with queue := [m0] }));
    (s.machReady q ds ∧ dOpcode (ds.headD 0) = 0x33) ∧ ((∃ o₁ o₂ o₃,
    (s.machState q ds).applyMach (s.machRef q ds) ds = .done o₁ o₂ o₃))) ∧
    (let ds : List Desc := [mkEntry [(0,1,0x34),(8,1,5),(9,1,0)]]; let q : Fin 32 := 16;
    let s : State := ringed 16 ds (regs [(F.AX_STAT_STATE 5,1),(F.AX_TIMING_STEP_W 5,4)]); (s.machReady q ds ∧
    dOpcode (ds.headD 0) = 0x34) ∧ ((∃ o₁ o₂ o₃, (s.machState q ds).applyMach (s.machRef q ds) ds = .done o₁ o₂ o₃))) ∧
    (let ds : List Desc := [mkEntry [(0,1,0x35),(8,1,5),(9,1,0)]]; let q : Fin 32 := 16;
    let s : State := ringed 16 ds (regs [(F.AX_STAT_STATE 5,1),(F.AX_TIMING_STEP_W 5,4)]); (s.machReady q ds ∧
    dOpcode (ds.headD 0) = 0x35 ∧ dField (ds.headD 0) 9 1 = 0) ∧ ((∃ o₁ o₂ o₃,
    (s.machState q ds).applyMach (s.machRef q ds) ds = .done o₁ o₂ o₃))) ∧
    (let ds : List Desc := [mkEntry [(0,1,0x35),(8,1,5),(9,1,1)]]; let q : Fin 32 := 16;
    let s : State := ringed 16 ds (regs [(F.AX_STAT_STATE 5,6),(F.AX_TIMING_STEP_W 5,4)]); (s.machReady q ds ∧
    dOpcode (ds.headD 0) = 0x35 ∧ dField (ds.headD 0) 9 1 = 1) ∧ ((∃ o₁ o₂ o₃,
    (s.machState q ds).applyMach (s.machRef q ds) ds = .done o₁ o₂ o₃))) ∧
    (let ds : List Desc := [mkEntry [(0,1,0x35),(8,1,5),(9,1,2)]]; let q : Fin 32 := 16;
    let s : State := ringed 16 ds (regs [(F.AX_STAT_STATE 5,6),(F.AX_TIMING_STEP_W 5,4)]); (s.machReady q ds ∧
    dOpcode (ds.headD 0) = 0x35 ∧ dField (ds.headD 0) 9 1 = 2) ∧ ((∃ o₁ o₂ o₃,
    (s.machState q ds).applyMach (s.machRef q ds) ds = .done o₁ o₂ o₃))) ∧
    (let ds : List Desc := [mkEntry [(0,1,0x35),(8,1,5),(9,1,3)]]; let q : Fin 32 := 16;
    let s : State := ringed 16 ds (regs [(F.AX_STAT_STATE 5,1),(F.AX_TIMING_STEP_W 5,4)]); (s.machReady q ds ∧
    dOpcode (ds.headD 0) = 0x35 ∧ dField (ds.headD 0) 9 1 = 3) ∧ ((∃ o₁ o₂ o₃,
    (s.machState q ds).applyMach (s.machRef q ds) ds = .done o₁ o₂ o₃))) :=
  ⟨by decide +kernel, by decide +kernel, by decide +kernel, by decide +kernel, by decide +kernel, by decide +kernel,
    ⟨by decide +kernel, done_of _ (by decide +kernel)⟩, ⟨by decide +kernel, done_of _ (by decide +kernel)⟩,
    ⟨by decide +kernel, done_of _ (by decide +kernel)⟩, ⟨by decide +kernel, done_of _ (by decide +kernel)⟩,
    ⟨by decide +kernel, done_of _ (by decide +kernel)⟩, ⟨by decide +kernel, done_of _ (by decide +kernel)⟩,
    ⟨by decide +kernel, done_of _ (by decide +kernel)⟩⟩

theorem witness_AxisEvents :
    ((let s : State := live; let a : Fin 32 := 31; (s.up) ∧ ((s.axState a < 2 ∨ 5 < s.axState a))) ∧ (let a : Fin 32 := 5;
    let g : Seg := { p := 8589934592, v := 0, a := 0, j := 0, dur := 1000000000, pEnd := 8589934592, vEnd := 0, aEnd := 0 };
    let gs : List Seg := [];
    let s : State := at_ 1000 ((regs [(F.AX_STAT_STATE 5,2)]).modAxis 5 (fun x => { x with segs := [g] })); (s.up) ∧
    ((2 ≤ s.axState a) ∧ ((s.axState a ≤ 5) ∧ (((s.axis a).segs = g :: gs) ∧ (((s.axis a).home = none) ∧
    ((s.motTick * 1000 + 2500 < (s.axis a).t0 + g.dur) ∧ (let d := stepDue (s.axPos a) (s.axNow a).1; (d ≠ 0) ∧
    ((s.axReady a d = true))))))))) ∧ (let a : Fin 32 := 5; let t0 : Nat := 0;
    let s : State := (regs [(F.AX_STAT_STATE 5,1),(F.AX_TIMING_STEP_W 5,4)]).modAxis 5 (fun x => { x with stepAt := some 0 });
    ((s.axis a).stepAt = some t0) ∧ ((s.motTick < t0 + 10 * s.rd (F.AX_TIMING_STEP_W a))))) ∧ ((let a : Fin 32 := 5;
    let s : State := (regs [(F.AX_STAT_STATE 5,4)]).modAxis 5 (fun x => { x with seq := 0 }); (s.up) ∧
    (((s.axis a).segs = []) ∧ (((s.axis a).plan = []) ∧ (((s.axis a).vEnd = 0) ∧
    ((stepDue (s.axPos a) (s.axis a).pEnd = 0) ∧ (((s.axis a).home = none) ∧ (((s.axis a).queue = []) ∧ ((s.axState a = 4) ∧
    (((s.axis a).stops = [])))))))))) ∧ (let a : Fin 32 := 5;
    let s : State := (regs [(F.AX_STAT_STATE 5,5)]).modAxis 5 (fun x => { x with seq := 0 }); (s.up) ∧
    (((s.axis a).segs = []) ∧ (((s.axis a).plan = []) ∧ (((s.axis a).vEnd = 0) ∧
    ((stepDue (s.axPos a) (s.axis a).pEnd = 0) ∧ (((s.axis a).home = none) ∧ (((s.axis a).queue = []) ∧ ((s.axState a = 5) ∧
    (((s.axis a).estops = [])))))))))) ∧ (let a : Fin 32 := 5;
    let s : State := (regs [(F.AX_STAT_STATE 5,2)]).modAxis 5 (fun x => { x with seq := 0 }); ((s.axis a).home = none))) ∧
    ((let s : State := at_ 3 live; (s.up) ∧ ((s.now % 10 ≠ 0))) ∧ (let s : State := live; (s.up) ∧ ((s.now % 10 = 0))) ∧
    (let a : Fin 32 := 5; let limit : Bool := true;
    let s : State := (regs [(F.AX_STAT_STATE 5,1),(F.AX_CFG_LIMIT_POL 5,1),(F.AX_DEB_LIMIT_DEB 5,4)]).modAxis 5 (fun x => { x with limitIn := { pin := true, level := true, edge := none } });
    let act := (s.swIn a limit).pin == s.on (if limit then F.AX_CFG_LIMIT_POL a else F.AX_CFG_HOME_POL a);
    ((s.swIn a limit).level = act))) ∧ ((let a : Fin 32 := 5; let limit : Bool := true;
    let s : State := (regs [(F.AX_STAT_STATE 5,1),(F.AX_CFG_LIMIT_POL 5,1),(F.AX_DEB_LIMIT_DEB 5,4)]).modAxis 5 (fun x => { x with limitIn := { pin := true, level := false, edge := none } });
    let act := (s.swIn a limit).pin == s.on (if limit then F.AX_CFG_LIMIT_POL a else F.AX_CFG_HOME_POL a);
    let deb := s.rd (if limit then F.AX_DEB_LIMIT_DEB a else F.AX_DEB_HOME_DEB a); ((s.swIn a limit).level ≠ act) ∧
    ((deb ≠ 0))) ∧ (let a : Fin 32 := 5; let limit : Bool := true;
    let s : State := (regs [(F.AX_STAT_STATE 5,1),(F.AX_CFG_LIMIT_POL 5,1),(F.AX_DEB_LIMIT_DEB 5,0)]).modAxis 5 (fun x => { x with limitIn := { pin := true, level := false, edge := none } });
    let act := (s.swIn a limit).pin == s.on (if limit then F.AX_CFG_LIMIT_POL a else F.AX_CFG_HOME_POL a);
    let deb := s.rd (if limit then F.AX_DEB_LIMIT_DEB a else F.AX_DEB_HOME_DEB a); ((s.swIn a limit).level ≠ act) ∧
    ((deb = 0) ∧ ((s.axes.length = 32)))) ∧ (let a : Fin 32 := 5; let limit : Bool := true; let e : SwEdge := ⟨0,1,0,2⟩;
    let s : State := (regs [(F.AX_STAT_STATE 5,1),(F.AX_CFG_LIMIT_POL 5,1),(F.AX_DEB_LIMIT_DEB 5,4)]).modAxis 5 (fun x => { x with limitIn := { pin := true, level := true, edge := some ⟨0,1,0,2⟩ } });
    ((s.swIn a limit).edge = some e) ∧ (let deb := s.rd (if limit then F.AX_DEB_LIMIT_DEB a else F.AX_DEB_HOME_DEB a);
    (s.now < e.at_ + deb * 1000)))) ∧ ((let a : Fin 32 := 5; let limit : Bool := true; let e : SwEdge := ⟨0,1,0,2⟩;
    let s : State := at_ 4000 ((regs [(F.AX_STAT_STATE 5,1),(F.AX_CFG_LIMIT_POL 5,1),(F.AX_DEB_LIMIT_DEB 5,4)]).modAxis 5 (fun x => { x with limitIn := { pin := true, level := true, edge := some ⟨0,1,0,2⟩ } }));
    ((s.swIn a limit).edge = some e) ∧ (let deb := s.rd (if limit then F.AX_DEB_LIMIT_DEB a else F.AX_DEB_HOME_DEB a);
    (e.at_ + deb * 1000 ≤ s.now))) ∧ (let a : Fin 32 := 5;
    let s : State := (regs [(F.AX_STAT_STATE 5,1),(F.AX_CFG_HOME_SRC 5,1)]).modAxis 5 (fun x => { x with seq := 0 });
    (s.on (F.AX_CFG_HOME_SRC a) = true)) ∧ (let a : Fin 32 := 5;
    let s : State := (regs [(F.AX_STAT_STATE 5,1)]).modAxis 5 (fun x => { x with seq := 0 });
    (s.on (F.AX_CFG_HOME_SRC a) = false))) ∧ ((let a : Fin 32 := 5;
    let s : State := (regs [(F.AX_STAT_STATE 5,1)]).modAxis 5 (fun x => { x with seq := 0 });
    ((s.axis a).homeArmed = false)) ∧ (let a : Fin 32 := 5;
    let s : State := (regs [(F.AX_STAT_STATE 5,1)]).modAxis 5 (fun x => { x with homeArmed := true });
    ((s.axis a).homeArmed = true) ∧ (((s.axis a).home = none))) ∧ (let a : Fin 32 := 5;
    let s : State := (regs [(F.AX_STAT_STATE 5,1)]).modAxis 5 (fun x => { x with seq := 0 });
    ((s.axis a).limitArmed = false) ∧ ((s.axState a = 1)))) ∧ ((let a : Fin 32 := 5;
    let s : State := (regs [(F.AX_STAT_STATE 5,1)]).modAxis 5 (fun x => { x with limitArmed := true });
    ((s.axis a).limitArmed = true) ∧ ((s.axState a = 1) ∧ (((s.axis a).home = none)))) ∧ (let a : Fin 32 := 5;
    let s : State := (regs [(F.AX_STAT_STATE 5,1)]).modAxis 5 (fun x => { x with limitArmed := true });
    ((s.axis a).limitArmed = true) ∧ ((s.axState a = 1) ∧ (((s.axis a).home = none) ∧ ((a.val < s.axes.length))))) ∧
    (let a : Fin 32 := 5;
    let s : State := (regs [(F.AX_STAT_STATE 5,2),(F.AX_CFG_CRIT 5,1)]).modAxis 5 (fun x => { x with vEnd := 100000 });
    ((s.axis a).limitArmed = false) ∧ ((s.axState a = 2) ∧ (((s.axis a).home = none) ∧
    (((if s.on (F.AX_CFG_LIMIT_DIR a) then (s.axNow a).2.1 < 0 else 0 < (s.axNow a).2.1))))))) ∧ ((let a : Fin 32 := 5;
    let s : State := (regs [(F.AX_STAT_STATE 5,2),(F.AX_CFG_CRIT 5,1)]).modAxis 5 (fun x => { x with vEnd := 100000 });
    ((s.axis a).limitArmed = false) ∧ ((s.axState a = 2) ∧ (((s.axis a).home = none) ∧
    (((if s.on (F.AX_CFG_LIMIT_DIR a) then (s.axNow a).2.1 < 0 else 0 < (s.axNow a).2.1)) ∧
    ((s.on (F.AX_CFG_CRIT a) = true)))))) ∧ (let s : State := live; (s.up))) :=
  ⟨by decide +kernel, by decide +kernel, by decide +kernel, by decide +kernel, by decide +kernel, by decide +kernel,
    by decide +kernel, by decide +kernel⟩

theorem witness_EncodersAndWeb :
    ((let s : State := live; let n : Fin 8 := 7; (s.up) ∧ ((s.on (F.ENC_CFG_EN n) = false))) ∧ (let s : State := live;
    let n : Fin 8 := 0; let a : Bool := true; let b : Bool := true; (s.up) ∧ (((s.enc n).a.level = (s.enc n).a.raw) ∧
    (((s.enc n).b.level = (s.enc n).b.raw) ∧ (((s.enc n).z.level = (s.enc n).z.raw) ∧
    ((s.rd (F.ENC_CFG_FILT n) ≠ 0 ∨ (s.enc n).a.raw = a ∧ (s.enc n).b.raw = b)))))) ∧ (let x : FiltIn := { raw := true };
    (x.level ≠ x.raw))) ∧ ((let n : Fin 8 := 7; let a : Bool := true; let b : Bool := true;
    let s : State := regs [(F.ENC_CFG_EN 7,1),(F.ENC_CFG_FILT 7,0)]; (s.up) ∧ ((s.encReady n) ∧ (((s.enc n).a.level ≠ a) ∧
    (((s.enc n).b.level ≠ b))))) ∧ (let n : Fin 8 := 7; let a : Bool := true; let b : Bool := false; let fwd : Bool := true;
    let s : State := regs [(F.ENC_CFG_EN 7,1),(F.ENC_CFG_FILT 7,0)]; (s.up) ∧ ((s.encReady n) ∧ (((s.enc n).a.level ≠ a ∧
    (s.enc n).b.level = b ∧ fwd = (a != b) ∨ (s.enc n).a.level = a ∧ (s.enc n).b.level ≠ b ∧ fwd = (a == b))))) ∧
    (let n : Fin 8 := 7; let z : Bool := true; let s : State := regs [(F.ENC_CFG_EN 7,1),(F.ENC_CFG_FILT 7,0)]; (s.up) ∧
    ((s.encReady n) ∧ (((s.enc n).z.level ≠ z) ∧ ((z ≠ s.on (F.ENC_CFG_Z_POL n))))))) ∧ ((let n : Fin 8 := 7;
    let s : State := { (regs [(F.ENC_CFG_EN 7,1),(F.ENC_CFG_FILT 7,0),(F.ENC_CFG_Z_POL 7,0)]) with encs := live.encs.modify 7 (fun x => { x with z := { x.z with level := true, raw := true } }) };
    (s.up) ∧ ((s.encReady n) ∧ (((s.enc n).z.level = !s.on (F.ENC_CFG_Z_POL n))))) ∧ (let s : State := live; (s.up)) ∧
    (let s : State := live; (s.up) ∧ ((s.on F.WEB_CFG_EN = false)))) ∧ (let t0 : Nat := 0; let f0 : Int := 0;
    let s : State := at_ 2000000 { regs [(F.WEB_CFG_EN,1)] with web := { live.web with hist := [(0, 0)] } }; (s.up) ∧
    ((s.on F.WEB_CFG_EN = true) ∧ ((histAt (s.now - 1000000) s.web.hist = some (t0, f0))))) :=
  ⟨by decide +kernel, by decide +kernel, by decide +kernel, by decide +kernel⟩

theorem witness_LoopEngine :
    ((let d : Desc := mkEntry [(0,1,0x36),(8,2,191),(10,1,0),(12,2,5)]; (dOpcode d = 0x36) ∧ ((dCount d = 0) ∧
    ((dField d 8 2 ≤ 191) ∧ ((dZero d 11 11 = true) ∧ ((dZero d 14 63 = true) ∧ (let op := dField d 10 1; (op = 0))))))) ∧
    (let d : Desc := mkEntry [(0,1,0x36),(8,2,191),(10,1,3),(12,2,5)];
    let s : State := regs [(F.LP_STAT_MODE 191,0),(F.GLB_STATE_HOLD,0)]; (dOpcode d = 0x36) ∧ ((dCount d = 0) ∧
    ((dField d 8 2 ≤ 191) ∧ ((dZero d 11 11 = true) ∧ ((dZero d 14 63 = true) ∧ (let l := dField d 8 2;
    let op := dField d 10 1; let m := s.loopMode l; (op = 1 ∨ op = 3) ∧ ((s.on F.GLB_STATE_HOLD = false) ∧
    ((m ≠ 3))))))))) ∧ (let d : Desc := mkEntry [(0,1,0x36),(8,2,191),(10,1,3),(12,2,5)];
    let s : State := regs [(F.LP_STAT_MODE 191,3),(F.GLB_STATE_HOLD,0)]; (dOpcode d = 0x36) ∧ ((dCount d = 0) ∧
    ((dField d 8 2 ≤ 191) ∧ ((dZero d 11 11 = true) ∧ ((dZero d 14 63 = true) ∧ (let l := dField d 8 2;
    let op := dField d 10 1; let m := s.loopMode l; (op = 1 ∨ op = 3) ∧ ((s.on F.GLB_STATE_HOLD = true ∨ m = 3))))))))) ∧
    ((let d : Desc := mkEntry [(0,1,0x36),(8,2,191),(10,1,2),(12,2,5)];
    let s : State := regs [(F.LP_STAT_MODE 191,2),(F.GLB_STATE_HOLD,0)]; (dOpcode d = 0x36) ∧ ((dCount d = 0) ∧
    ((dField d 8 2 ≤ 191) ∧ ((dZero d 11 11 = true) ∧ ((dZero d 14 63 = true) ∧ (let l := dField d 8 2;
    let op := dField d 10 1; let m := s.loopMode l; (op = 2) ∧ ((m = 2)))))))) ∧
    (let d : Desc := mkEntry [(0,1,0x36),(8,2,191),(10,1,2),(12,2,5)];
    let s : State := regs [(F.LP_STAT_MODE 191,0),(F.GLB_STATE_HOLD,0)]; (dOpcode d = 0x36) ∧ ((dCount d = 0) ∧
    ((dField d 8 2 ≤ 191) ∧ ((dZero d 11 11 = true) ∧ ((dZero d 14 63 = true) ∧ (let l := dField d 8 2;
    let op := dField d 10 1; let m := s.loopMode l; (op = 2) ∧ ((m ≠ 2)))))))) ∧
    (let d : Desc := mkEntry [(0,1,0x36),(8,2,191),(10,1,4),(12,2,5)]; (dOpcode d = 0x36) ∧ ((dCount d = 0) ∧
    ((dField d 8 2 ≤ 191) ∧ ((dZero d 11 11 = true) ∧ ((dZero d 14 63 = true) ∧ (let op := dField d 10 1; (op = 4)))))))) ∧
    ((let d : Desc := mkEntry [(0,1,0x36),(8,2,191),(10,1,5),(12,2,5)];
    let s : State := regs [(F.LP_STAT_MODE 191,3),(F.GLB_STATE_HOLD,0)]; (dOpcode d = 0x36) ∧ ((dCount d = 0) ∧
    ((dField d 8 2 ≤ 191) ∧ ((dZero d 11 11 = true) ∧ ((dZero d 14 63 = true) ∧ (let l := dField d 8 2;
    let op := dField d 10 1; let m := s.loopMode l; (op = 5) ∧ ((m = 3)))))))) ∧
    (let d : Desc := mkEntry [(0,1,0x36),(8,2,191),(10,1,5),(12,2,5)];
    let s : State := regs [(F.LP_STAT_MODE 191,0),(F.GLB_STATE_HOLD,0)]; (dOpcode d = 0x36) ∧ ((dCount d = 0) ∧
    ((dField d 8 2 ≤ 191) ∧ ((dZero d 11 11 = true) ∧ ((dZero d 14 63 = true) ∧ (let l := dField d 8 2;
    let op := dField d 10 1; let m := s.loopMode l; (op = 5) ∧ ((m ≠ 3)))))))) ∧
    (let d : Desc := mkEntry [(0,1,0x36),(8,2,191),(10,1,6),(12,2,5)]; (dOpcode d = 0x36) ∧ ((dCount d = 0) ∧
    ((dField d 8 2 ≤ 191) ∧ ((dZero d 11 11 = true) ∧ ((dZero d 14 63 = true) ∧ (let op := dField d 10 1; (5 < op)))))))) ∧
    ((let d : Desc := mkEntry [(0,1,0x37),(8,2,191),(10,1,0),(11,1,0)]; (dOpcode d = 0x37) ∧ ((progFormat d = false))) ∧
    (let s : State := live; let d : Desc := mkEntry [(0,1,0x37),(8,2,191),(10,1,0),(11,1,1)]; (dOpcode d = 0x37) ∧
    ((progFormat d = true) ∧ ((s.isPending (State.slotGroup (dField d 8 2)) = false)))) ∧ (let s : State := live;
    let d : Desc := mkEntry [(0,1,0x37),(8,2,191),(10,1,0),(11,1,1)]; let i : Nat := 0; let j : Nat := 3;
    (dOpcode d = 0x37) ∧ ((progFormat d = true) ∧ ((s.isPending (State.slotGroup (dField d 8 2)) = false) ∧
    ((i < dField d 11 1) ∧ ((j < 4))))))) ∧ ((let s : State := live; let l : Fin 192 := 191; (s.loopMode l = 0)) ∧
    (let l : Fin 192 := 191; let s : State := regs [(F.LP_STAT_MODE 191,3),(F.GLB_STATE_HOLD,0)]; (s.loopMode l = 3)) ∧
    (let s : State := live; let l : Fin 192 := 191; (s.loopMode l ≠ 3))) ∧ ((let l : Fin 192 := 191;
    let s : State := at_ 50 live; (s.up) ∧ ((s.loopDue l = false))) ∧ (let l : Fin 192 := 191; let s : State := live;
    (s.up) ∧ ((s.loopDue l = true))) ∧ (let l : Fin 192 := 191; let s : State := live; (s.loopDue l = true) ∧
    ((s.loopMode l = 0) ∧ (((s.loop l).ctls = []) ∧ (((s.loop l).held = false)))))) ∧ ((let l : Fin 192 := 191;
    let t0 : Nat := 0; let v : Nat := 5; let s : State := live.modLoop 191 (fun x => { x with setOld := some (0, 5) });
    ((s.loop l).setOld = some (t0, v))) ∧
    (let p : ProgStep := { type := 0, track := false, a := 0, b := 1, d := 0, shift := 0, c := [], clean := true };
    (p.type = 0)) ∧
    (let p : ProgStep := { type := 1, track := false, a := 0, b := 1, d := 0, shift := 0, c := [1,2,3,4], clean := true };
    (p.type = 1))) ∧
    ((let p : ProgStep := { type := 5, track := false, a := 0, b := 1, d := 0, shift := 0, c := [-3,4,0,0], clean := true };
    (p.type = 5) ∧ ((p.co 2 = 0))) ∧
    (let p : ProgStep := { type := 7, track := false, a := 0, b := 1, d := 0, shift := 0, c := [1,2,3,4], clean := true };
    (p.type = 7))) ∧ (let ds : List Desc := [mkEntry [(0,1,0x36),(8,2,191),(10,1,0),(12,2,5)]]; let q : Fin 32 := 16;
    let s : State := ringed 16 ds (live); (s.machReady q ds ∧ dOpcode (ds.headD 0) = 0x36 ∧ dField (ds.headD 0) 10 1 = 0) ∧
    ((∃ o₁ o₂ o₃, (s.machState q ds).applyMach (s.machRef q ds) ds = .done o₁ o₂ o₃))) ∧
    (let ds : List Desc := [mkEntry [(0,1,0x36),(8,2,191),(10,1,1),(12,2,5)]]; let q : Fin 32 := 16;
    let s : State := ringed 16 ds (regs [(F.LP_STAT_MODE 191,0),(F.GLB_STATE_HOLD,0)]); (s.machReady q ds ∧
    dOpcode (ds.headD 0) = 0x36 ∧ dField (ds.headD 0) 10 1 = 1) ∧ ((∃ o₁ o₂ o₃,
    (s.machState q ds).applyMach (s.machRef q ds) ds = .done o₁ o₂ o₃))) ∧
    (let ds : List Desc := [mkEntry [(0,1,0x36),(8,2,191),(10,1,2),(12,2,5)]]; let q : Fin 32 := 16;
    let s : State := ringed 16 ds (regs [(F.LP_STAT_MODE 191,2),(F.GLB_STATE_HOLD,0)]); (s.machReady q ds ∧
    dOpcode (ds.headD 0) = 0x36 ∧ dField (ds.headD 0) 10 1 = 2) ∧ ((∃ o₁ o₂ o₃,
    (s.machState q ds).applyMach (s.machRef q ds) ds = .done o₁ o₂ o₃))) ∧
    (let ds : List Desc := [mkEntry [(0,1,0x36),(8,2,191),(10,1,3),(12,2,5)]]; let q : Fin 32 := 16;
    let s : State := ringed 16 ds (regs [(F.LP_STAT_MODE 191,0),(F.GLB_STATE_HOLD,0)]); (s.machReady q ds ∧
    dOpcode (ds.headD 0) = 0x36 ∧ dField (ds.headD 0) 10 1 = 3) ∧ ((∃ o₁ o₂ o₃,
    (s.machState q ds).applyMach (s.machRef q ds) ds = .done o₁ o₂ o₃))) ∧
    (let ds : List Desc := [mkEntry [(0,1,0x36),(8,2,191),(10,1,4),(12,2,5)]]; let q : Fin 32 := 16;
    let s : State := ringed 16 ds (live); (s.machReady q ds ∧ dOpcode (ds.headD 0) = 0x36 ∧ dField (ds.headD 0) 10 1 = 4) ∧
    ((∃ o₁ o₂ o₃, (s.machState q ds).applyMach (s.machRef q ds) ds = .done o₁ o₂ o₃))) ∧
    (let ds : List Desc := [mkEntry [(0,1,0x36),(8,2,191),(10,1,5),(12,2,5)]]; let q : Fin 32 := 16;
    let s : State := ringed 16 ds (regs [(F.LP_STAT_MODE 191,3),(F.GLB_STATE_HOLD,0)]); (s.machReady q ds ∧
    dOpcode (ds.headD 0) = 0x36 ∧ dField (ds.headD 0) 10 1 = 5) ∧ ((∃ o₁ o₂ o₃,
    (s.machState q ds).applyMach (s.machRef q ds) ds = .done o₁ o₂ o₃))) ∧
    (let ds : List Desc := [mkEntry [(0,1,0x37),(8,2,191),(11,1,1)]]; let q : Fin 32 := 16;
    let s : State := ringed 16 ds live; (s.machReady q ds ∧ dOpcode (ds.headD 0) = 0x37) ∧ ((∃ o₁ o₂ o₃,
    (s.machState q ds).applyMach (s.machRef q ds) ds = .done o₁ o₂ o₃))) :=
  ⟨by decide +kernel, by decide +kernel, by decide +kernel, by decide +kernel, by decide +kernel, by decide +kernel,
    by decide +kernel, by decide +kernel, ⟨by decide +kernel, done_of _ (by decide +kernel)⟩, ⟨by decide +kernel,
    done_of _ (by decide +kernel)⟩, ⟨by decide +kernel, done_of _ (by decide +kernel)⟩, ⟨by decide +kernel,
    done_of _ (by decide +kernel)⟩, ⟨by decide +kernel, done_of _ (by decide +kernel)⟩, ⟨by decide +kernel,
    done_of _ (by decide +kernel)⟩, ⟨by decide +kernel, done_of _ (by decide +kernel)⟩⟩

theorem witness_HighVoltageAndFusers :
    ((let s : State := live; let n : Fin 24 := 23; let code : Nat := 5; (s.up) ∧
    ((code % 4096 < s.rd (F.HV_CFG_TRIP n) ∨ s.rd (F.HV_CFG_TRIP n) = 0))) ∧ (let n : Fin 24 := 23; let code : Nat := 4000;
    let s : State := { regs [(F.HV_CFG_TRIP 23,3000)] with hvs := live.hvs.map (fun x => { x with high := 1 }) }; (s.up) ∧
    ((s.hvs.length = 24) ∧ ((s.rd (F.HV_CFG_TRIP n) ≠ 0) ∧ ((s.rd (F.HV_CFG_TRIP n) ≤ code % 4096) ∧
    ((1 ≤ (s.hvs.getD n {}).high) ∧ ((s.on (F.HV_CTL_TRIPPED n) = false))))))) ∧ (let n : Fin 24 := 23;
    let s : State := regs [(F.HV_CFG_TRIP 23,100),(F.HV_STAT_SENSE 23,50),(F.HV_CTL_TRIPPED 23,1)]; (s.up) ∧
    ((s.rd (F.HV_STAT_SENSE n) < s.rd (F.HV_CFG_TRIP n))))) ∧ ((let n : Fin 24 := 23;
    let s : State := regs [(F.HV_CFG_TRIP 23,30),(F.HV_STAT_SENSE 23,30)]; (s.up) ∧
    ((s.rd (F.HV_CFG_TRIP n) ≤ s.rd (F.HV_STAT_SENSE n)))) ∧ (let s : State := live; let held : Nat := 0; (s.up) ∧
    ((held < s.zcFilt))) ∧ (let held : Nat := 200000; let s : State := regs [(F.PWR_DOM_LEVEL 5,2)]; (s.up) ∧
    ((s.zcFilt ≤ held) ∧ ((s.domOn 5 = true))))) ∧ ((let held : Nat := 200000;
    let s : State := regs [(F.PWR_DOM_LEVEL 5,0),(F.VIG_EMBER_CFG_EMBER_EN,1)]; (s.up) ∧ ((s.zcFilt ≤ held) ∧
    ((s.domOn 5 = false) ∧ ((s.emberOn = true))))) ∧ (let s : State := live; (s.zc.lastAt = none)) ∧ (let n : Fin 8 := 7;
    let s : State := regs [(F.FZ_CFG_EN 7,1)]; (s.on (F.FZ_CFG_EN n) = true) ∧ ((s.on (F.FZ_CFG_FULLCYC n) = false) ∧
    ((s.fzs.length = 8) ∧ ((s.undervolt = false) ∧ ((s.on (F.FZ_STAT_OVERTEMP n) = false))))))) ∧ ((let n : Fin 8 := 7;
    let s : State := regs [(F.FZ_CFG_EN 7,1),(F.FZ_STAT_OVERTEMP 7,1)]; (s.on (F.FZ_CFG_EN n) = true) ∧
    ((s.on (F.FZ_CFG_FULLCYC n) = false) ∧ ((s.fzs.length = 8) ∧ ((s.undervolt = false) ∧
    ((s.on (F.FZ_STAT_OVERTEMP n) = true)))))) ∧ (let n : Fin 8 := 7; let s : State := regs [(F.FZ_CFG_EN 7,1)];
    (s.on (F.FZ_CFG_EN n) = true) ∧ ((s.on (F.FZ_CFG_FULLCYC n) = false) ∧ ((s.fzs.length = 8) ∧
    ((s.undervolt = false))))) ∧ (let s : State := live; (s.fzs.length = 8))) ∧ ((let s : State := at_ 25000000 live;
    (s.up) ∧ ((s.zc.lost = false) ∧ ((s.zc.since + 25000000 ≤ s.now)))) ∧ (let s : State := at_ 24999999 live; (s.up) ∧
    ((s.zc.lost = true ∨ s.now < s.zc.since + 25000000))) ∧ (let s : State := live; (s.up))) ∧ ((let n : Fin 16 := 15;
    let s : State := regs [(F.TH_CFG_EN 15,1)]; (s.on (F.TH_CFG_EN n) = true)) ∧ (let s : State := live;
    let n : Fin 16 := 15; (s.on (F.TH_CFG_EN n) = false)) ∧ (let z : Fin 8 := 7;
    let s : State := regs [(F.FZ_CFG_EN 7,1),(F.FZ_CFG_TSRC 7,2),(F.TH_STAT_FAULT 2,1)]; (s.on (F.FZ_CFG_EN z) = true) ∧
    ((s.on (F.FZ_STAT_OVERTEMP z) = false) ∧
    ((s.on (F.TH_STAT_FAULT (s.rd (F.FZ_CFG_TSRC z))) = true ∨ 16 * (s.rd (F.FZ_TMAX_T_MAX z) : Int) ≤ s.rdS (F.TH_STAT_TEMP (s.rd (F.FZ_CFG_TSRC z)))))))) ∧
    ((let n : Fin 8 := 7; let s : State := regs [(F.FZ_TMAX_T_MAX 7,200)]; (s.up) ∧ (let k := s.rd (F.FZ_CFG_TSRC n);
    (s.on (F.TH_STAT_FAULT k) = false) ∧ ((s.rdS (F.TH_STAT_TEMP k) < 16 * ((s.rd (F.FZ_TMAX_T_MAX n) : Int) - 10))))) ∧
    (let n : Fin 8 := 7; let s : State := regs [(F.FZ_CFG_TSRC 7,2),(F.TH_STAT_FAULT 2,1)]; (s.up) ∧
    (let k := s.rd (F.FZ_CFG_TSRC n);
    (s.on (F.TH_STAT_FAULT k) = true ∨ 16 * ((s.rd (F.FZ_TMAX_T_MAX n) : Int) - 10) ≤ s.rdS (F.TH_STAT_TEMP k))))) :=
  ⟨by decide +kernel, by decide +kernel, by decide +kernel, by decide +kernel, by decide +kernel, by decide +kernel,
    by decide +kernel⟩

theorem witness_ClaspStates :
    ((let c : Nat := 103; let u : Nat := 0; let s : State := live; (s.rd (F.CLASP_ACK_ACK c) ≤ s.rd (F.ISL_SIGNET_SIGNET u)) ∧
    ((s.isl.switches = []) ∧ ((c < 104) ∧ ((s.clasps.length = 104))))) ∧ (let u : Nat := 0; let c : Nat := 103;
    let s : State := at_ 5 (regs [(F.CLASP_ACK_ACK 103,5)]); (s.rd (F.ISL_SIGNET_SIGNET u) < s.rd (F.CLASP_ACK_ACK c)) ∧
    ((c < 104) ∧
    (((s.clasps.getD c {}).acceptedAt ≠ s.now ∨ s.rd (F.ISL_SIGNET_SIGNET u) < (s.clasps.getD c {}).ackWas)))) ∧
    (let u : Nat := 0; let c : Nat := 103; let s : State := regs [(F.CLASP_ACK_ACK 103,5)];
    (s.rd (F.ISL_SIGNET_SIGNET u) < s.rd (F.CLASP_ACK_ACK c)) ∧ (((s.clasps.getD c {}).acceptedAt = s.now) ∧
    (((s.clasps.getD c {}).ackWas ≤ s.rd (F.ISL_SIGNET_SIGNET u)))))) ∧ ((let s : State := live; let u : Fin 2 := 0;
    (s.up) ∧ ((s.islState u ≠ 3 ∧ s.islState u ≠ 4))) ∧ (let u : Fin 2 := 1;
    let s : State := regs [(F.PWR_DOM_LEVEL 5,2),(F.PWR_DOM_LEVEL 3,2),(F.PWR_DOM_LEVEL 4,2),(F.ISL_STAT_STATE 1,4)];
    (s.up) ∧ ((s.islState u = 3 ∨ s.islState u = 4) ∧ ((s.domOn (3 + u) = true) ∧ ((s.domOn 5 = true))))) ∧
    (let c : Fin 104 := 103;
    let s : State := at_ 12000 (regs [(F.PWR_DOM_LEVEL 5,2),(F.PWR_DOM_LEVEL 3,2),(F.PWR_DOM_LEVEL 4,2),(F.CLASP_STAT_STATE 103,0),(F.CLASP_CFG_HOLD_LIM 103,50)]);
    (s.up) ∧ ((s.domOn 5 = true) ∧ ((s.rd (F.CLASP_STAT_STATE c) = 0) ∧
    (((s.clasps.getD c {}).acceptedAt + 12000 ≤ s.now)))))) ∧ ((let c : Fin 104 := 103;
    let s : State := at_ 11999 (regs [(F.PWR_DOM_LEVEL 5,2),(F.PWR_DOM_LEVEL 3,2),(F.PWR_DOM_LEVEL 4,2),(F.CLASP_STAT_STATE 103,0),(F.CLASP_CFG_HOLD_LIM 103,50)]);
    (s.up) ∧ ((s.domOn 5 = true) ∧ ((s.rd (F.CLASP_STAT_STATE c) = 0) ∧
    ((s.now < (s.clasps.getD c {}).acceptedAt + 12000))))) ∧ (let c : Fin 104 := 103;
    let s : State := at_ 50001 (regs [(F.PWR_DOM_LEVEL 5,2),(F.PWR_DOM_LEVEL 3,2),(F.PWR_DOM_LEVEL 4,2),(F.CLASP_STAT_STATE 103,1),(F.CLASP_CFG_HOLD_LIM 103,50)]);
    (s.up) ∧ ((s.domOn 5 = true) ∧ ((s.rd (F.CLASP_STAT_STATE c) = 1) ∧
    (((s.clasps.getD c {}).acceptedAt + 1000 * s.rd (F.CLASP_CFG_HOLD_LIM c) < s.now))))) ∧ (let c : Fin 104 := 103;
    let s : State := at_ 49999 (regs [(F.PWR_DOM_LEVEL 5,2),(F.PWR_DOM_LEVEL 3,2),(F.PWR_DOM_LEVEL 4,2),(F.CLASP_STAT_STATE 103,1),(F.CLASP_CFG_HOLD_LIM 103,50)]);
    (s.up) ∧ ((s.domOn 5 = true) ∧ ((s.rd (F.CLASP_STAT_STATE c) = 1) ∧
    ((s.now ≤ (s.clasps.getD c {}).acceptedAt + 1000 * s.rd (F.CLASP_CFG_HOLD_LIM c))))))) ∧ (let s : State := live;
    (s.up)) :=
  ⟨by decide +kernel, by decide +kernel, by decide +kernel, by decide +kernel⟩

theorem witness_Islands :
    ((let s : State := live; let u : Fin 2 := 1; (s.islState u ≠ 4)) ∧ (let u : Fin 2 := 1;
    let s : State := (regs [(F.PWR_DOM_LEVEL 5,2),(F.PWR_DOM_LEVEL 3,2),(F.PWR_DOM_LEVEL 4,2),(F.ISL_STAT_STATE 0,0),(F.ISL_STAT_STATE 1,4)]).modIsl 1 (fun x => { x with slices := 0 });
    (s.up) ∧ ((s.islState u ≠ 0) ∧ ((s.domOn (3 + u) = true)))) ∧ (let u : Fin 2 := 1;
    let s : State := (regs [(F.PWR_DOM_LEVEL 5,2),(F.PWR_DOM_LEVEL 3,2),(F.PWR_DOM_LEVEL 4,2),(F.ISL_STAT_STATE 0,0),(F.ISL_STAT_STATE 1,4)]).modIsl 1 (fun x => { x with slices := 0 });
    (s.up) ∧ ((s.islState u ≠ 0) ∧ ((s.domOn (3 + u) = true) ∧ (((s.island u).sentAt = none)))))) ∧ ((let u : Fin 2 := 0;
    let b : Beat := { state := 5, signet := 1, lkseq := 1, tseq := 0, resign := false, handover := false, fenced := false, seq := 3 };
    let s : State := (regs [(F.PWR_DOM_LEVEL 5,2),(F.PWR_DOM_LEVEL 3,2),(F.PWR_DOM_LEVEL 4,2),(F.ISL_STAT_STATE 0,4),(F.ISL_STAT_STATE 1,5)]).modIsl 1 (fun x => { x with beat := some b });
    (s.up) ∧ (((s.island (1 - u)).beat = some b) ∧ (((s.island u).heard = none) ∧ ((s.islState u ≠ 0) ∧
    ((s.domOn (3 + u) = true) ∧ ((b.resign = false) ∧ ((b.handover = false) ∧ ((s.isl.isls.length = 2))))))))) ∧
    (let u : Fin 2 := 0;
    let s : State := at_ 20000 ((regs [(F.PWR_DOM_LEVEL 5,2),(F.PWR_DOM_LEVEL 3,2),(F.PWR_DOM_LEVEL 4,2),(F.ISL_STAT_STATE 0,4)]).modIsl 0 (fun x => { x with peerLost := false }));
    (s.up) ∧ ((s.domOn (3 + u) = true) ∧ ((s.rd (F.PWR_DOM_LEVEL (4 - u)) ≠ 1) ∧ (((s.island u).peerLost = false) ∧
    (((s.island u).heardAt + 20000 ≤ s.now) ∧ ((s.islState u = 4) ∧
    ((s.rd F.CLASP_ACK_MAX_ACK_MAX ≤ s.rd (F.ISL_SIGNET_SIGNET u))))))))) ∧
    (let s : State := at_ 20000 (regs [(F.PWR_DOM_LEVEL 5,2),(F.PWR_DOM_LEVEL 3,2),(F.PWR_DOM_LEVEL 4,2)]); (s.up) ∧
    (((∀ c ∈ s.clasps, c.acceptedAt + 20000 ≤ s.now)) ∧ ((s.domOn 5 = true))))) ∧ ((let s : State := live;
    let u : Fin 2 := 0; ((∀ x ∈ (s.island u).lostAt, x.1 / 10 ≠ s.now / 10))) ∧ (let u : Fin 2 := 1; let t : Nat := 0;
    let r : Bool := true; let s : State := live.modIsl 1 (fun x => { x with lostAt := some (0, true) });
    ((s.island u).lostAt = some (t, r)) ∧ ((t / 10 = s.now / 10))) ∧ (let u : Fin 2 := 1;
    let s : State := (regs [(F.PWR_DOM_LEVEL 5,2),(F.PWR_DOM_LEVEL 3,2),(F.PWR_DOM_LEVEL 4,2),(F.ISL_STAT_STATE 0,0),(F.ISL_STAT_STATE 1,5)]).modIsl 1 (fun x => { x with bistOk := true, scrubOk := true, locketOk := true, rejoined := true });
    (s.islState u = 5) ∧ ((s.readyToBid u = true)))) ∧ ((let u : Fin 2 := 1;
    let s : State := (regs [(F.PWR_DOM_LEVEL 5,2),(F.PWR_DOM_LEVEL 3,2),(F.PWR_DOM_LEVEL 4,2),(F.ISL_STAT_STATE 0,0),(F.ISL_STAT_STATE 1,5)]).modIsl 1 (fun x => { x with slices := 0 });
    (s.islState u = 5) ∧ ((s.readyToBid u = false) ∧ (((s.island u).noSucc = false)))) ∧ (let u : Fin 2 := 1;
    let s : State := (regs [(F.PWR_DOM_LEVEL 5,2),(F.PWR_DOM_LEVEL 3,2),(F.PWR_DOM_LEVEL 4,2),(F.ISL_STAT_STATE 0,0),(F.ISL_STAT_STATE 1,1)]).modIsl 1 (fun x => { x with slices := 0 });
    (s.up) ∧ ((s.islState u = 1) ∧ ((s.domOn (3 + u) = true)))) ∧ (let u : Fin 2 := 1;
    let s : State := (regs [(F.PWR_DOM_LEVEL 5,2),(F.PWR_DOM_LEVEL 3,2),(F.PWR_DOM_LEVEL 4,2),(F.ISL_STAT_STATE 0,0),(F.ISL_STAT_STATE 1,6)]).modIsl 1 (fun x => { x with slices := 0 });
    (s.up) ∧ ((s.islState u = 6) ∧ ((s.domOn (3 + u) = true) ∧ (((s.island u).retests = [])))))) ∧ ((let u : Fin 2 := 1;
    let s : State := (regs [(F.PWR_DOM_LEVEL 5,2),(F.PWR_DOM_LEVEL 3,2),(F.PWR_DOM_LEVEL 4,2),(F.ISL_STAT_STATE 0,0),(F.ISL_STAT_STATE 1,6)]).modIsl 1 (fun x => { x with slices := 0 });
    (s.up) ∧ ((s.islState u = 6) ∧ ((s.domOn (3 + u) = true) ∧ (((s.island u).retests = []) ∧ ((s.boot.phase ≠ 3)))))) ∧
    (let u : Fin 2 := 1;
    let s : State := (regs [(F.PWR_DOM_LEVEL 5,2),(F.PWR_DOM_LEVEL 3,2),(F.PWR_DOM_LEVEL 4,2),(F.ISL_STAT_STATE 0,0),(F.ISL_STAT_STATE 1,2),(F.PWR_STAT_STATE,2)]).modIsl 1 (fun x => { x with slices := 0 });
    (s.up) ∧ ((s.islState u = 2) ∧ ((s.domOn (3 + u) = true) ∧ ((s.poweringOn = false) ∧ ((s.claspsSilent = true)))))) ∧
    (let u : Fin 2 := 1; let s : State := live; (s.up) ∧ ((s.domOn (3 + u) = false)))) ∧ ((let u : Fin 2 := 1;
    let t0 : Nat := 0;
    let s : State := at_ 2000 ((regs [(F.PWR_DOM_LEVEL 5,2),(F.PWR_DOM_LEVEL 3,2),(F.PWR_DOM_LEVEL 4,2),(F.ISL_STAT_STATE 0,0),(F.ISL_STAT_STATE 1,3)]).modIsl 1 (fun x => { x with bidAt := some 0 }));
    (s.up) ∧ (((s.island u).bidAt = some t0) ∧ ((s.islState u = 3) ∧ ((t0 + 2000 ≤ s.now) ∧ ((s.domOn (3 + u) = true) ∧
    ((s.rd F.CLASP_ACK_MAX_ACK_MAX ≤ s.rd (F.ISL_SIGNET_SIGNET u)))))))) ∧ (let u : Fin 2 := 1;
    let s : State := (regs [(F.PWR_DOM_LEVEL 5,2),(F.PWR_DOM_LEVEL 3,2),(F.PWR_DOM_LEVEL 4,2),(F.ISL_STAT_STATE 0,0),(F.ISL_STAT_STATE 1,4)]).modIsl 1 (fun x => { x with resuming := true });
    (s.up) ∧ ((s.islState u = 4) ∧ (((s.island u).resuming = true)))) ∧ (let u : Fin 2 := 1;
    let s : State := (regs [(F.PWR_DOM_LEVEL 5,2),(F.PWR_DOM_LEVEL 3,2),(F.PWR_DOM_LEVEL 4,2),(F.ISL_STAT_STATE 0,0),(F.ISL_STAT_STATE 1,4)]).modIsl 1 (fun x => { x with slices := 0 });
    (s.up) ∧ ((s.islState u = 4 ∨ s.islState u = 5) ∧ ((s.domOn (3 + u) = true))))) ∧
    ((let s : State := regs [(F.PWR_DOM_LEVEL 5,2),(F.PWR_DOM_LEVEL 3,2),(F.PWR_DOM_LEVEL 4,2),(F.ISL_STAT_STATE 0,4)];
    (s.up) ∧ ((s.islState 0 = 4) ∧ (((s.island 0).alive = true) ∧ ((s.domOn 3 = true) ∧ ((s.domOn 5 = true) ∧
    ((s.isl.lockets.length = 2))))))) ∧ (let u : Fin 2 := 1;
    let l : Locket := { lkseq := 4, tseq := 0, etime := 0, wpos := 0, valid := true, tail := 0, lastFp := [], undecided := [], axes := [], txns := [], cmds := [] };
    let s : State := { regs [(F.PWR_DOM_LEVEL 5,2),(F.PWR_DOM_LEVEL 3,2),(F.PWR_DOM_LEVEL 4,2),(F.ISL_STAT_STATE 1,5),(F.LOCKET_STAT_LKSEQ,4)] with isl := { live.isl with lockets := [some l, none] } };
    (s.up) ∧ ((s.locket = some l) ∧ ((s.islState u = 5) ∧ ((s.domOn (3 + u) = true) ∧ ((s.isl.isls.length = 2)))))) ∧
    (let u : Fin 2 := 1;
    let s : State := (regs [(F.PWR_DOM_LEVEL 5,2),(F.PWR_DOM_LEVEL 3,2),(F.PWR_DOM_LEVEL 4,2),(F.ISL_STAT_STATE 0,4),(F.ISL_STAT_STATE 1,5)]).modIsl 1 (fun x => { x with slices := 0 });
    (s.up) ∧ ((s.islState u = 5) ∧ ((s.domOn (3 + u) = true))))) ∧ ((let u : Fin 2 := 1;
    let s : State := (regs [(F.PWR_DOM_LEVEL 5,2),(F.PWR_DOM_LEVEL 3,2),(F.PWR_DOM_LEVEL 4,2),(F.ISL_STAT_STATE 0,4),(F.ISL_STAT_STATE 1,5)]).modIsl 1 (fun x => { x with slices := 0 });
    (s.up) ∧ ((s.islState u = 5) ∧ ((s.domOn (3 + u) = true) ∧ ((s.isl.isls.length = 2))))) ∧ (let u : Fin 2 := 1;
    let s : State := regs [(F.ISL_STAT_STATE 1,4),(F.PWR_DOM_LEVEL 4,2)]; (s.up) ∧ ((s.islState u ≠ 0) ∧
    ((s.domOn (3 + u) = true)))) ∧ (let u : Fin 2 := 1;
    let s : State := at_ 20000000 ((regs [(F.PWR_DOM_LEVEL 5,2),(F.PWR_DOM_LEVEL 3,2),(F.PWR_DOM_LEVEL 4,2),(F.ISL_STAT_STATE 0,4),(F.ISL_STAT_STATE 1,5)]).modIsl 1 (fun x => { x with slices := 0 }));
    (s.up) ∧ ((s.islState u ≠ 0) ∧ ((s.islState u ≠ 7) ∧ ((s.etime / 10000000 ≠ (s.island u).healthAt / 10000000)))))) ∧
    ((let s : State := live; let u : Fin 2 := 1; (s.up) ∧ ((s.islState u = 0 ∨ s.islState u = 7))) ∧ (let u : Fin 2 := 1;
    let s : State := (regs [(F.PWR_DOM_LEVEL 5,2),(F.PWR_DOM_LEVEL 3,2),(F.PWR_DOM_LEVEL 4,2),(F.ISL_STAT_STATE 0,4),(F.ISL_STAT_STATE 1,5)]).modIsl 1 (fun x => { x with rejoining := true });
    (s.up) ∧ ((s.isl.isls.length = 2) ∧ ((s.islState u = 5) ∧ (((s.island u).rejoining = true) ∧ ((s.domOn (3 + u) = true) ∧
    ((s.islState (1 - u) = 4) ∧ (((s.island u).slots = [])))))))) ∧ (let u : Fin 2 := 1;
    let s : State := (regs [(F.ISL_STAT_STATE 1,5),(F.ISL_STAT_STATE 0,4),(F.PWR_DOM_LEVEL 4,2)]).modIsl 1 (fun x => { x with rejoining := true, slots := [⟨3,[],{}⟩] });
    (s.up) ∧ ((s.isl.isls.length = 2) ∧ ((s.islState u = 5) ∧ (((s.island u).rejoining = true) ∧ ((s.domOn (3 + u) = true) ∧
    ((s.islState (1 - u) = 4) ∧ (((s.island u).slots ≠ []))))))))) ∧ ((let s : State := live; let u : Fin 2 := 0; (s.up) ∧
    ((s.islState (1 - u) ≠ 4))) ∧ (let q : Fin 32 := 16; let ds : List Desc := [mkEntry [(0,1,0x32)]];
    let s : State := (live.modRing 16 (fun g => { g with fetched := [mkEntry [(0,1,0x32)]] })).wrs [(F.RING_STAT_STATE 16, 1)];
    (s.up) ∧ ((s.takeable q = some ds) ∧ ((classOf q = 3) ∧ ((genericFail q ds = none) ∧ ((s.islandLacks q ds = true) ∧
    ((dOpcode (ds.headD 0) = 0x32))))))) ∧ (let q : Fin 32 := 16; let ds : List Desc := [mkEntry [(0,1,0x34)]];
    let s : State := (live.modRing 16 (fun g => { g with fetched := [mkEntry [(0,1,0x34)]] })).wrs [(F.RING_STAT_STATE 16, 1)];
    (s.up) ∧ ((s.takeable q = some ds) ∧ ((classOf q = 3) ∧ ((genericFail q ds = none) ∧ ((s.islandLacks q ds = true) ∧
    ((dOpcode (ds.headD 0) = 0x34)))))))) ∧ ((let q : Fin 32 := 16; let ds : List Desc := [mkEntry [(0,1,0x36),(10,1,3)]];
    let s : State := (live.modRing 16 (fun g => { g with fetched := [mkEntry [(0,1,0x36),(10,1,3)]] })).wrs [(F.RING_STAT_STATE 16, 1)];
    (s.up) ∧ ((s.takeable q = some ds) ∧ ((classOf q = 3) ∧ ((genericFail q ds = none) ∧ ((s.islandLacks q ds = true) ∧
    ((dOpcode (ds.headD 0) = 0x36) ∧ ((dField (ds.headD 0) 10 1 = 3)))))))) ∧ (let s : State := live;
    let d : Desc := mkEntry [(0,1,0x38),(8,1,0),(9,1,0)]; (dOpcode d = 0x38) ∧ ((dCount d = 0) ∧ ((dZero d 10 63 = true) ∧
    ((dField d 8 1 = 0) ∧ ((dField d 9 1 = 0) ∧ ((s.successor = none))))))) ∧
    (let d : Desc := mkEntry [(0,1,0x38),(8,1,0),(9,1,0)]; let u : Nat := 1;
    let s : State := (regs [(F.PWR_DOM_LEVEL 5,2),(F.PWR_DOM_LEVEL 3,2),(F.PWR_DOM_LEVEL 4,2),(F.ISL_STAT_STATE 0,4),(F.ISL_STAT_STATE 1,5)]).modIsl 1 (fun x => { x with bistOk := true, scrubOk := true, locketOk := true, rejoined := true });
    (dOpcode d = 0x38) ∧ ((dCount d = 0) ∧ ((dZero d 10 63 = true) ∧ ((dField d 8 1 = 0) ∧ ((dField d 9 1 = 0) ∧
    ((s.successor = some u)))))))) ∧ ((let d : Desc := mkEntry [(0,1,0x38),(8,1,1),(9,1,2)]; let u : Fin 2 := 1;
    let s : State := (regs [(F.PWR_DOM_LEVEL 5,2),(F.PWR_DOM_LEVEL 3,2),(F.PWR_DOM_LEVEL 4,2),(F.ISL_STAT_STATE 0,4),(F.ISL_STAT_STATE 1,7)]).modIsl 1 (fun x => { x with slices := 0 });
    (dOpcode d = 0x38) ∧ ((dCount d = 0) ∧ ((dZero d 10 63 = true) ∧ ((dField d 8 1 = 1) ∧ ((dField d 9 1 = u.val + 1) ∧
    ((s.islState u = 7))))))) ∧ (let d : Desc := mkEntry [(0,1,0x38),(8,1,1),(9,1,2)]; let u : Fin 2 := 1;
    let s : State := (regs [(F.PWR_DOM_LEVEL 5,2),(F.PWR_DOM_LEVEL 3,2),(F.PWR_DOM_LEVEL 4,2),(F.ISL_STAT_STATE 0,4),(F.ISL_STAT_STATE 1,5)]).modIsl 1 (fun x => { x with slices := 0 });
    (dOpcode d = 0x38) ∧ ((dCount d = 0) ∧ ((dZero d 10 63 = true) ∧ ((dField d 8 1 = 1) ∧ ((dField d 9 1 = u.val + 1) ∧
    ((s.islState u = 5))))))) ∧ (let d : Desc := mkEntry [(0,1,0x38),(8,1,1),(9,1,2)]; let u : Fin 2 := 1;
    let s : State := (regs [(F.PWR_DOM_LEVEL 5,2),(F.PWR_DOM_LEVEL 3,2),(F.PWR_DOM_LEVEL 4,2),(F.ISL_STAT_STATE 0,4),(F.ISL_STAT_STATE 1,4)]).modIsl 1 (fun x => { x with slices := 0 });
    (dOpcode d = 0x38) ∧ ((dCount d = 0) ∧ ((dZero d 10 63 = true) ∧ ((dField d 8 1 = 1) ∧ ((dField d 9 1 = u.val + 1) ∧
    ((s.islState u ≠ 7) ∧ ((s.islState u ≠ 5))))))))) ∧ ((let u : Nat := 1;
    let s : State := (regs [(F.PWR_DOM_LEVEL 5,2),(F.PWR_DOM_LEVEL 3,2),(F.PWR_DOM_LEVEL 4,2),(F.ISL_STAT_STATE 0,4),(F.ISL_STAT_STATE 1,5)]).modIsl 1 (fun x => { x with bistOk := true, scrubOk := true, locketOk := true, rejoined := true });
    (s.up) ∧ ((s.rd F.CLASP_ISL_STAT_BUSY = 0) ∧ ((s.successor = some u)))) ∧ (let s : State := live; (s.up) ∧
    ((s.rd F.CLASP_ISL_STAT_BUSY = 0) ∧ ((s.successor = none)))) ∧
    (let s : State := (regs [(F.PWR_DOM_LEVEL 5,2),(F.PWR_DOM_LEVEL 3,2),(F.PWR_DOM_LEVEL 4,2),(F.ISL_STAT_STATE 0,7),(F.ISL_STAT_STATE 1,4)]).modIsl 1 (fun x => { x with slices := 0 });
    (s.up) ∧ ((s.rd F.CLASP_ISL_STAT_BUSY = 0) ∧ ((s.islState 0 = 7))))) ∧
    (let s : State := (regs [(F.PWR_DOM_LEVEL 5,2),(F.PWR_DOM_LEVEL 3,2),(F.PWR_DOM_LEVEL 4,2),(F.ISL_STAT_STATE 0,4),(F.ISL_STAT_STATE 1,5)]).modIsl 1 (fun x => { x with slices := 0 });
    (s.up) ∧ ((s.rd F.CLASP_ISL_STAT_BUSY = 0) ∧ ((s.islState 1 = 5)))) ∧
    (let d : Desc := mkEntry [(0,1,0x38),(8,1,0),(9,1,0)]; let q : Fin 32 := 16;
    let s : State := ringed 16 [d] ((regs [(F.PWR_DOM_LEVEL 5,2),(F.PWR_DOM_LEVEL 3,2),(F.PWR_DOM_LEVEL 4,2),(F.ISL_STAT_STATE 0,4),(F.ISL_STAT_STATE 1,5)]).modIsl 1 (fun x => { x with bistOk := true, scrubOk := true, locketOk := true, rejoined := true }));
    (s.machReady q [d] ∧ dOpcode d = 0x38 ∧ dField d 8 1 = 0) ∧ ((∃ o₁ o₂ o₃,
    (s.machState q [d]).applyMach (s.machRef q [d]) [d] = .done o₁ o₂ o₃))) ∧
    (let d : Desc := mkEntry [(0,1,0x38),(8,1,1),(9,1,2)]; let q : Fin 32 := 16;
    let s : State := ringed 16 [d] (regs [(F.PWR_DOM_LEVEL 5,2),(F.PWR_DOM_LEVEL 3,2),(F.PWR_DOM_LEVEL 4,2),(F.ISL_STAT_STATE 1,5)]);
    (s.machReady q [d] ∧ dOpcode d = 0x38 ∧ dField d 8 1 = 1) ∧ ((∃ o₁ o₂ o₃,
    (s.machState q [d]).applyMach (s.machRef q [d]) [d] = .done o₁ o₂ o₃))) :=
  ⟨by decide +kernel, by decide +kernel, by decide +kernel, by decide +kernel, by decide +kernel, by decide +kernel,
    by decide +kernel, by decide +kernel, by decide +kernel, by decide +kernel, by decide +kernel, by decide +kernel,
    by decide +kernel, by decide +kernel, ⟨by decide +kernel, done_of _ (by decide +kernel)⟩, ⟨by decide +kernel,
    done_of _ (by decide +kernel)⟩⟩

theorem witness_CompatibilityMode :
    ((let s : State := live; (s.up) ∧ ((s.compat = false))) ∧ (let s : State := leg []; (s.up) ∧ ((s.compat = true))) ∧
    (let s : State := leg [(F.PWR_STAT_STATE,2),(F.ISL_STAT_STATE 0,4),(L.WEB_EN,1)]; (s.up) ∧ ((s.compat = true) ∧
    ((s.armRefusal = none))))) ∧ ((let r : Nat := 7; let f : Nat := 0; let g : Nat := 0;
    let s : State := leg [(F.GLB_MODE_STRAP_ERR,1)]; (s.up) ∧ ((s.compat = true) ∧ ((s.armRefusal = some (r, f, g))))) ∧
    (let s : State := leg []; (s.up) ∧ ((s.compat = true) ∧ ((s.rd F.GLB_STATE_ARMED = 0)))) ∧ (let v : Nat := 0x12345678;
    let s : State := { live with leg := { live.leg with axTgt := some 0x12345678 } }; (s.leg.axTgt = some v) ∧
    ((v < 2 ^ 32)))) ∧ ((let s : State := live; (s.leg.axTgt = none)) ∧
    (let p : PairHold := { addr := 0x12, other := 0x13, val := 0x0EE6, val2 := some 0xB280, start := 0 };
    let n : Fin 256 := 0x12; let s : State := { leg [] with leg := { live.leg with pairs := [p] } }; (s.up) ∧
    ((s.leg.pairs = [p]) ∧ ((p.addr = n.val) ∧ ((s.now < p.start + 64000))))) ∧
    (let p : PairHold := { addr := 0x12, other := 0x13, val := 0x0EE6, val2 := some 0xB280, start := 0 };
    let n : Fin 256 := 0x12;
    let s : State := at_ 64000 { leg [(F.PLL_BAND_B_VALID 4 0,1),(F.PLL_BAND_A_FMIN 4 0,35000),(F.PLL_BAND_A_FMAX 4 0,45000)] with leg := { live.leg with pairs := [p] } };
    (s.up) ∧ ((s.leg.pairs = [p]) ∧ ((p.addr = n.val) ∧ (let hi := min p.addr p.other; let u := s.dropHold hi;
    let old := if p.other = hi then s.pairNow hi / 65536 else s.pairNow hi % 65536; let v := p.value hi old;
    (p.start + 64000 ≤ s.now) ∧ ((u.pairOk hi v = true))))))) ∧
    ((let p : PairHold := { addr := 0x12, other := 0x13, val := 0x0EE6, val2 := some 0xB280, start := 0 };
    let n : Fin 256 := 0x12; let s : State := at_ 64000 { leg [] with leg := { live.leg with pairs := [p] } }; (s.up) ∧
    ((s.leg.pairs = [p]) ∧ ((p.addr = n.val) ∧ (let hi := min p.addr p.other; let u := s.dropHold hi;
    let old := if p.other = hi then s.pairNow hi / 65536 else s.pairNow hi % 65536; let v := p.value hi old;
    (p.start + 64000 ≤ s.now) ∧ ((u.pairOk hi v = false)))))) ∧ (let s : State := live; let st : Fin 4 := 3; (s.up) ∧
    (((s.legSt st).hop = none))) ∧ (let st : Fin 4 := 3; let f : Nat := 250000000;
    let s : State := { leg [] with leg := { live.leg with st := live.leg.st.map (fun x => { x with hop := some 250000000 }) } };
    (s.up) ∧ (((s.legSt st).hop = some f) ∧ ((s.compat = true) ∧ ((s.leg.st.length = 4) ∧ ((s.outOfFrame st = true) ∧
    ((f < 2 ^ 28)))))))) ∧ ((let st : Fin 4 := 3; let s : State := leg [(F.GLB_STATE_ARMED,1),(L.SC_CTL_EN 3,1)]; (s.up) ∧
    ((s.legRuns st = true) ∧ ((s.legFp st + s.dsNext st ≤ s.wpos) ∧ ((s.leg.st.length = 4))))) ∧ (let s : State := live;
    let st : Fin 4 := 3; (s.up) ∧ ((s.legRuns st = false))) ∧ (let ws : List (BitVec 16) := [0x4001, 0x0002];
    let s : State := leg [(L.STAT_LINK_OK,1)]; (s.up) ∧ ((s.compat = true) ∧ ((s.on L.STAT_LINK_OK = true) ∧
    ((s.leg.looping = false) ∧
    ((packetParity (s.packetTaken ((ws.map (·.toNat)).headD 0 / 8192 % 4) (ws.map (·.toNat))) ≠ 0))))))) ∧
    ((let ws : List (BitVec 16) := [0x4000, 0x4000]; let a : Nat := 0;
    let s : State := (leg [(L.STAT_LINK_OK,1),(L.SC_CTL_EN 2,1),(L.SC_PIXELS_PIXELS 2,0)]).modLeg 2 (fun x => { x with asked := some 0 });
    (s.up) ∧ ((s.compat = true) ∧ ((s.on L.STAT_LINK_OK = true) ∧ ((s.leg.looping = false) ∧
    (let h := (ws.map (·.toNat)).headD 0; let st := h / 8192 % 4; let e := h / 1024 % 8;
    let got := s.packetTaken st (ws.map (·.toNat)); (packetParity got = 0) ∧ (((s.legSt st).asked = some a) ∧
    ((s.on (L.SC_CTL_EN st) = true) ∧ ((h / 512 % 2 = (a + (s.legSt st).first) % 2) ∧
    ((s.legPacket st e a = none)))))))))) ∧ (let k : Nat := 8; let s : State := leg [(F.GLB_STATE_ARMED,1)]; (s.up) ∧
    ((s.lrdy = true) ∧ ((s.on L.STAT_LINK_OK = false) ∧ ((k ≤ 8))))) ∧ (let k : Nat := 9;
    let s : State := leg [(F.GLB_STATE_ARMED,1)]; (s.up) ∧ ((s.lrdy = true) ∧ ((s.on L.STAT_LINK_OK = false) ∧
    ((8 < k)))))) ∧ ((let s : State := leg [(L.STAT_LINK_OK,1)]; (s.up) ∧ ((s.on L.STAT_LINK_OK = true))) ∧
    (let s : State := leg [(L.STAT_LINK_OK,1)]; (s.up) ∧ ((s.on L.STAT_LINK_OK = true) ∧ ((s.lrdy = false)))) ∧
    (let s : State := leg [(F.GLB_STATE_ARMED,1)]; (s.up) ∧ ((s.lrdy = true)))) ∧
    ((let s : State := regs [(F.LVT_CFG_EN,1)]; (s.up) ∧ ((s.compat = false) ∧ ((s.on F.LVT_STAT_RDY = false) ∧
    ((s.on F.LVT_CFG_EN = true))))) ∧ (let st : Fin 8 := 7;
    let s : State := regs [(F.LVT_CFG_EN,1),(F.LVT_CFG_STATIONS,128),(F.LVT_STAT_RDY,1),(F.LVT_STAT_TRAINED,1)]; (s.up) ∧
    ((s.leg.trainAt = none) ∧ ((s.lvtStations.contains st.val = true) ∧ ((s.lvtUp = true) ∧ (((s.sc st).tf = none) ∧
    (((s.lvtSt st).page = none) ∧ ((s.leg.lvt.length = 8)))))))) ∧ (let st : Fin 8 := 1; let t : Nat := 0; let p : Nat := 3;
    let s : State := ({ ((slot3 (slotAt .imaging) (regs [(F.LVT_CFG_EN,1),(F.LVT_CFG_STATIONS,2),(F.LVT_STAT_RDY,1),(F.LVT_STAT_TRAINED,1)])).modSc 1 (fun c => { c with tf := some 0 })) with leg := { live.leg with lvt := live.leg.lvt.set 1 { page := some 3 } } } : State);
    (s.up) ∧ ((s.leg.trainAt = none) ∧ ((s.lvtStations.contains st.val = true) ∧ ((s.lvtUp = true) ∧
    (((s.sc st).tf = some t) ∧
    (let v := ((s.wr (F.ST_FACET_PERIOD_PERIOD st) (s.now * 250 - t)).modSc st (fun c => { c with tf := some (s.now * 250), fno := c.fno + 1 })).lvtPackets st;
    ((v.lvtSt st).page = some p)))))))) ∧ ((let st : Fin 8 := 7;
    let s : State := regs [(F.LVT_CFG_EN,1),(F.LVT_CFG_STATIONS,128)]; (s.up) ∧ ((s.leg.trainAt = none) ∧
    ((s.lvtStations.contains st.val = true) ∧ ((s.leg.lvtOrder = []) ∧ ((s.leg.lvtWait = []) ∧
    (((s.lvtSt st).page = none))))))) ∧ (let st : Fin 8 := 1; let p : Nat := 3;
    let s : State := ({ slot3 (slotAt .admitted) (regs [(F.LVT_CFG_EN,1),(F.LVT_CFG_STATIONS,2)]) with leg := { live.leg with lvtOrder := [3] } } : State);
    (s.up) ∧ ((s.leg.trainAt = none) ∧ ((s.lvtStations.contains st.val = true) ∧ (((s.lvtSt st).page = none) ∧
    ((s.leg.lvtOrder.find? (fun p => (s.slot p).mask.testBit st && !(s.slot p).started.testBit st) = some p)))))) ∧
    (let st : Fin 8 := 1; let p : Nat := 3;
    let s : State := ({ slot3 (fun y => { slotAt .staged y with lvt := true }) (regs [(F.LVT_CFG_EN,1),(F.LVT_CFG_STATIONS,2)]) with leg := { live.leg with lvtWait := [3] } } : State);
    (s.up) ∧ ((s.leg.trainAt = none) ∧ ((s.lvtStations.contains st.val = true) ∧ (((s.lvtSt st).page = none) ∧
    ((s.leg.lvtOrder.find? (fun p => (s.slot p).mask.testBit st && !(s.slot p).started.testBit st) = none) ∧
    ((s.lvtNext st = some p)))))))) ∧ ((let s : State := regs [(F.LVT_STAT_RDY,1)]; (s.up) ∧ ((s.on F.LVT_STAT_RDY = true) ∧
    (((∀ st : Fin 8, (s.lvtSt st).page = none))))) ∧ (let s : State := regs [(F.LINK_LOOP_EN,1)]; (s.up) ∧
    ((s.rd F.GLB_STATE_ARMED = 0) ∧ ((s.on F.LINK_LOOP_EN = true) ∧ ((s.leg.looping = false))))) ∧
    (let s : State := regs [(F.GLB_STATE_ARMED,1)]; (s.up) ∧ ((s.rd F.GLB_STATE_ARMED ≠ 0)))) ∧
    ((let s : State := { (regs [(F.LINK_LOOP_EXT,1),(F.LINK_LOOP_PACKETS,0)]) with leg := { live.leg with looping := true } };
    (s.up) ∧ ((s.leg.looping = true))) ∧ (let c : Byte := 5; let bs : List Byte := []; ((c = 2 → bs.length ≠ 3)) ∧
    (((c = 3 → bs.length ≠ 1)))) ∧ (let ns : Nat := 7; (0 < ns))) ∧
    (let s : State := leg [(F.AX_STAT_STATE 0,1),(L.AX_VMAX_VMAX,10)]; let z := s.axTarget; let a := s.rd L.AX_SEL_AXIS;
    let v := 32 * s.rd L.AX_VMAX_VMAX; let x := sInt 32 (z.rd L.AX_TGT_HI_TGT * 65536 + z.rd L.AX_TGT_LO_TGT); (s.up ∧
    s.compat = true) ∧ ((∃ o₁ o₂ o₃,
    z.applyAxis 0 [mkEntry [(8, 1, a), (0, 1, 0x32), (10, 6, uBits 48 x), (16, 4, 256 * v), (20, 4, 10 * v)]] = .done o₁ o₂ o₃))) ∧
    (let s : State := leg [(F.AX_STAT_STATE 0,1)]; let z := s.axTarget; let a := s.rd L.AX_SEL_AXIS; (s.up ∧
    s.compat = true) ∧ ((∃ o₁ o₂ o₃, z.applyAxis 0 [mkEntry [(8, 1, a), (0, 1, 0x34)]] = .done o₁ o₂ o₃))) ∧
    (let s : State := leg [(F.AX_STAT_STATE 0,1)]; let z := s.axTarget; let a := s.rd L.AX_SEL_AXIS; (s.up ∧
    s.compat = true) ∧ ((∃ o₁ o₂ o₃, z.applyAxis 0 [mkEntry [(8, 1, a), (0, 1, 0x35), (9, 1, 0)]] = .done o₁ o₂ o₃))) ∧
    (let s : State := leg [(F.AX_STAT_STATE 0,3)]; let z := s.axTarget; let a := s.rd L.AX_SEL_AXIS; (s.up ∧
    s.compat = true) ∧ ((∃ o₁ o₂ o₃, z.applyAxis 0 [mkEntry [(8, 1, a), (0, 1, 0x35), (9, 1, 1)]] = .done o₁ o₂ o₃))) ∧
    (let s : State := leg [(F.AX_STAT_STATE 0,6)]; let z := s.axTarget; let a := s.rd L.AX_SEL_AXIS; (s.up ∧
    s.compat = true) ∧ ((∃ o₁ o₂ o₃, z.applyAxis 0 [mkEntry [(8, 1, a), (0, 1, 0x35), (9, 1, 2)]] = .done o₁ o₂ o₃))) :=
  ⟨by decide +kernel, by decide +kernel, by decide +kernel, by decide +kernel, by decide +kernel, by decide +kernel,
    by decide +kernel, by decide +kernel, by decide +kernel, by decide +kernel, by decide +kernel, ⟨by decide +kernel,
    done_of _ (by decide +kernel)⟩, ⟨by decide +kernel, done_of _ (by decide +kernel)⟩, ⟨by decide +kernel,
    done_of _ (by decide +kernel)⟩, ⟨by decide +kernel, done_of _ (by decide +kernel)⟩, ⟨by decide +kernel,
    done_of _ (by decide +kernel)⟩⟩

theorem witness_ReportedCount :
    ((let n : Fin 8 := 7; let r : Int := 1; let s : State := live; let q := s.rd64 (F.ENC_REP_LO_REP n) (F.ENC_REP_HI_REP n);
    let d : Int := if s.on (F.ENC_STAT_DIR n) then -1 else 1; (0 < d * (r - q))) ∧ (let n : Fin 8 := 7;
    let r : Int := -1000; let s : State := live; let q := s.rd64 (F.ENC_REP_LO_REP n) (F.ENC_REP_HI_REP n);
    let d : Int := if s.on (F.ENC_STAT_DIR n) then -1 else 1; ((s.rd (F.ENC_CFG_JW n) : Int) < d * (q - r))) ∧
    (let n : Fin 8 := 7; let r : Int := 0; let s : State := live; let q := s.rd64 (F.ENC_REP_LO_REP n) (F.ENC_REP_HI_REP n);
    let d : Int := if s.on (F.ENC_STAT_DIR n) then -1 else 1; (0 ≤ d * (q - r)) ∧
    ((d * (q - r) ≤ s.rd (F.ENC_CFG_JW n))))) ∧ ((let n : Fin 8 := 7; let r : Int := -1000; let s : State := live;
    let q := s.rd64 (F.ENC_REP_LO_REP n) (F.ENC_REP_HI_REP n); let d : Int := if s.on (F.ENC_STAT_DIR n) then -1 else 1;
    let t := (s.encReport n r).1; (r.natAbs < 2 ^ 62) ∧ (let q' := t.rd64 (F.ENC_REP_LO_REP n) (F.ENC_REP_HI_REP n);
    (d * (q' - q) < 0))) ∧ (let n : Fin 8 := 7; let a : Bool := true; let b : Bool := false; let fwd : Bool := true;
    let s : State := regs [(F.ENC_CFG_EN 7,1),(F.ENC_CFG_FILT 7,0)]; (s.up) ∧ ((s.encReady n) ∧ (((s.enc n).a.level ≠ a ∧
    (s.enc n).b.level = b ∧ fwd = (a != b) ∨ (s.enc n).a.level = a ∧ (s.enc n).b.level ≠ b ∧ fwd = (a == b)))))) :=
  ⟨by decide +kernel, by decide +kernel⟩

theorem witness_SaturationTrip :
    ((let l : Fin 192 := 191; let s : State := regs [(F.LP_STAT_MODE 191,2)]; (s.loopMode l = 2)) ∧ (let s : State := live;
    let l : Fin 192 := 191; (s.loopMode l ≠ 2)) ∧ (let l : Fin 192 := 191;
    let s : State := regs [(F.LP_STAT_MODE 191,2),(F.LP_SUP_SAT_LIM 191,1)]; (s.loopMode l = 2) ∧
    ((s.rd (F.LP_SUP_SAT_LIM l) ≠ 0) ∧ ((s.on (F.LP_STAT_SAT_TRIP l) = false) ∧ (let u := s.inc (F.LP_SUPCNT_SATRUN l);
    (s.rd (F.LP_SUP_SAT_LIM l) ≤ u.rd (F.LP_SUPCNT_SATRUN l))))))) ∧ (let l : Fin 192 := 191;
    let s : State := regs [(F.LP_STAT_MODE 191,2),(F.LP_SUP_SAT_LIM 191,2)]; (s.loopMode l = 2) ∧
    ((s.rd (F.LP_SUP_SAT_LIM l) ≠ 0) ∧ ((s.on (F.LP_STAT_SAT_TRIP l) = false) ∧ (let u := s.inc (F.LP_SUPCNT_SATRUN l);
    (u.rd (F.LP_SUPCNT_SATRUN l) < s.rd (F.LP_SUP_SAT_LIM l)))))) :=
  ⟨by decide +kernel, by decide +kernel⟩

theorem witness_BandStoreBytes :
    ((let gs : List Nat := [4,2]; let n : Nat := 65534; let bs : List Byte := [1,0,3]; ((∀ i < bs.length, ∀ j < bs.length,
    granAddr gs (n + i) = granAddr gs (n + j) → i = j))) ∧ (let gs : List Nat := [4,2]; let n : Nat := 65534;
    let bs : List Byte := [1,0,3]; let a : Nat := 5; ((∀ i, i < bs.length → granAddr gs (n + i) ≠ a))) ∧
    (let gs : List Nat := [4,2]; let n : Nat := 1; let i : Nat := 2; let j : Nat := 2; (gs.Nodup) ∧
    ((n + i < 65536 * gs.length) ∧ ((n + j < 65536 * gs.length) ∧ ((granAddr gs (n + i) = granAddr gs (n + j))))))) ∧
    ((let b : Nat := 0; let a : Nat := 8; let bs : List Byte := [0,2]; (b < a ∨ a + bs.length ≤ b)) ∧
    (let m : List Host.Cell := [(3,5#8),(9,1#8)]; (Memory.wf m)) ∧ (let s : State := live;
    let fs : List (Nat × Nat) := [(apertureBase,4)]; let b : Nat := 9; ((∀ f ∈ fs, apertureBase ≤ f.1 →
    b < s.scratchAddr f.1 ∨ s.scratchAddr f.1 + f.2 ≤ b)))) :=
  ⟨by decide +kernel, by decide +kernel⟩


/-- A command that PORST_N low holds. -/
theorem witness_ResetHoldsEveryCommand : State.reset.boot.porst = true ∧
    (∀ m b l, Instr.fsClr ≠ .porstRelease m b l) ∧ Instr.fsClr ≠ .porstAssert ∧ Instr.fsClr ≠ .vigBrownout :=
  ⟨by decide +kernel, by simp, by simp, by simp⟩

/-- A step of the state after reset. -/
theorem witness_HeldInResetIsKept : State.HeldInReset State.reset ∧ step State.reset = .next State.reset :=
  ⟨⟨by decide +kernel, by simp [State.reset]⟩, congrArg Host.Outcome.next (by decide +kernel : State.reset.tick = State.reset)⟩

/-- A staged page whose stations can all be admitted. -/
theorem witness_EveAndAdmission_admitted :
    let s : State := regs [(F.ALM_CTL_ADMIT_EN, 1), (F.GLB_STATE_ARMED, 1)]
    let x : Slot := slotAt .staged {}
    let f : Nat → Bool := fun _ => false
    s.rd F.FAULT_STAT_FRAME_STOP = 0 ∧ s.rd F.ALM_CTL_ADMIT_EN = 1 ∧ s.rd F.GLB_STATE_ARMED = 1 ∧ x.st = .staged ∧
      x.minTier ≤ s.rd F.GLB_STATE_TIER ∧ ∀ st, x.mask.testBit st = true → f st = false :=
  ⟨by decide +kernel, by decide +kernel, by decide +kernel, by decide +kernel, by decide +kernel, fun _ _ => rfl⟩

/-- A beam that the Safe State silences. -/
theorem witness_CancelAndPriority_safeState : live.rd F.GLB_MODE_MODE = 0 ∧ ∃ b, b ∈ (live.safeStart 1 0x6007).beams :=
  ⟨by decide +kernel, (live.safeStart 1 0x6007).beam 0, by decide +kernel⟩

/-- A pulse of a line. -/
theorem witness_LineStarts_pulse :
    let s := (regs [(F.OCT_SCALE_S 0, 16384)]).modTbl 1 (fun t => { t with banks := [{ levelMap := defaultLevelMap }] })
    ∃ q, q ∈ (s.linePulses 1 0 [0, 15, 15] 16384).1 :=
  ⟨(256, 256), by decide +kernel⟩

/-- The late write of a transaction whose writes pass, none where they do not. -/
def lateIn (ds : List Desc) : Applied → Option (Nat × Fld)
  | .done v 0 0 => (lateWrite ds v).map (fun x => (x.1, x.2.2))
  | _ => none

/-- A transaction that writes DELAY of C20 and then starts C20. -/
theorem witness_Bezel_late :
    let ds := [mkEntry [(0, 1, 0x40), (8, 4, 0x33280), (12, 4, 0xFF0000), (16, 4, 0x10000)],
      mkEntry [(0, 1, 0x40), (8, 4, 0x33284), (12, 4, 1), (16, 4, 1)]]
    dOpcode (ds.headD 0) = 0x40 ∧ bezelShape ds = true ∧ ds.all bezelFormat = true ∧
      lateIn ds (bezelWrites (dTag (ds.headD 0)) 0 ds live) = some (0, F.CLK_OUT_CFG_DELAY 20) := by decide +kernel

/-- Two canonical memories that read the same. -/
theorem witness_BandStoreBytes_same :
    let m : List Host.Cell := [(3, 5#8), (9, 1#8)]
    Memory.wf m ∧ ∀ a, amGet 0#8 m a = amGet 0#8 m a := ⟨by decide, fun _ => rfl⟩

/-- A step of a state with a canonical band store. -/
theorem witness_BandStoreStaysCanonical :
    let s := { live with pending := [.fsClr], band := { live.band with mem := [(3, 5#8)] } }
    Memory.wf s.band.mem ∧ ∃ t, step s = .next t := ⟨by decide +kernel, _, rfl⟩

end Sys2Proof.Tests
end

section
/-! Marks and registration, beam cuts, power-on reset, register access (R4, R10–R14, R37, R174–R177, R213, R458):
the reads that survive events, what a captured mark and a released PORST_N change. -/

namespace Sys2Proof.Machine

open Sys2Proof

/-! ### Signed fields and events in any mode -/

/-- The low bits of a signed value in range read back as the value. -/
theorem sInt_uBits (w : Nat) (v : Int) (hw : 0 < w) (hlo : -(2 ^ (w - 1) : Nat) ≤ v) (hhi : v < (2 ^ (w - 1) : Nat)) :
    sInt w (uBits w v) = v := by
  obtain ⟨n, rfl⟩ : ∃ n, w = n + 1 := ⟨w - 1, by omega⟩
  simp only [Nat.add_sub_cancel] at hlo hhi
  have hpow : 2 ^ (n + 1) = 2 * 2 ^ n := by rw [Nat.pow_succ]; omega
  simp only [sInt, uBits, Nat.add_sub_cancel, hpow]
  generalize 2 ^ n = p at *
  have hbits : ((v % ((2 * p : Nat) : Int)).toNat : Int) = if 0 ≤ v then v else v + 2 * p := by
    split
    · rw [Int.emod_eq_of_lt (by omega) (by omega)]; omega
    · rw [← Int.add_emod_right, Int.emod_eq_of_lt (by omega) (by omega)]; omega
  rw [Nat.mod_eq_of_lt (by split at hbits <;> omega)]
  split at hbits <;> split <;> omega

/-- A signed value in a field's range reads back. -/
theorem State.rdS_wrS_same (s : State) (f : Fld) (v : Int) (hw : 0 < f.w) (hw' : f.w ≤ 32)
    (hlo : -(2 ^ (f.w - 1) : Nat) ≤ v) (hhi : v < (2 ^ (f.w - 1) : Nat)) : (s.wrS f v).rdS f = v := by
  have hmod : sInt f.w (uBits f.w v % 2 ^ f.w) = sInt f.w (uBits f.w v) := by simp [sInt]
  rw [State.rdS, State.wrS, State.rd_wr_same _ _ _ hw', hmod, sInt_uBits _ _ hw hlo hhi]

/-- A clamped value lies within a symmetric limit. -/
theorem clampI_mem (lim : Nat) (v : Int) : -(lim : Int) ≤ clampI (-lim) lim v ∧ clampI (-lim) lim v ≤ lim := by
  unfold clampI; split
  · omega
  · split <;> omega

/-- Beside EVT_DROPPED an event in the queue changes only what it shows in the legacy registers (R251, R505). -/
theorem State.rd_postRaw_of_legEvent (s : State) (sev code block inst : Nat) (d : BitVec 80) (src tag : Nat) (f : Fld)
    (hleg : (s.legEvent sev code inst).rd f = s.rd f) (hf : F.EVT_DROPPED_DROPPED.key ≠ f.key) :
    (s.postRaw sev code block inst d src tag).rd f = s.rd f := by
  rw [← hleg]
  unfold State.postRaw
  simp only
  split
  · rfl
  · split
    · rw [State.rd_vecCause, State.rd_inc_ne _ _ _ _ hf]; rfl
    · split
      · rw [State.rd_vecCause, State.rd_inc_ne _ _ _ _ hf]; rfl
      · rw [State.rd_vecCause, State.rd_inc_ne _ _ _ _ hf]; rfl

/-! ### Marks (R10, R174–R176) -/

@[simp] theorem State.modSlot_regf (s : State) (p : Nat) (g : Slot → Slot) : (s.modSlot p g).regf = s.regf := by
  unfold State.modSlot; split <;> rfl

@[simp] theorem State.modSlot_host (s : State) (p : Nat) (g : Slot → Slot) : (s.modSlot p g).host = s.host := by
  unfold State.modSlot; split <;> rfl

/-- The frame under an index after a change of it. -/
theorem State.getD_regf_modReg (s : State) (i : Nat) (g : RegFrame → RegFrame) (h : i < s.regf.length) :
    (s.modReg i g).regf.getD i {} = g (s.regf.getD i {}) := by
  simp [State.modReg, h]

theorem State.mkPin_modify (s : State) (k : Nat) (g : MkPin → MkPin) (h : k < s.mks.length) :
    ({ s with mks := s.mks.modify k g } : State).mkPin k = g (s.mkPin k) := by
  simp [State.mkPin, h]

/-- A pin that changed less than FILT ticks ago gives no edge yet. -/
theorem State.markSettle_waits (s : State) (k : Nat) (h : s.now < (s.mkPin k).at_ + 10 * s.rd (F.MK_CFG_FILT k)) :
    s.markSettle k = s := by
  simp [State.markSettle, Nat.not_le.mpr h]

theorem State.markSettle_takes (s : State) (k : Nat) (hne : (s.mkPin k).raw ≠ (s.mkPin k).level)
    (hfilt : (s.mkPin k).at_ + 10 * s.rd (F.MK_CFG_FILT k) ≤ s.now) :
    s.markSettle k = ({ s with mks := s.mks.modify k (fun m => { m with level := m.raw }) } : State).markTake k
      ((s.mkPin k).raw == s.on (F.MK_CFG_POL k)) (s.mkPin k).etime (s.mkPin k).w := by
  simp [State.markSettle, hne, hfilt]

/-- A pin whose filter is not 0 takes its change and waits (R10). -/
theorem State.markEdge_filtered (s : State) (k : Nat) (level : Bool) (hk : k < s.mks.length)
    (hne : (s.mkPin k).raw ≠ level) (hfilt : 0 < s.rd (F.MK_CFG_FILT k)) :
    s.markEdge k level = { s with
      mks := s.mks.modify k (fun m => { m with raw := level, at_ := s.now, etime := s.etime, w := s.wpos }) } := by
  rw [State.markEdge, if_neg hne]
  refine State.markSettle_waits _ _ ?_
  rw [State.mkPin_modify _ _ _ hk]
  exact Nat.lt_add_of_pos_right (Nat.mul_pos (by decide) hfilt)

theorem State.delivMark_off (s : State) (k : Nat) (w : Int) (h : s.on F.ALM_CTL_DELIV_MK_EN = false) :
    s.delivMark k w = s := by
  simp [State.delivMark, h]

theorem State.markTake_lead (s : State) (k t i n : Nat) (w : Int) (hd : s.on F.ALM_CTL_DELIV_MK_EN = false)
    (hen : s.on (F.MK_CFG_EN k) = true) (hl : s.markLead k w = some (i, n)) :
    s.markTake k true t w = s.modReg i (fun r => { r with lead := r.lead ++ [(n, t, w)] }) := by
  simp [State.markTake, State.delivMark_off _ _ _ hd, hen, hl]

theorem State.markTake_trail (s : State) (k t t0 i n : Nat) (w w0 : Int) (hd : s.on F.ALM_CTL_DELIV_MK_EN = false)
    (hen : s.on (F.MK_CFG_EN k) = true) (hl : s.markTrail k w = some (i, n, t0, w0)) :
    s.markTake k false t w = s.markDone i n k t0 w0 w := by
  simp [State.markTake, State.delivMark_off _ _ _ hd, hen, hl]

/-- The mark that a leading edge at `w0` and a trailing edge at `w1` make of plan entry `n` (R174). -/
def State.markOf (s : State) (fp : Int) (n k : Nat) (w0 w1 : Int) : Mark :=
  ⟨n, s.rd (F.REG_PLAN_STATION n), k, s.rd (F.REG_PLAN_KIND n), (w0 + w1) * 65536 - 2 * s.markExpect fp n⟩

/-- The state that counts a captured mark: its frame lists it, its leading edge is used up, MK_COUNT goes up. -/
def State.markCounted (s : State) (i n k : Nat) (w0 w1 : Int) : State :=
  (s.modReg i (fun r => { r with
    lead := r.lead.filter (fun l => l.1 != n)
    marks := r.marks ++ [s.markOf (s.regf.getD i {}).fp n k w0 w1] })).inc (F.MK_COUNT_COUNT k)

/-- The page of a frame, while its slot still holds it, counts a mark (R184). -/
def State.markPaged (s : State) (r : RegFrame) : State :=
  if s.regCurrent r then s.modSlot r.slot (fun x => { x with marks := x.marks + 1 }) else s

@[simp] theorem State.rd_markPaged (s : State) (r : RegFrame) (f : Fld) : (s.markPaged r).rd f = s.rd f := by
  unfold State.markPaged; split <;> simp

@[simp] theorem State.markPaged_regf (s : State) (r : RegFrame) : (s.markPaged r).regf = s.regf := by
  unfold State.markPaged; split <;> simp

@[simp] theorem State.markPaged_host (s : State) (r : RegFrame) : (s.markPaged r).host = s.host := by
  unfold State.markPaged; split <;> simp

/-- MK_COUNT and MK_CTL lie apart, so counting a mark leaves MK_CTL.REC_EN alone. -/
theorem State.rd_markCounted_recEn (s : State) (i n k : Nat) (w0 w1 : Int) :
    (s.markCounted i n k w0 w1).rd F.MK_CTL_REC_EN = s.rd F.MK_CTL_REC_EN := by
  have hkey : (F.MK_COUNT_COUNT k).key ≠ F.MK_CTL_REC_EN.key := by
    simp only [Fld.key, F.MK_COUNT_COUNT, F.MK_CTL_REC_EN]; omega
  exact State.rd_inc_ne _ _ _ _ hkey

/-- Without mark records a captured mark is counted, and that is all (R176). -/
theorem State.markDone_noRecord (s : State) (i n k t : Nat) (w0 w1 : Int) (hrec : s.on F.MK_CTL_REC_EN = false) :
    s.markDone i n k t w0 w1 = (s.markCounted i n k w0 w1).markPaged (s.regf.getD i {}) := by
  refine if_neg (Bool.eq_false_iff.mp ?_)
  change ((s.markCounted i n k w0 w1).markPaged (s.regf.getD i {})).on F.MK_CTL_REC_EN = false
  rwa [State.on, State.rd_markPaged, State.rd_markCounted_recEn]

theorem State.markCounted_marks (s : State) (i n k : Nat) (w0 w1 : Int) (hi : i < s.regf.length) :
    ((s.markCounted i n k w0 w1).regf.getD i {}).marks =
      (s.regf.getD i {}).marks ++ [s.markOf (s.regf.getD i {}).fp n k w0 w1] := by
  rw [State.markCounted, State.inc_regf, State.getD_regf_modReg _ _ _ hi]

/-! ### The registration loop (R176, R177) -/

/-- DS_TRIM reads the value asked for, held within ±DS_LIM, whatever event the limit posts (R177). -/
theorem State.rdS_trimDs (s : State) (st : Nat) (v : Int) (hst : st < 8)
    (hlim : s.rd (F.ST_DS_LIM_DS_LIM st) < 2 ^ 31) :
    (s.trimDs st v).rdS (F.ST_DS_TRIM_DS_TRIM st) =
      clampI (-(s.rd (F.ST_DS_LIM_DS_LIM st) : Int)) (s.rd (F.ST_DS_LIM_DS_LIM st)) v := by
  have hdrop : F.EVT_DROPPED_DROPPED.key ≠ (F.ST_DS_TRIM_DS_TRIM st).key := by
    simp only [Fld.key, F.EVT_DROPPED_DROPPED, F.ST_DS_TRIM_DS_TRIM]; omega
  have hlast : L.LASTCODE_CODE.key ≠ (F.ST_DS_TRIM_DS_TRIM st).key := by
    simp only [Fld.key, L.LASTCODE_CODE, legOff, F.ST_DS_TRIM_DS_TRIM]; omega
  have hleg (u : State) : (u.legEvent 1 0x3120 st).rd (F.ST_DS_TRIM_DS_TRIM st) = u.rd (F.ST_DS_TRIM_DS_TRIM st) := by
    unfold State.legEvent
    split
    · rfl
    · simp [State.rd_wr_ne _ _ _ _ hlast]
  obtain ⟨hlo, hhi⟩ := clampI_mem (s.rd (F.ST_DS_LIM_DS_LIM st)) v
  have hval := State.rdS_wrS_same s (F.ST_DS_TRIM_DS_TRIM st)
    (clampI (-(s.rd (F.ST_DS_LIM_DS_LIM st) : Int)) (s.rd (F.ST_DS_LIM_DS_LIM st)) v) (by simp [F.ST_DS_TRIM_DS_TRIM])
    (by simp [F.ST_DS_TRIM_DS_TRIM]) (by simp only [F.ST_DS_TRIM_DS_TRIM]; omega)
    (by simp only [F.ST_DS_TRIM_DS_TRIM]; omega)
  simp only [State.trimDs]
  split
  · simp only [State.post, State.postBy, Nat.reduceEqDiff, if_false]
    rw [State.rdS, State.rd_postRaw_of_legEvent _ _ _ _ _ _ _ _ _ (hleg _) hdrop]
    exact hval
  · exact hval

/-- With one frame whose windows have closed, its update of a station is made and noted; the frame stays while another
station of it waits (R177). -/
theorem State.registration_one (s : State) (st : Nat) (r : RegFrame) (hr : s.regf = [r])
    (hmask : r.mask.testBit st = true) (hupd : r.updated.testBit st = false) (hclosed : s.marksClosed r = true) :
    s.registration st =
      let u := (s.regUpdate r st).modReg 0 (fun r => { r with updated := setBit r.updated st })
      { u with regf := u.regf.filter (fun r => (bitsOf 8 r.mask).any (fun t => !r.updated.testBit t)) } := by
  simp [State.registration, hr, hmask, hupd, hclosed]

/-- A frame whose slot holds another page leaves the slot's record alone (R65). -/
theorem State.regSamples_stale (s : State) (r : RegFrame) (st : Nat) (h : s.regCurrent r = false) :
    s.regSamples r st = s := by
  simp [State.regSamples, h]

/-- With fewer marks than MIN_MARKS the update is left out with 0x3130 (R177). -/
theorem State.regUpdate_fewMarks (s : State) (r : RegFrame) (st : Nat) (href : s.rd (F.ST_REG_CTL_REF st) ≠ st)
    (hcur : s.regCurrent r = false)
    (hfew : (diffs r.inTrack st (s.rd (F.ST_REG_CTL_REF st))).length < s.rd (F.ST_REG_CTL_MIN_MARKS st)) :
    ∃ d, s.regUpdate r st =
      s.post 0 0x3130 9 (0x200 + ((List.range 16).filter (fun k => (r.inTrack st k).isSome)).headD 0) d := by
  simp only [State.regUpdate, State.regSamples_stale _ _ _ hcur, if_neg href, if_pos (Or.inl hfew)]
  exact ⟨_, rfl⟩

/-- Settles O34: each clause is the equation or the reads of one operation above. -/
theorem marksAndRegistration : Obligations.MarksAndRegistration := by
  refine ⟨?_, ?_, fun s k => State.markSettle_takes s k, ?_, ?_, ?_, ?_, ?_, State.regUpdate_fewMarks⟩
  · intro s k level hup hraw
    exact congrArg Host.Outcome.next ((State.live_up _ _ hup).trans (if_pos hraw))
  · intro s k level hup hlen hraw hfilt
    exact congrArg Host.Outcome.next
      ((State.live_up _ _ hup).trans (State.markEdge_filtered s k level (by omega) hraw hfilt))
  · intro s k t w i n hd hen hl
    exact State.markTake_lead s k t i n w hd hen hl
  · intro s k t t0 w w0 i n hd hen hl
    exact State.markTake_trail s k t t0 i n w w0 hd hen hl
  · intro s k i n t w0 w1 hi hrec
    simp only [State.markDone_noRecord _ _ _ _ _ _ _ hrec, State.markPaged_regf, State.rd_markPaged,
      State.markPaged_host]
    exact ⟨State.markCounted_marks s i n k w0 w1 hi, State.rd_inc_same _ _ _ (by simp [F.MK_COUNT_COUNT]), rfl⟩
  · intro s st r hup hr hmask hupd hclosed
    exact congrArg Host.Outcome.next
      ((State.live_up _ _ hup).trans (State.registration_one s st r hr hmask hupd hclosed))
  · intro s st v
    rcases Nat.lt_or_ge (s.rd (F.ST_DS_LIM_DS_LIM st)) (2 ^ 31) with hlim | hlim
    · exact Or.inl (State.rdS_trimDs s st v st.isLt hlim)
    · exact Or.inr hlim

/-! ### BM_ONMAX.CLR (R213) -/

/-- BM_ONMAX.CLR restarts the count of the beam's runs: `onSince` is no register. -/
theorem bmOnmaxClr_restarts (s : State) (b : Fin 128) (hup : s.up) (hb : b < s.beams.length) :
    Gives (.bmOnmaxClr b) s (fun t => (t.beam b).onSince = (s.now * 250 : Nat)) := by
  refine ⟨_, congrArg Host.Outcome.next (State.live_up _ _ hup), ?_⟩
  simp [State.beam, State.modBeam, hb]

/-- Native mode, 1 ns after PORST_N was released, every beam as reset leaves it. -/
def oneNsUp : State := { State.reset with boot := { porst := false }, time := { now := 1 } }

/-- Refutes O36: clause 5 lets BM_ONMAX.CLR change registers alone, but it moves the beam's `onSince` too, in
`oneNsUp` from 0 to 250 (in units of 4 ps). -/
theorem not_beamCuts : ¬ Obligations.BeamCuts := by
  rintro ⟨-, -, -, -, honmax, -⟩
  obtain ⟨t, ht, -, hregs, -⟩ := honmax oneNsUp 0 rfl
  obtain ⟨u, hu, hsince⟩ := bmOnmaxClr_restarts oneNsUp 0 rfl (by simp [oneNsUp, State.reset])
  obtain rfl : t = u := Host.Outcome.next.inj (ht.symm.trans hu)
  have hkept : (t.beam 0).onSince = 0 := by rw [hregs]; rfl
  rw [Fin.val_zero, hkept] at hsince
  exact absurd hsince (by decide)

/-! ### Power-on reset (R4, R283, R458, R459, R461) -/

/-- What every step of a fold keeps, the fold keeps. -/
theorem foldl_keeps {α β : Type} (p : State → β) (g : State → α → State) (h : ∀ s a, p (g s a) = p s) (l : List α)
    (s : State) : p (l.foldl g s) = p s := by
  induction l generalizing s with
  | nil => rfl
  | cons a l ih => exact (ih _).trans (h s a)

/-- What no register write changes, the note of the rails' owners leaves alone. -/
theorem State.syncOwners_keeps {β : Type} (p : State → β) (h : ∀ s f v, p (State.wr s f v) = p s) (s : State) :
    p s.syncOwners = p s :=
  foldl_keeps p _ (fun _ _ => h _ _ _) _ s

theorem State.rd_syncOwners (s : State) (f : Fld) (h : ∀ k, (F.SEQ_RAIL_STAT_OWNER k).key ≠ f.key) :
    s.syncOwners.rd f = s.rd f :=
  foldl_keeps (fun s : State => s.rd f) _ (fun _ k => State.rd_wr_ne _ _ _ _ (h k)) _ s

/-- The state as PORST_N releases, before the legacy registers' reset values drive native fields (R458, R498). -/
def State.released (s : State) (mode : Nat) (boot : Bool) : State :=
  let s := { s with
    boot := { s.boot with porst := false, releasedAt := s.now, refFixed := false, xtal := false }
    time := { s.time with vtime := 0, vfrac := 0 } }
  let s := (s.wr F.GLB_MODE_MODE mode).wr F.GLB_MODE_STRAP_ERR (b2n (mode = 2))
  let s := (s.wr F.SEQ_CTL_BOOT (b2n boot)).wr F.SEQ_CTL_AUTO_RESTART (b2n boot)
  (((s.wr F.BOOT_STAT_STAGE 1).setPstate 0).setLevel 0 2).syncOwners

theorem State.porstRelease_held (s : State) (mode : Nat) (boot lp : Bool) (h : s.boot.porst = true) :
    s.porstRelease mode boot lp =
      if mode = 1 then ((s.released mode boot).wr L.MODE_PORT (b2n lp)).legacyInit else s.released mode boot := by
  simp only [State.porstRelease, h, Bool.not_true, Bool.false_eq_true, if_false]
  rfl

@[simp] theorem State.released_boot (s : State) (mode : Nat) (boot : Bool) : (s.released mode boot).boot =
    { s.boot with porst := false, releasedAt := s.now, refFixed := false, xtal := false } :=
  State.syncOwners_keeps State.boot (fun _ _ _ => rfl) _

@[simp] theorem State.released_alm (s : State) (mode : Nat) (boot : Bool) : (s.released mode boot).alm = s.alm :=
  State.syncOwners_keeps State.alm (fun _ _ _ => rfl) _

@[simp] theorem State.released_band (s : State) (mode : Nat) (boot : Bool) : (s.released mode boot).band = s.band :=
  State.syncOwners_keeps State.band (fun _ _ _ => rfl) _

@[simp] theorem State.released_pending (s : State) (mode : Nat) (boot : Bool) :
    (s.released mode boot).pending = s.pending :=
  State.syncOwners_keeps State.pending (fun _ _ _ => rfl) _

/-- A bit in a one-bit field. -/
theorem State.rd_wr_b2n (s : State) (f : Fld) (b : Bool) (h : f.w = 1) : (s.wr f (b2n b)).rd f = b2n b := by
  rw [State.rd_wr_same _ _ _ (by omega), h]
  cases b <;> rfl

/-- The registers that tell the straps and the stage, after release. -/
theorem State.rd_released (s : State) (mode : Nat) (boot : Bool) (hmode : mode < 4) :
    (s.released mode boot).rd F.GLB_MODE_MODE = mode ∧
    (s.released mode boot).rd F.GLB_MODE_STRAP_ERR = b2n (mode = 2) ∧
    (s.released mode boot).rd F.BOOT_STAT_STAGE = 1 ∧
    (s.released mode boot).rd F.SEQ_CTL_BOOT = b2n boot ∧
    (s.released mode boot).rd F.SEQ_CTL_AUTO_RESTART = b2n boot ∧
    (s.released mode boot).rd F.PWR_STAT_STATE = 0 := by
  have howner (f : Fld) (h : f.key % 32 ≠ 4) (k : Nat) : (F.SEQ_RAIL_STAT_OWNER k).key ≠ f.key := by
    simp only [Fld.key, F.SEQ_RAIL_STAT_OWNER] at h ⊢; omega
  simp only [State.released, State.setPstate, State.setLevel]
  refine ⟨?_, ?_, ?_, ?_, ?_, ?_⟩ <;> rw [State.rd_syncOwners _ _ (howner _ (by decide))]
  all_goals simp (disch := decide) only [State.rd_wr_ne, State.rd_wr_b2n]
  · rw [State.rd_wr_same _ _ _ (by decide)]
    exact Nat.mod_eq_of_lt hmode
  · exact State.rd_wr_same _ _ _ (by decide)
  · exact State.rd_wr_same _ _ _ (by decide)

/-- The crystal is qualified in the Vigil stage: VTIME starts, the Rails stage begins (R459). -/
theorem State.xtalOk_vigil (s : State) (hup : s.up) (hst : s.rd F.BOOT_STAT_STAGE = 1) :
    s.xtalOk = ({ s with
      boot := { s.boot with xtal := true }, time := { s.time with vtime := 0, vfrac := 0 } }).railsStage := by
  simp [State.xtalOk, hup, hst]

/-- The state in which the crystal's timeout reports it: VTIME at 0, XTAL_FAIL set (R459). -/
def State.xtalFailed (s : State) : State :=
  ({ s with time := { s.time with vtime := 0, vfrac := 0 } } : State).wr F.BOOT_STAT_XTAL_FAIL 1

/-- XTAL_FAIL is no part of the power domains' registers. -/
theorem State.domOn_xtalFailed (s : State) (d : Nat) : s.xtalFailed.domOn d = s.domOn d := by
  have hkey : F.BOOT_STAT_XTAL_FAIL.key ≠ (F.PWR_DOM_LEVEL d).key := by
    simp only [Fld.key, F.BOOT_STAT_XTAL_FAIL, F.PWR_DOM_LEVEL]; omega
  exact congrArg (· == 2) (State.rd_wr_ne _ _ _ _ hkey)

/-- 2 s without a qualified crystal: 0x8032 at once where PD_HOST is on, else once it is (R459). -/
theorem State.xtalTimeout_vigil (s : State) (hup : s.up) (hst : s.rd F.BOOT_STAT_STAGE = 1)
    (hdue : s.boot.releasedAt + 2000000000 ≤ s.now) :
    s.xtalTimeout = (if s.domOn 1 then s.xtalFailed.post 1 0x8032 15 0 []
      else { s.xtalFailed with pwr := { s.pwr with xtalDue := true } }).railsStage := by
  simp only [State.xtalTimeout, hup, hst, hdue, decide_true, bne_self_eq_false, Bool.not_true, Bool.or_self,
    Bool.false_eq_true, if_false]
  rw [← State.domOn_xtalFailed s 1]
  rfl

/-- In test mode without BOOT the device goes no further than the Rails stage (R458). -/
theorem State.railsStage_test (s : State) (hmode : s.rd F.GLB_MODE_MODE = 3) (hboot : s.rd F.SEQ_CTL_BOOT = 0) :
    s.railsStage = s.wr F.BOOT_STAT_STAGE 2 := by
  have hmode' : (s.wr F.BOOT_STAT_STAGE 2).rd F.GLB_MODE_MODE = 3 := by
    rw [State.rd_wr_ne _ _ _ _ (by decide), hmode]
  have hboot' : (s.wr F.BOOT_STAT_STAGE 2).rd F.SEQ_CTL_BOOT = 0 := by
    rw [State.rd_wr_ne _ _ _ _ (by decide), hboot]
  simp [State.railsStage, State.wakeStage, State.on, hmode', hboot']

/-- 100 µs after release the source of the 25 MHz reference is fixed (R283). -/
theorem State.refLatch_due (s : State) (edges : Bool) (hup : s.up) (hfixed : s.boot.refFixed = false)
    (hdue : s.boot.releasedAt + 100000 ≤ s.now) :
    s.refLatch edges = (({ s with boot := { s.boot with refFixed := true } } : State).wr F.CLK_REF_SRC (b2n edges)).wr
      F.CLK_REF_REF_OK 1 := by
  simp [State.refLatch, hup, hfixed, hdue]

/-- The power-on wake starts again, where no shutdown is under way (R461). -/
theorem State.powerOnAgain_due (s : State) (t : Nat) (hw : s.pwr.wakeAgain = some t) (hdue : t ≤ s.now)
    (h5 : s.seqState ≠ 5) (h6 : s.seqState ≠ 6) :
    s.powerOnAgain = ({ s with pwr := { s.pwr with wakeAgain := none } } : State).startWake 2 true none none := by
  simp [State.powerOnAgain, hw, hdue, h5, h6]

/-- Settles O7: the release by `State.released`, every later stage by the equation of its operation. -/
theorem powerOnReset : Obligations.PowerOnReset := by
  refine ⟨?_, ?_, fun _ => rfl, fun _ => rfl, ?_, ?_, ?_, ?_, ?_, ?_⟩
  · intro s mode boot lp hheld hmode
    obtain ⟨hm, herr, hstage, hboot, hauto, hpwr⟩ := State.rd_released s mode boot mode.isLt
    exact ⟨s.released mode boot,
      congrArg Host.Outcome.next ((State.porstRelease_held _ _ _ _ hheld).trans (if_neg hmode)),
      by simp, hm, by simpa using herr, hstage, hboot, hauto, hpwr, by simp, by simp, by simp⟩
  · intro s boot lp hheld
    obtain ⟨hm, -, hstage, -⟩ := State.rd_released s 1 boot (by decide)
    exact ⟨s.released 1 boot, by simp, hm, hstage,
      congrArg Host.Outcome.next ((State.porstRelease_held _ _ _ _ hheld).trans (if_pos rfl))⟩
  · intro s hup hst
    exact congrArg Host.Outcome.next ((State.live_up _ _ hup).trans (State.xtalOk_vigil s hup hst))
  · intro s hup hst hdue hoff
    refine congrArg Host.Outcome.next ((State.live_up _ _ hup).trans ?_)
    rw [State.xtalTimeout_vigil s hup hst hdue, hoff]
    rfl
  · intro s hup hst hdue hon
    refine congrArg Host.Outcome.next ((State.live_up _ _ hup).trans ?_)
    rw [State.xtalTimeout_vigil s hup hst hdue, hon]
    rfl
  · intro s hmode hboot
    rw [State.railsStage_test s hmode hboot]
    exact State.rd_wr_same _ _ _ (by decide)
  · intro s edges hup hfixed hdue
    refine ⟨_, congrArg Host.Outcome.next ((State.live_up _ _ hup).trans (State.refLatch_due s edges hup hfixed hdue)),
      ?_, State.rd_wr_same _ _ _ (by decide), rfl, rfl, ?_⟩
    · rw [State.rd_wr_ne _ _ _ _ (by decide), State.rd_wr_b2n _ _ _ rfl]
    · intro g hg
      rw [State.rd_wr_ne _ _ _ _ (hg _ (by simp)), State.rd_wr_ne _ _ _ _ (hg _ (by simp))]
      rfl
  · intro s t hup hw hdue h5 h6
    exact congrArg Host.Outcome.next ((State.live_up _ _ hup).trans (State.powerOnAgain_due s t hw hdue h5 h6))

/-! ### Live reads (R14, R37) -/

/-- SETPT of loop slot 0 stored as 2^16, which no 16-bit field holds and no `State.wr` stores. -/
def wideSetpt : State := { State.reset with regs := [((F.LP_SETPT_SETPT 0).key, 0x10000)] }

/-- A live read gives the 16 bits of SETPT alone. -/
theorem readLive_wideSetpt : wideSetpt.readLive 0x600018 = 0 ∧ wideSetpt.rd (F.LP_SETPT_SETPT 0) = 0x10000 := by
  decide +kernel

/-- Refutes O8: clause 18 says of every state that a live read of a slot's SETPT gives the stored word; in `wideSetpt`
it gives its low 16 bits. -/
theorem not_registerAccess : ¬ Obligations.RegisterAccess := by
  rintro ⟨-, -, -, -, -, -, -, -, -, -, -, -, -, -, -, -, -, hread, -⟩
  obtain ⟨hlive, hstored⟩ := readLive_wideSetpt
  have h := hread wideSetpt 0
  rw [Fin.val_zero, Nat.zero_mul, Nat.add_zero, hlive, hstored] at h
  exact absurd h (by decide)

end Sys2Proof.Machine
end

section
/-! The web position's preset (R25, R27, R356): what a 10 ns tick of the tracker does to a preset that waits, and the
event that refuses one. -/

namespace Sys2Proof.Machine

open Sys2Proof

/-! ### Events and the web tracker -/

@[simp] theorem State.vecCause_web (s : State) (n : Nat) (imm : Bool) : (s.vecCause n imm).web = s.web := by
  rw [State.vecCause_frame]

@[simp] theorem State.setW1c_web (s : State) (f : Fld) (bits : Nat) : (s.setW1c f bits).web = s.web := rfl

@[simp] theorem State.legIrq_web (s : State) (bit : Nat) : (s.legIrq bit).web = s.web := by
  simp only [State.legIrq, State.legInt]
  split
  · split
    · exact State.vecCause_web _ _ _
    · rfl
  · rfl

@[simp] theorem State.legEvent_web (s : State) (sev code inst : Nat) : (s.legEvent sev code inst).web = s.web := by
  unfold State.legEvent
  repeat' split
  all_goals simp

/-- The queue, in whatever mode, is no part of the web tracker. -/
@[simp] theorem State.postRaw_web (s : State) (sev code block inst : Nat) (d : BitVec 80) (src tag : Nat) :
    (s.postRaw sev code block inst d src tag).web = s.web := by
  unfold State.postRaw
  simp only
  split
  · simp
  · split
    · simp
    · split <;> simp

theorem State.post_web (s : State) (sev code block inst : Nat) (d : List (Nat × Nat × Nat)) (tag : Nat) (h : sev ≠ 3) :
    (s.post sev code block inst d tag).web = s.web := by
  simp [State.post, State.postBy, h]

/-! ### Events that find room (R251) -/

theorem mem_evInsert (e : Ev) (l : List Ev) : e ∈ evInsert e l := by
  induction l with
  | nil => exact List.mem_singleton.mpr rfl
  | cons x t ih =>
    unfold evInsert
    split
    · exact List.mem_cons_self
    · exact List.mem_cons_of_mem _ ih

/-- In native mode an event that finds room joins the queue, with some sequence number. -/
theorem State.postRaw_evq (s : State) (sev code block inst : Nat) (d : BitVec 80) (src tag : Nat)
    (h : s.rd F.GLB_MODE_MODE ≠ 1) (hroom : s.host.evq.length < 256) :
    ∃ n, (s.postRaw sev code block inst d src tag).host.evq =
      evInsert ⟨s.etime, s.wpos, code, sev, src, inst, d, block, n, tag⟩ s.host.evq := by
  unfold State.postRaw
  rw [State.legEvent_native _ _ _ _ h]
  simp only [hroom, if_true]
  exact ⟨_, rfl⟩

theorem State.posts_post (s : State) (sev code block inst : Nat) (d : List (Nat × Nat × Nat)) (tag : Nat)
    (h : s.rd F.GLB_MODE_MODE ≠ 1) (hs : sev ≠ 3) :
    Posts s (s.post sev code block inst d tag) sev code block inst (detail d) := by
  intro hroom
  obtain ⟨n, hq⟩ := State.postRaw_evq s sev code block inst (detail d) 0 tag h hroom
  simp only [State.post, State.postBy, hs, if_false, hq]
  exact List.any_eq_true.mpr ⟨_, mem_evInsert _ _, by simp⟩

/-! ### A tick of the tracker (R25, R356) -/

@[simp] theorem State.modSlot_web (s : State) (p : Nat) (f : Slot → Slot) : (s.modSlot p f).web = s.web := by
  unfold State.modSlot; split <;> rfl

@[simp] theorem State.modWeb_web (s : State) (f : Web → Web) : (s.modWeb f).web = f s.web := rfl

@[simp] theorem State.encTick_web (s : State) : s.encTick.web = s.web :=
  foldl_keeps State.web _ (fun _ _ => by split <;> rfl) _ s

@[simp] theorem State.reverseStep_web (s : State) (f : Int) : (s.reverseStep f).web = s.web := by
  simp only [State.reverseStep]
  split
  · rfl
  · split
    · simp [State.post_web]
    · rfl

/-- The comparison of the encoders moves its own span alone. -/
@[simp] theorem State.compareStep_preset (s : State) (f : Int) : (s.compareStep f).web.preset = s.web.preset := by
  simp only [State.compareStep]
  split
  · rfl
  · split
    · split
      · rfl
      · simp [State.post_web]
    · split <;> rfl

/-- A change to SEC moves the offset that keeps f continuous, and no preset. -/
@[simp] theorem State.priFails_preset (s : State) (why : Nat) : (s.priFails why).web.preset = s.web.preset := by
  simp only [State.priFails]
  split
  · rfl
  · rw [foldl_keeps State.web _ (fun _ _ => State.modSlot_web _ _ _), State.post_web _ _ _ _ _ _ _ (by decide)]
    rfl

@[simp] theorem State.priCheck_preset (s : State) : s.priCheck.web.preset = s.web.preset := by
  unfold State.priCheck
  repeat' split
  all_goals simp

/-- A preset waits while the tracker moves f and g. -/
theorem State.webMove_preset (s : State) : s.webMove.web.preset = s.web.preset := by
  simp only [State.webMove]
  split <;> simp

/-- The preset sets O against g, so that their sum is the value, in 1/256 unit. -/
theorem State.webPresetTick_some (s : State) (v : Int) (h : s.web.preset = some v) :
    s.webPresetTick.wpos = v ∧ s.webPresetTick.web.preset = none := by
  have hsum : s.web.g + (v * 256 - s.web.g) = v * 256 := by omega
  simp [State.webPresetTick, h, State.wpos, hsum]

/-! ### WPOS_CTL.PRESET (R27) -/

theorem State.presetWpos_idle (s : State) (h : s.inFlight = 0) :
    s.presetWpos = s.modWeb (fun w => { w with preset := some s.presetValue }) :=
  if_pos h

theorem State.presetWpos_busy (s : State) (h : s.inFlight ≠ 0) :
    s.presetWpos = s.post 1 0x9030 1 0 [(0, 1, s.inFlight), (1, 4, s.peekData 0x68), (5, 4, s.peekData 0x6C)] :=
  if_neg h

/-- Settles O9: a preset waits through the tracker's move and then sets O; one refused is its event alone. -/
theorem wposPreset : Obligations.WposPreset := by
  refine ⟨?_, ?_, ?_⟩
  · intro s hup hidle
    exact congrArg Host.Outcome.next ((State.live_up _ _ hup).trans (State.presetWpos_idle s hidle))
  · intro s v hv
    exact State.webPresetTick_some s.webMove v ((State.webMove_preset s).trans hv)
  · intro s ⟨hup, hmode⟩ hbusy
    have hnative : s.rd F.GLB_MODE_MODE ≠ 1 := by omega
    exact ⟨_, congrArg Host.Outcome.next ((State.live_up _ _ hup).trans (State.presetWpos_busy s hbusy)),
      State.post_web _ _ _ _ _ _ _ (by decide), rfl, State.posts_post _ _ _ _ _ _ _ hnative (by decide),
      State.post_spec _ _ _ _ _ _ _ hnative (by decide)⟩

end Sys2Proof.Machine
end

section
/-! The page slots (R40, R41): what events, records and table switches leave of the Almanac, and what waiting for granules
and taking engines leaves of a slot. -/

namespace Sys2Proof.Machine

open Sys2Proof

/-! ### What leaves the Almanac alone -/

@[simp] theorem State.vecCause_alm (s : State) (n : Nat) (imm : Bool) : (s.vecCause n imm).alm = s.alm := by
  rw [State.vecCause_frame]

@[simp] theorem State.setW1c_alm (s : State) (f : Fld) (bits : Nat) : (s.setW1c f bits).alm = s.alm := rfl

@[simp] theorem State.legIrq_alm (s : State) (bit : Nat) : (s.legIrq bit).alm = s.alm := by
  simp only [State.legIrq, State.legInt]
  split
  · split
    · exact State.vecCause_alm _ _ _
    · rfl
  · rfl

@[simp] theorem State.legEvent_alm (s : State) (sev code inst : Nat) : (s.legEvent sev code inst).alm = s.alm := by
  unfold State.legEvent
  repeat' split
  all_goals simp

/-- Native or not, the queue of events is no part of the Almanac. -/
@[simp] theorem State.postRaw_alm (s : State) (sev code block inst : Nat) (d : BitVec 80) (src tag : Nat) :
    (s.postRaw sev code block inst d src tag).alm = s.alm := by
  unfold State.postRaw
  simp only
  split
  · simp
  · split
    · simp
    · split <;> simp

/-- Only a HARD event reaches the slots (R480). -/
@[simp] theorem State.post_alm (s : State) (sev code block inst : Nat) (d : List (Nat × Nat × Nat)) (tag : Nat)
    (h : sev ≠ 3) : (s.post sev code block inst d tag).alm = s.alm := by
  simp [State.post, State.postBy, h]

@[simp] theorem State.begunWait_alm (s t : State) : (s.begunWait t).alm = t.alm := by
  unfold State.begunWait; split <;> simp

@[simp] theorem State.queueRec_alm (s : State) (q : Nat) (r : Rec) : (s.queueRec q r).alm = s.alm := by
  simp [State.queueRec]

@[simp] theorem State.closeTxn_alm (s : State) (q : Option Nat) : (s.closeTxn q).alm = s.alm := by
  cases q <;> rfl

@[simp] theorem State.putRec_alm (s : State) (q : Nat) (r : Rec) : (s.putRec q r).alm = s.alm := by
  simp only [State.putRec]
  split
  · split <;> simp
  · simp

@[simp] theorem State.putOrDrop_alm (s : State) (q : Nat) (r : Rec) : (s.putOrDrop q r).alm = s.alm := by
  unfold State.putOrDrop; split <;> simp

@[simp] theorem State.trace_alm (s : State) (kind ring : Nat) (ds : List Desc) (tseq : Nat) :
    (s.trace kind ring ds tseq).alm = s.alm := by
  unfold State.trace
  split
  · cases ds <;> simp [State.putTrace]
  · rfl

@[simp] theorem State.doneTrace_alm (s : State) (r : Option Desc) : (s.doneTrace r).alm = s.alm := by
  unfold State.doneTrace
  split
  · cases r <;> simp [State.putTrace]
  · rfl

@[simp] theorem State.slotProgress_alm (s : State) (p : Nat) : (s.slotProgress p).alm = s.alm := by
  simp only [State.slotProgress]
  split <;> simp [State.progress]

@[simp] theorem State.finishTxn_alm (s : State) (m : MTxn) : (s.finishTxn m).alm = s.alm := by
  simp only [State.finishTxn]
  split <;> simp

@[simp] theorem State.settleTxn_alm (s : State) (id : Nat) : (s.settleTxn id).alm = s.alm := by
  unfold State.settleTxn
  split
  · split <;> simp
  · rfl

@[simp] theorem State.endTransfer_alm (s : State) (t : Nat) : (s.endTransfer t).alm = s.alm :=
  foldl_keeps State.alm _ State.settleTxn_alm _ _

@[simp] theorem State.syncTbl_alm (s : State) (st : Nat) : (s.syncTbl st).alm = s.alm := by
  simp only [State.syncTbl]
  split
  · rfl
  · split <;> simp

@[simp] theorem State.switchDone_alm (s : State) (t : TblTxn) (d : Desc) (status st bank : Nat) (fp : Int) (last : Bool) :
    (s.switchDone t d status st bank fp last).alm = s.alm := by
  simp only [State.switchDone, State.tableDone, State.queueRec_alm]
  split <;> simp

@[simp] theorem State.oneSwitch_alm (s : State) (id status st bank : Nat) (d : Desc) (fp : Int) :
    (s.oneSwitch id status st bank d fp).alm = s.alm := by
  simp only [State.oneSwitch]
  split
  · rfl
  · split <;> simp

@[simp] theorem State.pageGone_alm (s : State) (p : Nat) : (s.pageGone p).alm = s.alm :=
  foldl_keeps State.alm _ (fun s st => by
    split
    · split <;> simp
    · rfl) _ _

@[simp] theorem State.releaseGrans_alm (s : State) (gs : List Nat) : (s.releaseGrans gs).alm = s.alm :=
  foldl_keeps State.alm _ (fun s g => by
    split
    · rw [State.post_alm _ _ _ _ _ _ _ (by decide)]; rfl
    · rfl) _ _

/-! ### One slot (R40) -/

/-- The slots of the Almanac are all that a slot number below 160 reads. -/
theorem State.slot_of_slots {s t : State} {p : Nat} (hp : p < 160) (h : t.alm.slots = s.alm.slots) :
    t.slot p = s.slot p := by
  simp [State.slot, hp, h]

theorem State.slot_congr {s t : State} {p : Nat} (hp : p < 160) (h : t.alm = s.alm) : t.slot p = s.slot p :=
  State.slot_of_slots hp (congrArg Almanac.slots h)

@[simp] theorem State.slots_length_modSlot (s : State) (p : Nat) (g : Slot → Slot) :
    (s.modSlot p g).alm.slots.length = s.alm.slots.length := by
  unfold State.modSlot; split <;> simp

theorem State.slot_modSlot_same (s : State) (p : Nat) (g : Slot → Slot) (hp : p < 160) (hl : p < s.alm.slots.length) :
    (s.modSlot p g).slot p = g (s.slot p) := by
  simp [State.slot, State.modSlot, hp, hl]

theorem State.slot_modSlot_ne (s : State) (p q : Nat) (g : Slot → Slot) (h : q ≠ p) (hq : q < 160) :
    (s.modSlot p g).slot q = s.slot q := by
  unfold State.modSlot
  split
  · simp [State.slot, hq, Ne.symm h]
  · simp [State.slot, hq]

/-- What a change of a slot keeps of it reads the same in every slot. -/
theorem State.modSlot_keeps {β : Type} (f : Slot → β) (s : State) (q : Nat) (g : Slot → Slot)
    (h : ∀ x, f (g x) = f x) (p : Nat) (hp : p < 160) : f ((s.modSlot q g).slot p) = f (s.slot p) := by
  by_cases hpq : p = q
  · subst hpq
    by_cases hl : p < s.alm.slots.length
    · rw [State.slot_modSlot_same s p g hp hl, h]
    · simp [State.slot, State.modSlot, hp, List.getElem?_eq_none (Nat.le_of_not_lt hl)]
  · rw [State.slot_modSlot_ne s q p g hpq hp]

/-! ### The pool's waiters and the engines (R81, R82) -/

/-- R81: slots that begin to wait for granules have POOL_WAITED set, and nothing else of any slot changes. -/
theorem State.poolWaits_keeps {β : Type} (f : Slot → β) (h : ∀ x b, f { x with poolWaited := b } = f x) (s : State)
    (p : Nat) (hp : p < 160) : f (s.poolWaits.slot p) = f (s.slot p) := by
  simp only [State.poolWaits]
  refine List.foldlRecOn (motive := fun acc : State × Nat × Bool => f (acc.1.slot p) = f (s.slot p)) _ _ rfl
    (fun ⟨t, free, waits⟩ ih q _ => ?_)
  rw [← ih]
  simp only
  split
  · split
    · rfl
    · rw [State.slot_congr hp (State.post_alm _ _ _ _ _ _ _ (by decide)),
        State.modSlot_keeps f _ _ _ (fun x => h x true) p hp]
  · rfl

/-- R82: taking engines for staging changes no slot but in its engines. -/
theorem State.stageEngines_keeps {β : Type} (f : Slot → β) (h : ∀ x e, f { x with engines := e } = f x) (s : State)
    (p : Nat) (hp : p < 160) : f (s.stageEngines.slot p) = f (s.slot p) := by
  refine foldl_keeps (fun t : State => f (t.slot p)) _ (fun t q => ?_) _ _
  refine foldl_keeps (fun t : State => f (t.slot p)) _ (fun t kind => ?_) _ _
  split
  · rfl
  · split
    · exact State.modSlot_keeps f _ _ _ (fun x => h x _) p hp
    · rfl

end Sys2Proof.Machine
end

section
/-! Page submission (R41, R45, R46, R49, R51), and what HARD events and retirement make of a slot (R41, R55, R480). -/

namespace Sys2Proof.Machine

open Sys2Proof

/-! ### A transaction of the page rings (R41, R45, R406) -/

/-- A page transaction whose turn it is is taken (R41). -/
theorem exec_pageTransaction (s : State) (q : Fin 32) (ds : List Desc) (h : s.ringReady q ds) (hq : classOf q = 0)
    (hop : dOpcode (ds.headD 0) ≠ 4) :
    exec (.pageTransaction q) s = .next ((s.takePage q ds).settleHead q ds.length) :=
  congrArg Host.Outcome.next ((State.live_up _ _ h.1).trans
    (State.takeWhen_ready s q ds _ _ h (by rw [hq, opIs, beq_false_of_ne hop]; rfl)))

/-- A cancel whose turn it is is taken (R47). -/
theorem exec_pageCancel (s : State) (q : Fin 32) (ds : List Desc) (h : s.ringReady q ds) (hq : classOf q = 0)
    (hop : dOpcode (ds.headD 0) = 4) :
    exec (.pageCancel q) s = .next ((s.takeCancel q ds).settleHead q ds.length) :=
  congrArg Host.Outcome.next ((State.live_up _ _ h.1).trans
    (State.takeWhen_ready s q ds _ _ h (by rw [hq, opIs, hop]; rfl)))

/-- Without an island a page transaction is kept, and applied later (R406). -/
theorem State.takePage_unserved (s : State) (q : Nat) (ds : List Desc) (h : s.islandLacks q ds = true) :
    s.takePage q ds = ((s.passTxn q ds.length).keep ds).2.unserve q ds ((s.passTxn q ds.length).keep ds).1 :=
  if_pos h

theorem State.takePage_served (s : State) (q : Nat) (ds : List Desc) (h : s.islandLacks q ds = false) :
    s.takePage q ds = ((s.passTxn q ds.length).keep ds).2.servePage q ds ((s.passTxn q ds.length).keep ds).1 :=
  if_neg (Bool.eq_false_iff.mp h)

/-- R45: a refusal takes no slot. -/
theorem State.refusePage_alm (s : State) (ring cause : Nat) (det : List (Nat × Nat × Nat)) (ds : List Desc) (tseq : Nat) :
    (s.refusePage ring cause det ds tseq).alm = s.alm := by
  simp only [State.refusePage, State.trace_alm, State.queueRec_alm]
  exact State.post_alm _ _ _ _ _ _ _ (by decide)

/-- Of a new page the lowest FREE slot shows what submission gave it, but for POOL_WAITED (R41, R81). -/
theorem State.acceptPage_keeps {β : Type} (f : Slot → β) (h : ∀ x b, f { x with poolWaited := b } = f x) (s : State)
    (ring p tseq : Nat) (ds : List Desc) (hlen : s.alm.slots.length = 160)
    (hfree : (s.slotsWhere (fun x => x.st = .free)).head? = some p) :
    f ((s.acceptPage ring ds tseq).slot p) = f (s.newSlot ring ds tseq) := by
  have hp : p < 160 := by
    have hmem := List.mem_of_mem_head? hfree
    simp only [State.slotsWhere, List.mem_filter, List.mem_range] at hmem
    omega
  simp only [State.acceptPage, hfree]
  rw [State.poolWaits_keeps f h _ p hp, State.slot_congr hp (State.slotProgress_alm _ _)]
  have hnew := State.slot_modSlot_same s p (fun _ => s.newSlot ring ds tseq) hp (by omega)
  refine congrArg f (Eq.trans (State.slot_of_slots hp ?_) hnew)
  split <;> rfl

/-- Settles O22: each way of a taken transaction is a branch of `State.takePage`; the slot of an accepted one is
`State.newSlot`. -/
theorem pageSubmission : Obligations.PageSubmission := by
  refine ⟨?_, ?_, ?_, ?_, ?_⟩
  · intro s q ds hready hq hop hserved hok
    rw [exec_pageTransaction s q ds hready hq hop, State.takePage_served _ _ _ hserved]
    simp only [State.servePage, hok]
  · intro s q ds cause det hready hq hop hserved hfail
    rw [exec_pageTransaction s q ds hready hq hop, State.takePage_served _ _ _ hserved]
    simp only [State.servePage, hfail]
  · intro s q ds hready hq hop hlacks
    rw [exec_pageTransaction s q ds hready hq hop, State.takePage_unserved _ _ _ hlacks]
  · intro s q cause tseq det ds _
    exact State.refusePage_alm s q cause det ds tseq
  · intro s q p tseq ds hlen hfree
    have hst := State.acceptPage_keeps (fun x => x.st) (fun _ _ => rfl) s q p tseq ds hlen hfree
    have hfp := State.acceptPage_keeps (fun x => x.fp) (fun _ _ => rfl) s q p tseq ds hlen hfree
    have heve := State.acceptPage_keeps (fun x => x.eve) (fun _ _ => rfl) s q p tseq ds hlen hfree
    exact ⟨hst, hfp, heve.trans (by rw [hfp]; rfl)⟩

/-! ### Events and the slots (R480) -/

@[simp] theorem State.undoClr_alm (s : State) : s.undoClr.alm = s.alm := by
  unfold State.undoClr
  split
  · split <;> rfl
  · rfl

/-- A slot that a change of the slots leaves as it is. -/
theorem getD_map_fixed (l : List Slot) (g : Slot → Slot) (p : Nat) (h : g (l.getD p {}) = l.getD p {}) :
    (l.map g).getD p {} = l.getD p {} := by
  simp only [List.getD_eq_getElem?_getD, List.getElem?_map] at h ⊢
  cases hx : l[p]? with
  | none => rfl
  | some x => simpa [hx] using h

theorem State.slot_modInFlight_idle (s : State) (f : Slot → Slot) (p : Nat) (hp : p < 160)
    (h : (s.slot p).st.inFlight = false) : (s.modInFlight f).slot p = s.slot p := by
  simp only [State.slot, hp, if_true] at h ⊢
  exact getD_map_fixed _ _ _ (if_neg (Bool.eq_false_iff.mp h))

theorem State.slot_modEveTick_idle (s : State) (f : Slot → Slot) (p : Nat) (hp : p < 160)
    (h : (s.slot p).st.waiting = false) : (s.modEveTick f).slot p = s.slot p := by
  simp only [State.slot, hp, if_true] at h ⊢
  exact getD_map_fixed _ _ _ (if_neg (by rw [h, Bool.false_and]; exact Bool.false_ne_true))

/-- A HARD event changes no slot but those in flight and those whose eve is on this tick (R53, R59). -/
theorem State.frameStop_slot_idle (s : State) (code p : Nat) (hp : p < 160) (hflight : (s.slot p).st.inFlight = false)
    (hwait : (s.slot p).st.waiting = false) : (s.frameStop code).slot p = s.slot p := by
  have hreg (u : State) (h : u.alm = s.alm) : (u.modEveTick (fun x => { x with
      eveCause := 0x1024, eveDetail := u.rd F.FAULT_STAT_FS_CAUSE })).slot p = s.slot p := by
    have hu : u.slot p = s.slot p := State.slot_congr hp h
    rw [State.slot_modEveTick_idle _ _ _ hp (by rw [hu, hwait]), hu]
  simp only [State.frameStop]
  rw [State.slot_modInFlight_idle _ _ _ hp, hreg]
  · split <;> simp
  · rw [hreg, hflight]
    split <;> simp

/-- Whatever its severity, an event leaves alone a page that neither waits for its eve nor is in flight. -/
theorem State.post_slot_idle (s : State) (sev code block inst : Nat) (d : List (Nat × Nat × Nat)) (tag p : Nat)
    (hp : p < 160) (hflight : (s.slot p).st.inFlight = false) (hwait : (s.slot p).st.waiting = false) :
    (s.post sev code block inst d tag).slot p = s.slot p := by
  have hraw : (s.postRaw sev code block inst (detail d) 0 tag).slot p = s.slot p :=
    State.slot_congr hp (State.postRaw_alm _ _ _ _ _ _ _ _)
  simp only [State.post, State.postBy]
  split
  · rw [State.frameStop_slot_idle _ _ _ hp (by rw [hraw, hflight]) (by rw [hraw, hwait]), hraw]
  · exact hraw

/-! ### A slot that retires (R41, R55) -/

/-- What retirement with a cause makes of a slot (R41). -/
def Slot.retires (x : Slot) (cause etime : Nat) (wpos : Int) : Slot :=
  { x with
    st := .retired, outcome := 3, cause := cause, etimeEnd := etime, wposEnd := wpos, engines := []
    planes := x.planes.map (fun q => { q with grans := [], tagGrans := [] }) }

/-- A slot that retires shows so: its event, whatever the severity, and its record leave it as it is, and engines that
become free go to slots in STAGING (R82). -/
theorem State.retire_keeps {β : Type} (f : Slot → β) (h : ∀ x e, f { x with engines := e } = f x) (s : State)
    (p cause sev : Nat) (d : List (Nat × Nat × Nat)) (tag : Nat) (hp : p < 160) (hl : p < s.alm.slots.length) :
    f ((s.retire p cause sev d tag).slot p) = f ((s.slot p).retires cause s.etime s.wpos) := by
  let u : State := s.modSlot p (fun x => x.retires cause s.etime s.wpos)
  let v : State := { u.stageEngines with
    alm := { u.stageEngines.alm with lastEnd := (u.stageEngines.slot p).fp + (u.stageEngines.slot p).frameLen } }
  let w : State := v.releaseGrans (s.slot p).allGrans
  have hu : u.slot p = (s.slot p).retires cause s.etime s.wpos := State.slot_modSlot_same s p _ hp hl
  have hw : w.slot p = u.stageEngines.slot p :=
    (State.slot_congr hp (State.releaseGrans_alm _ _)).trans (State.slot_of_slots hp rfl)
  have hst : (w.slot p).st = .retired := by
    rw [hw, State.stageEngines_keeps (fun x => x.st) (fun _ _ => rfl) u p hp, hu]
    rfl
  have hend : (s.retire p cause sev d tag).alm = (w.post sev cause 3 p ((0, 4, tag) :: d) tag).alm := by
    change ((((w.post sev cause 3 p ((0, 4, tag) :: d) tag).endTransfer (slotTransfer p)).pageGone p).composePage p).alm = _
    simp [State.composePage]
  rw [State.slot_congr hp hend, State.post_slot_idle _ _ _ _ _ _ _ _ hp (by rw [hst]; rfl) (by rw [hst]; rfl), hw,
    State.stageEngines_keeps f h u p hp, hu]

end Sys2Proof.Machine
end

section
/-! Cancel, aborts and the priority ring (R47, R60, R256), SAFE (R483), and how far an outcome is worsened (R57). -/

namespace Sys2Proof.Machine

open Sys2Proof

/-! ### Cancel (R47) -/

/-- A cancel in form that names one slot. -/
theorem State.serveCancel_one (s : State) (ring tseq p : Nat) (d : Desc) (hcount : dCount d = 0)
    (hzero : dZero d 16 63 = true) (hslot : (s.trace 0 ring [d] tseq).cancelSlots ring (dField d 8 8) = [p]) :
    s.serveCancel ring [d] tseq =
      let u := s.trace 0 ring [d] tseq
      let x := u.slot p
      (((if x.st.waiting && !x.eveFired && (x.lvt || decide (u.wpos < x.eve)) then
          (u.retire p 0x1027 0 [] (dTag d)).progress (dIrq d) (dTag d) x.pageId p 1 0 ring x.fp
        else u.progress (dIrq d) (dTag d) x.pageId p 1 1 ring x.fp).closeTxn (some ring)).doneTrace
          (some (traceEntry (dTag d) 1 ring 4 1 tseq 0))).poolWaits := by
  simp only [State.serveCancel, List.headD_cons, List.length_singleton, hcount, hzero, ne_eq, not_true, false_or,
    Bool.true_eq_false, if_false, hslot, List.foldl_cons, List.foldl_nil]

theorem State.takeCancel_served (s : State) (q : Nat) (ds : List Desc) (h : s.islandLacks q ds = false) :
    s.takeCancel q ds = ((s.passTxn q ds.length).keep ds).2.serveCancel q ds ((s.passTxn q ds.length).keep ds).1 :=
  if_neg (Bool.eq_false_iff.mp h)

/-! ### The priority ring (R60, R256) -/

/-- A transaction of Q28 in form has its effect and is answered. -/
theorem State.takePri_answers (s : State) (d : Desc) (f : State → Nat × Nat × State) (hform : priFormat d = true) :
    (s.takePri d f).settleHead 28 1 =
      s.priAnswer d (f (s.priTaken d).2).2.2 (f (s.priTaken d).2).1 (f (s.priTaken d).2).2.1 := by
  simp only [State.takePri, hform, Bool.not_true, Bool.false_eq_true, if_false]
  rfl

/-- A transaction of Q28 whose opcode is the command's is taken and answered. -/
theorem State.takeWhen_pri (s : State) (d : Desc) (op : Nat) (f : Desc → State → State → Nat × Nat × State)
    (hready : s.ringReady 28 [d]) (hop : dOpcode d = op) (hform : priFormat d = true) :
    s.live (s.takeWhen 28 (opIs op) (fun ds s => s.takePri (ds.headD 0) (f (ds.headD 0) s))) =
      s.priAnswer d (f d s (s.priTaken d).2).2.2 (f d s (s.priTaken d).2).1 (f d s (s.priTaken d).2).2.1 := by
  have hopIs : opIs op [d] = true := beq_iff_eq.mpr hop
  rw [State.live_up _ _ hready.1, State.takeWhen_ready s 28 [d] _ _ hready hopIs]
  exact State.takePri_answers s d _ hform

/-- An abort spoils the page on the stations and blanks its remaining lines (R60). -/
theorem State.abortSlot_imaging (s : State) (p : Nat) (hl : p < s.alm.slots.length) (hp : p < 160)
    (hst : (s.slot p).st = .imaging) :
    (s.abortSlot p).slot p = { ((s.slot p).worsen 2 0x1030).flagRec 32 with aborted := true } := by
  have hwait : (s.slot p).st.waiting = false := by rw [hst]; rfl
  have halm := State.post_alm s 0 0x1030 3 p [(0, 4, (s.slot p).tag), (4, 1, (s.slot p).st.code)] (s.slot p).tag
    (by decide)
  have habort : s.abortSlot p = (s.post 0 0x1030 3 p [(0, 4, (s.slot p).tag), (4, 1, (s.slot p).st.code)]
      (s.slot p).tag).modSlot p (fun x => { (x.worsen 2 0x1030).flagRec 32 with aborted := true }) :=
    (if_neg (Bool.eq_false_iff.mp hwait)).trans (if_pos (Or.inr hst))
  rw [habort, State.slot_modSlot_same _ _ _ hp (by rw [halm]; exact hl), State.slot_congr hp halm]

/-- R57: an outcome is at least what it was worsened to. -/
theorem Slot.le_worsen_outcome (x : Slot) (o c : Nat) : o ≤ (x.worsen o c).outcome := by
  unfold Slot.worsen
  split
  · exact Nat.le_refl _
  · next h => exact Nat.le_of_not_lt h

theorem Slot.worsen_st (x : Slot) (o c : Nat) : (x.worsen o c).st = x.st := by
  unfold Slot.worsen; split <;> rfl

/-! ### SAFE (R190, R208, R483) -/

/-- VBS_OK of an octet, once 0, stays so while octets' bits are written to 0. -/
theorem State.rd_vbsOk_cleared (l : List Nat) (n : Nat) (s : State) (h : n ∈ l ∨ s.rd (F.OCT_STAT_VBS_OK n) = 0) :
    (l.foldl (fun s n => s.wr (F.OCT_STAT_VBS_OK n) 0) s).rd (F.OCT_STAT_VBS_OK n) = 0 := by
  induction l generalizing s with
  | nil => simpa using h
  | cons m l ih =>
    refine ih _ ?_
    by_cases hmn : m = n
    · subst hmn
      exact Or.inr (State.rd_wr_same _ _ _ (by simp [F.OCT_STAT_VBS_OK]))
    · have hkey : (F.OCT_STAT_VBS_OK m).key ≠ (F.OCT_STAT_VBS_OK n).key := by
        simp only [Fld.key, F.OCT_STAT_VBS_OK]; omega
      rw [State.rd_wr_ne _ _ _ _ hkey]
      exact h.imp_left (fun hmem => (List.mem_cons.mp hmem).resolve_left (Ne.symm hmn))

/-- Nothing but its own bit changes as the supplies of the beams are released. -/
theorem State.rd_beamsOff (s : State) (f : Fld) (h : ∀ n, (F.OCT_STAT_VBS_OK n).key ≠ f.key) :
    s.beamsOff.rd f = s.rd f :=
  foldl_keeps (fun s : State => s.rd f) _ (fun _ n => State.rd_wr_ne _ _ _ _ (h n)) _ _

theorem State.beamsOff_beams (s : State) : s.beamsOff.beams = s.beams.map (fun b => { b with pulses := [] }) :=
  foldl_keeps State.beams (fun s n => s.wr (F.OCT_STAT_VBS_OK n) 0) (fun _ _ => rfl) _
    { s with
      beams := s.beams.map (fun b => { b with pulses := [] })
      octs := s.octs.map (fun o => { o with bsenAt := none }) }

/-- The state in which the safety latch is set, before SAFE is shown (R208, R214). -/
def State.latched (s : State) (src : Nat) : State :=
  if s.on F.VIG_LSAFE_LATCHED then s else
    ((((s.legIrq 14).wr F.VIG_LSAFE_LATCHED 1).wr F.FAULT_STAT_SAFE_SRC src).inc F.FAULT_COUNT_SAFES).inc
      F.VIG_LSAFE_TRIPS_TRIPS

theorem State.safeStart_eq (s : State) (src code : Nat) : s.safeStart src code =
    (((s.latched src).wr F.FAULT_STAT_SAFE 1).wr F.FAULT_STAT_WSTOP 1).beamsOff.modInFlight (fun x => x.worsen 2 code) :=
  rfl

theorem State.rd_latched_latched (s : State) (src : Nat) : (s.latched src).rd F.VIG_LSAFE_LATCHED ≠ 0 := by
  unfold State.latched
  split
  · next h => simpa [State.on] using h
  · rw [State.rd_inc_ne _ _ _ _ (by decide), State.rd_inc_ne _ _ _ _ (by decide), State.rd_wr_ne _ _ _ _ (by decide),
      State.rd_wr_same _ _ _ (by decide)]
    decide

/-- SAFE in force (R190, R208, R483). -/
theorem State.safeStart_spec (s : State) (src code : Nat) :
    (s.safeStart src code).rd F.FAULT_STAT_SAFE = 1 ∧ (s.safeStart src code).rd F.VIG_LSAFE_LATCHED ≠ 0 ∧
    (∀ b ∈ (s.safeStart src code).beams, b.pulses = []) ∧
    (∀ n : Fin 16, (s.safeStart src code).rd (F.OCT_STAT_VBS_OK n) = 0) := by
  have hvbs (f : Fld) (h : f.key < (F.OCT_STAT_VBS_OK 0).key) (n : Nat) : (F.OCT_STAT_VBS_OK n).key ≠ f.key := by
    simp only [Fld.key, F.OCT_STAT_VBS_OK] at h ⊢; omega
  simp only [State.safeStart_eq, State.rd_modInFlight, State.modInFlight_beams, State.beamsOff_beams]
  refine ⟨?_, ?_, ?_, ?_⟩
  · rw [State.rd_beamsOff _ _ (hvbs _ (by decide)), State.rd_wr_ne _ _ _ _ (by decide), State.rd_wr_same _ _ _ (by decide)]
    rfl
  · rw [State.rd_beamsOff _ _ (hvbs _ (by decide)), State.rd_wr_ne _ _ _ _ (by decide), State.rd_wr_ne _ _ _ _ (by decide)]
    exact State.rd_latched_latched s src
  · simp
  · intro n
    exact State.rd_vbsOk_cleared _ _ _ (Or.inl (List.mem_range.mpr n.isLt))

/-- Settles O23: a cancel by `State.serveCancel_one`, the commands of Q28 by `State.takeWhen_pri`, SAFE by
`State.safeStart_spec`. -/
theorem cancelAndPriority : Obligations.CancelAndPriority := by
  refine ⟨?_, ?_, ?_, ?_, ?_, ?_, ?_⟩
  · intro s q d p hready hq hop hcount hzero hserved hslot hwait heve hpos
    rw [exec_pageCancel s q [d] hready hq hop, State.takeCancel_served _ _ _ hserved, List.length_singleton,
      State.serveCancel_one _ _ _ p _ hcount hzero hslot]
    simp only [hwait, heve, hpos, Bool.not_false, Bool.true_and, decide_true, Bool.or_true, if_true]
  · intro s d hready hop hform
    exact congrArg Host.Outcome.next (State.takeWhen_pri s d 0x60 (fun d _ s => s.pageAbort d) hready hop hform)
  · intro s p hl hp _ hst
    rw [State.abortSlot_imaging s p hl hp hst]
    exact ⟨rfl, Slot.le_worsen_outcome _ _ _, (Slot.worsen_st _ _ _).trans hst⟩
  · intro s d hready hop hform
    exact congrArg Host.Outcome.next (State.takeWhen_pri s d 0x61 (fun d _ s => (0, 0, s.priStop d)) hready hop hform)
  · intro s d hready hop hform
    exact congrArg Host.Outcome.next (State.takeWhen_pri s d 0x62 (fun d _ s => (0, 0, s.priSafe d)) hready hop hform)
  · intro s src code _
    exact State.safeStart_spec _ src code
  · intro s d hready hop hform
    exact congrArg Host.Outcome.next
      (State.takeWhen_pri s d 0x63 (fun _ s0 s => (0, (s0.ring 28).found.headD 0, s)) hready hop hform)

end Sys2Proof.Machine
end

section
/-! Granules and staging (R41, R81, R83). -/

namespace Sys2Proof.Machine

open Sys2Proof

/-- The slot next in order, with room for its whole need, takes its granules (R81). -/
theorem State.allocate_next (s : State) (p : Nat) (horder : s.poolOrder.head? = some p)
    (heve : (s.slot p).eveFired = false) (hroom : needOf (s.slot p).planes (s.slot p).lines ≤ s.poolFree)
    (hfew : (s.slotsWhere (fun y => y.st = .staging)).length < 16) :
    s.allocate p = ((s.modSlot p (fun x => { x with
      st := .staging
      planes := allocPlanes s.poolBase (s.slot p).lines (s.slot p).planes (s.slotGrans ++ s.band.retired)
      wins := s.windows })).stageEngines).poolWaits := by
  simp only [State.allocate, horder, heve, hroom, hfew, Bool.not_false, decide_true, Bool.and_self, if_true]

/-- The sources of a slot have been read, each of them good (R83). -/
theorem State.stageEnd_good (s : State) (p : Nat) (srcs : List SrcRead) (l : List (List Nat × List Byte))
    (hst : (s.slot p).st = .staging) (heve : s.eveGone (s.slot p) = false) (hstaff : (s.slot p).staffed = true)
    (hgood : ((s.scratchErrors p srcs).smudged srcs).stageAll (s.slot p).wins (s.slot p).lines (stagePlan (s.slot p)) srcs =
      .inr l) :
    s.stageEnd p srcs =
      let v := l.foldl (fun (v : State) (e : List Nat × List Byte) => v.putGrans e.1 0 e.2)
        { s.scratchErrors p srcs with freeCtr := ((s.scratchErrors p srcs).smudged srcs).freeCtr }
      ((v.toStaged p).slotProgress p).endTransfer (slotTransfer p) := by
  simp only [State.stageEnd, hst, heve, hstaff, hgood, bne_self_eq_false, Bool.not_true, Bool.false_eq_true, if_false]

/-- The first source that fails its checks ends the staging (R83). -/
theorem State.stageEnd_bad (s : State) (p : Nat) (srcs : List SrcRead) (st c d : Nat) (tag : Bool)
    (hst : (s.slot p).st = .staging) (heve : s.eveGone (s.slot p) = false)
    (hbad : ((s.scratchErrors p srcs).smudged srcs).stageAll (s.slot p).wins (s.slot p).lines (stagePlan (s.slot p)) srcs =
      .inl (st, tag, c, d)) :
    s.stageEnd p srcs = ({ s.scratchErrors p srcs with
      freeCtr := ((s.scratchErrors p srcs).smudged srcs).freeCtr } : State).stageFail p st tag c d := by
  simp only [State.stageEnd, hst, heve, hbad, bne_self_eq_false, Bool.false_eq_true, if_false]

/-- Settles O24: staging begins and ends by the equations above, and a slot that retires shows its cause. -/
theorem pageStaging : Obligations.PageStaging := by
  refine ⟨?_, ?_, ?_, ?_, ?_⟩
  · intro s p hup horder heve hroom hfew
    exact congrArg Host.Outcome.next ((State.live_up _ _ hup).trans (State.allocate_next s p horder heve hroom hfew))
  · intro s p srcs l hup hst heve hstaff u sm hgood
    exact congrArg Host.Outcome.next ((State.live_up _ _ hup).trans (State.stageEnd_good s p srcs l hst heve hstaff hgood))
  · intro s p srcs st c d tag hup hst heve u sm hbad
    exact congrArg Host.Outcome.next ((State.live_up _ _ hup).trans (State.stageEnd_bad s p srcs st c d tag hst heve hbad))
  · intro s p st tag codec sub hup hst hmask hlo hhi
    refine congrArg Host.Outcome.next ((State.live_up _ _ hup).trans ?_)
    simp only [hlo, hhi, hmask, decide_true, Bool.and_self, if_true]
    exact if_pos hst
  · intro s p cause sev d tag hp hl
    exact ⟨State.retire_keeps (fun x => x.st) (fun _ _ => rfl) s p cause sev d tag hp hl,
      State.retire_keeps (fun x => x.outcome) (fun _ _ => rfl) s p cause sev d tag hp hl,
      State.retire_keeps (fun x => x.cause) (fun _ _ => rfl) s p cause sev d tag hp hl⟩

end Sys2Proof.Machine
end

section
/-! The eve and admission (R52–R55, R58, R470, R472, R481). -/

namespace Sys2Proof.Machine

open Sys2Proof

/-! ### The eve (R52, R53) -/

/-- The eve of a waiting slot fires when WPOS reaches it. -/
theorem State.eve_fires (s : State) (p : Nat) (hst : (s.slot p).st.waiting = true) (hnew : (s.slot p).eveFired = false)
    (hlvt : (s.slot p).lvt = false) (hpos : (s.slot p).eve ≤ s.wpos) :
    s.eve p = (s.fireEve p s.stRefused).poolWaits := by
  simp only [State.eve, hst, hnew, hlvt, hpos, Bool.not_false, decide_true, Bool.and_self, if_true]

theorem State.stopAtEve_stopped (s : State) (h : s.rd F.FAULT_STAT_FRAME_STOP = 1) :
    s.stopAtEve = some (s.rd F.FAULT_STAT_FS_CAUSE) := by
  simp [State.stopAtEve, State.on, h]

/-- A frame stop cleared on this tick still counts (R481). -/
theorem State.stopAtEve_cleared (s : State) (t c : Nat) (r : Nat × Nat) (h : s.rd F.FAULT_STAT_FRAME_STOP = 0)
    (hclr : s.flt.clr = some (t, c, r)) (ht : t / 10 = s.now / 10) : s.stopAtEve = some c := by
  simp [State.stopAtEve, State.on, h, hclr, ht]

/-- The first condition of R52 is that no frame stop is in force. -/
theorem State.eveCheck_stopped (s : State) (x : Slot) (f : Nat → Bool) (c : Nat) (h : s.stopAtEve = some c) :
    s.eveCheck x f = (0x1024, c) := by
  simp only [State.eveCheck, h]

theorem State.eveCheck_passes (s : State) (x : Slot) (f : Nat → Bool) (hstop : s.stopAtEve = none)
    (hen : s.rd F.ALM_CTL_ADMIT_EN = 1) (harm : s.rd F.GLB_STATE_ARMED = 1) (hst : x.st = .staged)
    (htier : x.minTier ≤ s.tierAtEve) (hok : ∀ st, x.mask.testBit st = true → f st = false) :
    s.eveCheck x f = (0, 0) := by
  have hnone : (bitsOf 8 x.mask).find? f = none := by
    refine List.find?_eq_none.mpr (fun st hst => ?_)
    simp [hok st (List.mem_filter.mp hst).2]
  simp [State.eveCheck, State.on, hstop, hen, harm, hst, Nat.not_lt.mpr htier, hnone]

/-! ### The outcome of a slot (R57, R58) -/

theorem Slot.outcome_le_worsen (x : Slot) (o c : Nat) : x.outcome ≤ (x.worsen o c).outcome := by
  unfold Slot.worsen
  split
  · next h => exact Nat.le_of_lt h
  · exact Nat.le_refl _

theorem Slot.worsen_recFlags (x : Slot) (o c : Nat) : (x.worsen o c).recFlags = x.recFlags := by
  unfold Slot.worsen; split <;> rfl

/-- ST_FLAGS bits set change nothing else of a slot. -/
theorem Slot.flagAll_keeps {β : Type} (f : Slot → β) (h : ∀ x l, f { x with stFlags := l } = f x) (x : Slot) (bits : Nat) :
    f (x.flagAll bits) = f x :=
  List.foldlRecOn (motive := fun y : Slot => f y = f x) _ _ rfl (fun y ih _ _ => (h y _).trans ih)

/-- What a slot is once it is FLAGGED with PROOF, for a cause (R58, R472). -/
def Slot.proofed (x : Slot) (cause : Nat) : Slot := ((x.worsen 1 cause).flagRec 1).flagAll 8

theorem Slot.proofed_st (x : Slot) (c : Nat) : (x.proofed c).st = x.st :=
  (Slot.flagAll_keeps (fun x => x.st) (fun _ _ => rfl) _ _).trans (Slot.worsen_st x 1 c)

theorem Slot.proofed_outcome (x : Slot) (c : Nat) : (x.proofed c).outcome = (x.worsen 1 c).outcome :=
  Slot.flagAll_keeps (fun x => x.outcome) (fun _ _ => rfl) _ _

theorem Slot.proofed_cause (x : Slot) (c : Nat) : (x.proofed c).cause = (x.worsen 1 c).cause :=
  Slot.flagAll_keeps (fun x => x.cause) (fun _ _ => rfl) _ _

theorem Slot.proofed_recFlags (x : Slot) (c : Nat) : (x.proofed c).recFlags = x.recFlags ||| 1 := by
  refine (Slot.flagAll_keeps (fun x => x.recFlags) (fun _ _ => rfl) _ _).trans ?_
  exact congrArg (· ||| 1) (Slot.worsen_recFlags x 1 c)

theorem Slot.worsen_cause_of_lt (x : Slot) (o c : Nat) (h : x.outcome < o) : (x.worsen o c).cause = c := by
  rw [Slot.worsen, if_pos h]

/-- A page whose MIN_TIER still holds stays as it is (R58). -/
theorem Slot.tierFell_of_le (x : Slot) (v : Nat) (h : x.minTier ≤ v) : x.tierFell v = x := by
  simp [Slot.tierFell, h]

/-- A page whose MIN_TIER no longer holds: PROOF for tier P, SPOILED for tier F (R58). -/
theorem Slot.tierFell_below (x : Slot) (v : Nat) (hst : x.st = .admitted ∨ x.st = .imaging) (hv : v < x.minTier) :
    x.tierFell v = if x.minTier = 2 then x.proofed 0x1040 else x.worsen 2 0x1040 := by
  rcases hst with hst | hst <;> simp [Slot.tierFell, hst, Nat.not_le.mpr hv, Slot.proofed]

/-- A fall of TIER keeps a slot as it is, proofs or spoils it. -/
theorem Slot.tierFell_cases (x : Slot) (v : Nat) :
    x.tierFell v = x ∨ x.tierFell v = x.proofed 0x1040 ∨ x.tierFell v = x.worsen 2 0x1040 := by
  unfold Slot.tierFell
  split
  · exact Or.inl rfl
  · split
    · exact Or.inr (Or.inl rfl)
    · exact Or.inr (Or.inr rfl)

theorem Slot.tierFell_st (x : Slot) (v : Nat) : (x.tierFell v).st = x.st := by
  obtain h | h | h := x.tierFell_cases v
  · exact congrArg Slot.st h
  · exact (congrArg Slot.st h).trans (Slot.proofed_st _ _)
  · exact (congrArg Slot.st h).trans (Slot.worsen_st _ _ _)

theorem Slot.outcome_le_tierFell (x : Slot) (v : Nat) : x.outcome ≤ (x.tierFell v).outcome := by
  obtain h | h | h := x.tierFell_cases v
  · exact Nat.le_of_eq (congrArg Slot.outcome h.symm)
  · rw [h, Slot.proofed_outcome]
    exact Slot.outcome_le_worsen _ _ _
  · exact h.symm ▸ Slot.outcome_le_worsen _ _ _

/-- PROOF stays set (R64). -/
theorem Slot.tierFell_proof (x : Slot) (v : Nat) (hx : x.recFlags.testBit 0 = true) :
    (x.tierFell v).recFlags.testBit 0 = true := by
  obtain h | h | h := x.tierFell_cases v
  · exact h.symm ▸ hx
  · rw [h, Slot.proofed_recFlags, Nat.testBit_or, hx, Bool.true_or]
  · rw [h, Slot.worsen_recFlags, hx]

/-! ### What records leave of the registers -/

theorem State.rd_closeTxn (s : State) (q : Option Nat) (f : Fld) : (s.closeTxn q).rd f = s.rd f := by
  cases q <;> rfl

/-- A record written moves PI and RING_TAKEN of its ring (R249). -/
theorem State.rd_putRec (s : State) (q : Nat) (r : Rec) (f : Fld) (hpi : (F.RING_IDX_PI q).key ≠ f.key)
    (htaken : (F.RING_TAKEN_TAKEN q).key ≠ f.key) : (s.putRec q r).rd f = s.rd f := by
  have hput (v : Nat) (g : Ring → Ring) :
      ((((s.modRing q g).wr (F.RING_IDX_PI q) v).inc (F.RING_TAKEN_TAKEN q)).closeTxn r.closes).rd f = s.rd f := by
    rw [State.rd_closeTxn, State.rd_inc_ne _ _ _ _ htaken, State.rd_wr_ne _ _ _ _ hpi, State.rd_modRing]
  simp only [State.putRec]
  split
  · split
    · rw [State.rd_vecCause, hput]
    · exact hput _ _
  · rw [State.rd_vecCause, hput]

theorem State.rd_putOrDrop (s : State) (q : Nat) (r : Rec) (f : Fld) (hpi : (F.RING_IDX_PI q).key ≠ f.key)
    (htaken : (F.RING_TAKEN_TAKEN q).key ≠ f.key) (hdrop : (F.RING_DISCARD_DISCARD q).key ≠ f.key) :
    (s.putOrDrop q r).rd f = s.rd f := by
  unfold State.putOrDrop
  split
  · exact State.rd_putRec s q r f hpi htaken
  · exact State.rd_inc_ne _ _ _ _ hdrop

/-- A progress record moves registers of Q21 alone (R255). -/
theorem State.rd_slotProgress (s : State) (p : Nat) (f : Fld) (hpi : (F.RING_IDX_PI 21).key ≠ f.key)
    (htaken : (F.RING_TAKEN_TAKEN 21).key ≠ f.key) (hdrop : (F.RING_DISCARD_DISCARD 21).key ≠ f.key) :
    (s.slotProgress p).rd f = s.rd f := by
  simp only [State.slotProgress, State.progress]
  split
  · exact State.rd_putOrDrop _ _ _ _ hpi htaken hdrop
  · rfl

/-! ### The decision (R52, R54, R58, R472) -/

/-- A slot whose page is admitted. -/
def Slot.admits (x : Slot) : Slot := { x with st := .admitted }

/-- The state in which a page has just been admitted (R52). -/
def State.admitted (s : State) (p : Nat) : State :=
  ((s.dropHolds p).modSlot p Slot.admits).slotProgress p

theorem State.admitted_slot (s : State) (p : Nat) (hp : p < 160) (hl : p < s.alm.slots.length) :
    (s.admitted p).slot p = (s.slot p).admits :=
  (State.slot_congr hp (State.slotProgress_alm _ _)).trans (State.slot_modSlot_same (s.dropHolds p) p _ hp hl)

theorem State.admitted_length (s : State) (p : Nat) : (s.admitted p).alm.slots.length = s.alm.slots.length := by
  rw [State.admitted, State.slotProgress_alm, State.slots_length_modSlot]
  rfl

theorem State.rd_admitted_tier (s : State) (p : Nat) : (s.admitted p).rd F.GLB_STATE_TIER = s.rd F.GLB_STATE_TIER := by
  rw [State.admitted, State.rd_slotProgress _ _ _ (by decide) (by decide) (by decide), State.rd_modSlot]
  rfl

/-- An admission that TIER P does not flag. -/
theorem State.recordDecision_admits (s : State) (p : Nat) (hc : (s.slot p).eveCause = 0) (ht : (s.slot p).eveTier ≠ 2) :
    s.recordDecision p =
      (s.admitted p).modSlot p (fun x => x.tierFell ((s.admitted p).rd F.GLB_STATE_TIER)) := by
  simp only [State.recordDecision, hc, ht, if_true, if_false]
  rfl

/-- An admission in tier P (R472). -/
def State.admittedProof (s : State) (p : Nat) : State :=
  ((s.admitted p).modSlot p (fun x => x.proofed 0x1028)).post 0 0x1028 3 p [(0, 1, (s.slot p).minTier)] (s.slot p).tag

theorem State.recordDecision_proofs (s : State) (p : Nat) (hc : (s.slot p).eveCause = 0) (ht : (s.slot p).eveTier = 2) :
    s.recordDecision p =
      (s.admittedProof p).modSlot p (fun x => x.tierFell ((s.admittedProof p).rd F.GLB_STATE_TIER)) := by
  simp only [State.recordDecision, hc, ht, if_true]
  rfl

theorem State.admittedProof_alm (s : State) (p : Nat) :
    (s.admittedProof p).alm = ((s.admitted p).modSlot p (fun x => x.proofed 0x1028)).alm :=
  State.post_alm _ _ _ _ _ _ _ (by decide)

theorem State.admittedProof_slot (s : State) (p : Nat) (hp : p < 160) (hl : p < s.alm.slots.length) :
    (s.admittedProof p).slot p = (s.slot p).admits.proofed 0x1028 := by
  rw [State.slot_congr hp (State.admittedProof_alm s p),
    State.slot_modSlot_same _ _ _ hp (by rw [State.admitted_length]; exact hl), State.admitted_slot s p hp hl]

theorem State.admittedProof_length (s : State) (p : Nat) : (s.admittedProof p).alm.slots.length = s.alm.slots.length := by
  rw [State.admittedProof_alm, State.slots_length_modSlot, State.admitted_length]

/-- A page whose conditions failed is made vacant (R55). -/
theorem State.recordDecision_vacates (s : State) (p : Nat) (hc : (s.slot p).eveCause ≠ 0) :
    s.recordDecision p = s.vacate p (s.slot p).eveCause (eveDetail (s.slot p).eveCause (s.slot p).eveDetail) := by
  simp only [State.recordDecision, hc, if_false]

theorem State.admission_late (s : State) (p : Nat) (hst : (s.slot p).st = .staged) (hev : (s.slot p).eveFired = true)
    (ht : (s.slot p).eveAt / 10 < s.now / 10) (hpast : s.pastBackstop (s.slot p) = true) :
    s.admission p = (s.vacate p 0x1026 []).poolWaits := by
  simp only [State.admission, hst, hev, ht, hpast, decide_true, Bool.and_self, if_true]

theorem State.admission_due (s : State) (p : Nat) (hst : (s.slot p).st = .staged) (hev : (s.slot p).eveFired = true)
    (ht : (s.slot p).eveAt / 10 < s.now / 10) (hserves : s.islandServes = true)
    (hpast : s.pastBackstop (s.slot p) = false) :
    s.admission p = if ((s.recordDecision p).poolWaits.slot p).st = .admitted
      then (s.recordDecision p).poolWaits.expectMarks p else (s.recordDecision p).poolWaits := by
  simp only [State.admission, hst, hev, ht, hpast, hserves, decide_true, Bool.and_self, Bool.and_false, if_true,
    Bool.false_eq_true, if_false]

theorem State.backstop_due (s : State) (p : Nat) (hst : (s.slot p).st = .staged) (hev : (s.slot p).eveFired = true)
    (hpos : (s.slot p).fp + (s.slot p).dFirst - 200000 ≤ s.wpos) :
    s.backstop p = (s.vacate p 0x1026 []).poolWaits := by
  simp only [State.backstop, State.pastBackstop, hst, hev, hpos, decide_true, Bool.and_self, if_true]

/-! ### TIER (R470) -/

/-- A fall of TIER reaches every slot (R58). -/
theorem State.setTier_fall (s : State) (v : Nat) (h : v < s.rd F.GLB_STATE_TIER) :
    (s.setTier v).alm.slots = s.alm.slots.map (fun x => x.tierFell v) := by
  have halm (u : State) (l : List Nat) : (l.foldl (fun (s : State) (p : Nat) =>
      if locksIn v (s.pllState p) then s.modPll p (fun z => { z with unlocked := false }) else s) u).alm = u.alm :=
    foldl_keeps State.alm _ (fun _ _ => by split <;> rfl) l u
  simp only [State.setTier, if_neg (Nat.ne_of_gt h), if_pos h]
  rw [State.post_alm _ _ _ _ _ _ _ (by decide)]
  repeat' split
  all_goals simp only [State.inc_alm, halm, State.wr_alm]

/-- Settles O25: what an eve samples by the equations of `State.eveCheck`, the decision by the three forms of
`State.recordDecision`, a fall of TIER by the three forms of `Slot.tierFell`. -/
theorem eveAndAdmission : Obligations.EveAndAdmission := by
  refine ⟨?_, ?_, ?_, ?_, ?_, ?_, ?_, ?_, ?_, State.setTier_fall, State.recordDecision_vacates, ?_⟩
  · intro s p hup hst hnew hlvt hpos
    exact congrArg Host.Outcome.next
      ((State.live_up _ _ hup).trans (State.eve_fires s p (by rw [hst]; rfl) hnew hlvt hpos))
  · intro s x f h
    exact State.eveCheck_stopped s x f _ (State.stopAtEve_stopped s h)
  · intro s x f t c r h hclr ht
    exact State.eveCheck_stopped s x f c (State.stopAtEve_cleared s t c r h hclr ht)
  · intro s x f hstop hen harm hst htier hok
    exact State.eveCheck_passes s x f hstop hen harm hst htier hok
  · intro s p hup hst hev ht hserves hpast
    exact congrArg Host.Outcome.next
      ((State.live_up _ _ hup).trans (State.admission_due s p hst hev ht hserves hpast))
  · intro s p hup hst hev ht hpast
    exact congrArg Host.Outcome.next ((State.live_up _ _ hup).trans (State.admission_late s p hst hev ht hpast))
  · intro s p hc ht htier hp hl
    have hslot : (s.recordDecision p).slot p = (s.slot p).admits := by
      rw [State.recordDecision_admits s p hc ht, State.slot_modSlot_same _ _ _ hp (by rw [State.admitted_length]; exact hl),
        State.rd_admitted_tier, State.admitted_slot s p hp hl, Slot.tierFell_of_le (s.slot p).admits _ htier]
    rw [hslot]
    exact ⟨rfl, rfl⟩
  · intro s p hc ht _ hp hl
    rw [State.recordDecision_proofs s p hc ht,
      State.slot_modSlot_same _ _ _ hp (by rw [State.admittedProof_length]; exact hl), State.admittedProof_slot s p hp hl]
    refine ⟨?_, ?_, Slot.tierFell_proof _ _ ?_⟩
    · exact (Slot.tierFell_st _ _).trans (Slot.proofed_st _ _)
    · refine Nat.le_trans ?_ (Slot.outcome_le_tierFell _ _)
      rw [Slot.proofed_outcome]
      exact Slot.le_worsen_outcome _ _ _
    · rw [Slot.proofed_recFlags, Nat.testBit_or]
      simp
  · intro x v hst hv
    rw [Slot.tierFell_below x v hst hv]
    refine ⟨fun h2 => ?_, fun h2 => ?_, fun hgood => ?_⟩
    · rw [if_pos h2, Slot.proofed_outcome, Slot.proofed_recFlags, Nat.testBit_or]
      exact ⟨Slot.le_worsen_outcome _ _ _, by simp⟩
    · rw [if_neg h2]
      exact Slot.le_worsen_outcome _ _ _
    · split
      · rw [Slot.proofed_cause, Slot.worsen_cause_of_lt _ _ _ hgood]
      · exact Slot.worsen_cause_of_lt _ _ _ (by omega)
  · intro s p hup hst hev hpos
    exact congrArg Host.Outcome.next ((State.live_up _ _ hup).trans (State.backstop_due s p hst hev hpos))

end Sys2Proof.Machine
end

section
/-! Frames, delivery and page records (R41, R62, R63, R145). -/

namespace Sys2Proof.Machine

open Sys2Proof

/-! ### Frames (R41) -/

theorem State.frameEnd_over (s : State) (st p : Nat) (hon : s.slotOn st = some p) (hover : s.frameOver st p = true) :
    s.frameEnd st = s.frameEnds st p := by
  simp only [State.frameEnd, hon, hover, if_true]

/-! ### Delivery (R62) -/

/-- A page in TRANSIT is delivered at F_p + DELIV_POS. -/
theorem State.delivery_due (s : State) (p : Nat) (hst : (s.slot p).st = .transit)
    (hpos : (s.slot p).fp + (s.slot p).delivPos ≤ s.wpos) : s.delivery p = s.deliver p := by
  simp only [State.delivery, hst, hpos, decide_true, Bool.and_self, if_true]

/-- A slot as it is delivered. -/
def Slot.delivers (x : Slot) (etime : Nat) (wpos : Int) : Slot :=
  { x with st := .delivered, etimeEnd := etime, wposEnd := wpos }

/-- The state in which a page is DELIVERED, before ALM_SPOILED counts it. -/
def State.delivered (s : State) (p : Nat) : State := s.modSlot p (fun x => x.delivers s.etime s.wpos)

theorem State.delivered_slot (s : State) (p : Nat) (hp : p < 160) (hl : p < s.alm.slots.length) :
    (s.delivered p).slot p = (s.slot p).delivers s.etime s.wpos :=
  State.slot_modSlot_same _ _ _ hp hl

theorem State.deliver_eq (s : State) (p : Nat) (hp : p < 160) (hl : p < s.alm.slots.length) :
    s.deliver p = (if (s.slot p).outcome = 2 then (s.delivered p).inc F.ALM_SPOILED_SPOILED
      else s.delivered p).composePage p := by
  have houtcome : ((s.delivered p).slot p).outcome = (s.slot p).outcome := by rw [State.delivered_slot s p hp hl]; rfl
  rw [← houtcome]
  rfl

theorem State.deliver_slot (s : State) (p : Nat) (hp : p < 160) (hl : p < s.alm.slots.length) :
    (s.deliver p).slot p = (s.slot p).delivers s.etime s.wpos := by
  rw [← State.delivered_slot s p hp hl, State.deliver_eq s p hp hl]
  refine State.slot_congr hp ((State.queueRec_alm _ _ _).trans ?_)
  split <;> rfl

/-- A SPOILED page counts as it is delivered. -/
theorem State.rd_deliver_spoiled (s : State) (p : Nat) (hp : p < 160) (hl : p < s.alm.slots.length) :
    (s.deliver p).rd F.ALM_SPOILED_SPOILED = if (s.slot p).outcome = 2
      then satAdd F.ALM_SPOILED_SPOILED.w (s.rd F.ALM_SPOILED_SPOILED) 1 else s.rd F.ALM_SPOILED_SPOILED := by
  rw [State.deliver_eq s p hp hl, State.composePage, State.rd_queueRec]
  split
  · rw [State.rd_inc_same _ _ _ (by decide), State.delivered, State.rd_modSlot]
  · rw [State.delivered, State.rd_modSlot]

/-- A window that closes without an edge leaves the page unconfirmed (R62). -/
theorem State.delivClose_missed (s : State) (p : Nat) (hst : (s.slot p).st = .delivered)
    (hen : s.rd F.ALM_CTL_DELIV_MK_EN = 1) (hopen : (s.slot p).delivClosed = false) (hedge : (s.slot p).delivEdge = false)
    (hpos : (s.slot p).fp + (s.slot p).delivPos + s.rd F.ALM_DELIV_WIN_DELIV_WIN < s.wpos) :
    s.delivClose p = (s.modSlot p (fun x => { x.flagRec 4 with delivClosed := true })).post 1 0x1031 3 p
      [(0, 1, s.rd F.ALM_CTL_DELIV_MK)] (s.slot p).tag := by
  have hon : s.on F.ALM_CTL_DELIV_MK_EN = true := by rw [State.on, hen]; rfl
  simp only [State.delivClose, hst, hon, hopen, hedge, hpos, Bool.not_false, decide_true, Bool.and_self, if_true,
    Bool.false_eq_true, if_false]

/-- A change of a slot of the Almanac is a change of the Almanac. -/
theorem State.modSlot_frame (s : State) (p : Nat) (g : Slot → Slot) (hp : p < 160) :
    s.modSlot p g = { s with alm := (s.modSlot p g).alm } := by
  simp only [State.modSlot, hp, if_true]

/-! ### The page record (R63) -/

/-- The state in which the oldest record of Q20, of slot `p`, has been written and its slot is FREE. -/
def State.recordWritten (s : State) (p : Nat) (r : Rec) (rest : List Rec) : State :=
  let x := s.slot p
  ((s.begunWait ((s.modRing 20 (fun g => { g with waiting := rest })).putRec 20
      { r with entries := pageRecord p x })).doneTrace
    (some (traceEntry x.tag 1 x.ring 1 (x.planes.length + 2) x.tseq x.cause))).modSlot p (fun _ => {})

theorem State.recordWritten_alm (s : State) (p : Nat) (r : Rec) (rest : List Rec) (hp : p < 160) :
    (s.recordWritten p r rest).alm = { s.alm with slots := s.alm.slots.modify p (fun _ => {}) } := by
  simp only [State.recordWritten, State.modSlot, hp, if_true, State.doneTrace_alm, State.begunWait_alm, State.putRec_alm,
    State.modRing_alm]

/-- A page record with room is written; the end of a frame that was printed becomes that of the last retired one (R49). -/
theorem State.pageRecordWrite_room (s : State) (r : Rec) (rest : List Rec) (p : Nat)
    (hw : (s.ring 20).waiting = r :: rest) (hr : r.slot = some p) (hp : p < 160)
    (hroom : s.roomFor 20 { r with entries := pageRecord p (s.slot p) } = true) (hready : s.recordReady p = true) :
    s.pageRecordWrite = if (s.slot p).outcome = 3 then s.recordWritten p r rest else { s.recordWritten p r rest with
      alm := { (s.recordWritten p r rest).alm with lastEnd := (s.slot p).fp + (s.slot p).frameLen } } := by
  obtain ⟨entries, irq, closes, slot, trace⟩ := r
  obtain rfl : slot = some p := hr
  simp only [State.pageRecordWrite, hw, hp, hroom, hready, Bool.and_self, if_true]
  rfl

/-- The slot of a written record is FREE, every other slot is as it was. -/
theorem State.pageRecordWrite_slots (s : State) (r : Rec) (rest : List Rec) (p : Nat)
    (hw : (s.ring 20).waiting = r :: rest) (hr : r.slot = some p) (hp : p < 160)
    (hroom : s.roomFor 20 { r with entries := pageRecord p (s.slot p) } = true) (hready : s.recordReady p = true) :
    s.pageRecordWrite.alm.slots = (s.modSlot p (fun _ => {})).alm.slots ∧
    s.pageRecordWrite.alm.lastEnd =
      if (s.slot p).outcome = 3 then s.alm.lastEnd else (s.slot p).fp + (s.slot p).frameLen := by
  rw [State.pageRecordWrite_room s r rest p hw hr hp hroom hready]
  split <;> simp [State.recordWritten_alm s p r rest hp, State.modSlot, hp]

/-- Settles O26: frames by the branches of their commands, delivery by `State.deliver_eq`, the record by
`State.pageRecordWrite_room`. -/
theorem framesAndDelivery : Obligations.FramesAndDelivery := by
  refine ⟨?_, ?_, ?_, ?_, ?_, ?_⟩
  · intro s st p hup hstarts
    exact congrArg Host.Outcome.next ((State.live_up _ _ hup).trans (if_pos hstarts))
  · intro s st p hup hwaits
    exact congrArg Host.Outcome.next ((State.live_up _ _ hup).trans (if_neg (Bool.eq_false_iff.mp hwaits)))
  · intro s st p hup hon hover
    refine congrArg Host.Outcome.next ((State.live_up _ _ hup).trans ?_)
    rw [State.frameEnd_over s st p hon hover]
  · intro s p hup hst hpos hl
    have hslot := State.deliver_slot s p p.isLt hl
    exact ⟨s.deliver p,
      congrArg Host.Outcome.next ((State.live_up _ _ hup).trans (State.delivery_due s p hst hpos)),
      congrArg Slot.st hslot, congrArg Slot.etimeEnd hslot, congrArg Slot.wposEnd hslot,
      (congrArg Slot.outcome hslot).trans rfl, State.rd_deliver_spoiled s p p.isLt hl⟩
  · intro s p ⟨hup, hmode⟩ hst hen hopen hedge hpos hl
    let u : State := s.modSlot p (fun x => { x.flagRec 4 with delivClosed := true })
    let t : State := u.post 1 0x1031 3 p [(0, 1, s.rd F.ALM_CTL_DELIV_MK)] (s.slot p).tag
    have hnative : u.rd F.GLB_MODE_MODE ≠ 1 := by rw [State.rd_modSlot]; omega
    have hu : u = { s with alm := u.alm } := State.modSlot_frame s p _ p.isLt
    have halm : t.alm = u.alm := State.post_alm _ _ _ _ _ _ _ (by decide)
    have hslot : t.slot p = { (s.slot p).flagRec 4 with delivClosed := true } :=
      (State.slot_congr p.isLt halm).trans (State.slot_modSlot_same s p _ p.isLt hl)
    refine ⟨t, congrArg Host.Outcome.next
      ((State.live_up _ _ hup).trans (State.delivClose_missed s p hst hen hopen hedge hpos)), ?_, ?_, ?_, ?_⟩
    · rw [hslot]
    · rw [hslot]; rfl
    · have hposts : Posts { s with alm := u.alm } t 1 0x1031 3 p (detail [(0, 1, s.rd F.ALM_CTL_DELIV_MK)]) := by
        rw [← hu]
        exact State.posts_post _ _ _ _ _ _ _ hnative (by decide)
      exact hposts
    · rw [halm, ← hu]
      exact State.post_spec _ _ _ _ _ _ _ hnative (by decide)
  · intro s r rest p hup hw hr hp hroom hready hl
    obtain ⟨hslots, hend⟩ := State.pageRecordWrite_slots s r rest p hw hr hp hroom hready
    refine ⟨s.pageRecordWrite, congrArg Host.Outcome.next (State.live_up _ _ hup), ?_, hend, fun q hq hq' => ?_⟩
    · rw [State.slot_of_slots hp hslots, State.slot_modSlot_same _ _ _ hp hl]
    · rw [State.slot_of_slots hq' hslots, State.slot_modSlot_ne _ _ _ _ hq hq']

end Sys2Proof.Machine
end

section
/-! Codec transactions and jobs (R109–R123): taking, HOLD and FREE, the completion record, and the job's run. -/

namespace Sys2Proof.Machine

open Sys2Proof

/-! ### What records and events leave alone -/

/-- `t` differs from `s` in registers, rings and the host side alone. -/
def State.RecordsOnly (s t : State) : Prop := t = { s with regs := t.regs, rings := t.rings, host := t.host }

theorem State.RecordsOnly.trans {s t u : State} (h : s.RecordsOnly t) (h' : t.RecordsOnly u) : s.RecordsOnly u :=
  Eq.trans h' (congrArg (fun x : State => { x with regs := u.regs, rings := u.rings, host := u.host }) h)

theorem State.RecordsOnly.codec_eq {s t : State} (h : s.RecordsOnly t) : t.codec = s.codec := by rw [h]

theorem State.RecordsOnly.alm_eq {s t : State} (h : s.RecordsOnly t) : t.alm = s.alm := by rw [h]

theorem State.recordsOnly_vecCause (s : State) (n : Nat) (imm : Bool) : s.RecordsOnly (s.vecCause n imm) := by
  unfold State.RecordsOnly; rw [State.vecCause_frame]

theorem State.recordsOnly_inc (s : State) (f : Fld) (k : Nat) : s.RecordsOnly (s.inc f k) := rfl

theorem State.recordsOnly_post (s : State) (sev code block inst : Nat) (d : List (Nat × Nat × Nat)) (tag : Nat)
    (h : s.rd F.GLB_MODE_MODE ≠ 1) (hs : sev ≠ 3) : s.RecordsOnly (s.post sev code block inst d tag) := by
  unfold State.RecordsOnly; rw [State.post_frame _ _ _ _ _ _ _ h hs]

theorem State.recordsOnly_begunWait {s t : State} (h : s.RecordsOnly t) : s.RecordsOnly (s.begunWait t) := by
  unfold State.begunWait
  split
  · exact h.trans (t.recordsOnly_vecCause _ _)
  · exact h

theorem State.recordsOnly_queueRec (s : State) (q : Nat) (r : Rec) : s.RecordsOnly (s.queueRec q r) :=
  State.recordsOnly_begunWait rfl

theorem State.recordsOnly_closeTxn (s : State) (q : Option Nat) : s.RecordsOnly (s.closeTxn q) := by
  cases q <;> rfl

/-- The state in which a record's entries stand in their ring, PI and the lap moved and RING_TAKEN counted (R249). -/
def State.recStored (s : State) (q : Nat) (r : Rec) : State :=
  let n := s.ringSize q
  let pi := s.rd (F.RING_IDX_PI q)
  ((s.modRing q (fun g => { g with
    entries := g.entries ++ phased n pi g.lap r.entries, lap := g.lap + (pi + r.entries.length) / n })).wr
    (F.RING_IDX_PI q) ((pi + r.entries.length) % n)).inc (F.RING_TAKEN_TAKEN q)

/-- A record written also ends its transaction, and gives its ring's vector a cause; that of Q25 only as it fills. -/
theorem State.putRec_eq (s : State) (q : Nat) (r : Rec) :
    s.putRec q r = (s.recStored q r).closeTxn r.closes ∨
    ∃ irq, s.putRec q r = ((s.recStored q r).closeTxn r.closes).vecCause q irq := by
  simp only [State.putRec]
  split
  next hq =>
    subst hq
    split
    · exact .inr ⟨false, rfl⟩
    · exact .inl rfl
  next => exact .inr ⟨r.irq, rfl⟩

theorem State.recordsOnly_putRec (s : State) (q : Nat) (r : Rec) : s.RecordsOnly (s.putRec q r) := by
  have hstored : s.RecordsOnly (s.recStored q r) := rfl
  have hclosed := hstored.trans ((s.recStored q r).recordsOnly_closeTxn r.closes)
  rcases s.putRec_eq q r with h | ⟨irq, h⟩
  · rw [h]; exact hclosed
  · rw [h]; exact hclosed.trans (State.recordsOnly_vecCause _ _ _)

theorem State.recordsOnly_putTrace (s : State) (d : Desc) : s.RecordsOnly (s.putTrace d) := by
  simp only [State.putTrace, State.putOrDrop]
  split
  · exact s.recordsOnly_putRec _ _
  · exact s.recordsOnly_inc _ _

theorem State.recordsOnly_doneTrace (s : State) (d : Desc) : s.RecordsOnly (s.doneTrace (some d)) := by
  simp only [State.doneTrace]
  split
  · exact s.recordsOnly_putTrace d
  · rfl

theorem State.rd_doneTrace (s : State) (d : Desc) (f : Fld) (hpi : (F.RING_IDX_PI 30).key ≠ f.key)
    (htaken : (F.RING_TAKEN_TAKEN 30).key ≠ f.key) (hdrop : (F.RING_DISCARD_DISCARD 30).key ≠ f.key) :
    (s.doneTrace (some d)).rd f = s.rd f := by
  simp only [State.doneTrace, State.putTrace]
  split
  · exact State.rd_putOrDrop _ _ _ _ hpi htaken hdrop
  · rfl

/-! ### The completion record (R115, R116) -/

/-- A status other than OK counts and posts 0x2052 (R116). -/
def State.codecFailed (s : State) (d : Desc) (e : CodecEnd) : State :=
  if e.status = 0 then s else
    (s.inc F.CODEC_FAIL_FAIL).post 0 0x2052 5 (if e.engine < 7 then e.engine else if e.op = 4 ∨ 8 ≤ e.op then 6 else 0)
      [(0, 4, dTag d), (4, 1, e.status), (5, 1, e.op)] (dTag d)

/-- A completion is the count of its failure, a record for Q23 and a TRACE record. -/
theorem State.codecDone_eq (s : State) (ring : Nat) (d : Desc) (e : CodecEnd) :
    ∃ r t, s.codecDone ring d e = ((s.codecFailed d e).queueRec 23 r).doneTrace (some t) :=
  ⟨_, _, rfl⟩

theorem State.codecFailed_spec (s : State) (d : Desc) (e : CodecEnd) (h : s.rd F.GLB_MODE_MODE ≠ 1) :
    s.RecordsOnly (s.codecFailed d e) ∧ (s.codecFailed d e).rd F.CODEC_FAIL_FAIL =
      if e.status = 0 then s.rd F.CODEC_FAIL_FAIL else satAdd F.CODEC_FAIL_FAIL.w (s.rd F.CODEC_FAIL_FAIL) 1 := by
  have hnative : (s.inc F.CODEC_FAIL_FAIL).rd F.GLB_MODE_MODE ≠ 1 := by rwa [State.rd_inc_ne _ _ _ _ (by decide)]
  unfold State.codecFailed
  split
  · exact ⟨rfl, rfl⟩
  · refine ⟨(s.recordsOnly_inc _ _).trans (State.recordsOnly_post _ _ _ _ _ _ _ hnative (by decide)), ?_⟩
    rw [State.rd_post _ _ _ _ _ _ _ _ hnative (by decide) (by decide), State.rd_inc_same _ _ _ (by decide)]

/-- In native mode a completion leaves the codecs and the Almanac alone, and CODEC_FAIL counts the failed ones (R116). -/
theorem State.codecDone_spec (s : State) (ring : Nat) (d : Desc) (e : CodecEnd) (h : s.rd F.GLB_MODE_MODE ≠ 1) :
    s.RecordsOnly (s.codecDone ring d e) ∧ (s.codecDone ring d e).rd F.CODEC_FAIL_FAIL =
      if e.status = 0 then s.rd F.CODEC_FAIL_FAIL else satAdd F.CODEC_FAIL_FAIL.w (s.rd F.CODEC_FAIL_FAIL) 1 := by
  obtain ⟨r, t, heq⟩ := s.codecDone_eq ring d e
  obtain ⟨honly, hfail⟩ := s.codecFailed_spec d e h
  rw [heq]
  constructor
  · exact (honly.trans (State.recordsOnly_queueRec _ _ _)).trans (State.recordsOnly_doneTrace _ _)
  · rw [State.rd_doneTrace _ _ _ (by decide) (by decide) (by decide), State.rd_queueRec, hfail]

/-! ### Taking codec transactions (R109, R111, R122) -/

/-- A codec transaction of the opcode `op` whose turn it is, and which meets `t`, is taken. -/
theorem State.takeWhen_codec (s : State) (q op : Nat) (d : Desc) (t : List Desc → Bool) (f : List Desc → State → State)
    (h : s.ringReady q [d]) (hq : classOf q = 2) (hop : dOpcode d = op) (ht : t [d] = true) :
    s.live (s.takeWhen q (fun ds => classOf q == 2 && opIs op ds && t ds) f) = (f [d] s).settleHead q 1 := by
  have hopIs : opIs op [d] = true := beq_iff_eq.mpr hop
  rw [State.live_up _ _ h.1, State.takeWhen_ready s q [d] _ _ h (by rw [hq, hopIs, ht]; rfl)]
  rfl

/-- A CODEC_JOB whose turn it is is taken by the row of its OP. -/
theorem State.takeJobOp_ready (s : State) (q op : Nat) (d : Desc) (h : s.ringReady q [d]) (hq : classOf q = 2)
    (hop : dOpcode d = 0x20) (hj : jobOp d = op) : s.live (s.takeJobOp q op) = (s.takeJob q d).settleHead q 1 :=
  s.takeWhen_codec q 0x20 d (fun ds => jobOp (ds.headD 0) == op) _ h hq hop (beq_iff_eq.mpr hj)

/-- A HOLD or a FREE whose turn it is is taken. -/
theorem State.takeWhen_hold (s : State) (q op : Nat) (d : Desc) (f : List Desc → State → State)
    (h : s.ringReady q [d]) (hq : classOf q = 2) (hop : dOpcode d = op) :
    s.live (s.takeWhen q (fun ds => classOf q == 2 && opIs op ds) f) = (f [d] s).settleHead q 1 := by
  simpa only [Bool.and_true] using s.takeWhen_codec q op d (fun _ => true) f h hq hop rfl

/-- A job in form joins the queue. -/
theorem State.takeJob_formed (s : State) (q : Nat) (d : Desc) (h : jobFormat d = true) :
    let u := (s.passTxn q 1).trace 0 q [d] 0
    let j : Job := { id := u.codec.nextJob, ring := q, desc := d, op := jobOp d, irq := dIrq d }
    s.takeJob q d =
      { u with codec := { u.codec with jobs := u.codec.jobs ++ [j], nextJob := u.codec.nextJob + 1 } }.syncCodec := by
  simp only [State.takeJob, h, Bool.not_true, Bool.false_eq_true, if_false]

/-- A job out of form is completed with FORMAT. -/
theorem State.takeJob_malformed (s : State) (q : Nat) (d : Desc) (h : jobFormat d = false) :
    let u := (s.passTxn q 1).trace 0 q [d] 0
    s.takeJob q d = u.codecDone q d { op := jobOp d, status := 9, capture := jobCapture d, start := u.etime } := by
  simp only [State.takeJob, h, Bool.not_false, if_true]

/-- A HOLD of a capture that is there holds it, one of any other answers NO_CAPTURE (R122). -/
theorem State.takeHold_formed (s : State) (q : Nat) (d : Desc) (h : holdFormat d = true) :
    let u := (s.passTxn q 1).trace 0 q [d] 0
    let isCap (c : Capture) : Bool := c.id = dField d 8 4 && c.closed
    let e : CodecEnd := { op := 8, status := 0, capture := dField d 8 4, start := u.etime }
    s.takeHold q d = if u.codec.captures.any isCap
      then (u.modCapture isCap (fun c => { c with held := true })).codecDone q d e
      else u.codecDone q d { e with status := 10 } := by
  simp only [State.takeHold, h, Bool.not_true, Bool.false_eq_true, if_false]

/-- A FREE of a capture that nothing keeps releases it; one of a capture that is pinned or not indexed yet waits (R122). -/
theorem State.takeFree_found (s : State) (q : Nat) (d : Desc) (c : Capture) (h : holdFormat d = true) :
    let u := (s.passTxn q 1).trace 0 q [d] 0
    u.codec.captures.find? (fun c => c.id = dField d 8 4 && c.closed) = some c →
    s.takeFree q d = if c.pins = 0 && c.indexed then (u.dropCapture (dField d 8 4)).freeDone q d 0
      else u.modCapture (fun c => c.id = dField d 8 4 && c.closed) (fun c => { c with frees := c.frees ++ [(q, d)] }) := by
  intro u hfind
  simp only [u] at hfind
  simp only [State.takeFree, h, hfind, Bool.not_true, Bool.false_eq_true, if_false, u]

theorem State.takeFree_missing (s : State) (q : Nat) (d : Desc) (h : holdFormat d = true) :
    let u := (s.passTxn q 1).trace 0 q [d] 0
    u.codec.captures.find? (fun c => c.id = dField d 8 4 && c.closed) = none →
    s.takeFree q d = u.freeDone q d 10 := by
  intro u hfind
  simp only [u] at hfind
  simp only [State.takeFree, h, hfind, Bool.not_true, Bool.false_eq_true, if_false, u]

/-- Settles O30: each transaction is taken in its turn, and what its taking does is a branch of `State.takeJob`,
`State.takeHold` or `State.takeFree`; the completion by `State.codecDone_spec`. -/
theorem codecTransactions : Obligations.CodecTransactions := by
  refine ⟨?_, ?_, ?_, ?_, ?_, ?_⟩
  · intro s q d hready hq hop hform
    have htaken (op : Nat) (hj : jobOp d = op) :=
      (s.takeJobOp_ready q op d hready hq hop hj).trans (congrArg (State.settleHead · q 1) (s.takeJob_formed q d hform))
    generalize (s.passTxn q 1).trace 0 q [d] 0 = u at htaken ⊢
    exact ⟨fun hj => congrArg Host.Outcome.next (htaken 0 hj), fun hj => congrArg Host.Outcome.next (htaken 1 hj),
      fun hj => congrArg Host.Outcome.next (htaken 2 hj), fun hj => congrArg Host.Outcome.next (htaken 3 hj),
      fun hj => congrArg Host.Outcome.next (htaken 4 hj)⟩
  · intro s q d hready hq hop hform hj
    have htaken := s.takeJobOp_ready q 0 d hready hq hop hj
    have hcap : jobCapture d = 0 := by simp [jobCapture, hj]
    rw [s.takeJob_malformed q d hform, hcap, hj] at htaken
    exact congrArg Host.Outcome.next htaken
  · intro s q d hready hq hop hform
    have htaken := (s.takeWhen_hold q 0x21 d (fun ds s => s.takeHold q (ds.headD 0)) hready hq hop).trans
      (congrArg (State.settleHead · q 1) (s.takeHold_formed q d hform))
    generalize (s.passTxn q 1).trace 0 q [d] 0 = u at htaken ⊢
    exact congrArg Host.Outcome.next (htaken.trans (apply_ite (State.settleHead · q 1) _ _ _))
  · intro s q d c hready hq hop hform
    have htaken := s.takeWhen_hold q 0x22 d (fun ds s => s.takeFree q (ds.headD 0)) hready hq hop
    have hfree := s.takeFree_found q d c hform
    generalize (s.passTxn q 1).trace 0 q [d] 0 = u at hfree ⊢
    intro _ hfind
    exact congrArg Host.Outcome.next ((htaken.trans (congrArg (State.settleHead · q 1) (hfree hfind))).trans
      (apply_ite (State.settleHead · q 1) _ _ _))
  · intro s q d hready hq hop hform
    have htaken := s.takeWhen_hold q 0x22 d (fun ds s => s.takeFree q (ds.headD 0)) hready hq hop
    have hfree := s.takeFree_missing q d hform
    generalize (s.passTxn q 1).trace 0 q [d] 0 = u at hfree ⊢
    intro _ hfind
    exact congrArg Host.Outcome.next (htaken.trans (congrArg (State.settleHead · q 1) (hfree hfind)))
  · intro s ring d e hmode
    obtain ⟨honly, hfail⟩ := s.codecDone_spec ring d e (by omega)
    exact ⟨honly.codec_eq, honly.alm_eq, hfail⟩

/-! ### The run of a job (R111, R114, R115) -/

/-- The next startable job starts on its engines under the windows in force (R111). -/
theorem State.jobStart_next (s : State) (id : Nat) (j : Job) (es : List Nat) (hjob : s.job id = some j)
    (hstart : s.startable j.ring = some (j, es)) (hid : j.id = id) (hnext : s.nextJobRing = some j.ring) (hop : j.op ≠ 4) :
    let u := s.modJob id (fun j => { j with started := true, engines := es, etimeStart := s.etime, wins := s.windows })
    s.jobStart id none = { u with codec := { u.codec with lastRing := j.ring } }.syncCodec := by
  simp only [State.jobStart, hjob, hstart, hid, hnext, hop, bne_self_eq_false, Bool.or_self, Bool.false_eq_true, if_false]

/-- A poll of a suspended job that is due: a VALID entry resumes it, another fails it once CHAIN_TMO has passed (R114). -/
theorem State.chainPoll_due (s : State) (id : Nat) (j : Job) (t : Nat) (v : Bool) (hjob : s.job id = some j)
    (hsusp : j.suspendedAt = some t) (hdue : j.polledAt + max 1 (s.rd F.CODEC_CHAIN_CTL_CHAIN_POLL) * 1000 ≤ s.now) :
    s.chainPoll id v none =
      if s.entryValid j v then (s.modJob id (fun j => { j with suspendedAt := none })).syncCodec
      else if s.rd F.CODEC_CHAIN_CTL_CHAIN_TMO != 0 && t + s.rd F.CODEC_CHAIN_CTL_CHAIN_TMO * 1000000 ≤ s.now then
        s.failJob j j.chain {
          op := j.op, status := 12, engine := j.engines.headD 255, suspends := j.suspends, start := j.etimeStart
          capture := jobCapture j.desc }
      else s.modJob id (fun j => { j with polledAt := s.now }) := by
  simp only [State.chainPoll, hjob, hsusp, Nat.not_lt.mpr hdue, if_false]

/-- A run whose input, output and chain are sound completes its job with OK (R115). -/
theorem State.endJob_sound (s : State) (j : Job) (r : CodecRun) (out : List Byte) (cf ovr a : Nat) (bufs : List (Nat × Nat))
    (hmis : r.mismatches = []) (hce : r.ce = []) (hue : r.ue = [])
    (hin : j.op ≠ 4 → s.inWin j.wins false (dField j.desc 16 8) (16 * dField j.desc 14 2) = true ∧
      s.fragsPass j.wins r.frags.early (s.jobFrags j.desc r) = true ∧ dField j.desc 24 8 ≤ (s.jobInput j.desc r).length)
    (hout : s.jobOutput j.desc { r with input := s.jobInput j.desc r } = (0, out, cf, ovr))
    (hchain : s.jobChain j r.chain out.length = (bufs, 0, a)) :
    s.endJob j r = ((s.fillChain bufs out).inc F.CODEC_FRC_OVER_OVER ovr).finishJob j {
      op := j.op, status := 0, engine := j.engines.headD 255, suspends := j.suspends, start := j.etimeStart,
      capture := jobCapture j.desc, cflags := cf, consumed := (s.jobInput j.desc r).length, outLen := out.length,
      outCrc := crc32c out, ovr := ovr, lastEntry := lastEntry bufs out.length 0 } := by
  obtain ⟨frags, input, chain, mismatches, rerunAt, ce, ue⟩ := r
  obtain rfl : mismatches = [] := hmis
  obtain rfl : ce = [] := hce
  obtain rfl : ue = [] := hue
  let r : CodecRun := ⟨frags, input, chain, [], rerunAt, [], []⟩
  have hmatch : runMismatch j r = none := ite_self none
  have hclean : s.bandCe [] = s := rfl
  have hlists : (j.op != 4 && (!s.inWin j.wins false (dField j.desc 16 8) (16 * dField j.desc 14 2)
      || !s.fragsPass j.wins frags.early (s.jobFrags j.desc r))) = false := by
    by_cases hop : j.op = 4
    · simp [hop]
    · obtain ⟨hlist, hfrags, -⟩ := hin hop
      simp [r, hlist, hfrags]
  have hlong : (j.op != 4 && decide ((s.jobInput j.desc r).length < dField j.desc 24 8)) = false := by
    by_cases hop : j.op = 4
    · simp [hop]
    · obtain ⟨-, -, hlen⟩ := hin hop
      simp [r, hlen]
  unfold State.endJob
  -- `walk` and `run` stand for the two results, so that the kernel does not unfold the recursions that give them
  obtain ⟨run, hrun⟩ : ∃ f, f = State.jobOutput := ⟨_, rfl⟩
  obtain ⟨walk, hwalk⟩ : ∃ f, f = State.jobChain := ⟨_, rfl⟩
  rw [← hrun] at hout ⊢
  rw [← hwalk] at hchain ⊢
  simp only [hmatch, hclean, hlists, hlong, hout, hchain, r, List.map_nil, List.foldl_nil, Option.toList_none]
  rfl

/-! ### Records written (R121, R249) -/

/-- A waiting record with room is written. -/
theorem State.writeWaiting_room (s : State) (q : Nat) (r : Rec) (rest : List Rec) (hw : (s.ring q).waiting = r :: rest)
    (hroom : s.roomFor q r = true) :
    s.writeWaiting q = s.begunWait ((s.modRing q (fun g => { g with waiting := rest })).putRec q r) := by
  simp only [State.writeWaiting, hw, hroom, if_true]

/-- The index record with room is written: its capture is indexed, and the FREEs that waited for it are answered (R121). -/
theorem State.indexWrite_room (s : State) (r : Rec) (rest : List Rec) (hw : (s.ring 29).waiting = r :: rest)
    (hroom : s.roomFor 29 r = true) :
    let isCap (c : Capture) : Bool := c.id = dField (r.entries.headD 0) 16 4 && c.closed
    let u := (s.begunWait ((s.modRing 29 (fun g => { g with waiting := rest })).putRec 29 r)).modCapture isCap
      (fun c => { c with indexed := true })
    s.indexWrite = ((u.codec.captures.find? isCap).map u.settleFrees).getD u := by
  intro isCap u
  simp only [State.indexWrite, hw, hroom, if_true, s.writeWaiting_room 29 r rest hw hroom]
  change (match u.codec.captures.find? isCap with | some c => u.settleFrees c | none => u) = _
  cases u.codec.captures.find? isCap <;> rfl

/-- The end of a transaction leaves every ring's entries alone. -/
theorem State.closeTxn_entries (s : State) (c : Option Nat) (q : Nat) :
    ((s.closeTxn c).ring q).entries = (s.ring q).entries := by
  cases c with
  | none => rfl
  | some p =>
    simp only [State.closeTxn, State.ring, State.modRing, List.getD_eq_getElem?_getD, List.getElem?_modify]
    cases s.rings[q]? with
    | none => rfl
    | some g =>
      simp only [Option.map_eq_map, Option.map_some, Option.getD_some]
      split <;> rfl

theorem State.vecCause_entries (s : State) (n q : Nat) (imm : Bool) :
    ((s.vecCause n imm).ring q).entries = (s.ring q).entries := by
  rw [State.vecCause_frame]; rfl

/-- What a record written leaves in PI and in the ring's entries is what its storing left (R249). -/
theorem State.putRec_stored (s : State) (q : Nat) (r : Rec) (f : Fld) :
    (s.putRec q r).rd f = (s.recStored q r).rd f ∧
    ((s.putRec q r).ring q).entries = ((s.recStored q r).ring q).entries := by
  rcases s.putRec_eq q r with h | ⟨irq, h⟩
  · rw [h, State.rd_closeTxn, State.closeTxn_entries]
    exact ⟨rfl, rfl⟩
  · rw [h, State.rd_vecCause, State.rd_closeTxn, State.vecCause_entries, State.closeTxn_entries]
    exact ⟨rfl, rfl⟩

/-- PI moves past the record's entries, modulo the size of the ring, which is at most 2^16 (R237, R249). -/
theorem State.rd_recStored_pi (s : State) (q : Nat) (r : Rec) (hsize : s.rd (F.RING_CFG_LOG2_SIZE q) ≤ 16) :
    (s.recStored q r).rd (F.RING_IDX_PI q) = (s.rd (F.RING_IDX_PI q) + r.entries.length) % s.ringSize q := by
  have hkey : (F.RING_TAKEN_TAKEN q).key ≠ (F.RING_IDX_PI q).key := by
    simp only [Fld.key, F.RING_TAKEN_TAKEN, F.RING_IDX_PI]; omega
  have hlt : (s.rd (F.RING_IDX_PI q) + r.entries.length) % s.ringSize q < 2 ^ 16 :=
    calc (s.rd (F.RING_IDX_PI q) + r.entries.length) % s.ringSize q < s.ringSize q :=
          Nat.mod_lt _ (Nat.two_pow_pos _)
      _ ≤ 2 ^ 16 := Nat.pow_le_pow_right (by decide) hsize
  simp only [State.recStored]
  rw [State.rd_inc_ne _ _ _ _ hkey, State.rd_wr_same _ _ _ (by decide : (16 : Nat) ≤ 32)]
  exact Nat.mod_eq_of_lt hlt

/-- The entries are written with the PHASE of their lap (R249). -/
theorem State.recStored_entries (s : State) (q : Nat) (r : Rec) (hq : q < s.rings.length) :
    ((s.recStored q r).ring q).entries =
      (s.ring q).entries ++ phased (s.ringSize q) (s.rd (F.RING_IDX_PI q)) (s.ring q).lap r.entries := by
  simp [State.recStored, State.ring, State.modRing, hq]

/-- Settles O31: a job starts, is polled and ends by the branches of its commands, and its records by
`State.writeWaiting_room`, `State.indexWrite_room` and `State.putRec_stored`. -/
theorem codecJobsRun : Obligations.CodecJobsRun := by
  refine ⟨?_, ?_, ?_, ?_, ?_, ?_⟩
  · intro s j es id hup hjob hstart hid hnext hop
    exact congrArg Host.Outcome.next ((State.live_up _ _ hup).trans (s.jobStart_next id j es hjob hstart hid hnext hop))
  · intro s j t v hup hjob hsusp hdue
    have hpoll := (State.live_up s _ hup).trans (s.chainPoll_due j.id j t v hjob hsusp hdue)
    refine ⟨fun hvalid => ?_, fun hvalid htmo => ?_, fun hvalid htmo hlate => ?_⟩
    · rw [if_pos hvalid] at hpoll
      exact congrArg Host.Outcome.next hpoll
    · rw [if_neg (Bool.eq_false_iff.mp hvalid), if_neg (by simp [htmo])] at hpoll
      exact congrArg Host.Outcome.next hpoll
    · rw [if_neg (Bool.eq_false_iff.mp hvalid), if_pos (by simp [htmo, hlate])] at hpoll
      exact congrArg Host.Outcome.next hpoll
  · intro s j r out cf ovr a bufs hup hjob hstarted hsusp hmis hce hue hin hout hchain
    have hends : s.jobEnd j.id r = s.endJob j r := by simp [State.jobEnd, hjob, hstarted, hsusp]
    exact congrArg Host.Outcome.next ((State.live_up _ _ hup).trans
      (hends.trans (s.endJob_sound j r out cf ovr a bufs hmis hce hue hin hout hchain)))
  · intro s r rest hup hw hroom
    exact congrArg Host.Outcome.next ((State.live_up _ _ hup).trans (s.writeWaiting_room 23 r rest hw hroom))
  · intro s r rest hup hw hroom
    exact congrArg Host.Outcome.next ((State.live_up _ _ hup).trans (s.indexWrite_room r rest hw hroom))
  · intro s r _ hrings hsize
    obtain ⟨hpi, hentries⟩ := s.putRec_stored 29 r (F.RING_IDX_PI 29)
    exact ⟨hpi.trans (s.rd_recStored_pi 29 r hsize), hentries.trans (s.recStored_entries 29 r (by omega))⟩

end Sys2Proof.Machine
end

section
/-! Line starts (R162, R172, R188, R192, R193), and what an event of any mode leaves alone. -/

namespace Sys2Proof.Machine

open Sys2Proof

/-! ### Status updates: events and legacy status (R251, R505) -/

/-- `t` differs from `s` in registers, the host side and the legacy status alone. -/
def State.StatusOnly (s t : State) : Prop :=
  t = { s with regs := t.regs, host := t.host, leg := t.leg, justSet := t.justSet }

theorem State.StatusOnly.trans {s t u : State} (h : s.StatusOnly t) (h' : t.StatusOnly u) : s.StatusOnly u :=
  Eq.trans h'
    (congrArg (fun x : State => { x with regs := u.regs, host := u.host, leg := u.leg, justSet := u.justSet }) h)

theorem State.StatusOnly.scan_eq {s t : State} (h : s.StatusOnly t) : t.scan = s.scan := by rw [h]

theorem State.StatusOnly.beams_eq {s t : State} (h : s.StatusOnly t) : t.beams = s.beams := by rw [h]

theorem State.statusOnly_vecCause (s : State) (n : Nat) (imm : Bool) : s.StatusOnly (s.vecCause n imm) := by
  unfold State.StatusOnly; rw [State.vecCause_frame]

theorem State.statusOnly_setW1c (s : State) (f : Fld) (bits : Nat) : s.StatusOnly (s.setW1c f bits) := rfl

theorem State.statusOnly_legIrq (s : State) (bit : Nat) : s.StatusOnly (s.legIrq bit) := by
  simp only [State.legIrq, State.legInt]
  split
  · split
    · refine State.StatusOnly.trans ?_ (State.statusOnly_vecCause _ _ _)
      rfl
    · rfl
  · rfl

theorem State.statusOnly_legSst (s : State) (st : Nat) (f : Nat → Fld) : s.StatusOnly (s.legSst st f) := by
  unfold State.legSst
  split
  · exact (State.statusOnly_setW1c _ _ _).trans (State.statusOnly_legIrq _ _)
  · rfl

theorem State.statusOnly_legEvent (s : State) (sev code inst : Nat) : s.StatusOnly (s.legEvent sev code inst) := by
  have hlast : s.StatusOnly (if 1 ≤ sev then s.wr L.LASTCODE_CODE code else s) := by split <;> rfl
  unfold State.legEvent
  split
  · rfl
  · refine hlast.trans ?_
    simp only
    generalize (if 1 ≤ sev then s.wr L.LASTCODE_CODE code else s) = u
    repeat' split
    · exact (State.statusOnly_setW1c _ _ _).trans (State.statusOnly_legIrq _ _)
    · exact (State.statusOnly_setW1c _ _ _).trans (State.statusOnly_legIrq _ _)
    · exact State.statusOnly_legIrq _ _
    · exact State.statusOnly_legIrq _ _
    · exact State.statusOnly_legIrq _ _
    · rfl

/-- In any mode an event joins the queue or is counted as lost, and shows in the legacy status. -/
theorem State.statusOnly_postRaw (s : State) (sev code block inst : Nat) (d : BitVec 80) (src tag : Nat) :
    s.StatusOnly (s.postRaw sev code block inst d src tag) := by
  have hlost (u : State) : u.StatusOnly ((u.inc F.EVT_DROPPED_DROPPED).vecCause 62 true) :=
    State.StatusOnly.trans (t := u.inc F.EVT_DROPPED_DROPPED) rfl (State.statusOnly_vecCause _ _ _)
  refine (s.statusOnly_legEvent sev code inst).trans ?_
  unfold State.postRaw
  generalize s.legEvent sev code inst = u
  extract_lets s0 e0 after e last host v lost
  have hhost : u.StatusOnly v := rfl
  split
  · rfl
  · split
    · exact hhost.trans (hlost _)
    · split
      next q _ =>
        have hqueue : u.StatusOnly { v with host := { v.host with evq := evInsert e q } } := rfl
        exact hqueue.trans (hlost _)
      next => exact hhost.trans (hlost _)

/-- In any mode an event below HARD changes no more than that. -/
theorem State.statusOnly_post (s : State) (sev code block inst : Nat) (d : List (Nat × Nat × Nat)) (tag : Nat)
    (h : sev ≠ 3) : s.StatusOnly (s.post sev code block inst d tag) := by
  simp only [State.post, State.postBy, h, if_false]
  exact State.statusOnly_postRaw _ _ _ _ _ _ _ _

@[simp] theorem State.modSlot_scan (s : State) (p : Nat) (g : Slot → Slot) : (s.modSlot p g).scan = s.scan := by
  unfold State.modSlot; split <;> rfl

@[simp] theorem State.modSlot_beams (s : State) (p : Nat) (g : Slot → Slot) : (s.modSlot p g).beams = s.beams := by
  unfold State.modSlot; split <;> rfl

/-! ### One beam (R188) -/

/-- A beam after a change of it. -/
theorem State.beam_modBeam_same (s : State) (b : Nat) (f : Beam → Beam) (h : b < s.beams.length) :
    (s.modBeam b f).beam b = f (s.beam b) := by
  simp [State.beam, State.modBeam, h]

/-- An emitter that writes nothing on a line has no pulse and no line (R188). -/
theorem State.beam_idleLine (s : State) (b : Nat) (h : b < s.beams.length) :
    ((s.idleLine b).beam b).pulses = [] ∧ ((s.idleLine b).beam b).line = none := by
  rw [State.idleLine, State.beam_modBeam_same _ _ _ h]
  exact ⟨rfl, rfl⟩

/-! ### The start of a line (R162, R172) -/

/-- The state in which an emitter that starts its line looks for the page and the line under it: it has begun, what was
due at its line start is done, and its line before has ended (R162, R191, R200, R213). -/
def State.lineBegun (s : State) (st e : Nat) : State :=
  (((s.modSc st (fun c => { c with begun := setBit c.begun e })).octLineOff (s.beamOf st e)).thermAct st
    (s.beamOf st e)).lineBegins st (s.beamOf st e)

/-- An emitter of a scanning station that has not begun its line on this facet starts it: an idle one outside a frame,
one of the page in a frame, unless this write of that line has been made already. -/
theorem State.lineStart_due (s : State) (st e : Nat) (v : State) (hv : v = s.lineBegun st e)
    (hen : s.on (F.ST_SCANCTL_SCAN_EN st) = true) (hscan : s.on (F.ST_SCANCTL_NOSCAN st) = false)
    (htf : (s.sc st).tf.isSome = true) (hnew : (s.sc st).begun.testBit e = false) (hlt : e < s.beamCount st) :
    (v.slotOn st = none → s.lineStart st e = v.idleLine (s.beamOf st e)) ∧
    (∀ p y, v.slotOn st = some p → v.lineUnder st p e = some y → s.lineStart st e =
      if v.suppressed st e y then v.idleLine (s.beamOf st e) else v.frameLine st e p y) := by
  have hnone : (s.sc st).tf.isNone = false := Option.isNone_eq_false_iff.mpr htf
  unfold State.lineStart
  extract_lets b u
  have hu : u = v := hv.symm
  clear_value u
  subst hu
  rw [if_neg (by simp [hen, hscan, hnone, hnew, hlt])]
  exact ⟨fun hpage => by simp only [hpage, b], fun p y hpage hline => by simp only [hpage, hline, b]⟩

/-! ### A line of a frame (R86, R188, R211, R222) -/

/-- The state in which a line of a frame is judged: its bands are used, its last write is noted, its facet known. -/
def State.lineTaken (s : State) (st e p y : Nat) : State :=
  let a := (s.idleLine (s.beamOf st e)).useBands st p y
  let b := if a.paired st && e < a.nAdv st then a else a.modSc st (fun c => { c with done := c.done ++ [y] })
  b.modSc st (fun c => { c with lineFno := c.fno })

/-- A line of a page that goes on, on a facet not shared with the frame before, with its data present, no cut and no
drop, is captured and written. -/
theorem State.frameLine_written (s : State) (st e p y : Nat) (w x : State) (hw : w = s.lineTaken st e p y)
    (hx : x = w.capture st p y (some (w.lineLevels st p y)) false) (hp : p < 160) (hgoes : (w.slot p).aborted = false)
    (hown : ¬ ((w.sc st).prevFno = (w.sc st).fno ∧ (w.sc st).fno ≠ 0)) (hdata : w.lineAbsent st p y = none)
    (hcut : w.lineCut st (s.beamOf st e) p = none) (hkept : x.lostOn st e (x.sc st).fno = false) :
    s.frameLine st e p y = x.writeLine st e p y (w.lineLevels st p y) := by
  have hnative : ¬ 160 ≤ p := Nat.not_le.mpr hp
  unfold State.frameLine
  extract_lets b a c w' spoiled levels captured
  have htaken : w' = w := hw.symm
  clear_value w'
  subst htaken hx
  simp [hnative, hgoes, hown, hdata, hcut, hkept, b, levels, captured]

/-! ### Pulses (R192, R193) -/

/-- Every pulse of a line is 4 to 256 of 256 parts of a pixel wide (R192). -/
theorem State.linePulses_width (s : State) (st e : Nat) (levels : List Nat) (k : Nat) (q : Int × Nat)
    (hq : q ∈ (s.linePulses st e levels k).1) : 4 ≤ q.2 ∧ q.2 ≤ 256 := by
  obtain ⟨⟨l, i⟩, -, hpulse⟩ := List.mem_filterMap.mp hq
  obtain ⟨-, hsome⟩ := Option.ite_none_left_eq_some.mp hpulse
  obtain rfl := Option.some.inj hsome
  simp only
  omega

@[simp] theorem State.postOnce_beams (s : State) (p key sev code block inst : Nat) (d : List (Nat × Nat × Nat))
    (h : sev ≠ 3) : (s.postOnce p key sev code block inst d).beams = s.beams := by
  unfold State.postOnce
  split
  · rfl
  · exact (State.statusOnly_post _ _ _ _ _ _ _ h).beams_eq.trans (State.modSlot_beams _ _ _)

@[simp] theorem State.lineLen_beams (s : State) (st e p : Nat) : (s.lineLen st e p).beams = s.beams := by
  simp only [State.lineLen]
  split <;> simp

@[simp] theorem State.widthSat_beams (s : State) (st b p : Nat) (w : Option (Nat × Nat)) :
    (s.widthSat st b p w).beams = s.beams := by
  cases w <;> simp [State.widthSat]

/-- A line written changes its own beam alone: to the pulses of its levels, at the modulation of the line. -/
theorem State.writeLine_beams (s : State) (st e p y : Nat) (levels : List Nat) :
    (s.writeLine st e p y levels).beams = s.beams.modify (s.beamOf st e) (fun x => { x with
      pulses := (s.linePulses st e levels (s.kPair st e)).1, line := some y,
      lineMod := (s.modLine st p (s.beamOf st e) y).1 }) := by
  simp only [State.writeLine, State.widthSat_beams, State.lineLen_beams]
  repeat' split
  all_goals rfl

/-- Settles O29: the command is `State.lineStart` after the commits of its beam; its branches, those of
`State.frameLine`, and the pulses of `State.writeLine` have their lemmas above. -/
theorem lineStarts : Obligations.LineStarts := by
  refine ⟨?_, State.beam_idleLine, ?_, ?_, ?_⟩
  · intro s st e u v hup hen hscan htf hnew hlt
    have hexec : exec (.lineStart st e) s = .next (u.lineStart st e) :=
      congrArg Host.Outcome.next (State.live_up _ _ hup)
    obtain ⟨hidle, hframe⟩ := u.lineStart_due st e v rfl hen hscan htf hnew hlt
    refine ⟨fun hpage => ?_, fun p y hpage hline => ⟨fun hmade => ?_, fun hmade => ?_⟩⟩
    · rw [hexec, hidle hpage]
    · rw [hexec, hframe p y hpage hline, if_pos hmade]
    · rw [hexec, hframe p y hpage hline, if_neg (Bool.eq_false_iff.mp hmade)]
  · intro s st e p y hp a b w x hgoes hown hdata hcut hkept
    exact s.frameLine_written st e p y w x rfl rfl hp hgoes hown hdata hcut hkept
  · intro s st e p y levels hb
    simp [State.beam, State.writeLine_beams, hb]
  · intro s st e levels k q hq
    exact s.linePulses_width st e levels k q hq

end Sys2Proof.Machine
end

section
/-! Scan edges (R155–R160, R170, R181): what edges, facet references, gaps and clears change. -/

namespace Sys2Proof.Machine

open Sys2Proof

/-! ### Where the fields of a station's scan lie -/

/-- SOFF and LSCALE lie above every other field of their station's scan. -/
theorem sig_key_ne (st j k : Nat) (f : Fld) (h : f.key < (F.ST_SIG_LSCALE st 0 0).key) :
    (F.ST_SIG_SOFF st j k).key ≠ f.key ∧ (F.ST_SIG_LSCALE st j k).key ≠ f.key := by
  simp only [Fld.key, F.ST_SIG_SOFF, F.ST_SIG_LSCALE] at h ⊢; omega

/-- ONMAX of the beams lies above the fields of the stations. -/
theorem onmax_key_ne (b : Nat) (f : Fld) (h : f.key < (F.BM_ONMAX_ONMAX 0).key) :
    (F.BM_ONMAX_ONMAX b).key ≠ f.key := by
  simp only [Fld.key, F.BM_ONMAX_ONMAX] at h ⊢; omega

/-- SIG_STATE lies between EVT_DROPPED and the signature of its station, below the beams. -/
theorem sigState_key (st : Nat) (hst : st < 8) :
    (F.ST_FACET_STAT_SIG_STATE st).key < (F.ST_SIG_LSCALE st 0 0).key ∧
    (F.ST_FACET_STAT_SIG_STATE st).key < (F.BM_ONMAX_ONMAX 0).key ∧
    F.EVT_DROPPED_DROPPED.key ≠ (F.ST_FACET_STAT_SIG_STATE st).key := by
  simp only [Fld.key, F.ST_FACET_STAT_SIG_STATE, F.ST_SIG_LSCALE, F.BM_ONMAX_ONMAX, F.EVT_DROPPED_DROPPED]; omega

/-- So does PHASE, at another place. -/
theorem phase_key (st : Nat) (hst : st < 8) :
    (F.ST_ROLL_STAT_PHASE st).key < (F.ST_SIG_LSCALE st 0 0).key ∧
    (F.ST_ROLL_STAT_PHASE st).key < (F.BM_ONMAX_ONMAX 0).key ∧
    F.EVT_DROPPED_DROPPED.key ≠ (F.ST_ROLL_STAT_PHASE st).key := by
  simp only [Fld.key, F.ST_ROLL_STAT_PHASE, F.ST_SIG_LSCALE, F.BM_ONMAX_ONMAX, F.EVT_DROPPED_DROPPED]; omega

theorem sigState_key_ne_phase (st : Nat) : (F.ST_FACET_STAT_SIG_STATE st).key ≠ (F.ST_ROLL_STAT_PHASE st).key := by
  simp only [Fld.key, F.ST_FACET_STAT_SIG_STATE, F.ST_ROLL_STAT_PHASE]; omega

/-! ### Edges on BD and EOS (R155, R157, R159) -/

theorem State.bdEdge_called (s : State) (st t e : Nat) (w : Int)
    (h : (s.emitters st).find? (fun e => s.pulseOn st e t) = some e) :
    s.bdEdge st t w = (s.modSc st (fun c => { c with edges := c.edges ++ [⟨e, t, w⟩] })).onRun (s.beamOf st e)
      (s.rollRun st e t) := by
  simp only [State.bdEdge, h]

theorem State.bdEdge_stray (s : State) (st t : Nat) (w : Int)
    (h : (s.emitters st).find? (fun e => s.pulseOn st e t) = none) :
    s.bdEdge st t w = s.inc (F.ST_FACET_STAT_STRAY st) := by
  simp only [State.bdEdge, h]

theorem State.eosEdge_stray (s : State) (st t : Nat)
    (h : (s.emitters st).find? (fun e => s.eosOn st e t) = none) :
    s.eosEdge st t = s.inc (F.ST_FACET_STAT_STRAY st) := by
  simp only [State.eosEdge, h]

/-- An EOS edge of an emitter that gave a BD edge gives its scan time. -/
theorem State.eosEdge_timed (s : State) (st t e : Nat) (g : Edge)
    (h : (s.emitters st).find? (fun e => s.eosOn st e t) = some e)
    (hg : (if (s.sc st).refDone then (s.sc st).edges else (s.sc st).last).find? (fun g => g.e = e) = some g) :
    s.eosEdge st t = (((s.modSc st (fun c => { c with eosHit := c.eosHit ++ [e] })).onRun (s.beamOf st e)
      (t - (s.eosCrossing st e - 50000))).modSc st (fun c => { c with eos := c.eos ++ [(e, t - g.t)] })).wr
      (F.ST_SCAN_TIME_SCAN st) (t - g.t) := by
  simp only [State.eosEdge, h, hg]

/-- A stray edge is counted, and that is all. -/
theorem State.inc_stray (s : State) (st : Nat) :
    (s.inc (F.ST_FACET_STAT_STRAY st)).rd (F.ST_FACET_STAT_STRAY st) =
      satAdd (F.ST_FACET_STAT_STRAY st).w (s.rd (F.ST_FACET_STAT_STRAY st)) 1 ∧
    RegsOnly s (s.inc (F.ST_FACET_STAT_STRAY st)) [F.ST_FACET_STAT_STRAY st] :=
  ⟨State.rd_inc_same _ _ _ (by simp [F.ST_FACET_STAT_STRAY]), rfl,
    fun _ hg => State.rd_inc_ne _ _ _ _ (hg _ (by simp))⟩

/-- R157: an end-of-scan pulse is on within 200 ns of its crossing, on the beam whose turn it is, until its edge. -/
theorem State.eosOn_spec (s : State) (st e : Nat) (t : Int) (h : s.eosOn st e t = true) :
    s.eosCrossing st e - 50000 ≤ t ∧ t ≤ s.eosCrossing st e + 50000 ∧ s.beamOf st e % 8 = (s.sc st).revs % 8 ∧
    e ∉ (s.sc st).eosHit ∧ s.on (F.ST_SCANCTL_SCAN_EN st) = true := by
  simp only [State.eosOn, State.firesEos, Bool.and_eq_true, Bool.not_eq_true', decide_eq_true_eq, beq_iff_eq,
    List.contains_eq_mem, decide_eq_false_iff_not] at h
  obtain ⟨⟨⟨hfires, hhit⟩, hlo⟩, hhi⟩ := h
  obtain ⟨⟨⟨⟨⟨⟨⟨hen, -⟩, -⟩, -⟩, hturn⟩, -⟩, -⟩, -⟩ := hfires
  exact ⟨hlo, hhi, hturn, hhit, hen⟩

/-! ### What a facet reference leaves of the scans (R156) -/

/-- `t` has the scans of `s`, but for that of station `st`, whose facet count stays and on which no gap has come. -/
def State.ScanKept (st : Nat) (s t : State) : Prop :=
  ∃ g : Scan → Scan, (∀ c, (g c).fno = c.fno ∧ (c.gap = false → (g c).gap = false)) ∧ t.scan = s.scan.modify st g

theorem State.ScanKept.trans {st : Nat} {s t u : State} (h : s.ScanKept st t) (h' : t.ScanKept st u) :
    s.ScanKept st u := by
  obtain ⟨g, hg, ht⟩ := h
  obtain ⟨g', hg', hu⟩ := h'
  refine ⟨g' ∘ g, fun c => ⟨(hg' _).1.trans (hg c).1, fun hc => (hg' _).2 ((hg c).2 hc)⟩, ?_⟩
  rw [hu, ht, List.modify_modify_eq]

theorem State.scanKept_of_eq {s t : State} (st : Nat) (h : t.scan = s.scan) : s.ScanKept st t :=
  ⟨id, fun _ => ⟨rfl, id⟩, by rw [h, List.modify_id]⟩

theorem State.StatusOnly.scanKept {s t : State} (h : s.StatusOnly t) (st : Nat) : s.ScanKept st t :=
  State.scanKept_of_eq st h.scan_eq

theorem State.scanKept_modSc (s : State) (st : Nat) (g : Scan → Scan)
    (hg : ∀ c, (g c).fno = c.fno ∧ (c.gap = false → (g c).gap = false)) : s.ScanKept st (s.modSc st g) :=
  ⟨g, hg, rfl⟩

theorem State.scanKept_foldl {α : Type} (st : Nat) (g : State → α → State) (h : ∀ s a, State.ScanKept st s (g s a))
    (l : List α) (s : State) : s.ScanKept st (l.foldl g s) := by
  induction l generalizing s with
  | nil => exact State.scanKept_of_eq st rfl
  | cons a l ih => exact (h s a).trans (ih _)

theorem State.sc_modSc_same (s : State) (st : Nat) (g : Scan → Scan) (h : st < s.scan.length) :
    (s.modSc st g).sc st = g (s.sc st) := by
  simp [State.sc, State.modSc, h]

theorem State.sc_modSc_ne (s : State) (st k : Nat) (g : Scan → Scan) (h : k ≠ st) : (s.modSc st g).sc k = s.sc k := by
  simp [State.sc, State.modSc, Ne.symm h]

theorem State.ScanKept.length_eq {st : Nat} {s t : State} (h : s.ScanKept st t) : t.scan.length = s.scan.length := by
  obtain ⟨g, -, ht⟩ := h
  rw [ht, List.length_modify]

theorem State.ScanKept.sc_ne {st k : Nat} {s t : State} (h : s.ScanKept st t) (hk : k ≠ st) : t.sc k = s.sc k := by
  obtain ⟨g, -, ht⟩ := h
  exact (congrArg (fun l : List Scan => l.getD k {}) ht).trans (s.sc_modSc_ne st k g hk)

theorem State.ScanKept.sc_same {st : Nat} {s t : State} (h : s.ScanKept st t) (hst : st < s.scan.length) :
    (t.sc st).fno = (s.sc st).fno ∧ ((s.sc st).gap = false → (t.sc st).gap = false) := by
  obtain ⟨g, hg, ht⟩ := h
  have hsc : t.sc st = g (s.sc st) :=
    (congrArg (fun l : List Scan => l.getD st {}) ht).trans (s.sc_modSc_same st g hst)
  rw [hsc]
  exact hg _

/-! ### The signature at a reference (R157, R159–R161) -/

/-- The end-of-scan pulses of the facet before that met no edge enter ONMAX (R213). -/
def State.eosRuns (s : State) (st : Nat) (hit : List Nat) : State :=
  (s.emitters st).foldl (fun (s : State) (e : Nat) =>
    if s.firesEos st e && !hit.contains e then s.onRun (s.beamOf st e) 100000 else s) s

/-- The facet before gives its samples to the signature, or its mean to the identification. -/
def State.sigSampled (s : State) (st : Nat) : State :=
  if (s.sigState st = 1 || s.sigState st = 2) && (s.sc st).numbered && !(s.sc st).gap then (s.takeSamples st).learnStep st
  else if s.sigState st = 3 && !(s.sc st).gap then s.modSc st (fun c => { c with means := c.means ++ [s.measuredMean st] })
  else s

theorem State.sigStep_eq (s : State) (st : Nat) : s.sigStep st =
    ((s.sigSampled st).eosRuns st (s.sc st).eosHit).modSc st (fun c => { c with last := [], eos := [], eosHit := [] }) :=
  rfl

theorem State.scanKept_soffSample (s : State) (st f e : Nat) (a tf : Int) :
    s.ScanKept st (s.soffSample st f e a tf) :=
  State.scanKept_modSc (s.wrS _ _) st _ (fun _ => ⟨rfl, id⟩)

theorem State.scanKept_lscaleSample (s : State) (st f e t : Nat) : s.ScanKept st (s.lscaleSample st f e t) := by
  unfold State.lscaleSample
  extract_lets tr n v
  split
  · exact State.scanKept_of_eq st rfl
  · exact State.scanKept_modSc (s.wrS _ _) st _ (fun _ => ⟨rfl, id⟩)

theorem State.scanKept_takeSamples (s : State) (st : Nat) : s.ScanKept st (s.takeSamples st) :=
  (State.scanKept_foldl st _ (fun u _ => u.scanKept_soffSample st _ _ _ _) _ s).trans
    (State.scanKept_foldl st _ (fun u _ => u.scanKept_lscaleSample st _ _ _) _ _)

theorem State.scanKept_learnStep (s : State) (st : Nat) : s.ScanKept st (s.learnStep st) := by
  unfold State.learnStep
  split
  · exact (State.statusOnly_post (s.wr _ _) _ _ _ _ _ _ (by decide)).scanKept st
  · exact State.scanKept_of_eq st rfl

theorem State.scanKept_sigSampled (s : State) (st : Nat) : s.ScanKept st (s.sigSampled st) := by
  unfold State.sigSampled
  split
  · exact (s.scanKept_takeSamples st).trans (State.scanKept_learnStep _ st)
  · split
    · exact s.scanKept_modSc st _ (fun _ => ⟨rfl, id⟩)
    · exact State.scanKept_of_eq st rfl

theorem State.scanKept_eosRuns (s : State) (st : Nat) (hit : List Nat) : s.ScanKept st (s.eosRuns st hit) :=
  State.scanKept_foldl st _ (fun u e => State.scanKept_of_eq st (by split <;> rfl)) _ s

theorem State.scanKept_sigStep (s : State) (st : Nat) : s.ScanKept st (s.sigStep st) := by
  rw [State.sigStep_eq]
  exact ((s.scanKept_sigSampled st).trans (State.scanKept_eosRuns _ st _)).trans
    (State.scanKept_modSc _ st _ (fun _ => ⟨rfl, id⟩))

/-- Samples change no register below the signature of their station. -/
theorem State.rd_takeSamples (s : State) (st : Nat) (f : Fld) (h : f.key < (F.ST_SIG_LSCALE st 0 0).key) :
    (s.takeSamples st).rd f = s.rd f := by
  have hsoff (u : State) (g : Edge) (j : Nat) (tf : Int) : (u.soffSample st j g.e g.t tf).rd f = u.rd f :=
    State.rd_wrS_ne _ _ _ _ (sig_key_ne st _ _ f h).1
  have hlscale (u : State) (j : Nat) (x : Nat × Nat) : (u.lscaleSample st j x.1 x.2).rd f = u.rd f := by
    unfold State.lscaleSample
    extract_lets tr n v
    split
    · rfl
    · exact State.rd_wrS_ne _ _ _ _ (sig_key_ne st _ _ f h).2
  exact (foldl_keeps (fun u : State => u.rd f) _ (fun u x => hlscale u _ x) _ _).trans
    (foldl_keeps (fun u : State => u.rd f) _ (fun u g => hsoff u g _ _) _ s)

/-- The event that ends LEARNING shows in no legacy register. -/
theorem State.rd_post_learnt (s : State) (st : Nat) (f : Fld) (hf : F.EVT_DROPPED_DROPPED.key ≠ f.key) :
    (s.post 0 0x3111 4 st []).rd f = s.rd f := by
  simp only [State.post, State.postBy, Nat.reduceEqDiff, if_false]
  refine State.rd_postRaw_of_legEvent _ _ _ _ _ _ _ _ _ ?_ hf
  unfold State.legEvent
  split <;> simp

theorem State.rd_eosRuns (s : State) (st : Nat) (hit : List Nat) (f : Fld) (h : f.key < (F.BM_ONMAX_ONMAX 0).key) :
    (s.eosRuns st hit).rd f = s.rd f :=
  foldl_keeps (fun u : State => u.rd f) _ (fun u e => by
    split
    · exact State.rd_wr_ne _ _ _ _ (onmax_key_ne _ f h)
    · rfl) _ s

/-- The end of LEARNING is written to SIG_STATE. -/
theorem State.rd_learnStep (s : State) (st : Nat) (f : Fld) (hstate : (F.ST_FACET_STAT_SIG_STATE st).key ≠ f.key)
    (hdrop : F.EVT_DROPPED_DROPPED.key ≠ f.key) : (s.learnStep st).rd f = s.rd f := by
  unfold State.learnStep
  split
  · exact (State.rd_post_learnt _ _ _ hdrop).trans (State.rd_wr_ne _ _ _ _ hstate)
  · rfl

theorem State.sigState_learnStep (s : State) (st : Nat) (hst : st < 8) (h : s.sigState st ≠ 3) :
    (s.learnStep st).sigState st ≠ 3 := by
  unfold State.learnStep
  split
  · rw [State.sigState, State.rd_post_learnt _ _ _ (sigState_key st hst).2.2,
      State.rd_wr_same _ _ _ (by simp [F.ST_FACET_STAT_SIG_STATE])]
    simp [F.ST_FACET_STAT_SIG_STATE]
  · exact h

/-- A reference's step of the signature leaves the phase alone. -/
theorem State.phase_sigStep (s : State) (st : Nat) (hst : st < 8) : (s.sigStep st).phase st = s.phase st := by
  obtain ⟨hsig, hbeam, hdrop⟩ := phase_key st hst
  rw [State.sigStep_eq]
  refine (State.rd_eosRuns _ _ _ _ hbeam).trans ?_
  unfold State.sigSampled
  split
  · exact (State.rd_learnStep _ _ _ (sigState_key_ne_phase st) hdrop).trans (State.rd_takeSamples _ _ _ hsig)
  · split <;> rfl

/-- A reference's step of the signature does not begin IDENTIFYING. -/
theorem State.sigState_sigStep (s : State) (st : Nat) (hst : st < 8) (h : s.sigState st ≠ 3) :
    (s.sigStep st).sigState st ≠ 3 := by
  obtain ⟨hsig, hbeam, -⟩ := sigState_key st hst
  rw [State.sigState, State.sigStep_eq, State.rd_modSc, State.rd_eosRuns _ _ _ _ hbeam]
  unfold State.sigSampled
  split
  · exact State.sigState_learnStep _ st hst (fun heq => h ((State.rd_takeSamples _ _ _ hsig).symm.trans heq))
  · split
    · exact h
    · exact h

/-- With neither a gap nor IDENTIFYING there is nothing to identify. -/
theorem State.sigIdentify_idle (s : State) (st : Nat) (regular : Bool) (hgap : (s.sc st).gap = false)
    (hsig : s.sigState st ≠ 3) : s.sigIdentify st regular = s.modSc st (fun c => { c with gap := false }) := by
  simp [State.sigIdentify, hgap, hsig]

/-! ### The facet's start (R158, R170–R173) -/

theorem State.scanKept_indexStep (s : State) (st : Nat) (regular : Bool) : s.ScanKept st (s.indexStep st regular) := by
  unfold State.indexStep
  extract_lets c f u f'
  have hsteady : s.ScanKept st u := s.scanKept_modSc st _ (fun _ => ⟨rfl, id⟩)
  clear_value u
  refine hsteady.trans ?_
  split
  · split
    · exact State.scanKept_modSc ((u.wr _ _).wr _ _) st _ (fun _ => ⟨rfl, id⟩)
    · exact State.scanKept_of_eq st rfl
  · exact State.scanKept_modSc (u.wr _ _) st _ (fun _ => ⟨rfl, id⟩)

theorem State.scanKept_slewStep (s : State) (st : Nat) : s.ScanKept st (s.slewStep st) := by
  unfold State.slewStep
  extract_lets c step t
  split
  · exact State.scanKept_of_eq st rfl
  · exact s.scanKept_modSc st _ (fun _ => ⟨rfl, id⟩)

theorem State.scanKept_lockStep (s : State) (st : Nat) (err : Int) : s.ScanKept st (s.lockStep st err) := by
  unfold State.lockStep
  extract_lets win u n locked m unlocked
  split
  · refine State.ScanKept.trans (t := locked) (State.scanKept_modSc u st _ (fun _ => ⟨rfl, id⟩)) ?_
    split <;> exact State.scanKept_of_eq st rfl
  · refine State.ScanKept.trans (t := unlocked) (State.scanKept_modSc u st _ (fun _ => ⟨rfl, id⟩)) ?_
    split
    · exact (State.statusOnly_post (unlocked.wr _ _) _ _ _ _ _ _ (by decide)).scanKept st
    · exact State.scanKept_of_eq st rfl

theorem State.scanKept_blankLines (s : State) (st p cause : Nat) (ys : List Nat) :
    s.ScanKept st (s.blankLines st p cause ys) := by
  unfold State.blankLines
  split
  · exact State.scanKept_of_eq st rfl
  · refine State.ScanKept.trans ?_ (State.scanKept_of_eq st (State.modSlot_scan _ _ _))
    exact s.scanKept_modSc st _ (fun _ => ⟨rfl, id⟩)

theorem State.scanKept_slipStep (s : State) (st : Nat) (m : Int) : s.ScanKept st (s.slipStep st m) := by
  unfold State.slipStep
  split
  · exact State.scanKept_of_eq st rfl
  · split
    · exact State.scanKept_of_eq st rfl
    · extract_lets ys u
      have hpost : s.ScanKept st u :=
        ((State.statusOnly_legSst (s.inc _) st _).scanKept st).trans
          ((State.statusOnly_post _ _ _ _ _ _ _ (by decide)).scanKept st)
      split
      · exact hpost.trans (State.scanKept_blankLines _ _ _ _ _)
      · exact hpost

/-! ### A measured facet reference (R156) -/

/-- The registers, the phase and the signature at a reference at `t`, `per` after the one before. -/
def State.referenceSeen (s : State) (st t per : Nat) (real regular : Bool) : State :=
  let s := if per = 0 then s else s.wr (F.ST_FACET_PERIOD_PERIOD st) per
  let s := s.wr (F.ST_FACET_STAT_BD_OK st) (b2n regular)
  let s := if s.phase st = 1 && real then s.wr (F.ST_ROLL_STAT_PHASE st) 2 else s
  let s := (s.sigStep st).sigIdentify st regular
  if real then s.modSc st (fun c => { c with bdT := some t }) else s

/-- The facet is counted, slews, and is judged for lock and slips. -/
def State.facetJudged (s : State) (st : Nat) (w : Int) (regular : Bool) : State :=
  let s := (s.indexStep st regular).slewStep st
  (s.lockStep st (s.phaseErr st w)).slipStep st (s.gridLine st w)

theorem State.scanKept_facetJudged (s : State) (st : Nat) (w : Int) (regular : Bool) :
    s.ScanKept st (s.facetJudged st w regular) := by
  unfold State.facetJudged
  extract_lets u
  have hslew : s.ScanKept st u := (s.scanKept_indexStep st regular).trans (State.scanKept_slewStep _ st)
  exact hslew.trans ((u.scanKept_lockStep st _).trans (State.scanKept_slipStep _ st _))

/-- Outside ACQUIRE a reference starts the facet at its time and place. -/
theorem State.facetRef_starts (s : State) (st t : Nat) (w wf : Int) (real : Bool)
    (hen : s.on (F.ST_SCANCTL_SCAN_EN st) = true) (hscan : s.on (F.ST_SCANCTL_NOSCAN st) = false)
    (hnew : (s.sc st).refDone = false) (href : s.reference st w = some (t, wf, real))
    (hphase : ∀ per regular, (s.referenceSeen st t per real regular).phase st ≠ 1) :
    ∃ (per : Nat) (regular : Bool) (g : Scan → Scan), s.facetRef st w =
        ((s.referenceSeen st t per real regular).facetJudged st wf regular).modSc st g ∧
      ∀ c, (g c).tf = some t ∧ (g c).wf = wf ∧ (g c).refDone = true ∧ (g c).begun = 0 ∧ (g c).fno = c.fno + 1 := by
  unfold State.facetRef
  rw [if_neg (by simp [hen, hscan, hnew])]
  simp -zeta only [href]
  extract_lets that measured per expect regular s1 s2 s3 s4 seen indexed m judged
  have hseen : s.referenceSeen st t per real regular = seen := rfl
  have hjudged : seen.facetJudged st wf regular = judged := rfl
  rw [if_neg (hseen ▸ hphase per regular)]
  refine ⟨per, regular, ?_⟩
  rw [hseen, hjudged]
  exact ⟨_, rfl, fun c => ⟨rfl, rfl, rfl, rfl, rfl⟩⟩

/-- A measured reference leaves ACQUIRE; with neither a gap nor IDENTIFYING it keeps the facet count. -/
theorem State.referenceSeen_spec (s : State) (st t per : Nat) (regular : Bool) (hst : st < 8)
    (hlen : st < s.scan.length) (hgap : (s.sc st).gap = false) (hsig : s.sigState st ≠ 3) :
    s.ScanKept st (s.referenceSeen st t per true regular) ∧ (s.referenceSeen st t per true regular).phase st ≠ 1 := by
  have hphase := (sigState_key_ne_phase st).symm
  have hper : (F.ST_FACET_PERIOD_PERIOD st).key ≠ (F.ST_FACET_STAT_SIG_STATE st).key := by
    simp only [Fld.key, F.ST_FACET_PERIOD_PERIOD, F.ST_FACET_STAT_SIG_STATE]; omega
  have hok : (F.ST_FACET_STAT_BD_OK st).key ≠ (F.ST_FACET_STAT_SIG_STATE st).key := by
    simp only [Fld.key, F.ST_FACET_STAT_BD_OK, F.ST_FACET_STAT_SIG_STATE]; omega
  unfold State.referenceSeen
  extract_lets timed judged searching identified
  have hscan : searching.scan = s.scan := by
    simp only [searching, judged, timed]
    repeat' split
    all_goals rfl
  have hsame : searching.sigState st = s.sigState st := by
    simp only [searching, judged, timed, State.sigState]
    repeat' split
    all_goals simp only [State.rd_wr_ne _ _ _ _ hper, State.rd_wr_ne _ _ _ _ hok, State.rd_wr_ne _ _ _ _ hphase]
  have hsig' : searching.sigState st ≠ 3 := by rwa [hsame]
  have hleft : searching.phase st ≠ 1 := by
    simp only [searching, Bool.and_true, decide_eq_true_eq]
    split
    · rw [State.phase, State.rd_wr_same _ _ _ (by simp [F.ST_ROLL_STAT_PHASE])]
      simp [F.ST_ROLL_STAT_PHASE]
    · assumption
  have hkept : s.ScanKept st (searching.sigStep st) :=
    (State.scanKept_of_eq st hscan).trans (searching.scanKept_sigStep st)
  have hidle : identified = (searching.sigStep st).modSc st (fun c => { c with gap := false }) :=
    State.sigIdentify_idle _ _ _ ((hkept.sc_same hlen).2 hgap) (searching.sigState_sigStep st hst hsig')
  rw [if_pos rfl, hidle]
  refine ⟨(hkept.trans (State.scanKept_modSc _ st _ ?_)).trans (State.scanKept_modSc _ st _ ?_), ?_⟩
  · exact fun _ => ⟨rfl, fun _ => rfl⟩
  · exact fun _ => ⟨rfl, id⟩
  · exact fun heq => hleft ((searching.phase_sigStep st hst).symm.trans heq)

/-- The arrival of emitter 0 alone is the reference. -/
theorem State.reference_emitter0 (s : State) (st : Nat) (w : Int) (g : Edge) (h : (s.sc st).edges = [g]) (he : g.e = 0) :
    s.reference st w = some (g.t, g.w, true) := by
  simp only [State.reference, h, sortBy, insertBy, he, if_true]

@[simp] theorem State.legRequest_scan (s : State) (st : Nat) : (s.legRequest st).scan = s.scan := by
  unfold State.legRequest; split <;> rfl

@[simp] theorem State.facetTick_scan (s : State) (st : Nat) (w : Int) :
    (s.facetTick st w).scan = (s.facetRef st w).scan := by
  simp only [State.facetTick]; split <;> simp

/-- Emitter 0's arrival is the facet's start: t_f and w_f, a facet more, no line begun; no other station's scan moves. -/
theorem State.facetTick_emitter0 (s : State) (st : Nat) (w : Int) (g : Edge) (hst : st < 8) (hlen : st < s.scan.length)
    (hen : s.on (F.ST_SCANCTL_SCAN_EN st) = true) (hscan : s.on (F.ST_SCANCTL_NOSCAN st) = false)
    (hnew : (s.sc st).refDone = false) (hedge : (s.sc st).edges = [g]) (he : g.e = 0)
    (hsig : s.sigState st ≠ 3) (hgap : (s.sc st).gap = false) :
    let c := (s.facetTick st w).sc st
    (c.tf = some g.t ∧ c.wf = g.w ∧ c.refDone = true ∧ c.fno = (s.sc st).fno + 1 ∧ c.begun = 0) ∧
      ∀ k, k ≠ st → (s.facetTick st w).sc k = s.sc k := by
  have hseen per regular := s.referenceSeen_spec st g.t per regular hst hlen hgap hsig
  obtain ⟨per, regular, f, href, hf⟩ := s.facetRef_starts st g.t w g.w true hen hscan hnew
    (s.reference_emitter0 st w g hedge he) (fun per regular => (hseen per regular).2)
  have hkept := (hseen per regular).1.trans (State.scanKept_facetJudged _ st g.w regular)
  generalize (s.referenceSeen st g.t per true regular).facetJudged st g.w regular = judged at href hkept
  have hsc (k : Nat) : (s.facetTick st w).sc k = (judged.modSc st f).sc k := by
    rw [State.sc, State.facetTick_scan, href, State.sc]
  refine ⟨?_, fun k hk => ?_⟩
  · rw [hsc st, State.sc_modSc_same _ _ _ (by rw [hkept.length_eq]; exact hlen)]
    obtain ⟨htf, hwf, hdone, hbegun, hfno⟩ := hf (judged.sc st)
    exact ⟨htf, hwf, hdone, hfno.trans (congrArg (· + 1) (hkept.sc_same hlen).1), hbegun⟩
  · rw [hsc k, State.sc_modSc_ne _ _ _ _ hk, hkept.sc_ne hk]

/-! ### A gap (R158, R160) -/

theorem State.facetGap_due (s : State) (st t : Nat) (hbd : (s.sc st).bdT = some t) (hper : s.period st ≠ 0)
    (hlate : t + 2 * s.period st < s.now * 250) :
    s.facetGap st = (s.wr (F.ST_FACET_STAT_BD_OK st) 0).modSc st (fun c => { c with
      gap := true, m := none, steady := 0 }) := by
  simp [State.facetGap, hbd, hper, hlate]

/-! ### SIG_CTL.CLEAR (R160, R216) -/

theorem amGet_filter_keeps {α : Type} (d : α) (m : List (Nat × α)) (p : Nat × α → Bool) (k : Nat)
    (h : ∀ v, p (k, v) = true) : amGet d (m.filter p) k = amGet d m k := by
  induction m with
  | nil => rfl
  | cons e m ih =>
    obtain ⟨j, v⟩ := e
    by_cases hj : j = k
    · subst hj
      simp [amGet, h]
    · rw [List.filter_cons]
      split <;> simp [amGet, hj, ih]

/-- Every word of the station's signature reads 0. -/
theorem State.rd_sigZero_entries (s : State) (st f e : Nat) (hf : f < 16) (he : e < 32) :
    (s.sigZero st).rd (F.ST_SIG_SOFF st f e) = 0 ∧ (s.sigZero st).rd (F.ST_SIG_LSCALE st f e) = 0 := by
  have hgone (k : Nat) (hlo : (F.ST_SIG_SOFF st 0 0).off ≤ k / 32) (hhi : k / 32 < (F.ST_SIG_SOFF st 0 0).off + 0x800) :
      amGet (BitVec.ofNat 32 0) (s.sigZero st).regs k = BitVec.ofNat 32 0 := by
    refine amGet_notin _ _ _ (fun x hx hk => ?_)
    obtain ⟨-, hout⟩ := List.mem_filter.mp hx
    simp [hk, hlo, hhi] at hout
  constructor
  · rw [State.rd, F.ST_SIG_SOFF, hgone]
    · rfl
    all_goals simp only [Fld.key, F.ST_SIG_SOFF]; omega
  · rw [State.rd, F.ST_SIG_LSCALE, hgone]
    · rfl
    all_goals simp only [Fld.key, F.ST_SIG_SOFF]; omega

/-- The fields below the signature stay. -/
theorem State.rd_sigZero_below (s : State) (st : Nat) (f : Fld) (h : f.key < (F.ST_SIG_LSCALE st 0 0).key) :
    (s.sigZero st).rd f = s.rd f := by
  have hlow : ¬ (F.ST_SIG_SOFF st 0 0).off ≤ f.key / 32 := by
    simp only [Fld.key, F.ST_SIG_LSCALE, F.ST_SIG_SOFF] at h ⊢; omega
  exact congrArg BitVec.toNat (amGet_filter_keeps _ _ _ _ (fun _ => by simp [hlow]))

/-- A return to ACQUIRE writes ONMAX and the phase, and moves the station's scan; nothing else. -/
theorem State.toAcquire_keeps {β : Type} (p : State → β) (st : Nat)
    (honmax : ∀ s b v, p (State.wr s (F.BM_ONMAX_ONMAX b) v) = p s)
    (hphase : ∀ s v, p (State.wr s (F.ST_ROLL_STAT_PHASE st) v) = p s) (hsc : ∀ s g, p (State.modSc s st g) = p s)
    (s : State) : p (s.toAcquire st) = p s := by
  have hcalls : p (s.endCalls st) = p s :=
    foldl_keeps p _ (fun u e => by
      simp only
      split
      · exact honmax _ _ _
      · rfl) _ s
  unfold State.toAcquire
  split
  · rfl
  · exact (hsc _ _).trans ((hphase _ _).trans hcalls)

theorem State.rd_toAcquire (s : State) (st : Nat) (f : Fld) (honmax : f.key < (F.BM_ONMAX_ONMAX 0).key)
    (hphase : (F.ST_ROLL_STAT_PHASE st).key ≠ f.key) : (s.toAcquire st).rd f = s.rd f :=
  State.toAcquire_keeps (fun u => u.rd f) st (fun _ _ _ => State.rd_wr_ne _ _ _ _ (onmax_key_ne _ f honmax))
    (fun _ _ => State.rd_wr_ne _ _ _ _ hphase) (fun _ _ => rfl) s

/-- Where roll call runs, it returns to ACQUIRE (R216). -/
theorem State.phase_toAcquire (s : State) (st : Nat) (h : s.phase st ≠ 0) : (s.toAcquire st).phase st = 1 := by
  rw [State.toAcquire, if_neg h]
  exact State.rd_wr_same _ (F.ST_ROLL_STAT_PHASE st) 1 (by simp [F.ST_ROLL_STAT_PHASE])

/-- The signature emptied, before the station returns to ACQUIRE. -/
def State.sigEmptied (s : State) (st : Nat) : State :=
  ((s.sigZero st).wr (F.ST_FACET_STAT_SIG_STATE st) 0).modSc st (fun c => { c with
    gap := false, numbered := false, steady := 0, wasValid := false })

theorem State.sigClear_eq (s : State) (st : Nat) : s.sigClear st = (s.sigEmptied st).toAcquire st := rfl

/-- A clear changes the signature, the phase, ONMAX and the station's scan alone. -/
theorem State.sigClear_keeps {β : Type} (p : State → β) (st : Nat) (hwr : ∀ s f v, p (State.wr s f v) = p s)
    (hsc : ∀ s g, p (State.modSc s st g) = p s) (hregs : ∀ (s : State) l, p { s with regs := l } = p s) (s : State) :
    p (s.sigClear st) = p s := by
  rw [State.sigClear_eq, State.toAcquire_keeps p st (fun _ _ _ => hwr _ _ _) (fun _ _ => hwr _ _ _) hsc]
  exact (hsc _ _).trans ((hwr _ _ _).trans ((hsc _ _).trans (hregs _ _)))

theorem State.sigClear_empty (s : State) (st : Nat) (hst : st < 8) : (s.sigClear st).sigState st = 0 := by
  obtain ⟨-, hbeam, -⟩ := sigState_key st hst
  rw [State.sigClear_eq, State.sigState, State.rd_toAcquire _ _ _ hbeam (sigState_key_ne_phase st).symm]
  exact State.rd_wr_same _ (F.ST_FACET_STAT_SIG_STATE st) 0 (by simp [F.ST_FACET_STAT_SIG_STATE])

/-- A clear leaves the words of the signature as they were emptied. -/
theorem State.rd_sigClear_sig (s : State) (st : Nat) (f : Fld) (hlo : (F.ST_SIG_LSCALE st 0 0).key ≤ f.key)
    (hhi : f.key < (F.BM_ONMAX_ONMAX 0).key) : (s.sigClear st).rd f = (s.sigZero st).rd f := by
  have hphase : (F.ST_ROLL_STAT_PHASE st).key ≠ f.key := by
    simp only [Fld.key, F.ST_SIG_LSCALE, F.ST_ROLL_STAT_PHASE] at hlo ⊢; omega
  have hstate : (F.ST_FACET_STAT_SIG_STATE st).key ≠ f.key := by
    simp only [Fld.key, F.ST_SIG_LSCALE, F.ST_FACET_STAT_SIG_STATE] at hlo ⊢; omega
  rw [State.sigClear_eq, State.rd_toAcquire _ _ _ hhi hphase, State.sigEmptied, State.rd_modSc,
    State.rd_wr_ne _ _ _ _ hstate]

theorem State.sigClear_entries (s : State) (st f e : Nat) (hst : st < 8) (hf : f < 16) (he : e < 32) :
    (s.sigClear st).soff st f e = 0 ∧ (s.sigClear st).lscale st f e = 0 := by
  obtain ⟨hsoff, hlscale⟩ := s.rd_sigZero_entries st f e hf he
  constructor
  · rw [State.soff, State.rdS, State.rd_sigClear_sig, hsoff]
    · rfl
    all_goals simp only [Fld.key, F.ST_SIG_SOFF, F.ST_SIG_LSCALE, F.BM_ONMAX_ONMAX]; omega
  · rw [State.lscale, State.rdS, State.rd_sigClear_sig, hlscale]
    · rfl
    all_goals simp only [Fld.key, F.ST_SIG_LSCALE, F.BM_ONMAX_ONMAX]; omega

theorem State.sigClear_acquires (s : State) (st : Nat) (hst : st < 8) (h : s.phase st ≠ 0) :
    (s.sigClear st).phase st = 1 := by
  obtain ⟨hbelow, -, -⟩ := phase_key st hst
  have hkept : (s.sigEmptied st).phase st = s.phase st :=
    calc (s.sigEmptied st).phase st = ((s.sigZero st).wr (F.ST_FACET_STAT_SIG_STATE st) 0).phase st := rfl
      _ = (s.sigZero st).phase st := State.rd_wr_ne _ _ _ _ (sigState_key_ne_phase st)
      _ = s.phase st := State.rd_sigZero_below s st _ hbelow
  rw [State.sigClear_eq]
  exact State.phase_toAcquire _ st (by rwa [hkept])

/-! ### ST_PH_CLR (R181) -/

theorem State.phClr_spec (s : State) (st : Nat) :
    let t := (s.wr (F.ST_PH_STAT_PEAK st) 0).wr (F.ST_PH_SLIPS_SLIPS st) 0
    t.rd (F.ST_PH_STAT_PEAK st) = 0 ∧ t.rd (F.ST_PH_SLIPS_SLIPS st) = 0 ∧
      RegsOnly s t [F.ST_PH_STAT_PEAK st, F.ST_PH_SLIPS_SLIPS st] := by
  have hkey : (F.ST_PH_SLIPS_SLIPS st).key ≠ (F.ST_PH_STAT_PEAK st).key := by
    simp only [Fld.key, F.ST_PH_SLIPS_SLIPS, F.ST_PH_STAT_PEAK]; omega
  refine ⟨?_, State.rd_wr_same _ _ _ (by simp [F.ST_PH_SLIPS_SLIPS]), rfl, fun f hf => ?_⟩
  · rw [State.rd_wr_ne _ _ _ _ hkey]
    exact State.rd_wr_same _ _ _ (by simp [F.ST_PH_STAT_PEAK])
  · rw [State.rd_wr_ne _ _ _ _ (hf _ (by simp)), State.rd_wr_ne _ _ _ _ (hf _ (by simp))]

/-- Settles O33: an edge by the emitter it is given to, a reference by `State.facetTick_emitter0`, a clear by what it
writes. -/
theorem scanEdges : Obligations.ScanEdges := by
  refine ⟨?_, ?_, ?_, ?_, fun s st => s.eosOn_spec st, ?_, ?_, ?_, ?_⟩
  · intro s st t w e hup hcall
    exact congrArg Host.Outcome.next ((State.live_up _ _ hup).trans (s.bdEdge_called st t e w hcall))
  · intro s st t w hup hstray
    exact ⟨_, congrArg Host.Outcome.next ((State.live_up _ _ hup).trans (s.bdEdge_stray st t w hstray)), s.inc_stray st⟩
  · intro s st e t g hup hon hg
    exact congrArg Host.Outcome.next ((State.live_up _ _ hup).trans (s.eosEdge_timed st t e g hon hg))
  · intro s st t hup hstray
    exact ⟨_, congrArg Host.Outcome.next ((State.live_up _ _ hup).trans (s.eosEdge_stray st t hstray)), s.inc_stray st⟩
  · intro s st w g hup hlen hen hscan hnew hedge he hsig hgap
    obtain ⟨⟨htf, hwf, hdone, hfno, hbegun⟩, hothers⟩ :=
      s.facetTick_emitter0 st w g st.isLt (by omega) hen hscan hnew hedge he hsig hgap
    exact ⟨_, congrArg Host.Outcome.next (State.live_up _ _ hup), htf, hwf, hdone, hfno, hbegun,
      fun k hk => hothers k (fun heq => hk (Fin.ext heq))⟩
  · intro s st t hup hbd hper hlate
    exact congrArg Host.Outcome.next ((State.live_up _ _ hup).trans (s.facetGap_due st t hbd hper hlate))
  · intro s st hup
    exact ⟨_, congrArg Host.Outcome.next (State.live_up _ _ hup), s.sigClear_empty st st.isLt,
      fun f e => s.sigClear_entries st f e st.isLt, s.sigClear_acquires st st.isLt,
      State.sigClear_keeps State.alm st (fun _ _ _ => rfl) (fun _ _ => rfl) (fun _ _ => rfl) s,
      State.sigClear_keeps State.host st (fun _ _ _ => rfl) (fun _ _ => rfl) (fun _ _ => rfl) s,
      State.sigClear_keeps State.beams st (fun _ _ _ => rfl) (fun _ _ => rfl) (fun _ _ => rfl) s⟩
  · intro s st hup
    exact ⟨_, congrArg Host.Outcome.next (State.live_up _ _ hup), s.phClr_spec st⟩

end Sys2Proof.Machine
end

section
/-! Registers alone, and what an event of any mode leaves of the native registers (R251, R505). -/

namespace Sys2Proof.Machine

open Sys2Proof

/-! ### Registers alone -/

theorem RegsOnly.refl (s : State) (fs : List Fld) : RegsOnly s s fs := ⟨rfl, fun _ _ => rfl⟩

/-- A write of a listed field stays within the list. -/
theorem RegsOnly.wr {s t : State} {fs : List Fld} (h : RegsOnly s t fs) (f : Fld) (v : Nat) (hf : f ∈ fs) :
    RegsOnly s (t.wr f v) fs :=
  ⟨congrArg (fun u : State => { u with regs := (t.wr f v).regs }) h.1,
    fun g hg => (State.rd_wr_ne _ _ _ _ (hg f hf)).trans (h.2 g hg)⟩

/-! ### What an event shows in the native registers (R251, R505) -/

/-- The legacy registers, which lie above the native ones, are all that a cause of L_IRQ_STAT shows in. -/
theorem State.rd_legIrq (s : State) (bit : Nat) (f : Fld) (h : f.key < 32 * legOff 0) :
    (s.legIrq bit).rd f = s.rd f := by
  have hcause : L.IRQ_STAT_CAUSE.key ≠ f.key := by
    simp only [Fld.key, L.IRQ_STAT_CAUSE, legOff] at h ⊢; omega
  have hset (v : Nat) : (s.setW1c L.IRQ_STAT_CAUSE v).rd f = s.rd f := State.rd_wr_ne _ _ _ _ hcause
  simp only [State.legIrq, State.legInt]
  split
  · split
    · exact (State.rd_vecCause _ _ _ _).trans (hset _)
    · exact hset _
  · rfl

theorem State.rd_legEvent (s : State) (sev code inst : Nat) (f : Fld) (h : f.key < 32 * legOff 0) :
    (s.legEvent sev code inst).rd f = s.rd f := by
  have hlast : L.LASTCODE_CODE.key ≠ f.key := by
    simp only [Fld.key, L.LASTCODE_CODE, legOff] at h ⊢; omega
  have htake (u : State) : (u.setW1c L.STAT_TAKEOVER 1).rd f = u.rd f := by
    refine State.rd_wr_ne _ _ _ _ ?_
    simp only [Fld.key, L.STAT_TAKEOVER, legOff] at h ⊢; omega
  have hcfg (u : State) : (u.setW1c L.STAT_CFG_FAULT 1).rd f = u.rd f := by
    refine State.rd_wr_ne _ _ _ _ ?_
    simp only [Fld.key, L.STAT_CFG_FAULT, legOff] at h ⊢; omega
  have hseverity : (if 1 ≤ sev then s.wr L.LASTCODE_CODE code else s).rd f = s.rd f := by
    split
    · exact State.rd_wr_ne _ _ _ _ hlast
    · rfl
  unfold State.legEvent
  split
  · rfl
  · rw [← hseverity]
    simp only
    repeat' split
    all_goals simp only [State.rd_legIrq _ _ _ h, htake, hcfg]

/-- In any mode an event below HARD changes no native register but EVT_DROPPED. -/
theorem State.rd_post_below_hard (s : State) (sev code block inst : Nat) (d : List (Nat × Nat × Nat)) (tag : Nat)
    (f : Fld) (hs : sev ≠ 3) (h : f.key < 32 * legOff 0) (hdrop : F.EVT_DROPPED_DROPPED.key ≠ f.key) :
    (s.post sev code block inst d tag).rd f = s.rd f := by
  simp only [State.post, State.postBy, hs, if_false]
  exact State.rd_postRaw_of_legEvent _ _ _ _ _ _ _ _ _ (State.rd_legEvent _ _ _ _ _ h) hdrop

/-- Fields of one register differ by their lowest bit. -/
theorem Fld.key_ne_of_lo {f g : Fld} (hoff : f.off = g.off) (hlo : f.lo ≠ g.lo) : f.key ≠ g.key := by
  simp only [Fld.key, hoff]; omega

end Sys2Proof.Machine
end

section
/-! The octets: thermal samples, the energy scale, power control, the supply and the counters (R190, R195, R197–R202,
R213). -/

namespace Sys2Proof.Machine

open Sys2Proof

/-! ### The steps of a thermal sample (R199–R202) -/

/-- OCT_STAT lies above EVT_DROPPED and below the legacy registers. -/
theorem octStat_key (n : Fin 16) (f : Fld) (hoff : f.off = (F.OCT_STAT_WARN n).off) (hlo : f.lo < 32) :
    f.key < 32 * legOff 0 ∧ F.EVT_DROPPED_DROPPED.key ≠ f.key := by
  simp only [Fld.key, hoff, F.OCT_STAT_WARN, F.EVT_DROPPED_DROPPED, legOff]; omega

/-- The last four conversions, the newest first. -/
def State.thermTemps (s : State) (n r : Nat) : List Int :=
  (betaTemp (s.rd (F.OCT_THERM_BETA n)) r :: (s.oct n).temps).take 4

/-- Their mean (R199). -/
def State.thermMean (s : State) (n r : Nat) : Int := roundHalf (sumI (s.thermTemps n r)) (s.thermTemps n r).length

/-- The conversion is kept and OCT_TEMP shows the mean. -/
def State.thermRead (s : State) (n r : Nat) : State :=
  (s.modOct n (fun o => { o with temps := s.thermTemps n r })).wrS (F.OCT_TEMP_TEMP n) (s.thermMean n r)

/-- A limit, in °C, is reached: a bad sensor reaches every one. -/
def State.thermOver (s : State) (r : Nat) (t : Int) (lim : Fld) : Bool :=
  sensorBad r || decide (16 * (s.rd lim : Int) ≤ t)

def State.warnStep (s : State) (n : Nat) (t : Int) (warn : Bool) : State :=
  (if warn && !s.on (F.OCT_STAT_WARN n) then s.post 0 0x3200 6 (0x100 + n) [(0, 2, uBits 16 t)] else s).wr
    (F.OCT_STAT_WARN n) (b2n warn)

def State.derateStep (s : State) (n : Nat) (t : Int) (der : Bool) : State :=
  if der && !s.on (F.OCT_STAT_DERATED n) then s.thermDerate n t else s

def State.cutStep (s : State) (n : Nat) (t : Int) (cut bad : Bool) : State :=
  if cut && !s.on (F.OCT_STAT_CUT_HELD n) then s.thermCut n t bad else s

/-- CUT_HELD ends below T_WARN (R201). -/
def State.uncutStep (s : State) (n : Nat) (t : Int) (warn : Bool) : State :=
  if s.on (F.OCT_STAT_CUT_HELD n) && !warn then
    ((s.wr (F.OCT_STAT_CUT_HELD n) 0).modOct n
      (fun o => { o with dueSlots := (s.stationOf n).elim [] s.slotsAhead })).post 0 0x3203 6 (0x100 + n) [(0, 2, uBits 16 t)]
  else s

/-- Derating ends HYST below T_DERATE, outside a frame (R202). -/
def State.coolStep (s : State) (n : Nat) (t : Int) (bad : Bool) : State :=
  if s.on (F.OCT_STAT_DERATED n)
      && decide (t < 16 * ((s.rd (F.OCT_TLIM_T_DERATE n) : Int) - s.rd (F.OCT_THERM_HYST n))) && !bad then
    (if s.octIdle n then s.endDerate n else s.modOct n (fun o => { o with coolDerate := true }))
  else s

theorem State.thermal_eq (s : State) (n r : Nat) : s.thermal n r =
    let u := s.thermRead n r
    let t := s.thermMean n r
    let warn := u.thermOver r t (F.OCT_TLIM_T_WARN n)
    let v := (u.warnStep n t warn).derateStep n t (u.thermOver r t (F.OCT_TLIM_T_DERATE n))
    ((v.cutStep n t (u.thermOver r t (F.OCT_TLIM_T_CUT n)) (sensorBad r)).uncutStep n t warn).coolStep n t (sensorBad r) :=
  rfl

theorem State.thermOver_bad (s : State) (r : Nat) (t : Int) (lim : Fld) (h : sensorBad r = true) :
    s.thermOver r t lim = true := by
  simp [State.thermOver, h]

/-- OCT_TEMP lies apart from the limits, so the mean is tested against the limits as they stood. -/
theorem State.thermOver_below (s : State) (n r : Nat) (t : Int) (lim : Fld) (hr : sensorBad r = false)
    (hlim : (F.OCT_TEMP_TEMP n).key ≠ lim.key) (ht : t < 16 * s.rd lim) :
    (s.thermRead n r).thermOver r t lim = false := by
  have hrd : (s.thermRead n r).rd lim = s.rd lim := State.rd_wrS_ne _ _ _ _ hlim
  simp only [State.thermOver, hr, hrd, Bool.false_or, decide_eq_false_iff_not, Int.not_le]
  exact ht

/-! ### A bad sensor (R199, R200) -/

theorem State.rd_warnStep_warn (s : State) (n : Nat) (t : Int) (warn : Bool) :
    (s.warnStep n t warn).rd (F.OCT_STAT_WARN n) = b2n warn :=
  State.rd_wr_b2n _ _ _ rfl

/-- Of OCT_STAT a derate writes DERATED alone. -/
theorem State.rd_thermDerate (s : State) (n : Fin 16) (t : Int) (f : Fld) (hoff : f.off = (F.OCT_STAT_WARN n).off)
    (hlo : f.lo < 32) : (s.thermDerate n t).rd f = (s.wr (F.OCT_STAT_DERATED n) 1).rd f := by
  obtain ⟨hleg, hdrop⟩ := octStat_key n f hoff hlo
  exact State.rd_post_below_hard _ _ _ _ _ _ _ _ (by decide) hleg hdrop

/-- Of OCT_STAT a cut writes CUT_HELD alone. -/
theorem State.rd_thermCut (s : State) (n : Fin 16) (t : Int) (bad : Bool) (f : Fld)
    (hoff : f.off = (F.OCT_STAT_WARN n).off) (hlo : f.lo < 32) :
    (s.thermCut n t bad).rd f = (s.wr (F.OCT_STAT_CUT_HELD n) 1).rd f := by
  obtain ⟨hleg, hdrop⟩ := octStat_key n f hoff hlo
  unfold State.thermCut
  extract_lets st u held v
  have hbeams : v.rd f = u.rd f := by
    simp only [v]
    split
    · rfl
    · exact foldl_keeps (fun u : State => u.rd f) _ (fun _ _ => State.rd_modBeam _ _ _ _) _ u
  exact (State.rd_post_below_hard _ _ _ _ _ _ _ _ (by decide) hleg hdrop).trans hbeams

/-- Where T_DERATE is reached the octet is DERATED, whether before or from now on; the rest of OCT_STAT stays. -/
theorem State.rd_derateStep (s : State) (n : Fin 16) (t : Int) :
    (s.derateStep n t true).rd (F.OCT_STAT_DERATED n) ≠ 0 ∧
    (s.derateStep n t true).rd (F.OCT_STAT_WARN n) = s.rd (F.OCT_STAT_WARN n) := by
  have hwarn : (F.OCT_STAT_DERATED n).key ≠ (F.OCT_STAT_WARN n).key :=
    Fld.key_ne_of_lo rfl (by simp [F.OCT_STAT_DERATED, F.OCT_STAT_WARN])
  unfold State.derateStep
  split
  · rw [State.rd_thermDerate s n t (F.OCT_STAT_DERATED n) rfl (by simp [F.OCT_STAT_DERATED]),
      State.rd_thermDerate s n t (F.OCT_STAT_WARN n) rfl (by simp [F.OCT_STAT_WARN]),
      State.rd_wr_same _ _ _ (by simp [F.OCT_STAT_DERATED]), State.rd_wr_ne _ _ _ _ hwarn]
    exact ⟨by simp [F.OCT_STAT_DERATED], rfl⟩
  · next hon => exact ⟨by simpa [State.on] using hon, rfl⟩

theorem State.rd_cutStep (s : State) (n : Fin 16) (t : Int) (bad : Bool) :
    (s.cutStep n t true bad).rd (F.OCT_STAT_CUT_HELD n) ≠ 0 ∧
    (s.cutStep n t true bad).rd (F.OCT_STAT_DERATED n) = s.rd (F.OCT_STAT_DERATED n) ∧
    (s.cutStep n t true bad).rd (F.OCT_STAT_WARN n) = s.rd (F.OCT_STAT_WARN n) := by
  have hder : (F.OCT_STAT_CUT_HELD n).key ≠ (F.OCT_STAT_DERATED n).key :=
    Fld.key_ne_of_lo rfl (by simp [F.OCT_STAT_CUT_HELD, F.OCT_STAT_DERATED])
  have hwarn : (F.OCT_STAT_CUT_HELD n).key ≠ (F.OCT_STAT_WARN n).key :=
    Fld.key_ne_of_lo rfl (by simp [F.OCT_STAT_CUT_HELD, F.OCT_STAT_WARN])
  unfold State.cutStep
  split
  · rw [State.rd_thermCut s n t bad (F.OCT_STAT_CUT_HELD n) rfl (by simp [F.OCT_STAT_CUT_HELD]),
      State.rd_thermCut s n t bad (F.OCT_STAT_DERATED n) rfl (by simp [F.OCT_STAT_DERATED]),
      State.rd_thermCut s n t bad (F.OCT_STAT_WARN n) rfl (by simp [F.OCT_STAT_WARN]),
      State.rd_wr_same _ _ _ (by simp [F.OCT_STAT_CUT_HELD]), State.rd_wr_ne _ _ _ _ hder, State.rd_wr_ne _ _ _ _ hwarn]
    exact ⟨by simp [F.OCT_STAT_CUT_HELD], rfl, rfl⟩
  · next hon => exact ⟨by simpa [State.on] using hon, rfl, rfl⟩

/-- An open or shorted sensor acts as T_CUT reached. -/
theorem State.thermal_bad (s : State) (n : Fin 16) (r : Nat) (h : sensorBad r = true) :
    (s.thermal n r).rd (F.OCT_STAT_CUT_HELD n) ≠ 0 ∧ (s.thermal n r).rd (F.OCT_STAT_DERATED n) ≠ 0 ∧
    (s.thermal n r).rd (F.OCT_STAT_WARN n) = 1 := by
  let t := s.thermMean n r
  let u := (s.thermRead n r).warnStep n t true
  have heq : s.thermal n r = (u.derateStep n t true).cutStep n t true true := by
    simp only [State.thermal_eq, State.thermOver_bad _ _ _ _ h, h, State.uncutStep, State.coolStep, Bool.not_true,
      Bool.and_false, Bool.false_eq_true, if_false, u, t]
  obtain ⟨hder, hwarn⟩ := u.rd_derateStep n t
  obtain ⟨hcut, hder', hwarn'⟩ := (u.derateStep n t true).rd_cutStep n t true
  rw [heq, hder', hwarn', hwarn]
  exact ⟨hcut, hder, State.rd_warnStep_warn _ _ _ _⟩

/-! ### A sample below every limit (R199) -/

/-- Below every limit, with neither a cut nor a derate standing, a sample is read, and WARN is 0. -/
theorem State.thermal_cool (s : State) (n r : Nat) (hr : sensorBad r = false)
    (hwarn : s.thermMean n r < 16 * s.rd (F.OCT_TLIM_T_WARN n))
    (hder : s.thermMean n r < 16 * s.rd (F.OCT_TLIM_T_DERATE n))
    (hcut : s.thermMean n r < 16 * s.rd (F.OCT_TLIM_T_CUT n))
    (hheld : s.rd (F.OCT_STAT_CUT_HELD n) = 0) (hderated : s.rd (F.OCT_STAT_DERATED n) = 0) :
    s.thermal n r = (s.thermRead n r).wr (F.OCT_STAT_WARN n) 0 := by
  have hunder (lim : Fld) (hoff : lim.off = (F.OCT_TLIM_T_WARN n).off) (hlo : lim.lo < 32)
      (ht : s.thermMean n r < 16 * s.rd lim) : (s.thermRead n r).thermOver r (s.thermMean n r) lim = false := by
    refine s.thermOver_below n r _ lim hr ?_ ht
    simp only [Fld.key, hoff, F.OCT_TLIM_T_WARN, F.OCT_TEMP_TEMP]; omega
  have hstands (f : Fld) (hf : f.off = (F.OCT_STAT_WARN n).off) (hlo : f.lo ≠ 1) (h0 : s.rd f = 0) :
      ((s.thermRead n r).wr (F.OCT_STAT_WARN n) 0).on f = false := by
    have hread : (F.OCT_TEMP_TEMP n).key ≠ f.key := by
      simp only [Fld.key, hf, F.OCT_TEMP_TEMP, F.OCT_STAT_WARN]; omega
    have hrd : (s.thermRead n r).rd f = s.rd f := State.rd_wrS_ne _ _ _ _ hread
    rw [State.on, State.rd_wr_ne _ _ _ _ (Fld.key_ne_of_lo hf.symm (Ne.symm hlo)), hrd, h0]
    rfl
  have hzero : b2n false = 0 := rfl
  simp only [State.thermal_eq, hunder (F.OCT_TLIM_T_WARN n) rfl (by simp [F.OCT_TLIM_T_WARN]) hwarn,
    hunder (F.OCT_TLIM_T_DERATE n) rfl (by simp [F.OCT_TLIM_T_DERATE]) hder,
    hunder (F.OCT_TLIM_T_CUT n) rfl (by simp [F.OCT_TLIM_T_CUT]) hcut, State.warnStep, State.derateStep, State.cutStep,
    State.uncutStep, State.coolStep, Bool.false_and, Bool.false_eq_true, if_false, hzero,
    hstands (F.OCT_STAT_CUT_HELD n) rfl (by simp [F.OCT_STAT_CUT_HELD]) hheld,
    hstands (F.OCT_STAT_DERATED n) rfl (by simp [F.OCT_STAT_DERATED]) hderated]

/-- OCT_TEMP shows the mean, in two's complement. -/
theorem State.rd_thermRead_temp (s : State) (n r : Nat) :
    (s.thermRead n r).rd (F.OCT_TEMP_TEMP n) = uBits (F.OCT_TEMP_TEMP n).w (s.thermMean n r) := by
  refine (State.rd_wr_same _ _ _ (by simp [F.OCT_TEMP_TEMP])).trans (Nat.mod_eq_of_lt ?_)
  simp only [uBits, F.OCT_TEMP_TEMP]
  omega

/-! ### Energy scale (R195) -/

theorem State.energyUpdate_spec (s : State) (n v : Nat) :
    (s.energyUpdate n v).rd (F.OCT_VBS_VBS n) = v % 2 ^ 16 ∧
    (s.energyUpdate n v).rd (F.OCT_SCALE_S n) = s.energyScale n (s.rdS (F.OCT_TEMP_TEMP n)) v % 2 ^ 16 ∧
    RegsOnly s (s.energyUpdate n v) [F.OCT_VBS_VBS n, F.OCT_SCALE_S n] := by
  have hkey : (F.OCT_SCALE_S n).key ≠ (F.OCT_VBS_VBS n).key := by
    simp only [Fld.key, F.OCT_SCALE_S, F.OCT_VBS_VBS]; omega
  refine ⟨?_, State.rd_wr_same _ (F.OCT_SCALE_S n) _ (by simp [F.OCT_SCALE_S]), ?_⟩
  · exact (State.rd_wr_ne _ _ _ _ hkey).trans (State.rd_wr_same _ (F.OCT_VBS_VBS n) _ (by simp [F.OCT_VBS_VBS]))
  · exact ((RegsOnly.refl s _).wr _ _ (by simp)).wr _ _ (by simp)

/-! ### Automatic power control (R197, R198) -/

/-- A value clamped lies within its limits, where those are in order. -/
theorem clampI_mem_of_le (lo hi x : Int) (h : lo ≤ hi) : lo ≤ clampI lo hi x ∧ clampI lo hi x ≤ hi := by
  unfold clampI
  split
  · exact ⟨Int.le_refl _, h⟩
  · split <;> omega

theorem State.apcMod_mem (s : State) (b m : Nat)
    (h : s.rd (F.BM_MOD_LIM_MOD_MIN b) ≤ s.rd (F.BM_MOD_LIM_MOD_MAX b)) :
    s.rd (F.BM_MOD_LIM_MOD_MIN b) ≤ s.apcMod b m ∧ s.apcMod b m ≤ s.rd (F.BM_MOD_LIM_MOD_MAX b) := by
  unfold State.apcMod
  extract_lets step d
  obtain ⟨hlo, hhi⟩ := clampI_mem_of_le (s.rd (F.BM_MOD_LIM_MOD_MIN b)) (s.rd (F.BM_MOD_LIM_MOD_MAX b))
    (s.modNow b + d) (by omega)
  omega

theorem State.apcBeam_octet (s : State) (st n : Nat) : s.apcBeam st n / 8 = n := by
  simp only [State.apcBeam]; omega

/-- An enabled octet with its supply emits, while no beam is barred (R190, R191). -/
theorem State.mayEmit_of_enabled (s : State) (b n : Nat) (hb : b / 8 = n) (hen : (s.oct n).enabled = true)
    (hvbs : s.on (F.OCT_STAT_VBS_OK n) = true) (hbar : s.beamsBarred = false) : s.mayEmit b = true := by
  simp [State.mayEmit, State.octOff, hb, hen, hvbs, hbar]

theorem State.apcReady_iff (s : State) (st n b : Nat) (hb : b = s.apcBeam st n) : s.apcReady st n = true ↔
    s.on (F.BM_APC_APC_EN b) = true ∧ s.on (F.ST_SCANCTL_SCAN_EN st) = true ∧ s.on (F.ST_SCANCTL_NOSCAN st) = false ∧
    (s.sc st).tf.isSome = true ∧ s.pllKept st = true ∧ s.excluded st b = false ∧
    s.dropped st (s.emitterOf st b) = false ∧ s.mayEmit b = true := by
  subst hb
  simp only [State.apcReady, Bool.and_eq_true, Bool.not_eq_true', and_assoc]

/-- A pulse that does not fit is left out and counted (R197). -/
theorem State.apcSample_skipped (s : State) (n m st : Nat) (hst : s.stationOf n = some st)
    (hready : s.apcReady st n = true) (hfits : s.apcFits st (s.emitterOf st (s.apcBeam st n)) = false) :
    s.apcSample n m = s.inc (F.OCT_COUNT_APC_SKIP n) := by
  simp [State.apcSample, hst, hready, hfits]

/-- A sample whose MOD stays off its limits: the pulse counts as a run, the measurement is kept, the next line takes
MOD (R197, R198). -/
theorem State.apcSample_taken (s : State) (n m st b : Nat) (hst : s.stationOf n = some st) (hb : b = s.apcBeam st n)
    (hready : s.apcReady st n = true) (hfits : s.apcFits st (s.emitterOf st b) = true)
    (hmin : s.apcMod b m ≠ s.rd (F.BM_MOD_LIM_MOD_MIN b)) (hmax : s.apcMod b m ≠ s.rd (F.BM_MOD_LIM_MOD_MAX b)) :
    s.apcSample n m = ((((s.onRun b (62500 * s.apcUnits n : Nat)).wr (F.BM_MPD_LAST b) m).inc
      (F.BM_MPD_SAMPLES b)).modBeam b (fun x => { x with next := some (s.apcMod b m) })).wr (F.BM_STAT_APC_LIM b) 0 := by
  subst hb
  have hzero : b2n false = 0 := rfl
  simp only [State.apcSample, hst, hready, hfits, hmin, hmax, Bool.not_true, Bool.false_eq_true, or_self, decide_false,
    Bool.false_and, if_false, hzero]

/-! ### The supply of an octet (R190) and OCT_CLR (R213) -/

theorem State.vbsOk_due (s : State) (n v t0 : Nat) (hbsen : (s.oct n).bsenAt = some t0) (hdue : t0 + 1000000 ≤ s.now)
    (hwin : s.vbsIn n v = true) : s.vbsOk n v = (s.wr (F.OCT_STAT_VBS_OK n) 1).wr (F.OCT_VBS_VBS n) v := by
  simp [State.vbsOk, hbsen, hdue, hwin]

theorem State.vbsOk_spec (s : State) (n v t0 : Nat) (hbsen : (s.oct n).bsenAt = some t0) (hdue : t0 + 1000000 ≤ s.now)
    (hwin : s.vbsIn n v = true) :
    (s.vbsOk n v).rd (F.OCT_STAT_VBS_OK n) = 1 ∧ (s.vbsOk n v).rd (F.OCT_VBS_VBS n) = v % 2 ^ 16 ∧
    RegsOnly s (s.vbsOk n v) [F.OCT_STAT_VBS_OK n, F.OCT_VBS_VBS n] := by
  have hkey : (F.OCT_VBS_VBS n).key ≠ (F.OCT_STAT_VBS_OK n).key := by
    simp only [Fld.key, F.OCT_VBS_VBS, F.OCT_STAT_VBS_OK]; omega
  rw [s.vbsOk_due n v t0 hbsen hdue hwin]
  refine ⟨?_, State.rd_wr_same _ (F.OCT_VBS_VBS n) _ (by simp [F.OCT_VBS_VBS]), ?_⟩
  · rw [State.rd_wr_ne _ _ _ _ hkey]
    exact State.rd_wr_same _ (F.OCT_STAT_VBS_OK n) _ (by simp [F.OCT_STAT_VBS_OK])
  · exact ((RegsOnly.refl s _).wr _ _ (by simp)).wr _ _ (by simp)

/-- The state in which OCT_CLR has cleared an octet's counters and WSAT. -/
def State.octCleared (s : State) (n : Nat) : State :=
  ((s.wr (F.OCT_COUNT_WSAT_LINES n) 0).wr (F.OCT_COUNT_APC_SKIP n) 0).wr (F.OCT_STAT_WSAT n) 0

theorem State.octCleared_spec (s : State) (n : Nat) :
    (s.octCleared n).rd (F.OCT_COUNT_WSAT_LINES n) = 0 ∧ (s.octCleared n).rd (F.OCT_COUNT_APC_SKIP n) = 0 ∧
    (s.octCleared n).rd (F.OCT_STAT_WSAT n) = 0 ∧
    RegsOnly s (s.octCleared n) [F.OCT_COUNT_WSAT_LINES n, F.OCT_COUNT_APC_SKIP n, F.OCT_STAT_WSAT n] := by
  have hlines : (F.OCT_STAT_WSAT n).key ≠ (F.OCT_COUNT_WSAT_LINES n).key := by
    simp only [Fld.key, F.OCT_STAT_WSAT, F.OCT_COUNT_WSAT_LINES]; omega
  have hskip : (F.OCT_STAT_WSAT n).key ≠ (F.OCT_COUNT_APC_SKIP n).key := by
    simp only [Fld.key, F.OCT_STAT_WSAT, F.OCT_COUNT_APC_SKIP]; omega
  have hcount : (F.OCT_COUNT_APC_SKIP n).key ≠ (F.OCT_COUNT_WSAT_LINES n).key :=
    Fld.key_ne_of_lo rfl (by simp [F.OCT_COUNT_APC_SKIP, F.OCT_COUNT_WSAT_LINES])
  refine ⟨?_, ?_, ?_, ?_⟩
  · rw [State.octCleared, State.rd_wr_ne _ _ _ _ hlines, State.rd_wr_ne _ _ _ _ hcount]
    exact State.rd_wr_same _ (F.OCT_COUNT_WSAT_LINES n) 0 (by simp [F.OCT_COUNT_WSAT_LINES])
  · rw [State.octCleared, State.rd_wr_ne _ _ _ _ hskip]
    exact State.rd_wr_same _ (F.OCT_COUNT_APC_SKIP n) 0 (by simp [F.OCT_COUNT_APC_SKIP])
  · exact State.rd_wr_same _ (F.OCT_STAT_WSAT n) 0 (by simp [F.OCT_STAT_WSAT])
  · exact (((RegsOnly.refl s _).wr _ _ (by simp)).wr _ _ (by simp)).wr _ _ (by simp)

/-- Settles O35: a sample's two clauses by `State.thermal_bad` and `State.thermal_cool`, every other one by the equation
or the reads of its operation. -/
theorem octets : Obligations.Octets := by
  refine ⟨?_, State.thermal_bad, ?_, ?_, ?_, ?_, State.apcMod_mem, ?_, ?_⟩
  · intro s n r hup
    exact congrArg Host.Outcome.next (State.live_up _ _ hup)
  · rintro s n r t hr rfl hwarn hder hcut hheld hderated
    have htemp : (F.OCT_STAT_WARN n).key ≠ (F.OCT_TEMP_TEMP n).key := by
      simp only [Fld.key, F.OCT_STAT_WARN, F.OCT_TEMP_TEMP]; omega
    rw [s.thermal_cool n r hr hwarn hder hcut hheld hderated, State.rd_wr_ne _ _ _ _ htemp]
    exact ⟨s.rd_thermRead_temp n r, State.rd_wr_same _ (F.OCT_STAT_WARN n) 0 (by simp [F.OCT_STAT_WARN]), rfl, rfl⟩
  · intro s n v hup
    exact ⟨_, congrArg Host.Outcome.next (State.live_up _ _ hup), s.energyUpdate_spec n v⟩
  · intro s n m st hup hst b e hapc hen htf hpll hexcl hdrop henabled hvbs hscan hbar hfits hmin hmax
    have hemit := s.mayEmit_of_enabled b n (s.apcBeam_octet st n) henabled hvbs hbar
    have hready := (s.apcReady_iff st n b rfl).mpr ⟨hapc, hen, hscan, htf, hpll, hexcl, hdrop, hemit⟩
    exact congrArg Host.Outcome.next
      ((State.live_up _ _ hup).trans (s.apcSample_taken n m st b hst rfl hready hfits hmin hmax))
  · intro s n m st hup hst b hapc hen htf hpll hexcl hdrop henabled hvbs hscan hbar hfits
    have hemit := s.mayEmit_of_enabled b n (s.apcBeam_octet st n) henabled hvbs hbar
    have hready := (s.apcReady_iff st n b rfl).mpr ⟨hapc, hen, hscan, htf, hpll, hexcl, hdrop, hemit⟩
    refine ⟨_, congrArg Host.Outcome.next
      ((State.live_up _ _ hup).trans (s.apcSample_skipped n m st hst hready hfits)), ?_, ?_⟩
    · exact State.rd_inc_same _ _ _ (by simp [F.OCT_COUNT_APC_SKIP])
    · exact (RegsOnly.refl s _).wr _ _ (by simp)
  · intro s n v t0 hup hbsen hdue hwin
    exact ⟨_, congrArg Host.Outcome.next (State.live_up _ _ hup), s.vbsOk_spec n v t0 hbsen hdue hwin⟩
  · intro s n hup
    exact ⟨_, congrArg Host.Outcome.next (State.live_up _ _ hup), s.octCleared_spec n⟩

end Sys2Proof.Machine
end

section
/-! The light safety inputs, the beam supply and the safety latch (R208–R210, R214). -/

namespace Sys2Proof.Machine

open Sys2Proof

/-! ### Lines cut by SAFE (R483) -/

/-- Cutting a line moves the scan, the beams and the pages of its station, and of the registers ONMAX alone. -/
theorem State.rd_cutLine (s : State) (st e : Nat) (f : Fld) (honmax : ∀ b, (F.BM_ONMAX_ONMAX b).key ≠ f.key) :
    (s.cutLine st e).rd f = s.rd f := by
  unfold State.cutLine
  extract_lets b u
  have hblank : u.rd f = s.rd f := by
    simp only [u]
    split
    · split
      · rw [State.rd_modSlot, State.rd_modSc]
      · rfl
    · rfl
  rw [State.rd_modBeam, State.onRun, State.rd_wr_ne _ _ _ _ (honmax b), hblank]

theorem State.rd_linesCut (s : State) (f : Fld) (honmax : ∀ b, (F.BM_ONMAX_ONMAX b).key ≠ f.key) :
    s.linesCut.rd f = s.rd f := by
  have hstation (u : State) (st : Nat) : (u.stationOff st).rd f = u.rd f :=
    foldl_keeps (fun u : State => u.rd f) _ (fun u e => u.rd_cutLine st e f honmax) _ u
  refine foldl_keeps (fun u : State => u.rd f) _ (fun u st => ?_) _ s
  simp only
  split
  · split
    · exact hstation u st
    · rw [State.rd_modSlot, hstation u st]
  · exact hstation u st

/-! ### What SAFE leaves of the registers (R208, R214, R483) -/

/-- The fields that SAFE writes beside the octets' VBS_OK. -/
def safeFields : List Fld :=
  [F.VIG_LSAFE_LATCHED, F.FAULT_STAT_SAFE_SRC, F.FAULT_COUNT_SAFES, F.VIG_LSAFE_TRIPS_TRIPS, F.FAULT_STAT_SAFE,
    F.FAULT_STAT_WSTOP]

theorem State.rd_latched (s : State) (src : Nat) (f : Fld) (hleg : f.key < 32 * legOff 0)
    (hsafe : ∀ g ∈ safeFields, g.key ≠ f.key) : (s.latched src).rd f = s.rd f := by
  unfold State.latched
  split
  · rfl
  · rw [State.rd_inc_ne _ _ _ _ (hsafe _ (by simp [safeFields])), State.rd_inc_ne _ _ _ _ (hsafe _ (by simp [safeFields])),
      State.rd_wr_ne _ _ _ _ (hsafe _ (by simp [safeFields])), State.rd_wr_ne _ _ _ _ (hsafe _ (by simp [safeFields])),
      State.rd_legIrq _ _ _ hleg]

/-- The setting of the latch notes its source and counts. -/
theorem State.rd_latched_new (s : State) (src : Nat) (h : s.rd F.VIG_LSAFE_LATCHED = 0) :
    (s.latched src).rd F.FAULT_STAT_SAFE_SRC = src % 2 ^ 4 ∧
    (s.latched src).rd F.VIG_LSAFE_TRIPS_TRIPS = satAdd F.VIG_LSAFE_TRIPS_TRIPS.w (s.rd F.VIG_LSAFE_TRIPS_TRIPS) 1 := by
  have hoff : s.on F.VIG_LSAFE_LATCHED = false := by simp [State.on, h]
  rw [State.latched, if_neg (Bool.eq_false_iff.mp hoff)]
  constructor
  · rw [State.rd_inc_ne _ _ _ _ (by decide), State.rd_inc_ne _ _ _ _ (by decide)]
    exact State.rd_wr_same _ F.FAULT_STAT_SAFE_SRC src (by decide)
  · rw [State.rd_inc_same _ _ _ (by decide), State.rd_inc_ne _ _ _ _ (by decide), State.rd_wr_ne _ _ _ _ (by decide),
      State.rd_wr_ne _ _ _ _ (by decide), State.rd_legIrq _ _ _ (by decide)]

/-- Once the latch is set, SAFE writes SAFE, WSTOP and VBS_OK alone. -/
theorem State.rd_safeStart_of_latched (s : State) (src code : Nat) (f : Fld) (hsafe : F.FAULT_STAT_SAFE.key ≠ f.key)
    (hstop : F.FAULT_STAT_WSTOP.key ≠ f.key) (hvbs : ∀ n, (F.OCT_STAT_VBS_OK n).key ≠ f.key) :
    (s.safeStart src code).rd f = (s.latched src).rd f := by
  rw [State.safeStart_eq, State.rd_modInFlight, State.rd_beamsOff _ _ hvbs, State.rd_wr_ne _ _ _ _ hstop,
    State.rd_wr_ne _ _ _ _ hsafe]

/-- VBS_OK and ONMAX lie above the fields of Vigil and of the fault unit. -/
theorem beamField_key_ne (f : Fld) (h : f.key < (F.BM_ONMAX_ONMAX 0).key) (n : Nat) :
    (F.OCT_STAT_VBS_OK n).key ≠ f.key ∧ (F.BM_ONMAX_ONMAX n).key ≠ f.key := by
  simp only [Fld.key, F.OCT_STAT_VBS_OK, F.BM_ONMAX_ONMAX] at h ⊢; omega

/-- What SAFE does not write, and no line's end, stays. -/
theorem State.rd_toSafe (s : State) (src code : Nat) (f : Fld) (hleg : f.key < 32 * legOff 0)
    (hbeam : ∀ n, (F.OCT_STAT_VBS_OK n).key ≠ f.key ∧ (F.BM_ONMAX_ONMAX n).key ≠ f.key)
    (hsafe : ∀ g ∈ safeFields, g.key ≠ f.key) : (s.toSafe src code).rd f = s.rd f := by
  rw [State.toSafe, State.rd_safeStart_of_latched _ _ _ _ (hsafe _ (by simp [safeFields]))
      (hsafe _ (by simp [safeFields])) (fun n => (hbeam n).1),
    State.rd_latched _ _ _ hleg hsafe, State.rd_linesCut _ _ (fun b => (hbeam b).2)]

theorem State.rd_toSafe_wstop (s : State) (src code : Nat) : (s.toSafe src code).rd F.FAULT_STAT_WSTOP = 1 := by
  rw [State.toSafe, State.safeStart_eq, State.rd_modInFlight,
    State.rd_beamsOff _ _ (fun n => (beamField_key_ne _ (by decide) n).1)]
  exact State.rd_wr_same _ F.FAULT_STAT_WSTOP 1 (by decide)

/-- SAFE that begins notes its source, and TRIPS counts it (R214). -/
theorem State.rd_toSafe_new (s : State) (src code : Nat) (h : s.rd F.VIG_LSAFE_LATCHED = 0) :
    (s.toSafe src code).rd F.FAULT_STAT_SAFE_SRC = src % 2 ^ 4 ∧
    (s.toSafe src code).rd F.VIG_LSAFE_TRIPS_TRIPS =
      satAdd F.VIG_LSAFE_TRIPS_TRIPS.w (s.rd F.VIG_LSAFE_TRIPS_TRIPS) 1 := by
  have hkept (f : Fld) (hbeam : f.key < (F.BM_ONMAX_ONMAX 0).key) : s.linesCut.rd f = s.rd f :=
    State.rd_linesCut _ _ (fun b => (beamField_key_ne f hbeam b).2)
  obtain ⟨hsrc, htrips⟩ := s.linesCut.rd_latched_new src ((hkept _ (by decide)).trans h)
  rw [State.toSafe, State.rd_safeStart_of_latched _ _ _ _ (by decide) (by decide)
      (fun n => (beamField_key_ne _ (by decide) n).1),
    State.rd_safeStart_of_latched _ _ _ _ (by decide) (by decide) (fun n => (beamField_key_ne _ (by decide) n).1),
    ← hkept F.VIG_LSAFE_TRIPS_TRIPS (by decide)]
  exact ⟨hsrc, htrips⟩

/-- SAFE in force. -/
theorem State.toSafe_spec (s : State) (src code : Nat) :
    (s.toSafe src code).rd F.FAULT_STAT_SAFE = 1 ∧ (s.toSafe src code).rd F.VIG_LSAFE_LATCHED ≠ 0 ∧
    (∀ b ∈ (s.toSafe src code).beams, b.pulses = []) ∧
    (∀ n : Fin 16, (s.toSafe src code).rd (F.OCT_STAT_VBS_OK n) = 0) :=
  s.linesCut.safeStart_spec src code

/-! ### The interlock inputs (R208, R214) -/

/-- The field that shows an LSAFE input low. -/
def lowFld (b : Bool) : Fld := if b then F.VIG_LSAFE_B_LOW else F.VIG_LSAFE_A_LOW

/-- The state in which a filtered low of an LSAFE input shows and is reported, before SAFE begins. -/
def State.lowSeen (s : State) (b : Bool) : State :=
  let u : State := { s.wr (lowFld b) 1 with lsafe := { s.lsafe with changed := s.now } }
  u.post 4 0x3260 15 (if b then 0x201 else 0x200) [(0, 1, u.rd F.VIG_LSAFE_A_LOW), (1, 1, u.rd F.VIG_LSAFE_B_LOW)]

theorem State.lsafeTrip_eq (s : State) (b : Bool) : s.lsafeTrip b = (s.lowSeen b).toSafe 1 0x3260 := by
  cases b <;> rfl

theorem State.rd_lowSeen (s : State) (b : Bool) (f : Fld) (hleg : f.key < 32 * legOff 0)
    (hdrop : F.EVT_DROPPED_DROPPED.key ≠ f.key) : (s.lowSeen b).rd f = (s.wr (lowFld b) 1).rd f :=
  State.rd_post_below_hard _ _ _ _ _ _ _ _ (by decide) hleg hdrop

/-- An input that goes low sets the latch (R208). -/
theorem State.lsafeTrip_spec (s : State) (b : Bool) :
    (s.lsafeTrip b).rd (lowFld b) = 1 ∧ (s.lsafeTrip b).rd F.VIG_LSAFE_LATCHED ≠ 0 ∧
    (s.lsafeTrip b).rd F.FAULT_STAT_SAFE = 1 ∧ (s.lsafeTrip b).rd F.FAULT_STAT_WSTOP = 1 ∧
    (s.rd F.VIG_LSAFE_LATCHED = 0 → (s.lsafeTrip b).rd F.FAULT_STAT_SAFE_SRC = 1 ∧
      (s.lsafeTrip b).rd F.VIG_LSAFE_TRIPS_TRIPS =
        satAdd F.VIG_LSAFE_TRIPS_TRIPS.w (s.rd F.VIG_LSAFE_TRIPS_TRIPS) 1) ∧
    (∀ x ∈ (s.lsafeTrip b).beams, x.pulses = []) ∧
    (∀ n : Fin 16, (s.lsafeTrip b).rd (F.OCT_STAT_VBS_OK n) = 0) := by
  have hlow : (s.lowSeen b).rd (lowFld b) = 1 := by
    rw [State.rd_lowSeen _ _ _ (by cases b <;> decide) (by cases b <;> decide)]
    exact State.rd_wr_b2n s (lowFld b) true (by cases b <;> rfl)
  have hkept (f : Fld) (hleg : f.key < 32 * legOff 0) (hdrop : F.EVT_DROPPED_DROPPED.key ≠ f.key)
      (hf : ∀ b, (lowFld b).key ≠ f.key) : (s.lowSeen b).rd f = s.rd f :=
    (State.rd_lowSeen _ _ _ hleg hdrop).trans (State.rd_wr_ne _ _ _ _ (hf b))
  obtain ⟨hsafe, hlatched, hpulses, hvbs⟩ := (s.lowSeen b).toSafe_spec 1 0x3260
  rw [State.lsafeTrip_eq]
  refine ⟨?_, hlatched, hsafe, State.rd_toSafe_wstop _ _ _, fun hclear => ?_, hpulses, hvbs⟩
  · rw [State.rd_toSafe _ _ _ _ (by cases b <;> decide) (beamField_key_ne _ (by cases b <;> decide))
      (by cases b <;> decide), hlow]
  · obtain ⟨hsrc, htrips⟩ := (s.lowSeen b).rd_toSafe_new 1 0x3260
      ((hkept _ (by decide) (by decide) (by decide)).trans hclear)
    rw [hkept F.VIG_LSAFE_TRIPS_TRIPS (by decide) (by decide) (by decide)] at htrips
    exact ⟨hsrc, htrips⟩

/-- A rise of an input that was low (R214). -/
theorem State.lsafeHigh_low (s : State) (b : Bool) (h : s.on (lowFld b) = true) :
    s.lsafeHigh b = { s.wr (lowFld b) 0 with
      lsafe := if b then { s.lsafe with bHigh := s.now, changed := s.now }
        else { s.lsafe with aHigh := s.now, changed := s.now } } := by
  have hnot : ¬ (!s.on (lowFld b)) = true := by simp [h]
  cases b <;> exact if_neg hnot

/-! ### The beam supply (R209, R215) -/

/-- The state in which a beam-supply fault is shown and reported, before SAFE begins. -/
def State.supplyBad (s : State) (n v : Nat) : State :=
  ((s.wr (F.OCT_VBS_VBS n) v).wr F.VIG_LSAFE_SUPPLY_FAULT 1).post 4 0x3250 6 (0x100 + n)
    [(0, 1, if v < s.rd (F.OCT_VBS_WIN_VBS_MIN n) then 0 else 1), (1, 2, v)]

theorem State.supplyFault_due (s : State) (n v : Nat) (hbsen : (s.oct n).bsenAt.isSome = true)
    (hok : s.on (F.OCT_STAT_VBS_OK n) = true) (hwin : s.vbsIn n v = false) :
    s.supplyFault n v = (s.supplyBad n v).toSafe 2 0x3250 := by
  simp only [State.supplyFault, hbsen, hok, hwin, Bool.not_false, Bool.and_self, if_true]
  rfl

/-- VBS lies above EVT_DROPPED and below the legacy registers, and SAFE does not write it. -/
theorem vbs_key (n : Fin 16) :
    (F.OCT_VBS_VBS n).key < 32 * legOff 0 ∧ F.EVT_DROPPED_DROPPED.key ≠ (F.OCT_VBS_VBS n).key ∧
    (∀ k, (F.OCT_STAT_VBS_OK k).key ≠ (F.OCT_VBS_VBS n).key ∧ (F.BM_ONMAX_ONMAX k).key ≠ (F.OCT_VBS_VBS n).key) ∧
    ∀ g ∈ safeFields, g.key ≠ (F.OCT_VBS_VBS n).key := by
  have hsafe : ∀ g ∈ safeFields, g.key < (F.OCT_VBS_VBS 0).key := by decide
  refine ⟨?_, ?_, fun k => ?_, fun g hg => ?_⟩
  · simp only [Fld.key, F.OCT_VBS_VBS, legOff]; omega
  · simp only [Fld.key, F.EVT_DROPPED_DROPPED, F.OCT_VBS_VBS]; omega
  · simp only [Fld.key, F.OCT_STAT_VBS_OK, F.BM_ONMAX_ONMAX, F.OCT_VBS_VBS]; omega
  · have hlt := hsafe g hg
    simp only [Fld.key, F.OCT_VBS_VBS] at hlt ⊢; omega

theorem State.rd_supplyBad (s : State) (n : Fin 16) (v : Nat) :
    (s.supplyBad n v).rd F.VIG_LSAFE_SUPPLY_FAULT = 1 ∧ (s.supplyBad n v).rd (F.OCT_VBS_VBS n) = v % 2 ^ 16 := by
  have hfault : F.VIG_LSAFE_SUPPLY_FAULT.key ≠ (F.OCT_VBS_VBS n).key := by
    simp only [Fld.key, F.VIG_LSAFE_SUPPLY_FAULT, F.OCT_VBS_VBS]; omega
  obtain ⟨hleg, hdrop, -, -⟩ := vbs_key n
  constructor
  · rw [State.supplyBad, State.rd_post_below_hard _ _ _ _ _ _ _ _ (by decide) (by decide) (by decide)]
    exact State.rd_wr_same _ F.VIG_LSAFE_SUPPLY_FAULT 1 (by decide)
  · rw [State.supplyBad, State.rd_post_below_hard _ _ _ _ _ _ _ _ (by decide) hleg hdrop, State.rd_wr_ne _ _ _ _ hfault]
    exact State.rd_wr_same _ (F.OCT_VBS_VBS n) v (by simp [F.OCT_VBS_VBS])

/-- A beam supply out of its window sets the latch (R209). -/
theorem State.supplyFault_spec (s : State) (n : Fin 16) (v : Nat) (hbsen : (s.oct n).bsenAt.isSome = true)
    (hok : s.on (F.OCT_STAT_VBS_OK n) = true) (hwin : s.vbsIn n v = false) :
    (s.supplyFault n v).rd F.VIG_LSAFE_SUPPLY_FAULT = 1 ∧ (s.supplyFault n v).rd F.FAULT_STAT_SAFE = 1 ∧
    (s.supplyFault n v).rd (F.OCT_VBS_VBS n) = v % 2 ^ 16 ∧ (s.supplyFault n v).rd F.VIG_LSAFE_LATCHED ≠ 0 ∧
    ∀ x ∈ (s.supplyFault n v).beams, x.pulses = [] := by
  obtain ⟨hfault, hv⟩ := s.rd_supplyBad n v
  obtain ⟨hsafe, hlatched, hpulses, -⟩ := (s.supplyBad n v).toSafe_spec 2 0x3250
  obtain ⟨hleg, -, hbeam, hne⟩ := vbs_key n
  rw [s.supplyFault_due n v hbsen hok hwin]
  refine ⟨?_, hsafe, ?_, hlatched, hpulses⟩
  · rw [State.rd_toSafe _ _ _ _ (by decide) (beamField_key_ne _ (by decide)) (by decide), hfault]
  · rw [State.rd_toSafe _ _ _ _ hleg hbeam hne, hv]

/-! ### Disagreement (R210) -/

theorem State.disagree_due (s : State) (hdiff : s.lsafeDiffer = true) (hoff : s.on F.VIG_LSAFE_DISAGREE = false)
    (hdue : s.lsafe.changed + 50000000 < s.now) :
    s.disagree = (s.wr F.VIG_LSAFE_DISAGREE 1).post 1 0x3261 15 0x200
      [(0, 1, s.rd F.VIG_LSAFE_A_LOW), (1, 1, s.rd F.VIG_LSAFE_B_LOW)] := by
  simp only [State.disagree, hdiff, hoff, hdue, Bool.not_false, decide_true, Bool.and_self, if_true]

/-! ### The clear of the latch (R210, R214, R483) -/

theorem State.lsafeClr_refused (s : State) (k : Nat) (h : s.lsafeRefusal = some k) :
    s.lsafeClr = s.post 0 0x3262 15 0x200 [(0, 1, k)] := by
  simp only [State.lsafeClr, h]

/-- A clear is accepted with both inputs high for 10 ms, no disagreement and no cut that failed. -/
theorem State.lsafeRefusal_none (s : State) (h : s.lsafeRefusal = none) :
    s.rd F.VIG_LSAFE_A_LOW = 0 ∧ s.rd F.VIG_LSAFE_B_LOW = 0 ∧ s.rd F.VIG_LSAFE_DISAGREE = 0 ∧
    s.lsafe.aHigh + 10000000 ≤ s.now ∧ s.lsafe.bHigh + 10000000 ≤ s.now ∧
    ∀ b : Fin 128, s.rd (F.BM_STAT_CUT_FAIL b) = 0 := by
  have hstep {c : Prop} [Decidable c] {k : Nat} {o : Option Nat} (hnone : (if c then some k else o) = none) :
      ¬c ∧ o = none := by
    by_cases hc : c
    · rw [if_pos hc] at hnone; cases hnone
    · rw [if_neg hc] at hnone; exact ⟨hc, hnone⟩
  have hzero {f : Fld} (hoff : ¬s.on f = true) : s.rd f = 0 := by
    simp only [State.on, bne_iff_ne, ne_eq, Classical.not_not] at hoff
    exact hoff
  unfold State.lsafeRefusal at h
  obtain ⟨hlow, h⟩ := hstep h
  obtain ⟨hsoon, h⟩ := hstep h
  obtain ⟨hdiffer, h⟩ := hstep h
  obtain ⟨hcut, -⟩ := hstep h
  rw [Bool.or_eq_true, not_or] at hlow
  obtain ⟨ha, hb⟩ := hlow
  refine ⟨hzero ha, hzero hb, hzero hdiffer, by omega, by omega, fun b => hzero (fun hfail => hcut ?_)⟩
  exact List.any_eq_true.mpr ⟨b, List.mem_range.mpr b.isLt, hfail⟩

/-- The state in which the latch is clear and SAFE has ended, before that is reported. -/
def State.safeEnded (s : State) : State :=
  ((((s.wr F.VIG_LSAFE_LATCHED 0).wr F.VIG_LSAFE_SUPPLY_FAULT 0).wr F.FAULT_STAT_SAFE 0).wr F.FAULT_STAT_SAFE_SRC 0).wr
    F.FAULT_STAT_WSTOP (s.rd F.FAULT_STAT_FRAME_STOP)

/-- The registers as SAFE ends: the web stop stays where a frame stop holds it (R481). -/
theorem State.rd_safeEnded (s : State) :
    s.safeEnded.rd F.VIG_LSAFE_LATCHED = 0 ∧ s.safeEnded.rd F.VIG_LSAFE_SUPPLY_FAULT = 0 ∧
    s.safeEnded.rd F.FAULT_STAT_SAFE = 0 ∧ s.safeEnded.rd F.FAULT_STAT_SAFE_SRC = 0 ∧
    s.safeEnded.rd F.FAULT_STAT_WSTOP = s.rd F.FAULT_STAT_FRAME_STOP % 2 := by
  simp (disch := decide) only [State.safeEnded, State.rd_wr_ne]
  exact ⟨State.rd_wr_same _ F.VIG_LSAFE_LATCHED 0 (by decide), State.rd_wr_same _ F.VIG_LSAFE_SUPPLY_FAULT 0 (by decide),
    State.rd_wr_same _ F.FAULT_STAT_SAFE 0 (by decide), State.rd_wr_same _ F.FAULT_STAT_SAFE_SRC 0 (by decide),
    State.rd_wr_same _ F.FAULT_STAT_WSTOP _ (by decide)⟩

theorem State.lsafeClr_accepted (s : State) (h : s.lsafeRefusal = none) (hon : s.on F.VIG_LSAFE_LATCHED = true) :
    s.lsafeClr = (s.safeEnded.post 0 0x9072 1 0 [(0, 1, s.rd F.FAULT_STAT_SAFE_SRC)]).syncOcts := by
  have hstop : ((((s.wr F.VIG_LSAFE_LATCHED 0).wr F.VIG_LSAFE_SUPPLY_FAULT 0).wr F.FAULT_STAT_SAFE 0)).rd
      F.FAULT_STAT_FRAME_STOP = s.rd F.FAULT_STAT_FRAME_STOP := by
    simp (disch := decide) only [State.rd_wr_ne]
  simp only [State.lsafeClr, h, hon, if_true, hstop]
  rfl

/-- What an octet does when its supply may come or go (R190, R191) moves the octets and VBS_OK alone. -/
theorem State.syncOct_keeps {β : Type} (p : State → β) (hoct : ∀ s n g, p (State.modOct s n g) = p s)
    (hvbs : ∀ s n v, p (State.wr s (F.OCT_STAT_VBS_OK n) v) = p s) (s : State) (n : Nat) : p (s.syncOct n) = p s := by
  have hdrop (u : State) : p (u.dropBsen n) = p u := (hvbs _ _ _).trans (hoct _ _ _)
  unfold State.syncOct
  split
  · extract_lets u
    have hu : p u = p s := by
      simp only [u]
      split
      · exact hoct _ _ _
      · rfl
    split
    · exact (hoct _ _ _).trans hu
    · exact hu
  · split
    · exact hdrop s
    · extract_lets was u scanning
      have hu : p u = p s := hoct _ _ _
      split
      · exact hu
      · exact (hdrop u).trans hu

theorem State.syncOcts_keeps {β : Type} (p : State → β) (hoct : ∀ s n g, p (State.modOct s n g) = p s)
    (hvbs : ∀ s n v, p (State.wr s (F.OCT_STAT_VBS_OK n) v) = p s) (s : State) : p s.syncOcts = p s :=
  foldl_keeps p _ (State.syncOct_keeps p hoct hvbs) _ s

/-- The latch clears, SAFE ends (R210, R483). -/
theorem State.lsafeClr_spec (s : State) (h : s.lsafeRefusal = none) (hon : s.on F.VIG_LSAFE_LATCHED = true) :
    s.lsafeClr.rd F.VIG_LSAFE_LATCHED = 0 ∧ s.lsafeClr.rd F.VIG_LSAFE_SUPPLY_FAULT = 0 ∧
    s.lsafeClr.rd F.FAULT_STAT_SAFE = 0 ∧ s.lsafeClr.rd F.FAULT_STAT_SAFE_SRC = 0 ∧
    s.lsafeClr.rd F.FAULT_STAT_WSTOP = s.rd F.FAULT_STAT_FRAME_STOP % 2 ∧ s.lsafeClr.alm = s.alm := by
  have hrd (f : Fld) (hbeam : f.key < (F.BM_ONMAX_ONMAX 0).key) (hleg : f.key < 32 * legOff 0)
      (hdrop : F.EVT_DROPPED_DROPPED.key ≠ f.key) : s.lsafeClr.rd f = s.safeEnded.rd f := by
    rw [s.lsafeClr_accepted h hon, State.syncOcts_keeps (fun u : State => u.rd f) (fun _ _ _ => State.rd_modOct _ _ _ _)
      (fun _ n _ => State.rd_wr_ne _ _ _ _ (beamField_key_ne f hbeam n).1)]
    exact State.rd_post_below_hard _ _ _ _ _ _ _ _ (by decide) hleg hdrop
  have halm : s.lsafeClr.alm = s.alm := by
    rw [s.lsafeClr_accepted h hon, State.syncOcts_keeps State.alm (fun _ _ _ => rfl) (fun _ _ _ => rfl),
      State.post_alm _ _ _ _ _ _ _ (by decide)]
    rfl
  simp (disch := decide) only [hrd, halm, and_true]
  exact s.rd_safeEnded

/-- Settles O37: a trip and a supply fault by what SAFE writes, the rest by the branches of the inputs' rise, of the
disagreement and of the clear. -/
theorem safetyLatch : Obligations.SafetyLatch := by
  refine ⟨?_, ?_, ?_, ?_, ?_, ?_, ?_, State.lsafeRefusal_none⟩
  · intro s b hup hhigh
    have htrips : ¬ s.on (lowFld b) = true := Bool.eq_false_iff.mp hhigh
    exact ⟨_, congrArg Host.Outcome.next ((State.live_up _ _ hup).trans (if_neg htrips)), s.lsafeTrip_spec b⟩
  · intro s b hup hlow
    refine ⟨_, congrArg Host.Outcome.next ((State.live_up _ _ hup).trans (s.lsafeHigh_low b hlow)), ?_, ?_, ?_, ?_⟩
    · exact State.rd_wr_b2n s (lowFld b) false (by cases b <;> rfl)
    · cases b <;> rfl
    · cases b <;> rfl
    · exact (RegsOnly.refl _ _).wr _ 0 (List.mem_singleton.mpr rfl)
  · intro s n v hup hbsen hok hwin
    exact ⟨_, congrArg Host.Outcome.next (State.live_up _ _ hup), s.supplyFault_spec n v hbsen hok hwin⟩
  · intro s hup hdiff hoff hdue
    exact congrArg Host.Outcome.next ((State.live_up _ _ hup).trans (s.disagree_due hdiff hoff hdue))
  · intro s hup hagree hdue
    have hclears : (!s.lsafeDiffer && decide (s.lsafe.changed + 10000000 ≤ s.now)) = true := by simp [hagree, hdue]
    exact ⟨_, congrArg Host.Outcome.next ((State.live_up _ _ hup).trans (if_pos hclears)),
      State.rd_wr_same _ F.VIG_LSAFE_DISAGREE 0 (by decide), (RegsOnly.refl s _).wr _ 0 (List.mem_singleton.mpr rfl)⟩
  · intro s k hup hrefused
    exact congrArg Host.Outcome.next ((State.live_up _ _ hup).trans (s.lsafeClr_refused k hrefused))
  · intro s hup hnone hon
    exact ⟨_, congrArg Host.Outcome.next (State.live_up _ _ hup), s.lsafeClr_spec hnone hon⟩

end Sys2Proof.Machine
end

section
/-! Roll call: a window's close, a call met or missed, drops, restores and the clear of the counters (R220–R222, R228,
R230). -/

namespace Sys2Proof.Machine

open Sys2Proof

/-! ### Bits of a mask -/

theorem testBit_setBit_same (m i : Nat) : (setBit m i).testBit i = true := by
  simp [setBit]

theorem testBit_clrBit_same (m i : Nat) : (clrBit m i).testBit i = false := by
  unfold clrBit
  split
  next h =>
    have hodd : m / 2 ^ i % 2 = 1 := by simpa [Nat.testBit_eq_decide_div_mod_eq] using h
    have hdiv : (m - 2 ^ i) / 2 ^ i = m / 2 ^ i - 1 := by simpa using Nat.sub_mul_div m (2 ^ i) 1
    rw [Nat.testBit_eq_decide_div_mod_eq, hdiv]
    exact decide_eq_false (by omega)
  next h => exact Bool.eq_false_iff.mpr h

theorem bitsOf_two_pow (e : Fin 32) : bitsOf 32 (2 ^ e.val) = [e.val] := by
  revert e; decide

/-! ### Where the fields of roll call lie -/

/-- OCT_MASK has 16 bits, so every emitter is one of the 128 beams. -/
theorem State.beamOf_lt (s : State) (st e : Nat) : s.beamOf st e < 128 := by
  have hoct (k : Nat) : (s.octetsOf st).getD k 0 < 16 := by
    rw [List.getD_eq_getElem?_getD]
    rcases h : (s.octetsOf st)[k]? with _ | n
    · exact Nat.zero_lt_succ _
    · exact List.mem_range.mp (List.mem_filter.mp (List.mem_of_getElem? h)).1
  unfold State.beamOf
  extract_lets k
  have hlt := hoct (k / 8)
  omega

/-- The numbering of the emitters looks at OCT_MASK and REVERSE alone. -/
theorem State.beamOf_congr {s t : State} (st e : Nat)
    (hmask : t.rd (F.ST_OCTETS_OCT_MASK st) = s.rd (F.ST_OCTETS_OCT_MASK st))
    (hrev : t.rd (F.ST_LMAP_REVERSE st) = s.rd (F.ST_LMAP_REVERSE st)) : t.beamOf st e = s.beamOf st e := by
  unfold State.beamOf State.beamCount State.octetsOf State.on
  rw [hmask, hrev]

/-- The stations' fields lie below the beams'. -/
theorem beamRoll_key_ne (b : Nat) (f : Fld) (h : f.key < (F.BM_ONMAX_ONMAX 0).key) :
    (F.BM_ROLL_MISS_RUN b).key ≠ f.key ∧ (F.BM_ROLL_REJOINS b).key ≠ f.key := by
  simp only [Fld.key, F.BM_ONMAX_ONMAX, F.BM_ROLL_MISS_RUN, F.BM_ROLL_REJOINS] at h ⊢; omega

/-- The registers of roll call of a station lie above EVT_DROPPED and below the beams. -/
theorem stationRoll_key (st : Nat) (hst : st < 8) (f : Fld)
    (hf : f ∈ [F.ST_DROP_MAP_DROPPED st, F.ST_RESTORE_PEND_PEND st]) :
    f.key < (F.BM_ONMAX_ONMAX 0).key ∧ f.key < 32 * legOff 0 ∧ F.EVT_DROPPED_DROPPED.key ≠ f.key ∧
    (F.ST_ROLL_STAT_DROPS st).key ≠ f.key ∧ (F.ST_ROLL_MISSES_MISSES st).key ≠ f.key ∧
    (F.ST_HALF_LINES_HALF st).key ≠ f.key := by
  simp only [List.mem_cons, List.not_mem_nil, or_false] at hf
  rcases hf with rfl | rfl
  all_goals
    simp only [Fld.key, F.ST_DROP_MAP_DROPPED, F.ST_RESTORE_PEND_PEND, F.BM_ONMAX_ONMAX, legOff, F.EVT_DROPPED_DROPPED,
      F.ST_ROLL_STAT_DROPS, F.ST_ROLL_MISSES_MISSES, F.ST_HALF_LINES_HALF]
    omega

/-- MISS_RUN of a beam lies above EVT_DROPPED and the stations, below the legacy registers. -/
theorem missRun_key (b : Nat) (hb : b < 128) :
    (F.BM_ROLL_MISS_RUN b).key < 32 * legOff 0 ∧ F.EVT_DROPPED_DROPPED.key ≠ (F.BM_ROLL_MISS_RUN b).key := by
  simp only [Fld.key, F.BM_ROLL_MISS_RUN, legOff, F.EVT_DROPPED_DROPPED]; omega

/-! ### A call met (R221, R229) -/

/-- A call met while a restore is pending changes no register. -/
theorem State.rd_restoreCall_present (s : State) (st e : Nat) (f : Fld) : (s.restoreCall st e true).rd f = s.rd f := by
  unfold State.restoreCall
  split
  · rfl
  · simp

/-- The state in which a call met is entered in BM_ROLL. -/
def State.callMet (s : State) (st e : Nat) (g : Edge) : State :=
  let u := s.wr (F.BM_ROLL_MISS_RUN (s.beamOf st e)) 0
  let u := u.wrS (F.BM_ROLL_ADEV (s.beamOf st e)) (clampI (-32768) 32767 (g.t - u.crossing st e))
  if u.dropped st e then u.inc (F.BM_ROLL_REJOINS (s.beamOf st e)) else u

theorem State.oneCall_met (s : State) (st e : Nat) (g : Edge) (h : (s.sc st).edges.find? (fun g => g.e = e) = some g) :
    s.oneCall st e = (s.callMet st e g).restoreCall st e true := by
  simp only [State.oneCall, h]
  rfl

theorem State.rd_callMet_missRun (s : State) (st e : Nat) (g : Edge) :
    (s.callMet st e g).rd (F.BM_ROLL_MISS_RUN (s.beamOf st e)) = 0 := by
  generalize hb : s.beamOf st e = b
  have hadev : (F.BM_ROLL_ADEV b).key ≠ (F.BM_ROLL_MISS_RUN b).key :=
    Fld.key_ne_of_lo rfl (by simp [F.BM_ROLL_ADEV, F.BM_ROLL_MISS_RUN])
  have hrejoin : (F.BM_ROLL_REJOINS b).key ≠ (F.BM_ROLL_MISS_RUN b).key :=
    Fld.key_ne_of_lo rfl (by simp [F.BM_ROLL_REJOINS, F.BM_ROLL_MISS_RUN])
  have hzero : (s.wr (F.BM_ROLL_MISS_RUN b) 0).rd (F.BM_ROLL_MISS_RUN b) = 0 :=
    State.rd_wr_same _ (F.BM_ROLL_MISS_RUN b) 0 (by simp [F.BM_ROLL_MISS_RUN])
  unfold State.callMet
  rw [hb]
  extract_lets u v
  have hv : v.rd (F.BM_ROLL_MISS_RUN b) = 0 := (State.rd_wrS_ne _ _ _ _ hadev).trans hzero
  split
  · exact (State.rd_inc_ne _ _ _ _ hrejoin).trans hv
  · exact hv

/-! ### A call missed (R221) -/

/-- The length of the run of missed calls that a call missed now ends. -/
def State.missNext (s : State) (st e : Nat) : Nat := min 2 (s.rd (F.BM_ROLL_MISS_RUN (s.beamOf st e)) + 1)

/-- What a first missing call notes of the page on the station (R226, R227). -/
def State.missHere (s : State) (st e : Nat) : List Miss :=
  match s.slotOn st with
  | some p => [⟨e, p, (s.slot p).pageId, (s.sc st).fno, (s.lineUnder st p e).isSome⟩]
  | none => []

/-- The state in which a missed call is counted, before it makes a drop. -/
def State.callMissed (s : State) (st e : Nat) : State :=
  let u := s.onRun (s.beamOf st e) (if s.mayEmit (s.beamOf st e) then s.rollRun st e (s.windowClose st) else 0)
  let u := if s.missNext st e = 1 then u.modSc st (fun c => { c with
    missPage := u.missHere st e ++ c.missPage.filter (fun x => x.e != e) }) else u
  (u.inc (F.ST_ROLL_MISSES_MISSES st)).wr (F.BM_ROLL_MISS_RUN (s.beamOf st e)) (s.missNext st e)

/-- A missed call of an emitter that is no drop makes it one the second time in a row. -/
theorem State.oneCall_missed (s : State) (st e : Nat) (h : (s.sc st).edges.find? (fun g => g.e = e) = none) :
    s.oneCall st e = if (s.callMissed st e).dropped st e then (s.callMissed st e).restoreCall st e false
      else if s.missNext st e = 2 then
        ((s.callMissed st e).dropEmitter st e ((s.callMissed st e).phase st = 2)).halfAtDrop st e
      else s.callMissed st e := by
  simp only [State.oneCall, h]
  rfl

theorem State.rd_callMissed_missRun (s : State) (st e : Nat) :
    (s.callMissed st e).rd (F.BM_ROLL_MISS_RUN (s.beamOf st e)) = s.missNext st e := by
  have hrun : s.missNext st e < 2 ^ 2 := Nat.lt_of_le_of_lt (Nat.min_le_left _ _) (by decide)
  exact (State.rd_wr_same _ (F.BM_ROLL_MISS_RUN (s.beamOf st e)) _ (by simp [F.BM_ROLL_MISS_RUN])).trans
    (Nat.mod_eq_of_lt hrun)

theorem State.callMissed_host (s : State) (st e : Nat) : (s.callMissed st e).host = s.host := by
  unfold State.callMissed
  extract_lets u v
  change v.host = s.host
  simp only [v]
  split <;> rfl

/-- A missed call leaves the drop map as it stands. -/
theorem State.dropped_callMissed (s : State) (st e k : Nat) (hst : st < 8) :
    (s.callMissed st e).dropped st k = s.dropped st k := by
  obtain ⟨hbeam, -, -, -, hmisses, -⟩ := stationRoll_key st hst (F.ST_DROP_MAP_DROPPED st) (by simp)
  obtain ⟨hrun, -⟩ := beamRoll_key_ne (s.beamOf st e) _ hbeam
  have hrd : (s.callMissed st e).rd (F.ST_DROP_MAP_DROPPED st) = s.rd (F.ST_DROP_MAP_DROPPED st) := by
    unfold State.callMissed
    extract_lets u v
    have hv : v.rd (F.ST_DROP_MAP_DROPPED st) = s.rd (F.ST_DROP_MAP_DROPPED st) := by
      rw [← State.rd_wr_ne s _ _ _ (onmax_key_ne (s.beamOf st e) _ hbeam)]
      simp only [v]
      split <;> rfl
    rw [State.rd_wr_ne _ _ _ _ hrun, State.rd_inc_ne _ _ _ _ hmisses, hv]
  simp only [State.dropped, hrd]

/-! ### A drop (R222) -/

theorem State.rd_flagMissed (s : State) (st e : Nat) (f : Fld) : (s.flagMissed st e).rd f = s.rd f := by
  unfold State.flagMissed
  split
  · extract_lets p
    split
    · exact State.rd_modSlot _ _ _ _
    · rfl
  · rfl

theorem State.rd_halfAtDrop (s : State) (st e : Nat) (f : Fld) (h : (F.ST_HALF_LINES_HALF st).key ≠ f.key) :
    (s.halfAtDrop st e).rd f = s.rd f := by
  unfold State.halfAtDrop
  split
  · split
    · exact State.rd_inc_ne _ _ _ _ h
    · rfl
  · rfl

/-- A drop is latched in the drop map, whatever event and page it reaches. -/
theorem State.rd_dropEmitter_map (s : State) (st e : Nat) (search : Bool) (hst : st < 8) :
    (s.dropEmitter st e search).rd (F.ST_DROP_MAP_DROPPED st) =
      setBit (s.rd (F.ST_DROP_MAP_DROPPED st)) e % 2 ^ 32 := by
  obtain ⟨-, hleg, hdrop, hdrops, -, -⟩ := stationRoll_key st hst (F.ST_DROP_MAP_DROPPED st) (by simp)
  unfold State.dropEmitter
  extract_lets b map latched noted posted flagged
  have hflagged : flagged.rd (F.ST_DROP_MAP_DROPPED st) = map % 2 ^ 32 :=
    calc flagged.rd (F.ST_DROP_MAP_DROPPED st) = posted.rd (F.ST_DROP_MAP_DROPPED st) := State.rd_flagMissed _ _ _ _
      _ = noted.rd (F.ST_DROP_MAP_DROPPED st) := State.rd_post_below_hard _ _ _ _ _ _ _ _ (by decide) hleg hdrop
      _ = (s.wr (F.ST_DROP_MAP_DROPPED st) map).rd (F.ST_DROP_MAP_DROPPED st) := State.rd_wr_ne _ _ _ _ hdrops
      _ = map % 2 ^ 32 := State.rd_wr_same _ (F.ST_DROP_MAP_DROPPED st) map (by simp [F.ST_DROP_MAP_DROPPED])
  split
  · exact (State.rd_modSlot _ _ _ _).trans hflagged
  · exact (State.rd_modSc _ _ _ _).trans hflagged

/-- A first missed call makes no drop, a second one does. -/
theorem State.oneCall_missed_spec (s : State) (st e : Nat) (hst : st < 8) (he : e < 32)
    (hnone : (s.sc st).edges.find? (fun g => g.e = e) = none) (hkept : s.dropped st e = false) :
    (s.rd (F.BM_ROLL_MISS_RUN (s.beamOf st e)) = 0 → (s.oneCall st e).dropped st e = false ∧
      (s.oneCall st e).rd (F.BM_ROLL_MISS_RUN (s.beamOf st e)) = 1 ∧ (s.oneCall st e).host = s.host) ∧
    (s.rd (F.BM_ROLL_MISS_RUN (s.beamOf st e)) = 1 → (s.oneCall st e).dropped st e = true) := by
  have hmissed : (s.callMissed st e).dropped st e = false := (s.dropped_callMissed st e e hst).trans hkept
  rw [s.oneCall_missed st e hnone, if_neg (Bool.eq_false_iff.mp hmissed)]
  constructor
  · intro hfirst
    have hnext : s.missNext st e = 1 := by rw [State.missNext, hfirst]; rfl
    rw [if_neg (by omega)]
    exact ⟨hmissed, (s.rd_callMissed_missRun st e).trans hnext, s.callMissed_host st e⟩
  · intro hsecond
    have hnext : s.missNext st e = 2 := by rw [State.missNext, hsecond]; rfl
    obtain ⟨-, -, -, -, -, hhalf⟩ := stationRoll_key st hst (F.ST_DROP_MAP_DROPPED st) (by simp)
    rw [if_pos hnext, State.dropped, State.rd_halfAtDrop _ _ _ _ hhalf, State.rd_dropEmitter_map _ _ _ _ hst,
      Nat.testBit_mod_two_pow, testBit_setBit_same]
    simp [he]

/-! ### The close of a window (R220, R221)

The edges and the reference of a facet stay as they came until the close puts them away: each of its steps leaves the
`windowScan`. -/

/-- The scans there are, and the window's edges and reference of one of them. -/
def State.windowScan (s : State) (st : Nat) : Nat × List Edge × Option Nat :=
  (s.scan.length, (s.sc st).edges, (s.sc st).tf)

theorem State.windowScan_of_eq {s t : State} (st : Nat) (h : t.scan = s.scan) : t.windowScan st = s.windowScan st := by
  simp only [State.windowScan, State.sc, h]

theorem State.windowScan_modSc (s : State) (st : Nat) (g : Scan → Scan)
    (hg : ∀ c, (g c).edges = c.edges ∧ (g c).tf = c.tf) : (s.modSc st g).windowScan st = s.windowScan st := by
  rcases Nat.lt_or_ge st s.scan.length with hst | hst
  · obtain ⟨hedges, htf⟩ := hg (s.sc st)
    simp only [State.windowScan, State.sc_modSc_same _ _ _ hst, hedges, htf]
    simp [State.modSc]
  · exact State.windowScan_of_eq st (List.modify_eq_self hst)

theorem State.windowScan_post (s : State) (st sev code block inst : Nat) (d : List (Nat × Nat × Nat))
    (h : sev ≠ 3) : (s.post sev code block inst d).windowScan st = s.windowScan st :=
  State.windowScan_of_eq st (State.statusOnly_post _ _ _ _ _ _ _ h).scan_eq

theorem State.windowScan_restoreCall (s : State) (st e : Nat) (present : Bool) :
    (s.restoreCall st e present).windowScan st = s.windowScan st := by
  unfold State.restoreCall
  split
  · rfl
  · extract_lets n u v
    have hu : u.windowScan st = s.windowScan st := s.windowScan_modSc st _ (fun _ => ⟨rfl, rfl⟩)
    have hv : v.windowScan st = u.windowScan st := u.windowScan_modSc st _ (fun _ => ⟨rfl, rfl⟩)
    split
    · exact (State.windowScan_post (v.wr _ _) st _ _ _ _ _ (by decide)).trans (hv.trans hu)
    · exact hu

theorem State.callMet_scan (s : State) (st e : Nat) (g : Edge) : (s.callMet st e g).scan = s.scan := by
  unfold State.callMet
  extract_lets u v
  split <;> rfl

theorem State.windowScan_callMissed (s : State) (st e : Nat) :
    (s.callMissed st e).windowScan st = s.windowScan st := by
  unfold State.callMissed
  extract_lets u v
  change v.windowScan st = u.windowScan st
  simp only [v]
  split
  · exact u.windowScan_modSc st _ (fun _ => ⟨rfl, rfl⟩)
  · rfl

theorem State.flagMissed_scan (s : State) (st e : Nat) : (s.flagMissed st e).scan = s.scan := by
  unfold State.flagMissed
  split
  · extract_lets p
    split
    · exact State.modSlot_scan _ _ _
    · rfl
  · rfl

theorem State.windowScan_dropEmitter (s : State) (st e : Nat) (search : Bool) :
    (s.dropEmitter st e search).windowScan st = s.windowScan st := by
  unfold State.dropEmitter
  extract_lets b map latched noted posted flagged
  have hflagged : flagged.windowScan st = s.windowScan st :=
    calc flagged.windowScan st = posted.windowScan st := State.windowScan_of_eq st (posted.flagMissed_scan st e)
      _ = noted.windowScan st := noted.windowScan_post st _ _ _ _ _ (by decide)
      _ = s.windowScan st := latched.windowScan_modSc st _ (fun _ => ⟨rfl, rfl⟩)
  split
  · exact (State.windowScan_of_eq st (State.modSlot_scan _ _ _)).trans hflagged
  · rw [← hflagged]
    exact flagged.windowScan_modSc st _ (fun _ => ⟨rfl, rfl⟩)

theorem State.halfAtDrop_scan (s : State) (st e : Nat) : (s.halfAtDrop st e).scan = s.scan := by
  unfold State.halfAtDrop
  split
  · split <;> rfl
  · rfl

theorem State.windowScan_oneCall (s : State) (st e : Nat) : (s.oneCall st e).windowScan st = s.windowScan st := by
  rcases h : (s.sc st).edges.find? (fun g => g.e = e) with _ | g
  · rw [s.oneCall_missed st e h, ← s.windowScan_callMissed st e]
    split
    · exact State.windowScan_restoreCall _ _ _ _
    · split
      · exact (State.windowScan_of_eq st (State.halfAtDrop_scan _ _ _)).trans (State.windowScan_dropEmitter _ _ _ _)
      · rfl
  · rw [s.oneCall_met st e g h]
    exact (State.windowScan_restoreCall _ _ _ _).trans (State.windowScan_of_eq st (s.callMet_scan st e g))

theorem State.windowScan_crowdStep (s : State) (st : Nat) : (s.crowdStep st).windowScan st = s.windowScan st := by
  unfold State.crowdStep
  split
  · rfl
  · split
    · exact State.windowScan_post (s.wr _ _) st _ _ _ _ _ (by decide)
    · rfl

theorem State.windowScan_seed (s : State) (st e : Nat) : (s.seed st e).windowScan st = s.windowScan st := by
  unfold State.seed
  split
  · refine s.windowScan_modSc st _ (fun c => ?_)
    split <;> exact ⟨rfl, rfl⟩
  · extract_lets v
    rw [State.windowScan_modSc]
    · refine foldl_keeps (fun u : State => u.windowScan st) _ (fun _ _ => ?_) _ s
      rfl
    · exact fun _ => ⟨rfl, rfl⟩

theorem State.windowScan_searchStep (s : State) (st : Nat) : (s.searchStep st).windowScan st = s.windowScan st := by
  unfold State.searchStep
  split
  · rfl
  · extract_lets k u rest ok
    have hu : u.windowScan st = s.windowScan st := by
      simp only [u]
      split
      · exact s.windowScan_seed st k
      · rfl
    rw [← hu]
    split
    · rfl
    · split
      · rfl
      · exact u.windowScan_modSc st _ (fun _ => ⟨rfl, rfl⟩)

/-- The calls of a facet, its crowding and its search, before the window's edges are put away. -/
def State.windowCalled (s : State) (st : Nat) : State :=
  let u := ((s.emitters st).filter (s.called st)).foldl (fun (u : State) e => u.oneCall st e) s
  (u.crowdStep st).searchStep st

theorem State.windowScan_windowCalled (s : State) (st : Nat) : (s.windowCalled st).windowScan st = s.windowScan st := by
  unfold State.windowCalled
  extract_lets u
  calc ((u.crowdStep st).searchStep st).windowScan st
    _ = (u.crowdStep st).windowScan st := State.windowScan_searchStep _ st
    _ = u.windowScan st := u.windowScan_crowdStep st
    _ = s.windowScan st := foldl_keeps (fun v : State => v.windowScan st) _ (fun v e => v.windowScan_oneCall st e) _ s

/-- After a facet with a reference, in SEARCH or TIMED, the window's edges become those of the facet before. -/
theorem State.windowCloses_called (s : State) (st : Nat) (hdone : (s.sc st).refDone = true)
    (hphase : 2 ≤ s.phase st) : ∃ g : Scan → Scan, s.windowCloses st = (s.windowCalled st).modSc st g ∧
      ∀ c, (g c).edges = [] ∧ (g c).refDone = false ∧ (g c).last = c.edges ∧ (g c).lastTf = c.tf.getD 0 := by
  have hopen : ¬ (!(s.sc st).refDone || decide (s.phase st < 2)) = true := by
    rw [hdone, Bool.not_true, Bool.false_or, decide_eq_true_eq]
    omega
  unfold State.windowCloses
  extract_lets c called timed stepped
  rw [if_neg hopen]
  exact ⟨_, rfl, fun _ => ⟨rfl, rfl, rfl, rfl⟩⟩

theorem State.windowCloses_spec (s : State) (st : Nat) (hst : st < s.scan.length) (hdone : (s.sc st).refDone = true)
    (hphase : 2 ≤ s.phase st) :
    ((s.windowCloses st).sc st).edges = [] ∧ ((s.windowCloses st).sc st).refDone = false ∧
    ((s.windowCloses st).sc st).last = (s.sc st).edges ∧
    ((s.windowCloses st).sc st).lastTf = (s.sc st).tf.getD 0 := by
  obtain ⟨g, heq, hg⟩ := s.windowCloses_called st hdone hphase
  obtain ⟨hlen, hscan⟩ := Prod.mk.inj (s.windowScan_windowCalled st)
  obtain ⟨hedges, htf⟩ := Prod.mk.inj hscan
  rw [heq, State.sc_modSc_same _ _ _ (by rwa [hlen]), ← hedges, ← htf]
  exact hg _

/-! ### Restores (R228, R229) -/

/-- The emitters that a write of ST_DROP_CLR restores. -/
def State.restorable (s : State) (st v : Nat) : List Nat :=
  (bitsOf 32 v).filter (fun e => s.dropped st e && !(s.sc st).dropNow.any (fun x => x.1 = e && x.2 / 10 = s.now / 10))

/-- The state in which those restores are pending. -/
def State.restoresAsked (s : State) (st v : Nat) : State :=
  let fresh := (s.restorable st v).filter (fun e => !(s.rd (F.ST_RESTORE_PEND_PEND st)).testBit e)
  (s.modSc st (fun c => { c with restMiss := c.restMiss.filter (fun x => !fresh.contains x.1) })).wr
    (F.ST_RESTORE_PEND_PEND st) ((s.restorable st v).foldl setBit (s.rd (F.ST_RESTORE_PEND_PEND st)))

theorem State.dropClr_eq (s : State) (st v : Nat) : s.dropClr st v =
    if (s.slotOn st).isNone then (s.restoresAsked st v).restoreAll st else s.restoresAsked st v := rfl

theorem State.restoresAsked_spec (s : State) (st v : Nat) :
    (s.restoresAsked st v).rd (F.ST_RESTORE_PEND_PEND st) =
      (s.restorable st v).foldl setBit (s.rd (F.ST_RESTORE_PEND_PEND st)) % 2 ^ 32 ∧
    RegsOnly { s with scan := (s.restoresAsked st v).scan } (s.restoresAsked st v) [F.ST_RESTORE_PEND_PEND st] :=
  ⟨State.rd_wr_same _ (F.ST_RESTORE_PEND_PEND st) _ (by simp [F.ST_RESTORE_PEND_PEND]),
    (RegsOnly.refl _ _).wr _ _ (List.mem_singleton.mpr rfl)⟩

/-- A drop declared before this clock cycle is restored by a write of its bit. -/
theorem State.restorable_one (s : State) (st : Nat) (e : Fin 32) (hdrop : s.dropped st e = true)
    (hold : ∀ x ∈ (s.sc st).dropNow, x.1 = e.val → x.2 / 10 ≠ s.now / 10) :
    s.restorable st (2 ^ e.val) = [e.val] := by
  have hnew : (s.sc st).dropNow.any (fun x => x.1 = e.val && x.2 / 10 = s.now / 10) = false := by
    simpa using hold
  rw [State.restorable, bitsOf_two_pow]
  simp [hdrop, hnew]

/-- The registers of a restore that takes effect, before its event. -/
def State.restored (s : State) (st e : Nat) : State :=
  let map := clrBit (s.rd (F.ST_DROP_MAP_DROPPED st)) e
  let u := (s.wr (F.ST_DROP_MAP_DROPPED st) map).wr (F.ST_ROLL_STAT_DROPS st) (popCount 32 map)
  let u := u.wr (F.ST_RESTORE_PEND_PEND st) (clrBit (u.rd (F.ST_RESTORE_PEND_PEND st)) e)
  (u.wr (F.BM_ROLL_MISS_RUN (s.beamOf st e)) 0).wr (F.BM_ROLL_REJOINS (s.beamOf st e)) 0

theorem State.restoreNow_eq (s : State) (st e : Nat) : s.restoreNow st e =
    ((s.restored st e).modSc st (fun c => { c with
      drops := c.drops.filter (fun d => d.1 != e), restMiss := c.restMiss.filter (fun x => x.1 != e) })).post 0 0x3301 6
        (s.beamOf st e) [(0, 1, st), (1, 1, e), (2, 1, s.rd (F.BM_ROLL_REJOINS (s.beamOf st e)))] := rfl

theorem State.rd_restored (s : State) (st e : Nat) (hst : st < 8) :
    (s.restored st e).rd (F.ST_DROP_MAP_DROPPED st) = clrBit (s.rd (F.ST_DROP_MAP_DROPPED st)) e % 2 ^ 32 ∧
    (s.restored st e).rd (F.ST_RESTORE_PEND_PEND st) = clrBit (s.rd (F.ST_RESTORE_PEND_PEND st)) e % 2 ^ 32 ∧
    (s.restored st e).rd (F.BM_ROLL_MISS_RUN (s.beamOf st e)) = 0 := by
  obtain ⟨hmap, -, -, hmap', -, -⟩ := stationRoll_key st hst (F.ST_DROP_MAP_DROPPED st) (by simp)
  obtain ⟨hpend, -, -, hpend', -, -⟩ := stationRoll_key st hst (F.ST_RESTORE_PEND_PEND st) (by simp)
  obtain ⟨hmiss, hrejoin⟩ := beamRoll_key_ne (s.beamOf st e) _ hmap
  obtain ⟨hmiss', hrejoin'⟩ := beamRoll_key_ne (s.beamOf st e) _ hpend
  have hboth : (F.ST_DROP_MAP_DROPPED st).key ≠ (F.ST_RESTORE_PEND_PEND st).key := by
    simp only [Fld.key, F.ST_DROP_MAP_DROPPED, F.ST_RESTORE_PEND_PEND]; omega
  have hrun : (F.BM_ROLL_REJOINS (s.beamOf st e)).key ≠ (F.BM_ROLL_MISS_RUN (s.beamOf st e)).key :=
    Fld.key_ne_of_lo rfl (by simp [F.BM_ROLL_REJOINS, F.BM_ROLL_MISS_RUN])
  unfold State.restored
  extract_lets map u v
  refine ⟨?_, ?_, ?_⟩
  · rw [State.rd_wr_ne _ _ _ _ hrejoin, State.rd_wr_ne _ _ _ _ hmiss, State.rd_wr_ne _ _ _ _ hboth.symm,
      State.rd_wr_ne _ _ _ _ hmap']
    exact State.rd_wr_same _ (F.ST_DROP_MAP_DROPPED st) map (by simp [F.ST_DROP_MAP_DROPPED])
  · have hu : u.rd (F.ST_RESTORE_PEND_PEND st) = s.rd (F.ST_RESTORE_PEND_PEND st) :=
      (State.rd_wr_ne _ _ _ _ hpend').trans (State.rd_wr_ne _ _ _ _ hboth)
    rw [State.rd_wr_ne _ _ _ _ hrejoin', State.rd_wr_ne _ _ _ _ hmiss', ← hu]
    exact State.rd_wr_same _ (F.ST_RESTORE_PEND_PEND st) _ (by simp [F.ST_RESTORE_PEND_PEND])
  · rw [State.rd_wr_ne _ _ _ _ hrun]
    exact State.rd_wr_same _ (F.BM_ROLL_MISS_RUN (s.beamOf st e)) 0 (by simp [F.BM_ROLL_MISS_RUN])

/-- A restore that takes effect: the drop is gone from the map, is pending no longer, and its run of missed calls
ends. -/
theorem State.restoreNow_spec (s : State) (st e : Nat) (hst : st < 8) :
    (s.restoreNow st e).dropped st e = false ∧
    (s.restoreNow st e).rd (F.ST_RESTORE_PEND_PEND st) = clrBit (s.rd (F.ST_RESTORE_PEND_PEND st)) e % 2 ^ 32 ∧
    (s.restoreNow st e).rd (F.BM_ROLL_MISS_RUN (s.beamOf st e)) = 0 ∧ (s.restoreNow st e).alm = s.alm := by
  obtain ⟨hmap, hpend, hrun⟩ := s.rd_restored st e hst
  have hrd (f : Fld) (hleg : f.key < 32 * legOff 0) (hdrop : F.EVT_DROPPED_DROPPED.key ≠ f.key) :
      (s.restoreNow st e).rd f = (s.restored st e).rd f := by
    rw [State.restoreNow_eq, State.rd_post_below_hard _ _ _ _ _ _ _ _ (by decide) hleg hdrop, State.rd_modSc]
  obtain ⟨-, hleg, hdrop, -⟩ := stationRoll_key st hst (F.ST_DROP_MAP_DROPPED st) (by simp)
  obtain ⟨-, hleg', hdrop', -⟩ := stationRoll_key st hst (F.ST_RESTORE_PEND_PEND st) (by simp)
  obtain ⟨hleg'', hdrop''⟩ := missRun_key _ (s.beamOf_lt st e)
  refine ⟨?_, (hrd _ hleg' hdrop').trans hpend, (hrd _ hleg'' hdrop'').trans hrun, ?_⟩
  · rw [State.dropped, hrd _ hleg hdrop, hmap, Nat.testBit_mod_two_pow, testBit_clrBit_same, Bool.and_false]
  · rw [State.restoreNow_eq, State.post_alm _ _ _ _ _ _ _ (by decide)]
    rfl

/-- A restore asked for between frames takes effect at once. -/
theorem State.dropClr_one (s : State) (st : Nat) (e : Fin 32) (hidle : s.slotOn st = none)
    (hdrop : s.dropped st e = true) (hpend : s.rd (F.ST_RESTORE_PEND_PEND st) = 0)
    (hold : ∀ x ∈ (s.sc st).dropNow, x.1 = e.val → x.2 / 10 ≠ s.now / 10) :
    (s.restoresAsked st (2 ^ e.val)).rd (F.ST_RESTORE_PEND_PEND st) = 2 ^ e.val ∧
    s.dropClr st (2 ^ e.val) = (s.restoresAsked st (2 ^ e.val)).restoreNow st e := by
  obtain ⟨hasked, -⟩ := s.restoresAsked_spec st (2 ^ e.val)
  have hlt : 2 ^ e.val < 2 ^ 32 := Nat.pow_lt_pow_right (by decide) e.isLt
  have hone : (s.restoresAsked st (2 ^ e.val)).rd (F.ST_RESTORE_PEND_PEND st) = 2 ^ e.val := by
    rw [hasked, s.restorable_one st e hdrop hold, hpend, List.foldl_cons, List.foldl_nil, setBit, Nat.zero_or,
      Nat.mod_eq_of_lt hlt]
  refine ⟨hone, ?_⟩
  rw [State.dropClr_eq, hidle, State.restoreAll, hone, bitsOf_two_pow]
  rfl

/-- Restores asked for leave the numbering of the emitters. -/
theorem State.beamOf_restoresAsked (s : State) (st v e : Nat) : (s.restoresAsked st v).beamOf st e = s.beamOf st e := by
  obtain ⟨-, -, hregs⟩ := s.restoresAsked_spec st v
  refine State.beamOf_congr st e (hregs _ ?_) (hregs _ ?_)
  all_goals
    simp only [List.mem_singleton, forall_eq, Fld.key, F.ST_RESTORE_PEND_PEND, F.ST_OCTETS_OCT_MASK, F.ST_LMAP_REVERSE]
    omega

theorem State.dropClr_one_spec (s : State) (st : Nat) (e : Fin 32) (hst : st < 8) (hidle : s.slotOn st = none)
    (hdrop : s.dropped st e = true) (hpend : s.rd (F.ST_RESTORE_PEND_PEND st) = 0)
    (hold : ∀ x ∈ (s.sc st).dropNow, x.1 = e.val → x.2 / 10 ≠ s.now / 10) :
    (s.dropClr st (2 ^ e.val)).dropped st e = false ∧
    (s.dropClr st (2 ^ e.val)).rd (F.ST_RESTORE_PEND_PEND st) = 0 ∧
    (s.dropClr st (2 ^ e.val)).rd (F.BM_ROLL_MISS_RUN (s.beamOf st e)) = 0 ∧
    (s.dropClr st (2 ^ e.val)).alm = s.alm := by
  obtain ⟨hone, heq⟩ := s.dropClr_one st e hidle hdrop hpend hold
  obtain ⟨hmap, hdone, hrun, halm⟩ := (s.restoresAsked st (2 ^ e.val)).restoreNow_spec st e hst
  have hgone : clrBit (2 ^ e.val) e = 0 := by simp [clrBit]
  rw [hone, hgone] at hdone
  rw [s.beamOf_restoresAsked] at hrun
  rw [heq]
  exact ⟨hmap, hdone, hrun, halm⟩

/-! ### ST_ROLL_CLR (R230) -/

/-- The state with every one of some fields written 0. -/
def State.zeroed (s : State) (fs : List Fld) : State := fs.foldl (fun u f => u.wr f 0) s

theorem State.rd_zeroed_ne (s : State) (fs : List Fld) (g : Fld) (h : ∀ f ∈ fs, f.key ≠ g.key) :
    (s.zeroed fs).rd g = s.rd g := by
  induction fs generalizing s with
  | nil => rfl
  | cons f fs ih =>
    obtain ⟨hf, hfs⟩ := List.forall_mem_cons.mp h
    exact (ih (s.wr f 0) hfs).trans (State.rd_wr_ne _ _ _ _ hf)

/-- Fields of different places, each written 0, all read 0. -/
theorem State.rd_zeroed (s : State) (fs : List Fld) (hkeys : fs.Pairwise (fun f g => g.key ≠ f.key))
    (hw : ∀ f ∈ fs, f.w ≤ 32) : ∀ f ∈ fs, (s.zeroed fs).rd f = 0 := by
  induction fs generalizing s with
  | nil => exact fun _ hf => absurd hf List.not_mem_nil
  | cons f fs ih =>
    obtain ⟨hne, hkeys⟩ := List.pairwise_cons.mp hkeys
    obtain ⟨hf, hw⟩ := List.forall_mem_cons.mp hw
    refine List.forall_mem_cons.mpr ⟨?_, ih (s.wr f 0) hkeys hw⟩
    exact ((s.wr f 0).rd_zeroed_ne fs f hne).trans ((State.rd_wr_same _ _ _ hf).trans (Nat.zero_mod _))

theorem State.regsOnly_zeroed (s : State) (fs : List Fld) : RegsOnly s (s.zeroed fs) fs := by
  have hregs : s.zeroed fs = { s with regs := (s.zeroed fs).regs } := by
    induction fs generalizing s with
    | nil => rfl
    | cons f fs ih => exact ih (s.wr f 0)
  exact ⟨hregs, fun g hg => s.rd_zeroed_ne fs g hg⟩

/-- The fields that ST_ROLL_CLR clears. -/
def rollCounters (st : Nat) : List Fld :=
  [F.ST_ROLL_MISSES_MISSES st, F.ST_HEAL_LINES_HEALED st, F.ST_HALF_LINES_HALF st, F.ST_HEAL_CLAMP_CLAMP st,
    F.ST_ROLL_STAT_CROWDED st]

theorem rollCounters_apart (st : Nat) :
    (rollCounters st).Pairwise (fun f g => g.key ≠ f.key) ∧ ∀ f ∈ rollCounters st, f.w ≤ 32 := by
  constructor
  · simp only [rollCounters, List.pairwise_cons, List.forall_mem_cons, List.not_mem_nil, false_implies, implies_true,
      List.Pairwise.nil, and_true, Fld.key, F.ST_ROLL_MISSES_MISSES, F.ST_HEAL_LINES_HEALED, F.ST_HALF_LINES_HALF,
      F.ST_HEAL_CLAMP_CLAMP, F.ST_ROLL_STAT_CROWDED]
    omega
  · simp [rollCounters, F.ST_ROLL_MISSES_MISSES, F.ST_HEAL_LINES_HEALED, F.ST_HALF_LINES_HALF, F.ST_HEAL_CLAMP_CLAMP,
      F.ST_ROLL_STAT_CROWDED]

/-- Settles O38: a close by `State.windowCloses_spec`, a call by whether its edge came, a restore by whether a frame is
on the station, the clear by the fields it writes. -/
theorem rollCall : Obligations.RollCall := by
  refine ⟨?_, ?_, ?_, ?_, ?_, ?_⟩
  · intro s st hup hlen hdone hphase
    exact ⟨_, congrArg Host.Outcome.next (State.live_up _ _ hup),
      s.windowCloses_spec st (by omega) hdone hphase⟩
  · intro s st e g hmet
    rw [s.oneCall_met st e g hmet, State.rd_restoreCall_present]
    exact s.rd_callMet_missRun st e g
  · intro s st e he hnone hkept
    exact s.oneCall_missed_spec st e st.isLt he hnone hkept
  · intro s st v p hup hframe
    have hpending : s.dropClr st v = s.restoresAsked st v := by rw [State.dropClr_eq, hframe]; rfl
    exact ⟨_, congrArg Host.Outcome.next ((State.live_up _ _ hup).trans hpending), s.restoresAsked_spec st v⟩
  · intro s st e hup hidle hdrop hpend hold
    exact ⟨_, congrArg Host.Outcome.next (State.live_up _ _ hup),
      s.dropClr_one_spec st e st.isLt hidle hdrop hpend hold⟩
  · intro s st hup
    obtain ⟨hkeys, hw⟩ := rollCounters_apart st
    have hzero := s.rd_zeroed (rollCounters st) hkeys hw
    simp only [rollCounters, List.forall_mem_cons] at hzero
    obtain ⟨hmisses, hhealed, hhalf, hclamp, hcrowded, -⟩ := hzero
    exact ⟨s.zeroed (rollCounters st), congrArg Host.Outcome.next (State.live_up _ _ hup),
      hmisses, hhealed, hhalf, hclamp, hcrowded, s.regsOnly_zeroed (rollCounters st)⟩

end Sys2Proof.Machine
end

section
/-! Rings (R237, R249, R260): what a change of a ring reads back, what a ring's registers are, and what causes of vectors
and events leave of the rings. -/

namespace Sys2Proof.Machine

open Sys2Proof

/-! ### Commands while PORST_N is high (R527) -/

theorem exec_of_live {c : Instr} {s t u : State} (hexec : exec c s = .next (s.live t)) (hup : s.up) (h : t = u) :
    exec c s = .next u := by
  rw [hexec, State.live_up s t hup, h]

theorem gives_of_live {c : Instr} {s t : State} {P : State → Prop} (hexec : exec c s = .next (s.live t)) (hup : s.up)
    (h : P t) : Gives c s P :=
  ⟨t, exec_of_live hexec hup rfl, h⟩

/-! ### One ring -/

theorem State.ring_congr {s t : State} (h : t.rings = s.rings) (q : Nat) : t.ring q = s.ring q :=
  congrArg (fun l : List Ring => l.getD q {}) h

theorem State.ring_modRing_same (s : State) (q : Nat) (g : Ring → Ring) (h : q < s.rings.length) :
    (s.modRing q g).ring q = g (s.ring q) := by
  simp [State.ring, State.modRing, h]

theorem State.ring_modRing_ne (s : State) (q k : Nat) (g : Ring → Ring) (h : k ≠ q) :
    (s.modRing q g).ring k = s.ring k := by
  simp [State.ring, State.modRing, Ne.symm h]

@[simp] theorem State.vecCause_rings (s : State) (n : Nat) (imm : Bool) : (s.vecCause n imm).rings = s.rings := by
  rw [State.vecCause_frame]

theorem State.StatusOnly.rings_eq {s t : State} (h : s.StatusOnly t) : t.rings = s.rings := by rw [h]

/-! ### A ring's registers -/

/-- A field of a register of ring `q`, whose registers take 64 bytes. -/
def Fld.ofRing (f : Fld) (q : Nat) : Prop := f.key / 0x800 = 0x400 + q

theorem Fld.key_ne_of_ring {f g : Fld} {q k : Nat} (hf : f.ofRing q) (hg : g.ofRing k) (h : q ≠ k) : f.key ≠ g.key := by
  unfold Fld.ofRing at hf hg
  intro heq
  omega

/-- The fields in which a ring that is cleared and DISABLED reads 0 (R235, R237). -/
def ringZeros (q : Nat) : List Fld := [F.RING_IDX_PI q, F.RING_IDX_CI q, F.RING_STAT_STATE q, F.RING_CTL_EN q]

theorem ringZeros_ofRing (q : Nat) : ∀ f ∈ ringZeros q, f.ofRing q := by
  simp only [ringZeros, List.forall_mem_cons, List.not_mem_nil, false_implies, implies_true, and_true, Fld.ofRing, Fld.key,
    F.RING_IDX_PI, F.RING_IDX_CI, F.RING_STAT_STATE, F.RING_CTL_EN]
  omega

theorem ringZeros_apart (q : Nat) :
    (ringZeros q).Pairwise (fun f g => g.key ≠ f.key) ∧ ∀ f ∈ ringZeros q, f.w ≤ 32 := by
  constructor
  · simp only [ringZeros, List.pairwise_cons, List.forall_mem_cons, List.not_mem_nil, false_implies, implies_true,
      List.Pairwise.nil, and_true, Fld.key, F.RING_IDX_PI, F.RING_IDX_CI, F.RING_STAT_STATE, F.RING_CTL_EN]
    omega
  · simp [ringZeros, F.RING_IDX_PI, F.RING_IDX_CI, F.RING_STAT_STATE, F.RING_CTL_EN]

/-! ### The event queue (R251) -/

@[simp] theorem State.vecCause_evq (s : State) (n : Nat) (imm : Bool) : (s.vecCause n imm).host.evq = s.host.evq := by
  unfold State.vecCause; split <;> rfl

@[simp] theorem State.begunWait_evq (s t : State) : (s.begunWait t).host.evq = t.host.evq := by
  unfold State.begunWait; split <;> simp

@[simp] theorem State.legIrq_evq (s : State) (bit : Nat) : (s.legIrq bit).host.evq = s.host.evq := by
  simp only [State.legIrq, State.legInt]
  split
  · split
    · exact State.vecCause_evq _ _ _
    · rfl
  · rfl

@[simp] theorem State.legEvent_evq (s : State) (sev code inst : Nat) :
    (s.legEvent sev code inst).host.evq = s.host.evq := by
  unfold State.legEvent
  repeat' split
  all_goals simp [State.setW1c]

theorem length_evInsert (e : Ev) (l : List Ev) : (evInsert e l).length = l.length + 1 := by
  induction l with
  | nil => rfl
  | cons x t ih =>
    unfold evInsert
    split
    · simp
    · simp [ih]

theorem length_dropMinor {l q : List Ev} (h : dropMinor l = some q) : q.length + 1 = l.length := by
  induction l generalizing q with
  | nil => exact absurd h (by simp [dropMinor])
  | cons x t ih =>
    unfold dropMinor at h
    split at h
    · obtain rfl := Option.some.inj h
      rfl
    · obtain ⟨q', hq', rfl⟩ := Option.map_eq_some_iff.mp h
      simp [ih hq']

/-- What becomes of the queue as an event comes: it joins where there is room, else it is lost or displaces a minor one. -/
theorem State.postRaw_evq_cases (s : State) (sev code block inst : Nat) (d : BitVec 80) (src tag : Nat) :
    (s.host.evq.length < 256 ∧
      ∃ e, (s.postRaw sev code block inst d src tag).host.evq = evInsert e s.host.evq) ∨
    (s.postRaw sev code block inst d src tag).host.evq = s.host.evq ∨
    ∃ e q, dropMinor s.host.evq = some q ∧
      (s.postRaw sev code block inst d src tag).host.evq = evInsert e q := by
  have hleg := s.legEvent_evq sev code inst
  unfold State.postRaw
  generalize s.legEvent sev code inst = u at hleg ⊢
  rw [← hleg]
  extract_lets s0 e0 after e last host v lost
  split
  next hroom => exact .inl ⟨hroom, e, rfl⟩
  next =>
    split
    · exact .inr (.inl (State.vecCause_evq _ _ _))
    · split
      next q hq => exact .inr (.inr ⟨e, q, hq, State.vecCause_evq _ _ _⟩)
      next => exact .inr (.inl (State.vecCause_evq _ _ _))

end Sys2Proof.Machine
end

section
/-! Doorbells, rings enabled and disabled, host resets and the link (R235, R237, R241). -/

namespace Sys2Proof.Machine

open Sys2Proof

/-! ### Doorbells (R241) -/

theorem State.compat_native (s : State) (h : s.native) : s.compat = false := by simp [State.compat, h.2]

theorem State.doorbell_disabled (s : State) (q v : Nat) (h : s.native) (hst : s.ringState q = 0) :
    s.doorbell q v = s.post 1 0x9020 2 q [(0, 4, v), (4, 1, 1)] := by
  simp [State.doorbell, s.compat_native h, hst]

theorem State.doorbell_beyond (s : State) (q v : Nat) (h : s.native) (hst : s.ringState q ≠ 0) (hv : s.ringSize q ≤ v) :
    s.doorbell q v = s.post 1 0x9020 2 q [(0, 4, v)] := by
  simp [State.doorbell, s.compat_native h, hst, hv]

/-- PI of a ring to the device takes the value, but for Q28, whose doorbell only moves on (R243). -/
theorem State.doorbell_h2d (s : State) (q v : Nat) (h : s.native) (hst : s.ringState q ≠ 0) (hv : v < s.ringSize q)
    (hdir : isH2D q = true) (hpri : q ≠ 28) : s.doorbell q v = s.wr (F.RING_IDX_PI q) v := by
  simp [State.doorbell, s.compat_native h, hst, Nat.not_le.mpr hv, hdir, hpri]

/-- CI of a ring to the host takes the value, and the entries before it are returned. -/
theorem State.doorbell_d2h (s : State) (q v : Nat) (h : s.native) (hst : s.ringState q ≠ 0) (hv : v < s.ringSize q)
    (hdir : isH2D q = false) : s.doorbell q v =
      (s.modRing q (fun g => { g with
        entries := g.entries.drop ((v + s.ringSize q - s.rd (F.RING_IDX_CI q)) % s.ringSize q) })).wr (F.RING_IDX_CI q) v := by
  have hpri : q ≠ 28 := by rintro rfl; exact absurd hdir (by decide)
  simp [State.doorbell, s.compat_native h, hst, Nat.not_le.mpr hv, hdir, hpri]

/-! ### Rings enabled and disabled (R237) -/

theorem State.ringEnable_refused (s : State) (q r : Nat) (h : s.native) (hst : s.ringState q = 0)
    (hbad : s.ringBad q = some r) : s.ringEnable q = s.post 1 0x9023 2 q [(0, 1, r)] := by
  simp [State.ringEnable, s.compat_native h, hst, hbad]

/-- The state in which a ring runs from its start: nothing read, indices and laps at 0. -/
def State.ringRuns (s : State) (q : Nat) : State :=
  (((s.zeroRing q).wr (F.RING_STAT_STATE q) 1).wr (F.RING_STAT_ERR_CAUSE q) 0).wr (F.RING_CTL_EN q) 1

theorem State.ringEnable_runs (s : State) (q : Nat) (h : s.native) (hst : s.ringState q = 0) (hgood : s.ringBad q = none) :
    s.ringEnable q = s.ringRuns q := by
  simp [State.ringEnable, s.compat_native h, hst, hgood, State.ringRuns]

theorem State.ringRuns_reads (s : State) (q : Nat) :
    (s.ringRuns q).ringState q = 1 ∧ (s.ringRuns q).rd (F.RING_IDX_PI q) = 0 ∧ (s.ringRuns q).rd (F.RING_IDX_CI q) = 0 := by
  have hen : (F.RING_CTL_EN q).key = (0x10014 + q * 0x40) * 32 := rfl
  have hstate : (F.RING_STAT_STATE q).key = (0x10018 + q * 0x40) * 32 + 8 := rfl
  have hcause : (F.RING_STAT_ERR_CAUSE q).key = (0x10018 + q * 0x40) * 32 := rfl
  have hpi : (F.RING_IDX_PI q).key = (0x1001c + q * 0x40) * 32 + 16 := rfl
  have hci : (F.RING_IDX_CI q).key = (0x1001c + q * 0x40) * 32 := rfl
  have hzero (u : State) (f : Fld) (hw : f.w ≤ 32) : (u.wr f 0).rd f = 0 :=
    (State.rd_wr_same u f 0 hw).trans (Nat.zero_mod _)
  unfold State.ringRuns State.zeroRing State.ringState
  refine ⟨?_, ?_, ?_⟩
  · simp (disch := omega) only [State.rd_wr_ne]
    exact State.rd_wr_same _ (F.RING_STAT_STATE q) 1 (Nat.le_of_ble_eq_true rfl)
  · simp (disch := omega) only [State.rd_wr_ne]
    exact hzero _ (F.RING_IDX_PI q) (Nat.le_of_ble_eq_true rfl)
  · simp (disch := omega) only [State.rd_wr_ne]
    exact hzero _ (F.RING_IDX_CI q) (Nat.le_of_ble_eq_true rfl)

/-- Enabling a ring reaches no register of another one. -/
theorem State.rd_ringRuns_other (s : State) (q k : Nat) (f : Fld) (hf : f.ofRing k) (h : q ≠ k) :
    (s.ringRuns q).rd f = s.rd f := by
  have hne (g : Fld) (hg : g.ofRing q) : g.key ≠ f.key := Fld.key_ne_of_ring hg hf h
  have hcause : (F.RING_STAT_ERR_CAUSE q).ofRing q := by simp only [Fld.ofRing, Fld.key, F.RING_STAT_ERR_CAUSE]; omega
  have hzeros := ringZeros_ofRing q
  simp only [ringZeros, List.forall_mem_cons] at hzeros
  obtain ⟨hpi, hci, hstate, hen, -⟩ := hzeros
  simp only [State.ringRuns, State.zeroRing]
  rw [State.rd_wr_ne _ _ _ _ (hne _ hen), State.rd_wr_ne _ _ _ _ (hne _ hcause), State.rd_wr_ne _ _ _ _ (hne _ hstate),
    State.rd_wr_ne _ _ _ _ (hne _ hci), State.rd_wr_ne _ _ _ _ (hne _ hpi), State.rd_modRing]

/-- The state in which a ring is DISABLED, before waiting records give vector 63 a cause. -/
def State.ringStops (s : State) (q : Nat) : State :=
  ((s.modRing q Ring.discard).wr (F.RING_STAT_STATE q) 0).wr (F.RING_CTL_EN q) 0

theorem State.ringDisable_stops (s : State) (q : Nat) (h : s.native) (hst : s.ringState q ≠ 0) :
    s.ringDisable q = s.begunWait (s.ringStops q) := by
  simp [State.ringDisable, s.compat_native h, hst, State.ringStops]

theorem State.rd_ringStops_state (s : State) (q : Nat) : (s.ringStops q).ringState q = 0 := by
  have hkey : (F.RING_CTL_EN q).key ≠ (F.RING_STAT_STATE q).key := by
    simp only [Fld.key, F.RING_CTL_EN, F.RING_STAT_STATE]; omega
  exact (State.rd_wr_ne _ _ _ _ hkey).trans (State.rd_wr_same _ _ _ (by simp [F.RING_STAT_STATE]))

/-- Beside its ring, STATE and EN are all that disabling a ring changes. -/
theorem State.regsOnly_ringStops (s : State) (q : Nat) :
    RegsOnly (s.modRing q Ring.discard) (s.ringStops q) [F.RING_STAT_STATE q, F.RING_CTL_EN q] :=
  ((RegsOnly.refl _ _).wr _ _ (by simp)).wr _ _ (by simp)

/-- Records that waited already give no vector a new cause. -/
theorem State.begunWait_of_waits (s t : State) (h : s.someWaits = true) : s.begunWait t = t := by
  simp [State.begunWait, h]

/-- A cause for vector 63 is all that records that begin to wait change. -/
theorem State.begunWait_frame (s t : State) : s.begunWait t = { t with host := (s.begunWait t).host } := by
  unfold State.begunWait
  split
  · exact State.vecCause_frame _ _ _
  · rfl

/-! ### Host resets (R235) -/

/-- What one element's step establishes and every step keeps holds after a fold over a list with that element. -/
theorem foldl_of_mem {α : Type} (p : State → Prop) (g : State → α → State) {l : List α} {b : α} (hmem : b ∈ l)
    (hset : ∀ s, p (g s b)) (hkeep : ∀ s a, p s → p (g s a)) (s : State) : p (l.foldl g s) := by
  obtain ⟨before, after, rfl⟩ := List.append_of_mem hmem
  rw [List.foldl_append, List.foldl_cons]
  exact List.foldlRecOn _ _ (hset _) (fun u hu a _ => hkeep u a hu)

/-- The state with one ring cleared and DISABLED. -/
def State.ringCleared (s : State) (q : Nat) : State :=
  ((s.zeroRing q).wr (F.RING_STAT_STATE q) 0).wr (F.RING_CTL_EN q) 0

/-- Clearing a ring writes 0 to its state, its EN and its indices. -/
theorem State.ringCleared_eq (s : State) (q : Nat) :
    ∃ g, s.ringCleared q = (s.modRing q g).zeroed (ringZeros q) := ⟨_, rfl⟩

theorem State.rd_ringCleared_same (s : State) (q : Nat) (f : Fld) (hf : f ∈ ringZeros q) : (s.ringCleared q).rd f = 0 := by
  obtain ⟨g, hg⟩ := s.ringCleared_eq q
  obtain ⟨hkeys, hw⟩ := ringZeros_apart q
  rw [hg]
  exact State.rd_zeroed _ _ hkeys hw f hf

theorem State.rd_ringCleared_other (s : State) (q k : Nat) (f : Fld) (hf : f.ofRing k) (h : q ≠ k) :
    (s.ringCleared q).rd f = s.rd f := by
  obtain ⟨g, hg⟩ := s.ringCleared_eq q
  rw [hg, State.rd_zeroed_ne _ _ _ (fun z hz => Fld.key_ne_of_ring (ringZeros_ofRing q z hz) hf h), State.rd_modRing]

/-- The state with every ring cleared and DISABLED. -/
def State.ringsCleared (s : State) : State := (List.range 32).foldl State.ringCleared s

theorem State.rd_ringsCleared (s : State) (q : Nat) (hq : q < 32) (f : Fld) (hf : f ∈ ringZeros q) :
    s.ringsCleared.rd f = 0 := by
  refine foldl_of_mem (fun u => u.rd f = 0) _ (List.mem_range.mpr hq) (fun u => u.rd_ringCleared_same q f hf)
    (fun u k hu => ?_) s
  by_cases hk : k = q
  · subst hk
    exact u.rd_ringCleared_same k f hf
  · exact (u.rd_ringCleared_other k q f (ringZeros_ofRing q f hf) hk).trans hu

/-- What no register and no ring holds stays as every ring is cleared. -/
theorem State.ringsCleared_keeps {β : Type} (p : State → β) (hwr : ∀ u f x, p (State.wr u f x) = p u)
    (hring : ∀ u q g, p (State.modRing u q g) = p u) (s : State) : p s.ringsCleared = p s :=
  foldl_keeps p _ (fun u q => by simp only [State.ringCleared, State.zeroRing, hwr, hring]) _ s

/-- The state with every fence window invalid. -/
def State.windowsCleared (s : State) : State := (List.range 64).foldl (fun s w => s.wr (F.FW_BASE_LO_VALID w) 0) s

theorem State.rd_windowsCleared_valid (s : State) (w : Nat) (hw : w < 64) :
    s.windowsCleared.rd (F.FW_BASE_LO_VALID w) = 0 := by
  have hzero (u : State) : (u.wr (F.FW_BASE_LO_VALID w) 0).rd (F.FW_BASE_LO_VALID w) = 0 :=
    State.rd_wr_same _ _ _ (by simp [F.FW_BASE_LO_VALID])
  refine foldl_of_mem (fun u => u.rd (F.FW_BASE_LO_VALID w) = 0) _ (List.mem_range.mpr hw) hzero (fun u k hu => ?_) s
  by_cases hk : k = w
  · subst hk
    exact hzero u
  · have hkey : (F.FW_BASE_LO_VALID k).key ≠ (F.FW_BASE_LO_VALID w).key := by
      simp only [Fld.key, F.FW_BASE_LO_VALID]; omega
    exact (State.rd_wr_ne _ _ _ _ hkey).trans hu

/-- The windows' registers lie above those of the rings. -/
theorem State.rd_windowsCleared_ring (s : State) (q : Nat) (hq : q < 32) (f : Fld) (hf : f.ofRing q) :
    s.windowsCleared.rd f = s.rd f := by
  refine foldl_keeps (fun u : State => u.rd f) _ (fun u w => State.rd_wr_ne _ _ _ _ ?_) _ s
  intro heq
  rw [Fld.ofRing, ← heq] at hf
  simp only [Fld.key, F.FW_BASE_LO_VALID] at hf
  omega

theorem State.windowsCleared_keeps {β : Type} (p : State → β) (hwr : ∀ u f x, p (State.wr u f x) = p u) (s : State) :
    p s.windowsCleared = p s :=
  foldl_keeps p _ (fun u _ => hwr u _ _) _ s

/-- Without a valid window no transfer is allowed (R248). -/
theorem State.inWindow_of_none (s : State) (h : ∀ w : Fin 64, s.rd (F.FW_BASE_LO_VALID w) = 0) (write : Bool) (a n : Nat) :
    s.inWindow write a n = false := by
  have hnone : s.windows = [] := by
    refine List.map_eq_nil_iff.mpr (List.filter_eq_nil_iff.mpr fun w hw => ?_)
    simp [State.on, h ⟨w, List.mem_range.mp hw⟩]
  simp [State.inWindow, State.inWin, hnone]

/-- A host reset clears the rings, then the windows, then its own side of the link. -/
theorem State.hostReset_eq (s : State) (cause : Nat) : s.hostReset cause =
    ({ (s.begunWait s.ringsCleared).windowsCleared with
      host := { (s.begunWait s.ringsCleared).windowsCleared.host with resetCause := some cause, hiSnap := [] } }
        : State).pcieReset := rfl

theorem State.hostReset_regs (s : State) (cause : Nat) :
    (s.hostReset cause).regs = (s.begunWait s.ringsCleared).windowsCleared.regs := by
  rw [State.hostReset_eq, State.pcieReset]

theorem State.rd_hostReset_ring (s : State) (cause q : Nat) (hq : q < 32) (f : Fld) (hf : f ∈ ringZeros q) :
    (s.hostReset cause).rd f = 0 := by
  rw [State.rd_congr _ _ f (s.hostReset_regs cause), State.rd_windowsCleared_ring _ q hq f (ringZeros_ofRing q f hf),
    State.rd_congr _ _ f (State.begunWait_regs _ _), s.rd_ringsCleared q hq f hf]

theorem State.rd_hostReset_valid (s : State) (cause w : Nat) (hw : w < 64) :
    (s.hostReset cause).rd (F.FW_BASE_LO_VALID w) = 0 :=
  (State.rd_congr _ _ _ (s.hostReset_regs cause)).trans (State.rd_windowsCleared_valid _ w hw)

theorem State.hostReset_vecs (s : State) (cause : Nat) :
    ∀ v ∈ (s.hostReset cause).host.vecs, v.masked = true ∧ v.pendingBit = false := by
  intro v hv
  obtain ⟨v', -, rfl⟩ := List.mem_map.mp hv
  exact ⟨rfl, rfl⟩

theorem State.hostReset_evq (s : State) (cause : Nat) : (s.hostReset cause).host.evq = s.host.evq := by
  have hkept : (s.hostReset cause).host.evq = (s.begunWait s.ringsCleared).windowsCleared.host.evq := rfl
  rw [hkept, State.windowsCleared_keeps (fun u => u.host.evq) (fun _ _ _ => rfl), State.begunWait_evq,
    State.ringsCleared_keeps (fun u => u.host.evq) (fun _ _ _ => rfl) (fun _ _ _ => rfl)]

/-- What lies beside registers, rings and the host side a host reset keeps. -/
theorem State.hostReset_keeps {β : Type} (p : State → β) (hwr : ∀ u f x, p (State.wr u f x) = p u)
    (hring : ∀ u q g, p (State.modRing u q g) = p u) (hhost : ∀ (u : State) h, p { u with host := h } = p u) (s : State)
    (cause : Nat) : p (s.hostReset cause) = p s := by
  have hwait : p (s.begunWait s.ringsCleared) = p s.ringsCleared := by rw [State.begunWait_frame, hhost]
  rw [State.hostReset_eq, State.pcieReset, hhost, hhost, State.windowsCleared_keeps p hwr, hwait,
    State.ringsCleared_keeps p hwr hring]

/-- `t` is what every host reset makes of `s` (R235). -/
def State.IsReset (s t : State) : Prop :=
  (∀ q : Fin 32, t.ringState q = 0 ∧ t.rd (F.RING_CTL_EN q) = 0 ∧ t.rd (F.RING_IDX_PI q) = 0 ∧ t.rd (F.RING_IDX_CI q) = 0) ∧
  (∀ w : Fin 64, t.rd (F.FW_BASE_LO_VALID w) = 0) ∧ (∀ write a n, t.inWindow write a n = false) ∧
  (∀ v ∈ t.host.vecs, v.masked = true ∧ v.pendingBit = false) ∧
  t.host.evq = s.host.evq ∧ t.alm = s.alm ∧ t.staged = s.staged

theorem State.isReset_hostReset (s : State) (cause : Nat) : s.IsReset (s.hostReset cause) := by
  have hvalid (w : Fin 64) := s.rd_hostReset_valid cause w w.isLt
  refine ⟨fun q => ?_, hvalid, State.inWindow_of_none _ hvalid, s.hostReset_vecs cause, s.hostReset_evq cause, ?_, ?_⟩
  · have hzero := s.rd_hostReset_ring cause q q.isLt
    simp only [ringZeros, List.forall_mem_cons] at hzero
    obtain ⟨hpi, hci, hstate, hen, -⟩ := hzero
    exact ⟨hstate, hen, hpi, hci⟩
  · exact State.hostReset_keeps State.alm (fun _ _ _ => rfl) (fun _ _ _ => rfl) (fun _ _ => rfl) s cause
  · exact State.hostReset_keeps State.staged (fun _ _ _ => rfl) (fun _ _ _ => rfl) (fun _ _ => rfl) s cause

/-- What each reset then notes of the link and of its cause is no part of that. -/
theorem State.IsReset.withHost {s u : State} (h : s.IsReset u) (k : HostIf) (hvecs : k.vecs = u.host.vecs)
    (hevq : k.evq = u.host.evq) : s.IsReset { u with host := k } := by
  obtain ⟨hrings, hvalid, -, hmasked, hkept, halm, hstaged⟩ := h
  have hvalid' (w : Fin 64) : ({ u with host := k } : State).rd (F.FW_BASE_LO_VALID w) = 0 := hvalid w
  exact ⟨hrings, hvalid', State.inWindow_of_none _ hvalid', hvecs ▸ hmasked, hevq.trans hkept, halm, hstaged⟩

/-! ### The link returns, an FLR completes (R235) -/

theorem State.flrDone_due (s : State) (t0 : Nat) (h : s.host.flrAt = some t0) :
    s.flrDone = ({ s with host := { s.host with flrAt := none } } : State).post 1 0x9022 1 0 [(0, 1, 2)] := by
  simp only [State.flrDone, h]

/-- A reset that waits for the link is reported as the link returns. -/
theorem State.linkActive_reports (s : State) (k : Nat) (h : s.host.resetCause = some k) : s.linkActive =
    ({ s with host := { s.host with linkUp := true, perst := false, resetCause := none } } : State).freeWakeN.post 1 0x9022 1 0
      [(0, 1, k)] := by
  simp only [State.linkActive, h]

theorem State.linkActive_quiet (s : State) (h : s.host.resetCause = none) :
    s.linkActive = ({ s with host := { s.host with linkUp := true, perst := false } } : State).freeWakeN := by
  simp only [State.linkActive, h]

/-- Settles O39: doorbells, enabling and disabling by the branches of their operations, the host resets by
`State.isReset_hostReset` and
what each notes beside it. -/
theorem ringsAndHostResets : Obligations.RingsAndHostResets := by
  refine ⟨?_, ?_, ?_, ?_, ?_, ?_, ?_, ?_, ?_, ?_, ?_⟩
  · intro s q v hnative hst hv hv16
    refine ⟨fun hdir hpri => gives_of_live rfl hnative.1 ?_, fun hdir => gives_of_live rfl hnative.1 ?_⟩
    · have hpri' : q.val ≠ 28 := fun h => hpri (Fin.ext h)
      rw [s.doorbell_h2d q v hnative hst hv hdir hpri']
      exact ⟨(State.rd_wr_same _ _ _ (by simp [F.RING_IDX_PI])).trans (Nat.mod_eq_of_lt hv16),
        (RegsOnly.refl _ _).wr _ _ (by simp)⟩
    · rw [s.doorbell_d2h q v hnative hst hv hdir]
      refine ⟨(State.rd_wr_same _ _ _ (by simp [F.RING_IDX_CI])).trans (Nat.mod_eq_of_lt hv16), fun k hk => ?_,
        (RegsOnly.refl (s.modRing q _) _).wr _ _ (by simp)⟩
      exact s.ring_modRing_ne q k _ (fun h => hk (Fin.ext h))
  · intro s q v hnative hst
    exact exec_of_live rfl hnative.1 (s.doorbell_disabled q v hnative hst)
  · intro s q v hnative hst hv
    exact exec_of_live rfl hnative.1 (s.doorbell_beyond q v hnative hst hv)
  · intro s q hnative hlen hst hgood
    refine gives_of_live rfl hnative.1 ?_
    rw [s.ringEnable_runs q hnative hst hgood]
    obtain ⟨hstate, hpi, hci⟩ := s.ringRuns_reads q
    have hsame := s.ring_modRing_same q
      (fun g => { g.discard with lap := 0, entries := [], bell := 0, wbDue := false }) (by omega)
    refine ⟨hstate, hpi, hci, congrArg Ring.lap hsame, congrArg Ring.fetched hsame, fun k hk => ?_⟩
    have hk' : k.val ≠ q.val := fun h => hk (Fin.ext h)
    exact ⟨s.ring_modRing_ne q k _ hk',
      s.rd_ringRuns_other q k _ (ringZeros_ofRing k _ (by simp [ringZeros])) hk'.symm⟩
  · intro s q r hnative hst hbad
    exact exec_of_live rfl hnative.1 (s.ringEnable_refused q r hnative hst hbad)
  · intro s q hnative hlen hst
    refine gives_of_live rfl hnative.1 ?_
    rw [s.ringDisable_stops q hnative hst]
    have hrd (f : Fld) : (s.begunWait (s.ringStops q)).rd f = (s.ringStops q).rd f :=
      State.rd_congr _ _ _ (State.begunWait_regs _ _)
    have hring : (s.begunWait (s.ringStops q)).ring q = (s.ring q).discard := by
      rw [State.begunWait_frame]
      exact s.ring_modRing_same q _ (by omega)
    have hpi : (F.RING_CTL_EN q).key ≠ (F.RING_IDX_PI q).key ∧ (F.RING_STAT_STATE q).key ≠ (F.RING_IDX_PI q).key := by
      simp only [Fld.key, F.RING_CTL_EN, F.RING_STAT_STATE, F.RING_IDX_PI]; omega
    obtain ⟨-, hregs⟩ := s.regsOnly_ringStops q
    refine ⟨(hrd _).trans (s.rd_ringStops_state q), congrArg Ring.fetched hring, (hrd _).trans (hregs _ ?_),
      ⟨?_, fun g hg => (hrd g).trans (hregs g hg)⟩, State.begunWait_evq _ _, fun hwaits => ?_⟩
    · simpa [and_comm] using hpi
    · rw [State.begunWait_frame]
      rfl
    · rw [State.begunWait_of_waits _ _ hwaits]
      rfl
  · intro s hup c hc
    have hreset (t : State) (hexec : exec c s = .next (s.live t)) (ht : s.IsReset t) := gives_of_live hexec hup ht
    simp only [List.mem_cons, List.not_mem_nil, or_false] at hc
    rcases hc with rfl | rfl | rfl
    · exact hreset _ rfl ((s.isReset_hostReset 0).withHost _ rfl rfl)
    · exact hreset _ rfl ((s.isReset_hostReset 1).withHost _ rfl rfl)
    · exact hreset _ rfl ((s.isReset_hostReset 2).withHost _ rfl rfl)
  · intro s hup
    exact ⟨gives_of_live rfl hup ⟨rfl, rfl, rfl⟩, gives_of_live rfl hup ⟨rfl, rfl⟩, gives_of_live rfl hup ⟨rfl, rfl⟩⟩
  · intro s t0 hup hflr
    exact exec_of_live rfl hup (s.flrDone_due t0 hflr)
  · intro s k hup hcause
    exact exec_of_live rfl hup (s.linkActive_reports k hcause)
  · intro s hup hcause
    exact exec_of_live rfl hup (s.linkActive_quiet hcause)

end Sys2Proof.Machine
end

section
/-! Descriptor reads, their errors, and the poll of Q28 (R242, R243, R540). -/

namespace Sys2Proof.Machine

open Sys2Proof

/-! ### Reads of the next descriptor (R242) -/

/-- A read is due: the ring runs, no read of it is pending again or failed, and PI is further on than what was read. -/
theorem State.descRead_due (s : State) (q : Nat) (d : Desc) (hdir : isH2D q = true) (hst : s.ringState q = 1)
    (hagain : (s.ring q).rereadAt = none) (herr : (s.ring q).errAt = none)
    (hmore : (s.ring q).fetched.length < s.produced q) :
    s.descRead q d = if dPhase d = s.expectedPhase q (s.ring q).fetched.length then s.gotDesc q d
      else s.modRing q (fun g => { g with rereadAt := some (s.now + 2000) }) := by
  simp [State.descRead, hdir, hst, hagain, herr, Nat.not_le.mpr hmore]

/-- 2 µs later the second read decides. -/
theorem State.phaseReread_due (s : State) (q t : Nat) (d : Desc) (hst : s.ringState q = 1)
    (hagain : (s.ring q).rereadAt = some t) (hdue : t ≤ s.now) :
    s.phaseReread q d = if dPhase d = s.expectedPhase q (s.ring q).fetched.length then s.gotDesc q d
      else s.readFailed q 1 (dPhase d) := by
  simp [State.phaseReread, hst, hagain, Nat.not_lt.mpr hdue]

/-! ### A ring in ERROR (R237, R242) -/

theorem State.readFailed_idle (s : State) (q c p : Nat) (h : s.headTxn q = none) :
    s.readFailed q c p = s.ringError q c p := by
  simp [State.readFailed, h]

/-- Its event apart, a ring that enters ERROR is discarded, whatever the mode. -/
theorem State.ringError_rings (s : State) (q c p : Nat) :
    (s.ringError q c p).rings = s.rings.modify q Ring.discard := by
  simp only [State.ringError, State.vecCause_rings, State.wr_rings, State.modRing]
  rw [(s.statusOnly_post _ _ _ _ _ _ (by decide)).rings_eq]

theorem State.ringError_stat (s : State) (q c p : Nat) (hc : c < 4) :
    (s.ringError q c p).ringState q = 3 ∧ (s.ringError q c p).rd (F.RING_STAT_ERR_CAUSE q) = c := by
  have hkey : (F.RING_STAT_ERR_CAUSE q).key ≠ (F.RING_STAT_STATE q).key :=
    Fld.key_ne_of_lo rfl (by simp [F.RING_STAT_ERR_CAUSE, F.RING_STAT_STATE])
  simp only [State.ringError, State.ringState, State.rd_vecCause]
  rw [State.rd_wr_ne _ _ _ _ hkey, State.rd_wr_same _ _ _ (by simp [F.RING_STAT_STATE]),
    State.rd_wr_same _ _ _ (by simp [F.RING_STAT_ERR_CAUSE])]
  exact ⟨rfl, Nat.mod_eq_of_lt (by simp only [F.RING_STAT_ERR_CAUSE]; omega)⟩

/-! ### Reads that complete with an error (R540) -/

/-- The error of a due descriptor read: the first is retried, that of the retry makes the read fail. -/
theorem State.descError_due (s : State) (q : Nat) (again : Bool) (hdir : isH2D q = true) (hst : s.ringState q = 1)
    (hpri : q ≠ 28) (herr : (s.ring q).errAt = none) (hmore : (s.ring q).fetched.length < s.produced q)
    (hretry : (s.ring q).retry = again) :
    s.descError q again = if again then s.readFailed q 2 0 else s.modRing q (fun g => { g with retry := true }) := by
  simp [State.descError, hdir, hst, hpri, herr, Nat.not_le.mpr hmore, hretry]

theorem State.stageError_first (s : State) (p st : Nat) (tag : Bool) (hst : (s.slot p).st = .staging)
    (hmask : (s.slot p).mask.testBit st = true) :
    s.stageError p st tag false = s.modSlot p (fun x => { x with retries := x.retries ++ [(st, tag)] }) := by
  simp [State.stageError, hst, hmask]

/-! ### The poll of Q28 (R243) -/

/-- The state in which a poll read of Q28 has been made. -/
def State.polled28 (s : State) : State := s.modRing 28 (fun g => { g with polledAt := some s.now })

/-- The note of a poll changes neither the lap nor the doorbelled PI. -/
theorem State.polled28_ring (s : State) :
    (s.polled28.ring 28).lap = (s.ring 28).lap ∧ (s.polled28.ring 28).bell = (s.ring 28).bell := by
  rcases Nat.lt_or_ge 28 s.rings.length with h | h
  · rw [State.polled28, State.ring_modRing_same _ _ _ h]
    exact ⟨rfl, rfl⟩
  · have hsame : s.polled28.rings = s.rings := List.modify_eq_self h
    rw [State.ring_congr hsame]
    exact ⟨rfl, rfl⟩

theorem State.polled28_expectedPhase (s : State) (k : Nat) : s.polled28.expectedPhase 28 k = s.expectedPhase 28 k := by
  obtain ⟨hlap, -⟩ := s.polled28_ring
  rw [State.expectedPhase, hlap]
  rfl

/-- A first poll of a ring whose head has not been read: an entry of the PHASE expected is taken in; another is read again
only below the doorbelled PI. -/
theorem State.poll28_first (s : State) (d : Desc) (hst : s.ringState 28 = 1) (hpoll : (s.ring 28).polledAt = none)
    (hnone : (s.ring 28).fetched = []) (hagain : (s.ring 28).rereadAt = none) (herr : (s.ring 28).errAt = none) :
    s.poll28 d = if dPhase d = s.expectedPhase 28 0 then
        (if s.produced 28 = 0 then s.polled28.wr (F.RING_IDX_PI 28) ((s.rd (F.RING_IDX_CI 28) + 1) % s.ringSize 28)
          else s.polled28).gotDesc 28 d
      else if s.polled28.q28Below then s.polled28.modRing 28 (fun g => { g with rereadAt := some (s.now + 2000) })
      else s.polled28 := by
  have hphase : (s.modRing 28 fun g => { g with polledAt := some s.now }).expectedPhase 28 0 = s.expectedPhase 28 0 :=
    s.polled28_expectedPhase 0
  simp only [State.poll28, hst, hpoll, hnone, hagain, herr, hphase, bne_self_eq_false, Bool.not_true, Bool.or_self,
    Bool.false_eq_true, if_false, Option.isSome_none, State.rd_modRing]
  rfl

/-- With the doorbelled PI at CI nothing lies below it. -/
theorem State.polled28_q28Below (s : State) (h : (s.ring 28).bell = s.rd (F.RING_IDX_CI 28)) :
    s.polled28.q28Below = false := by
  obtain ⟨-, hbell⟩ := s.polled28_ring
  have hci : s.polled28.rd (F.RING_IDX_CI 28) = s.rd (F.RING_IDX_CI 28) := State.rd_modRing _ _ _ _
  simp [State.q28Below, hbell, hci, h]

/-- Settles O40: each clause is a branch of its operation, ERROR by `State.ringError_rings` and
`State.ringError_stat`. -/
theorem descriptorReads : Obligations.DescriptorReads := by
  refine ⟨?_, ?_, fun s q c p => s.readFailed_idle q c p, ?_, ?_, ?_, ?_, ?_⟩
  · intro s q d hup hdir hst hagain herr hmore
    have hread := s.descRead_due q d hdir hst hagain herr hmore
    exact ⟨fun hphase => exec_of_live rfl hup (hread.trans (if_pos hphase)),
      fun hphase => exec_of_live rfl hup (hread.trans (if_neg hphase))⟩
  · intro s q d t hup hst hagain hdue
    have hread := s.phaseReread_due q t d hst hagain hdue
    exact ⟨fun hphase => exec_of_live rfl hup (hread.trans (if_pos hphase)),
      fun hphase => exec_of_live rfl hup (hread.trans (if_neg hphase))⟩
  · intro s q c p hlen hc
    obtain ⟨hstate, hcause⟩ := s.ringError_stat q c p hc
    have hring (k : Nat) : (s.ringError q c p).ring k = (s.modRing q Ring.discard).ring k :=
      State.ring_congr (s.ringError_rings q c p) k
    refine ⟨hstate, hcause, ?_, fun k hk => ?_⟩
    · rw [hring, s.ring_modRing_same q _ (by omega)]
      rfl
    · rw [hring, s.ring_modRing_ne q k _ (fun h => hk (Fin.ext h))]
  · intro s q hup hdir hst hpri herr hmore
    have hpri' : q.val ≠ 28 := fun h => hpri (Fin.ext h)
    exact ⟨fun hretry => exec_of_live rfl hup (s.descError_due q false hdir hst hpri' herr hmore hretry),
      fun hretry => exec_of_live rfl hup (s.descError_due q true hdir hst hpri' herr hmore hretry)⟩
  · intro s p st tag hup hst hmask
    exact exec_of_live rfl hup (s.stageError_first p st tag hst hmask)
  · intro s d hup hst hpoll hnone hagain herr hphase hmore
    refine exec_of_live rfl hup ((s.poll28_first d hst hpoll hnone hagain herr).trans ?_)
    rw [if_pos hphase, if_neg hmore]
    rfl
  · intro s d hup hst hpoll hnone hagain herr hphase hbell
    refine exec_of_live rfl hup ((s.poll28_first d hst hpoll hnone hagain herr).trans ?_)
    rw [if_neg hphase, s.polled28_q28Below hbell]
    rfl

end Sys2Proof.Machine
end

section
/-! Writebacks, event and completion records, and messages (R249–R253, R260, R261). -/

namespace Sys2Proof.Machine

open Sys2Proof

/-! ### Writebacks (R248, R249) -/

/-- The first writeback of a ring, inside the windows, brings the host CI. -/
theorem State.wbWrite_first (s : State) (q : Nat) (hdue : (s.ring q).wbDue = true) (hfirst : (s.ring q).wbAt = none)
    (hwb : s.ringWb q ≠ 0) (hdir : isH2D q = true) (hwin : s.inWindow true (s.ringWb q) 4 = true) :
    s.wbWrite q =
      s.modRing q (fun g => { g with wbDue := false, wbAt := some s.now, wbValue := s.rd (F.RING_IDX_CI q) }) := by
  simp [State.wbWrite, hdue, hfirst, hwb, hdir, hwin]

theorem State.wbWrite_outside (s : State) (q : Nat) (hwin : s.inWindow true (s.ringWb q) 4 = false) :
    s.wbWrite q = s := by
  simp [State.wbWrite, hwin]

/-! ### Records (R250–R253) -/

/-- The oldest event with room is written, and its vector has a cause, sent at once for HARD and SAFE. -/
theorem State.eventWrite_room (s : State) (e : Ev) (rest : List Ev) (hq : s.host.evq = e :: rest)
    (hroom : s.roomFor 25 ⟨[eventEntry e], false, none, none, none⟩ = true) :
    s.eventWrite = (({ s with host := { s.host with evq := rest } }.putRec 25 ⟨[eventEntry e], false, none, none, none⟩).vecCause
      (eventVector e.code e.sev) (3 ≤ e.sev)) := by
  simp only [State.eventWrite, hq, hroom, if_true]

/-- A completion record with room is written, and then its TRACE record (R485). -/
theorem State.writeDone_room (s : State) (q : Nat) (r : Rec) (rest : List Rec) (hw : (s.ring q).waiting = r :: rest)
    (hroom : s.roomFor q r = true) : s.writeDone q =
      (s.begunWait ((s.modRing q (fun g => { g with waiting := rest })).putRec q r)).doneTrace r.trace := by
  simp only [State.writeDone, hw, hroom, if_true, s.writeWaiting_room q r rest hw hroom]

theorem State.putOrDrop_full (s : State) (q : Nat) (r : Rec) (h : s.roomFor q r = false) :
    s.putOrDrop q r = s.inc (F.RING_DISCARD_DISCARD q) := by
  simp [State.putOrDrop, h]

/-! ### Vectors (R260, R261) -/

/-- The state with one vector changed. -/
def State.modVec (s : State) (v : Nat) (f : Vec → Vec) : State :=
  { s with host := { s.host with vecs := s.host.vecs.modify v f } }

theorem State.modVec_same (s : State) (v : Nat) (f : Vec → Vec) (h : v < s.host.vecs.length) :
    (s.modVec v f).host.vecs.getD v {} = f (s.host.vecs.getD v {}) := by
  simp [State.modVec, h]

theorem State.modVec_other (s : State) (v k : Nat) (f : Vec → Vec) (h : k ≠ v) :
    (s.modVec v f).host.vecs.getD k {} = s.host.vecs.getD k {} := by
  simp [State.modVec, Ne.symm h]

/-- MOD_TIME after its first pending cause a vector sends its message. -/
theorem State.modTimer_due (s : State) (v t0 : Nat) (hfirst : (s.host.vecs.getD v {}).firstAt = some t0)
    (hdue : t0 + s.rd (F.VEC_MOD_MOD_TIME v) * 1000 ≤ s.now) : s.modTimer v = s.modVec v Vec.send := by
  simp only [State.modTimer, hfirst, hdue, if_true, State.modVec]

/-- One cause of a vector, counted and timed (R261). -/
def Vec.cause (v : Vec) (now : Nat) : Vec :=
  { v with count := v.count + 1, firstAt := match v.firstAt with | none => some now | x => x }

/-- In native mode a cause that must go at once sends the vector's message. -/
theorem State.vecCause_immediate (s : State) (n : Nat) (h : s.rd F.GLB_MODE_MODE ≠ 1) :
    s.vecCause n true = s.modVec n (fun v => (v.cause s.now).send) := by
  unfold State.vecCause
  rw [if_neg (by simp [h])]
  rfl

/-- An unmasked vector sends one message more. -/
theorem Vec.send_unmasked (v : Vec) (h : v.masked = false) : v.send.sent = v.sent + 1 := by
  simp [Vec.send, h]

/-! ### The event queue (R251) -/

/-- The queue of 256 never grows beyond its size. -/
theorem State.postRaw_evq_bound (s : State) (sev code block inst : Nat) (d : BitVec 80) (src tag : Nat)
    (h : s.host.evq.length ≤ 256) : (s.postRaw sev code block inst d src tag).host.evq.length ≤ 256 := by
  rcases s.postRaw_evq_cases sev code block inst d src tag with ⟨hroom, e, hq⟩ | hq | ⟨e, q, hdrop, hq⟩
  · rw [hq, length_evInsert]
    omega
  · rw [hq]
    exact h
  · have := length_dropMinor hdrop
    rw [hq, length_evInsert]
    omega

/-- A NOTE or WARN event that finds the queue full is counted in EVT_DROPPED, and gives vector 62 a cause. -/
theorem State.postRaw_full_minor (s : State) (sev code block inst : Nat) (d : BitVec 80) (src tag : Nat)
    (h : s.rd F.GLB_MODE_MODE ≠ 1) (hsev : sev ≤ 1) (hfull : 256 ≤ s.host.evq.length) :
    ∃ u : State, u.regs = s.regs ∧ u.host.evq = s.host.evq ∧
      s.postRaw sev code block inst d src tag = (u.inc F.EVT_DROPPED_DROPPED).vecCause 62 true := by
  unfold State.postRaw
  rw [State.legEvent_native _ _ _ _ h]
  extract_lets s0 e0 after e last host v lost
  exact ⟨v, rfl, rfl, (if_neg (Nat.not_lt.mpr hfull)).trans (if_pos hsev)⟩

/-- Settles O41: writebacks and records by the branches of their operations, messages by `State.modVec`, the queue by
`State.postRaw_evq_cases`. -/
theorem recordsAndMessages : Obligations.RecordsAndMessages := by
  refine ⟨?_, ?_, ?_, ?_, ?_, ?_, ?_, fun s q r => s.putOrDrop_full q r, ?_, ?_⟩
  · intro s q hup hlen hdue hfirst hwb hdir hwin
    refine gives_of_live rfl hup ?_
    rw [s.wbWrite_first q hdue hfirst hwb hdir hwin]
    have hsame := s.ring_modRing_same q
      (fun g => { g with wbDue := false, wbAt := some s.now, wbValue := s.rd (F.RING_IDX_CI q) }) (by omega)
    exact ⟨congrArg Ring.wbDue hsame, congrArg Ring.wbValue hsame, congrArg Ring.wbAt hsame, rfl,
      fun k hk => s.ring_modRing_ne q k _ (fun h => hk (Fin.ext h))⟩
  · intro s q hup hwin
    exact exec_of_live rfl hup (s.wbWrite_outside q hwin)
  · intro s e rest hup hq hroom
    exact exec_of_live rfl hup (s.eventWrite_room e rest hq hroom)
  · intro s r rest hup hw hroom
    exact exec_of_live rfl hup (s.writeDone_room 24 r rest hw hroom)
  · intro s v t0 hup hlen hfirst hdue
    refine gives_of_live rfl hup ?_
    rw [s.modTimer_due v t0 hfirst hdue]
    exact ⟨s.modVec_same v _ (by omega), fun k hk => s.modVec_other v k _ (fun h => hk (Fin.ext h)), rfl, rfl⟩
  · intro s v hup hlen
    have hsame := s.modVec_same v Vec.unmask (by omega)
    exact gives_of_live (t := s.modVec v Vec.unmask) rfl hup
      ⟨congrArg Vec.masked hsame, congrArg Vec.pendingBit hsame, congrArg Vec.sent hsame, rfl⟩
  · intro s n hn hmode hmask
    rw [s.vecCause_immediate n (by omega), s.modVec_same n _ hn, Vec.send_unmasked (Vec.cause _ _) hmask]
    rfl
  · intro s sev code block inst d src tag
    exact s.postRaw_evq_bound sev code block inst d src tag
  · intro s sev code block inst d src tag hmode hsev hfull
    obtain ⟨u, hregs, hevq, hpost⟩ := s.postRaw_full_minor sev code block inst d src tag (by omega) hsev hfull
    rw [hpost, State.vecCause_evq, State.rd_vecCause, State.rd_inc_same _ _ _ (by decide), State.rd_congr s u _ hregs]
    exact ⟨hevq, rfl⟩

end Sys2Proof.Machine
end

section
/-! Ring administration (R244, R258, R259): what each descriptor gives, and a transaction of Q31 as a whole. -/

namespace Sys2Proof.Machine

open Sys2Proof

/-! ### Stop, start and reset (R258) -/

/-- A descriptor of RING_STOP, RING_START or RING_RESET in form: no COUNT, nothing after the ring's number. -/
def ringOrder (d : Desc) : Prop := dCount d = 0 ∧ dZero d 9 63 = true ∧ dField d 8 1 ≤ 31

theorem State.admin_stop (s : State) (d : Desc) (h : ringOrder d) (hop : dOpcode d = 0x70) :
    s.admin d = if dField d 8 1 = 31 ∨ s.ringState (dField d 8 1) ≠ 1 then .inl 5
      else .inr (s.wr (F.RING_STAT_STATE (dField d 8 1)) 2, false) := by
  obtain ⟨hcount, hzero, hring⟩ := h
  simp [State.admin, hop, hcount, hzero, Nat.not_lt.mpr hring]

theorem State.admin_start (s : State) (d : Desc) (h : ringOrder d) (hop : dOpcode d = 0x71) :
    s.admin d = if dField d 8 1 = 31 ∨ s.ringState (dField d 8 1) ≠ 2 then .inl 5
      else .inr (s.wr (F.RING_STAT_STATE (dField d 8 1)) 1, false) := by
  obtain ⟨hcount, hzero, hring⟩ := h
  simp [State.admin, hop, hcount, hzero, Nat.not_lt.mpr hring]

theorem State.admin_reset (s : State) (d : Desc) (h : ringOrder d) (hop : dOpcode d = 0x72) :
    s.admin d = if dField d 8 1 = 31 ∨ (s.ringState (dField d 8 1) ≠ 2 ∧ s.ringState (dField d 8 1) ≠ 3) then .inl 5
      else .inr ((s.zeroRing (dField d 8 1)).wr (F.RING_STAT_STATE (dField d 8 1)) 2, false) := by
  obtain ⟨hcount, hzero, hring⟩ := h
  simp [State.admin, hop, hcount, hzero, Nat.not_lt.mpr hring]

/-! ### Fence windows (R248, R259) -/

/-- The state in which FENCE_SET of window `w` has put what it asks for, before the rings are held against it. -/
def State.fenced (s : State) (w acc base lim : Nat) : State :=
  let s := (s.wr (F.FW_BASE_LO_BASE_L w) (base / 4096 % 2 ^ 20)).wr (F.FW_BASE_HI_BASE_H w) (base / 2 ^ 32)
  let s := (s.wr (F.FW_LIMIT_LO_LIMIT_L w) (lim / 4096 % 2 ^ 20)).wr (F.FW_LIMIT_HI_LIMIT_H w) (lim / 2 ^ 32)
  ((s.wr (F.FW_BASE_LO_READ w) (acc % 2)).wr (F.FW_BASE_LO_WRITE w) (acc / 2)).wr (F.FW_BASE_LO_VALID w) 1

/-- A FENCE_SET that succeeds is in form, and every ring meets the window rule under the new window. -/
theorem State.admin_fenceSet (s v : State) (d : Desc) (b : Bool) (h : s.admin d = .inr (v, b)) (hop : dOpcode d = 0x74) :
    v = s.fenced (dField d 8 1) (dField d 9 1) (dField d 16 8) (dField d 24 8) ∧ v.windowsHold = true ∧
    dField d 9 1 ≤ 3 ∧ dField d 16 8 % 4096 = 0 := by
  simp only [State.admin, hop] at h
  split at h
  · exact absurd h (by simp)
  next hform =>
    split at h
    next hhold =>
      obtain ⟨rfl, -⟩ := Prod.mk.inj (Sum.inr.inj h)
      exact ⟨rfl, hhold, by omega, by omega⟩
    next => exact absurd h (by simp)

/-- Where the fields of a window lie, each register 32 apart. -/
theorem windowKeys (w : Nat) :
    (F.FW_BASE_LO_VALID w).key = (0x11000 + w * 0x10) * 32 ∧ (F.FW_BASE_LO_READ w).key = (0x11000 + w * 0x10) * 32 + 1 ∧
    (F.FW_BASE_LO_WRITE w).key = (0x11000 + w * 0x10) * 32 + 2 ∧
    (F.FW_BASE_LO_BASE_L w).key = (0x11000 + w * 0x10) * 32 + 12 ∧
    (F.FW_BASE_HI_BASE_H w).key = (0x11004 + w * 0x10) * 32 ∧
    (F.FW_LIMIT_LO_LIMIT_L w).key = (0x11008 + w * 0x10) * 32 + 12 ∧
    (F.FW_LIMIT_HI_LIMIT_H w).key = (0x1100c + w * 0x10) * 32 :=
  ⟨rfl, rfl, rfl, rfl, rfl, rfl, rfl⟩

/-- The fields of a window set read what was put there. -/
theorem State.rd_fenced (s : State) (w acc base lim : Nat) (hacc : acc ≤ 3) (hbase : base < 2 ^ 64) :
    (s.fenced w acc base lim).rd (F.FW_BASE_LO_VALID w) = 1 ∧
    (s.fenced w acc base lim).rd (F.FW_BASE_LO_READ w) = acc % 2 ∧
    (s.fenced w acc base lim).rd (F.FW_BASE_LO_WRITE w) = acc / 2 ∧
    (s.fenced w acc base lim).rd (F.FW_BASE_LO_BASE_L w) = base / 4096 % 2 ^ 20 ∧
    (s.fenced w acc base lim).rd (F.FW_BASE_HI_BASE_H w) = base / 2 ^ 32 := by
  obtain ⟨hvalid, hread, hwrite, hbaseLow, hbaseHigh, hlimLow, hlimHigh⟩ := windowKeys w
  have hput (u : State) (f : Fld) (v n : Nat) (hn : f.w = n) (hle : n ≤ 32) (hv : v < 2 ^ n) : (u.wr f v).rd f = v := by
    subst hn
    exact (State.rd_wr_same u f v hle).trans (Nat.mod_eq_of_lt hv)
  unfold State.fenced
  extract_lets bases limits
  refine ⟨?_, ?_, ?_, ?_, ?_⟩
  · exact hput _ _ _ 1 rfl (by omega) (by omega)
  · simp (disch := omega) only [State.rd_wr_ne]
    exact hput _ _ _ 1 rfl (by omega) (by omega)
  · simp (disch := omega) only [State.rd_wr_ne]
    exact hput _ _ _ 1 rfl (by omega) (by omega)
  · simp (disch := omega) only [State.rd_wr_ne, limits, bases]
    exact hput _ _ _ 20 rfl (by omega) (by omega)
  · simp (disch := omega) only [State.rd_wr_ne, limits, bases]
    exact hput _ _ _ 32 rfl (by omega) (by omega)

/-- The two halves of a base of 4,096-byte pages make up the base. -/
theorem State.fwBase_fenced (s : State) (w acc base lim : Nat) (hacc : acc ≤ 3) (halign : base % 4096 = 0)
    (hbase : base < 2 ^ 64) : (s.fenced w acc base lim).fwBase w = base := by
  obtain ⟨-, -, -, hlow, hhigh⟩ := s.rd_fenced w acc base lim hacc hbase
  rw [State.fwBase, hlow, hhigh]
  omega

/-! ### Transactions of Q31 (R244, R259) -/

/-- A descriptor that succeeds changes registers and rings alone. -/
theorem State.admin_keeps {β : Type} (p : State → β) (hwr : ∀ u f x, p (State.wr u f x) = p u)
    (hring : ∀ u q g, p (State.modRing u q g) = p u) (s : State) (d : Desc) :
    (s.admin d).elim (fun _ => p s) (fun r => p r.1) = p s := by
  have hzero (u : State) (q : Nat) : p (u.zeroRing q) = p u := by simp only [State.zeroRing, hwr, hring]
  simp only [State.admin]
  split
  all_goals simp only [apply_ite (Sum.elim _ _), Sum.elim_inl, Sum.elim_inr, hwr, hzero, ite_self]

/-- A transaction that succeeds as a whole changes no more. -/
theorem adminAll_keeps {β : Type} (p : State → β) (hwr : ∀ u f x, p (State.wr u f x) = p u)
    (hring : ∀ u q g, p (State.modRing u q g) = p u) {i : Nat} {ds : List Desc} {s v : State} {n b : Bool}
    (h : adminAll i ds s n = .inr (v, b)) : p v = p s := by
  induction ds generalizing i s n with
  | nil =>
    obtain ⟨rfl, -⟩ := Prod.mk.inj (Sum.inr.inj h)
    rfl
  | cons d ds ih =>
    have hkeep := s.admin_keeps p hwr hring d
    unfold adminAll at h
    split at h
    next => exact absurd h Sum.inl_ne_inr
    next s' n' hd =>
      rw [hd] at hkeep
      exact (ih h).trans hkeep

/-- A transaction of Q31 whose turn it is is taken by the command of its first descriptor's opcode. -/
theorem State.adminOp_ready (s : State) (op : Nat) (ds : List Desc) (h : s.ringReady 31 ds)
    (hop : dOpcode (ds.headD 0) = op) : s.adminOp op = (s.takeAdmin ds).settleHead 31 ds.length :=
  s.takeWhen_ready 31 ds _ _ h (beq_iff_eq.mpr hop)

/-- A transaction of which a descriptor fails is answered with its status, and nothing of it is done (R244). -/
theorem State.takeAdmin_refused (s : State) (ds : List Desc) (u v : State) (m : MTxn) (i st : Nat)
    (hu : u = (s.passTxn 31 ds.length).trace 0 31 ds 0) (hnew : u.newTxn 31 ds 0 = (m, v))
    (hall : adminAll 0 ds v false = .inl (i, st)) :
    s.takeAdmin ds = v.finishTxn { m with status := st, failIndex := i, failOp := dOpcode (ds.getD i 0) } := by
  simp only [State.takeAdmin, ← hu, hnew, hall]

/-- A transaction that is done answers at once, or after the transfers open under a window that it narrowed (R259). -/
theorem State.takeAdmin_applied (s : State) (ds : List Desc) (u v w : State) (m : MTxn) (nar : Bool)
    (hu : u = (s.passTxn 31 ds.length).trace 0 31 ds 0) (hnew : u.newTxn 31 ds 0 = (m, v))
    (hall : adminAll 0 ds v false = .inr (w, nar)) :
    s.takeAdmin ds = if nar && s.openTransfers != []
      then (v.begunWait w).modTxn m.id (fun m => { m with holds := s.openTransfers })
      else (v.begunWait w).finishTxn m := by
  simp only [State.takeAdmin, ← hu, hnew, hall]

/-- Settles O42: each order is a branch of `State.admin`, a whole transaction is `State.takeAdmin`. -/
theorem ringAdministration : Obligations.RingAdministration := by
  refine ⟨?_, ?_, ?_, ?_, ?_⟩
  · intro s ds hready u m a t
    have htake : s.takeAdmin ds = a := by
      rcases hall : adminAll 0 ds (u.newTxn 31 ds 0).2 false with ⟨i, st⟩ | ⟨v, nar⟩
      · rw [s.takeAdmin_refused ds u (u.newTxn 31 ds 0).2 m i st rfl rfl hall]
        simp only [a, hall]
      · rw [s.takeAdmin_applied ds u (u.newTxn 31 ds 0).2 v m nar rfl rfl hall]
        simp only [a, hall]
    have htaken (op : Nat) (hop : dOpcode (ds.headD 0) = op) : s.adminOp op = t :=
      (s.adminOp_ready op ds hready hop).trans (congrArg (State.settleHead · 31 ds.length) htake)
    clear_value t
    exact ⟨fun hop => exec_of_live rfl hready.1 (htaken 0x70 hop), fun hop => exec_of_live rfl hready.1 (htaken 0x71 hop),
      fun hop => exec_of_live rfl hready.1 (htaken 0x72 hop), fun hop => exec_of_live rfl hready.1 (htaken 0x73 hop),
      fun hop => exec_of_live rfl hready.1 (htaken 0x74 hop), fun hop => exec_of_live rfl hready.1 (htaken 0x75 hop)⟩
  · intro s d hcount hzero hring
    have hform : ringOrder d := ⟨hcount, hzero, by omega⟩
    have hother : dField d 8 1 ≠ 31 := by omega
    refine ⟨fun hop hst => ?_, fun hop hst => ?_, fun hop hst => ?_, fun hop hst => ?_, fun hop hst => ?_,
      fun hop hst => ?_⟩
    · rw [s.admin_stop d hform hop, if_neg (by omega)]
    · rw [s.admin_start d hform hop, if_neg (by omega)]
    · rw [s.admin_reset d hform hop, if_neg (by omega)]
    · rw [s.admin_stop d hform hop, if_pos (by omega)]
    · rw [s.admin_start d hform hop, if_pos (by omega)]
    · rw [s.admin_reset d hform hop, if_pos (by omega)]
  · intro s d hop hcount hzero hring
    have hform : ringOrder d := ⟨hcount, hzero, by omega⟩
    rcases hop with hop | hop | hop
    · rw [s.admin_stop d hform hop, if_pos (.inl hring)]
    · rw [s.admin_start d hform hop, if_pos (.inl hring)]
    · rw [s.admin_reset d hform hop, if_pos (.inl hring)]
  · intro s d v b hadmin hop
    obtain ⟨rfl, hhold, hacc, halign⟩ := s.admin_fenceSet v d b hadmin hop
    have hbase : dField d 16 8 < 2 ^ 64 := Nat.mod_lt _ (by decide)
    obtain ⟨hvalid, hread, hwrite, -⟩ := s.rd_fenced (dField d 8 1) _ _ (dField d 24 8) hacc hbase
    exact ⟨s.fwBase_fenced _ _ _ _ hacc halign hbase, hhold, hvalid, hread, hwrite⟩
  · intro i ds s v n b h
    exact ⟨adminAll_keeps State.alm (fun _ _ _ => rfl) (fun _ _ _ => rfl) h,
      adminAll_keeps State.host (fun _ _ _ => rfl) (fun _ _ _ => rfl) h,
      adminAll_keeps State.band (fun _ _ _ => rfl) (fun _ _ _ => rfl) h⟩

end Sys2Proof.Machine
end

section
/-! What legacy frames and hops go by (R501, R506): the registers that a key names, and the shared operations that leave the
legacy stations and SC_FREQ alone. -/

namespace Sys2Proof.Machine

open Sys2Proof

/-! ### The native registers (R36, R497) -/

/-- A row of the register table lies below the legacy registers, with few numbers, and its fields in the row's word. -/
def RegDesc.native (r : RegDesc) : Bool :=
  (match r.dims with
    | [] => r.base < 0x800000 && r.first < 4000
    | (c, k) :: _ => 0 < k && r.base + c * k ≤ 0x800000 && r.first + c ≤ 4000) &&
  r.fields.all (fun x => x.2.off = r.base && x.2.lo < 32)

theorem regTable_native : ∀ r ∈ regTable, r.native = true := by decide +kernel

theorem findIn_some {rs : List RegDesc} {off : Nat} {h : RegHit} (hfind : findIn rs off = some h) :
    h.desc ∈ rs ∧ off = h.desc.base + h.disp ∧ matchDims h.desc.dims h.disp = some h.ix := by
  induction rs with
  | nil => exact absurd hfind (by simp [findIn])
  | cons r rs ih =>
    have hrest : findIn rs off = some h → _ := fun htail => by
      obtain ⟨hmem, hoff, hdims⟩ := ih htail
      exact (⟨List.mem_cons_of_mem _ hmem, hoff, hdims⟩ :
        h.desc ∈ r :: rs ∧ off = h.desc.base + h.disp ∧ matchDims h.desc.dims h.disp = some h.ix)
    unfold findIn at hfind
    split at hfind
    · exact hrest hfind
    · split at hfind
      next ix hix =>
        obtain rfl := Option.some.inj hfind
        exact ⟨List.mem_cons_self, by simp only; omega, hix⟩
      next => exact hrest hfind

/-- A register found lies below the legacy registers; so do its fields, and its numbers are few. -/
theorem findReg_native {off : Nat} {h : RegHit} (hfind : findReg off = some h) :
    h.gInst < 4096 ∧ ∀ x ∈ h.fields, x.2.off < 0x800000 ∧ x.2.lo < 32 := by
  obtain ⟨hmem, -, hdims⟩ := findIn_some hfind
  have hrow := regTable_native _ hmem
  simp only [RegDesc.native, Bool.and_eq_true, List.all_eq_true, decide_eq_true_eq] at hrow
  obtain ⟨hplace, hfields⟩ := hrow
  have hbound : h.desc.base + h.disp < 0x800000 ∧ h.desc.first + h.ix.headD 0 < 4000 := by
    cases hd : h.desc.dims with
    | nil =>
      simp only [hd, matchDims, Option.ite_none_right_eq_some, Option.some.injEq, Bool.and_eq_true,
        decide_eq_true_eq] at hdims hplace
      obtain ⟨hdisp, hix⟩ := hdims
      rw [← hix]
      exact ⟨by omega, by simpa using hplace.2⟩
    | cons d ds =>
      obtain ⟨c, k⟩ := d
      simp only [hd, matchDims, Option.ite_none_right_eq_some, Option.map_eq_some_iff, Bool.and_eq_true,
        decide_eq_true_eq] at hdims hplace
      obtain ⟨hlt, ix, -, hix⟩ := hdims
      obtain ⟨⟨hk, hend⟩, hcount⟩ := hplace
      have hdisp : h.disp < c * k := (Nat.div_lt_iff_lt_mul hk).mp hlt
      rw [← hix]
      exact ⟨by omega, by simp only [List.headD_cons]; omega⟩
  refine ⟨?_, fun x hx => ?_⟩
  · simp only [RegHit.gInst, RegHit.inst]
    split <;> omega
  · obtain ⟨⟨a, f⟩, hf, rfl⟩ := List.mem_map.mp hx
    obtain ⟨hoff, hlo⟩ := hfields _ hf
    exact ⟨by simp only at hoff ⊢; omega, hlo⟩

/-- A key names native fields alone. -/
theorem fieldAt_native {key : Nat} {h : RegHit} {a : Acc} {f : Fld} (hat : fieldAt key = some (h, a, f)) :
    f.off < 0x800000 ∧ f.lo < 32 := by
  unfold fieldAt at hat
  split at hat
  next l k hprog =>
    obtain ⟨_, -, heq⟩ := Option.map_eq_some_iff.mp hat
    obtain ⟨-, -, rfl⟩ := Prod.mk.inj heq |>.imp_right Prod.mk.inj
    simp only [progOf, Option.ite_none_right_eq_some, Option.some.injEq, Prod.mk.injEq] at hprog
    simp only [progFld]
    omega
  next =>
    split at hat
    · exact absurd hat (by simp)
    next r hreg =>
      obtain ⟨x, hx, heq⟩ := Option.map_eq_some_iff.mp hat
      obtain ⟨-, -, rfl⟩ := Prod.mk.inj heq |>.imp_right Prod.mk.inj
      exact (findReg_native hreg).2 x (List.mem_of_find?_eq_some hx)

/-- The number that a key names is small. -/
theorem kindOfKey_inst_lt (key : Nat) : (kindOfKey key).2.1 < 4096 := by
  unfold kindOfKey
  split
  next l k hprog =>
    simp only [progOf, Option.ite_none_right_eq_some, Option.some.injEq, Prod.mk.injEq] at hprog
    simp only
    omega
  next =>
    split
    next h hreg => exact (findReg_native hreg).1
    next => exact Nat.zero_lt_succ _

end Sys2Proof.Machine
end

section
/-! What leaves the legacy stations and SC_FREQ alone: register writes, events and the answers of transactions. -/

namespace Sys2Proof.Machine

open Sys2Proof

/-! ### What legacy frames and hops go by (R501, R506) -/

/-- The legacy stations, and what SC_FREQ reads. -/
def State.legScans (s : State) : List LegStation × (Fin 4 → Nat × Nat) :=
  (s.leg.st, fun st => (s.rd (L.SC_FREQ_HI_FREQ st), s.rd (L.SC_FREQ_LO_FREQ st)))

theorem State.legScans_of_eq {s t : State} (hst : t.leg.st = s.leg.st) (hregs : t.regs = s.regs) :
    t.legScans = s.legScans := by
  simp only [State.legScans, State.rd, hst, hregs]

/-- A write of a field that is none of SC_FREQ. -/
@[simp] theorem State.legScans_wr (s : State) (o lo w r v : Nat) (hlo : lo < 32)
    (h : lo ≠ 0 ∨ o < 0x800048 ∨ 0x8000AC < o ∨ o % 32 ≠ 8 ∧ o % 32 ≠ 12) :
    (s.wr ⟨o, lo, w, r⟩ v).legScans = s.legScans := by
  have hkeys (st : Fin 4) : (⟨o, lo, w, r⟩ : Fld).key ≠ (L.SC_FREQ_HI_FREQ st).key ∧
      (⟨o, lo, w, r⟩ : Fld).key ≠ (L.SC_FREQ_LO_FREQ st).key := by
    simp only [Fld.key, L.SC_FREQ_HI_FREQ, L.SC_FREQ_LO_FREQ, legOff]
    omega
  refine Prod.ext rfl (funext fun st => ?_)
  exact Prod.ext (State.rd_wr_ne _ _ _ _ (hkeys st).1) (State.rd_wr_ne _ _ _ _ (hkeys st).2)

theorem State.legScans_wr_native (s : State) (f : Fld) (v : Nat) (h : f.off < 0x800000 ∧ f.lo < 32) :
    (s.wr f v).legScans = s.legScans :=
  State.legScans_wr s f.off f.lo f.w f.rst v h.2 (by omega)

@[simp] theorem State.legScans_inc (s : State) (o lo w r k : Nat) (hlo : lo < 32)
    (h : lo ≠ 0 ∨ o < 0x800048 ∨ 0x8000AC < o ∨ o % 32 ≠ 8 ∧ o % 32 ≠ 12) :
    (s.inc ⟨o, lo, w, r⟩ k).legScans = s.legScans := State.legScans_wr _ _ _ _ _ _ hlo h

@[simp] theorem State.legScans_wrS (s : State) (o lo w r : Nat) (v : Int) (hlo : lo < 32)
    (h : lo ≠ 0 ∨ o < 0x800048 ∨ 0x8000AC < o ∨ o % 32 ≠ 8 ∧ o % 32 ≠ 12) :
    (s.wrS ⟨o, lo, w, r⟩ v).legScans = s.legScans := State.legScans_wr _ _ _ _ _ _ hlo h

@[simp] theorem State.legScans_setW1c (s : State) (o lo w r bits : Nat) (hlo : lo < 32)
    (h : lo ≠ 0 ∨ o < 0x800048 ∨ 0x8000AC < o ∨ o % 32 ≠ 8 ∧ o % 32 ≠ 12) :
    (s.setW1c ⟨o, lo, w, r⟩ bits).legScans = s.legScans :=
  State.legScans_wr s o lo w r (s.rd ⟨o, lo, w, r⟩ ||| bits) hlo h

@[simp] theorem State.legScans_modSc (s : State) (n : Nat) (g : Scan → Scan) : (s.modSc n g).legScans = s.legScans := rfl
@[simp] theorem State.legScans_modBeam (s : State) (n : Nat) (g : Beam → Beam) :
    (s.modBeam n g).legScans = s.legScans := rfl
@[simp] theorem State.legScans_modOct (s : State) (n : Nat) (g : Octet → Octet) :
    (s.modOct n g).legScans = s.legScans := rfl
@[simp] theorem State.legScans_modClasp (s : State) (n : Nat) (g : Clasp → Clasp) :
    (s.modClasp n g).legScans = s.legScans := rfl
@[simp] theorem State.legScans_modPll (s : State) (n : Nat) (g : Pll → Pll) : (s.modPll n g).legScans = s.legScans := rfl
@[simp] theorem State.legScans_modXd (s : State) (n : Nat) (g : Xd → Xd) : (s.modXd n g).legScans = s.legScans := rfl
@[simp] theorem State.legScans_modEnc (s : State) (n : Nat) (g : Enc → Enc) : (s.modEnc n g).legScans = s.legScans := rfl
@[simp] theorem State.legScans_modWeb (s : State) (g : Web → Web) : (s.modWeb g).legScans = s.legScans := rfl
@[simp] theorem State.legScans_modHv (s : State) (n : Nat) (g : Hv → Hv) : (s.modHv n g).legScans = s.legScans := rfl
@[simp] theorem State.legScans_modFz (s : State) (n : Nat) (g : Fz → Fz) : (s.modFz n g).legScans = s.legScans := rfl
@[simp] theorem State.legScans_modIsl (s : State) (n : Nat) (g : Island → Island) :
    (s.modIsl n g).legScans = s.legScans := rfl
@[simp] theorem State.legScans_modRail (s : State) (n : Nat) (g : Rail → Rail) :
    (s.modRail n g).legScans = s.legScans := rfl
@[simp] theorem State.legScans_modRing (s : State) (n : Nat) (g : Ring → Ring) :
    (s.modRing n g).legScans = s.legScans := rfl
@[simp] theorem State.legScans_modTxn (s : State) (i : Nat) (g : MTxn → MTxn) : (s.modTxn i g).legScans = s.legScans := rfl
@[simp] theorem State.legScans_modEveTick (s : State) (g : Slot → Slot) : (s.modEveTick g).legScans = s.legScans := rfl
@[simp] theorem State.legScans_modInFlight (s : State) (g : Slot → Slot) : (s.modInFlight g).legScans = s.legScans := rfl

@[simp] theorem State.legScans_modSlot (s : State) (p : Nat) (g : Slot → Slot) :
    (s.modSlot p g).legScans = s.legScans := by
  unfold State.modSlot; split <;> exact State.legScans_of_eq rfl rfl

/-! ### Events (R251, R479, R480, R505) -/

@[simp] theorem State.legScans_vecCause (s : State) (n : Nat) (imm : Bool) :
    (s.vecCause n imm).legScans = s.legScans := by
  unfold State.vecCause; split <;> rfl

@[simp] theorem State.legScans_legInt (s : State) : s.legInt.legScans = s.legScans := by
  simp only [State.legInt]
  split
  · exact State.legScans_vecCause _ _ _
  · rfl

@[simp] theorem State.legScans_legIrq (s : State) (bit : Nat) : (s.legIrq bit).legScans = s.legScans := by
  unfold State.legIrq
  split
  · simp (disch := omega) [L.IRQ_STAT_CAUSE, legOff]
  · rfl

@[simp] theorem State.legScans_legSst_skip (s : State) (st : Nat) : (s.legSst st L.SSTAT_SKIP).legScans = s.legScans := by
  unfold State.legSst
  split
  · simp (disch := omega) [L.SSTAT_SKIP, legOff]
  · rfl

@[simp] theorem State.legScans_legEvent (s : State) (sev code inst : Nat) :
    (s.legEvent sev code inst).legScans = s.legScans := by
  have hlast : (if 1 ≤ sev then s.wr L.LASTCODE_CODE code else s).legScans = s.legScans := by
    split
    · simp (disch := omega) [L.LASTCODE_CODE, legOff]
    · rfl
  unfold State.legEvent
  split
  · rfl
  · rw [← hlast]
    simp only
    repeat' split
    all_goals simp (disch := omega) [L.STAT_TAKEOVER, L.STAT_CFG_FAULT, legOff]

@[simp] theorem State.legScans_postRaw (s : State) (sev code block inst : Nat) (d : BitVec 80) (src tag : Nat) :
    (s.postRaw sev code block inst d src tag).legScans = s.legScans := by
  have hlost (u : State) : ((u.inc F.EVT_DROPPED_DROPPED).vecCause 62 true).legScans = u.legScans := by
    simp (disch := omega) [F.EVT_DROPPED_DROPPED]
  rw [← State.legScans_legEvent s sev code inst]
  unfold State.postRaw
  generalize s.legEvent sev code inst = u
  extract_lets s0 e0 after e last host v lost
  split
  · rfl
  · split
    · exact hlost v
    · split
      · exact hlost _
      · exact hlost v

@[simp] theorem State.legScans_undoClr (s : State) : s.undoClr.legScans = s.legScans := by
  unfold State.undoClr
  split
  next c fl at_ _ =>
    split
    · have hstop : (((s.wr F.FAULT_STAT_FRAME_STOP 1).wr F.FAULT_STAT_FS_CAUSE c).wr F.FAULT_STAT_FLUSHABLE fl).legScans =
          s.legScans := by
        simp (disch := omega) [F.FAULT_STAT_FRAME_STOP, F.FAULT_STAT_FS_CAUSE, F.FAULT_STAT_FLUSHABLE]
      exact (State.legScans_of_eq rfl rfl).trans hstop
    · rfl
  next => rfl

@[simp] theorem State.legScans_frameStop (s : State) (code : Nat) : (s.frameStop code).legScans = s.legScans := by
  have hnew : ((((s.legIrq 15).wr F.FAULT_STAT_FRAME_STOP 1).wr F.FAULT_STAT_FS_CAUSE code).inc
      F.FAULT_COUNT_FRAME_STOPS).legScans = s.legScans := by
    simp (disch := omega) [F.FAULT_STAT_FRAME_STOP, F.FAULT_STAT_FS_CAUSE, F.FAULT_COUNT_FRAME_STOPS]
  have hlow (u : State) : (u.wr F.FAULT_STAT_WSTOP 1).legScans = u.legScans := by
    simp (disch := omega) [F.FAULT_STAT_WSTOP]
  unfold State.frameStop
  extract_lets u v src w x
  have hu : w.legScans = s.legScans := by
    simp only [w]
    split
    · exact State.legScans_undoClr s
    · exact (State.legScans_of_eq rfl rfl).trans hnew
  exact (State.legScans_modInFlight _ _).trans ((State.legScans_modEveTick _ _).trans
    ((State.legScans_of_eq (s := x) rfl rfl).trans ((hlow w).trans hu)))

@[simp] theorem State.legScans_post (s : State) (sev code block inst : Nat) (d : List (Nat × Nat × Nat)) (tag : Nat) :
    (s.post sev code block inst d tag).legScans = s.legScans := by
  simp only [State.post, State.postBy]
  split <;> simp

@[simp] theorem State.legScans_postVig (s : State) (sev code block inst : Nat) (d : List (Nat × Nat × Nat)) :
    (s.postVig sev code block inst d).legScans = s.legScans := by
  simp only [State.postVig]
  split
  · simp
  · split
    · exact State.legScans_frameStop s code
    · rfl

/-! ### Answers of transactions (R250, R253) -/

@[simp] theorem State.legScans_begunWait (s t : State) : (s.begunWait t).legScans = t.legScans := by
  unfold State.begunWait; split <;> simp

@[simp] theorem State.legScans_queueRec (s : State) (q : Nat) (r : Rec) : (s.queueRec q r).legScans = s.legScans := by
  simp [State.queueRec]

@[simp] theorem State.legScans_closeTxn (s : State) (q : Option Nat) : (s.closeTxn q).legScans = s.legScans := by
  cases q <;> rfl

@[simp] theorem State.legScans_finishTxn (s : State) (m : MTxn) : (s.finishTxn m).legScans = s.legScans := by
  have hgone : State.legScans { s with host := { s.host with mach := s.host.mach.filter (fun x => x.id != m.id) } } =
    s.legScans := rfl
  simp only [State.finishTxn]
  split <;> simp (disch := omega) [F.RING_DISCARD_DISCARD, hgone]

@[simp] theorem State.legScans_partDone (s : State) (ref status det result : Nat) :
    (s.partDone ref status det result).legScans = s.legScans := by
  simp only [State.partDone, State.settleTxn]
  split
  · split <;> simp
  · simp

end Sys2Proof.Machine
end

section
/-! The same of beams, drives, heaters, the sequencer and the web tracker. -/

namespace Sys2Proof.Machine

open Sys2Proof

/-! ### Beams and scans (R58, R160, R173, R206, R216) -/

@[simp] theorem State.legScans_onRun (s : State) (b : Nat) (len : Int) : (s.onRun b len).legScans = s.legScans := by
  simp (disch := omega) [State.onRun, F.BM_ONMAX_ONMAX]

@[simp] theorem State.legScans_cutLine (s : State) (st e : Nat) : (s.cutLine st e).legScans = s.legScans := by
  simp only [State.cutLine, State.legScans_modBeam, State.legScans_onRun]
  split
  · split <;> simp
  · rfl

@[simp] theorem State.legScans_stationOff (s : State) (st : Nat) : (s.stationOff st).legScans = s.legScans :=
  foldl_keeps State.legScans _ (fun s e => s.legScans_cutLine st e) _ _

@[simp] theorem State.legScans_thermPages (s : State) (st bits cause outcome : Nat) :
    (s.thermPages st bits cause outcome).legScans = s.legScans := by
  have hpages : (s.hurtAhead st outcome cause bits).legScans = s.legScans :=
    foldl_keeps State.legScans _ (fun _ _ => State.legScans_modSlot _ _ _) _ _
  unfold State.thermPages
  split <;> simp [hpages]

@[simp] theorem State.legScans_dropBsen (s : State) (n : Nat) : (s.dropBsen n).legScans = s.legScans := by
  simp (disch := omega) [State.dropBsen, F.OCT_STAT_VBS_OK]

theorem State.legScans_wr_vbsOk (s : State) (n v : Nat) : (s.wr (F.OCT_STAT_VBS_OK n) v).legScans = s.legScans := by
  simp (disch := omega) [F.OCT_STAT_VBS_OK]

@[simp] theorem State.legScans_syncOct (s : State) (n : Nat) : (s.syncOct n).legScans = s.legScans :=
  State.syncOct_keeps State.legScans State.legScans_modOct State.legScans_wr_vbsOk s n

@[simp] theorem State.legScans_syncOcts (s : State) : s.syncOcts.legScans = s.legScans :=
  State.syncOcts_keeps State.legScans State.legScans_modOct State.legScans_wr_vbsOk s

@[simp] theorem State.legScans_endCalls (s : State) (st : Nat) : (s.endCalls st).legScans = s.legScans :=
  foldl_keeps State.legScans _ (fun s e => by simp only; split <;> simp) _ _

@[simp] theorem State.legScans_rollOff (s : State) (st : Nat) : (s.rollOff st).legScans = s.legScans := by
  simp (disch := omega) [State.rollOff, F.ST_ROLL_STAT_PHASE]

theorem State.legScans_scanEn_off (s : State) (st : Nat) : (s.scanEn st false).legScans = s.legScans := by
  simp (disch := omega) [State.scanEn, F.ST_SCANCTL_SCAN_EN]

@[simp] theorem State.legScans_toAcquire (s : State) (st : Nat) : (s.toAcquire st).legScans = s.legScans := by
  refine State.toAcquire_keeps State.legScans st (fun _ _ _ => ?_) (fun _ _ => ?_) (fun _ _ => rfl) s <;>
    simp (disch := omega) [F.BM_ONMAX_ONMAX, F.ST_ROLL_STAT_PHASE]

@[simp] theorem State.legScans_sigZero (s : State) (st : Nat) : (s.sigZero st).legScans = s.legScans := by
  have hkept (f : Fld)
      (h : ¬ ((F.ST_SIG_SOFF st 0 0).off ≤ f.key / 32 ∧ f.key / 32 < (F.ST_SIG_SOFF st 0 0).off + 0x800)) :
      (s.sigZero st).rd f = s.rd f :=
    congrArg BitVec.toNat (amGet_filter_keeps _ _ _ _ (fun _ => by
      simp only [Bool.not_eq_true', Bool.and_eq_false_iff, decide_eq_false_iff_not]
      omega))
  refine Prod.ext rfl (funext fun k => Prod.ext (hkept _ ?_) (hkept _ ?_)) <;>
  · simp only [Fld.key, L.SC_FREQ_HI_FREQ, L.SC_FREQ_LO_FREQ, F.ST_SIG_SOFF, legOff]
    omega

@[simp] theorem State.legScans_sigClear (s : State) (st : Nat) : (s.sigClear st).legScans = s.legScans := by
  rw [State.sigClear_eq, State.legScans_toAcquire]
  simp (disch := omega) [State.sigEmptied, F.ST_FACET_STAT_SIG_STATE]

@[simp] theorem State.legScans_retarget (s : State) (st : Nat) : (s.retarget st).legScans = s.legScans := by
  simp only [State.retarget]
  split <;> simp (disch := omega) [F.ST_PH_STAT_SLEWING]

@[simp] theorem State.legScans_showTarget (s : State) (st : Nat) : (s.showTarget st).legScans = s.legScans := by
  simp (disch := omega) [State.showTarget, F.ST_PH_TGT_TGT]

/-! ### Clasps, drives and heaters (R273, R394, R395) -/

@[simp] theorem State.legScans_syncXd (s : State) (n : Nat) : (s.syncXd n).legScans = s.legScans := by
  simp only [State.syncXd, State.xdUse]
  repeat' split
  all_goals simp (disch := omega) [F.XD_STAT_RUNNING, F.XD_VALUE_VALUE]

@[simp] theorem State.legScans_syncXds (s : State) : s.syncXds.legScans = s.legScans :=
  foldl_keeps State.legScans _ State.legScans_syncXd _ _

@[simp] theorem State.legScans_syncHv (s : State) (n : Nat) : (s.syncHv n).legScans = s.legScans := by
  simp only [State.syncHv]
  repeat' split
  all_goals simp (disch := omega) [F.HV_STAT_DUTY]

@[simp] theorem State.legScans_claspMoved (s : State) (c : Nat) : (s.claspMoved c).legScans = s.legScans := by
  unfold State.claspMoved
  repeat' split
  all_goals simp (disch := omega) [State.syncEn, F.AX_STAT_EN]

@[simp] theorem State.legScans_countSafe (s : State) : s.countSafe.legScans = s.legScans := by
  simp (disch := omega) [State.countSafe, F.CLASP_SUMMARY_SAFE_N]

@[simp] theorem State.legScans_ackRaised (s : State) (u : Nat) : (s.ackRaised u).legScans = s.legScans := by
  simp only [State.ackRaised]
  repeat' split
  all_goals simp

@[simp] theorem State.legScans_endSwitches (s : State) : s.endSwitches.legScans = s.legScans := by
  unfold State.endSwitches
  extract_lets low ovr ended src u
  refine (foldl_keeps State.legScans _ (fun v x => ?_) ended u).trans (State.legScans_of_eq rfl rfl)
  split
  · simp
  · simp (disch := omega) [F.CLASP_ISL_STAT_BUSY, F.CLASP_ISL_STAT_STATUS]

theorem State.legScans_present (s : State) (u c v : Nat) (hc : c < 4096) :
    (s.present u c v).legScans = s.legScans := by
  simp only [State.present]
  repeat' split
  all_goals simp (disch := omega) [F.CLASP_ACK_ACK, F.CLASP_ACK_MAX_ACK_MAX, F.CLASP_STAT_STATE, F.CLASP_STAT_STALE]

@[simp] theorem State.legScans_wantOcts (s : State) : s.wantOcts.legScans = s.legScans := by
  refine List.foldlRecOn (motive := fun t : State => t.legScans = s.legScans) _ _ rfl (fun t ih n hn => ?_)
  have hlt := List.mem_range.mp hn
  split
  · exact ih
  · exact (foldl_keeps State.legScans _ (fun w u => w.legScans_present u _ _ (by omega)) _ _).trans ih

theorem State.legScans_fzCut (s : State) (n : Nat) (hn : n < 4096) : (s.fzCut n).legScans = s.legScans := by
  simp only [State.fzCut, State.fzOff, State.fzUncount]
  repeat' split
  all_goals simp (disch := omega) [F.FZ_STAT_CONDUCTING, F.FZ_STAT_OVERTEMP, F.FZ_HALVES_HALVES]

/-! ### The sequencer and the web tracker (R355, R358, R440, R441) -/

@[simp] theorem State.legScans_syncOwners (s : State) : s.syncOwners.legScans = s.legScans :=
  foldl_keeps State.legScans _ (fun _ _ => by simp (disch := omega) [F.SEQ_RAIL_STAT_OWNER]) _ _

@[simp] theorem State.legScans_rereadPg (s : State) (k : Nat) : (s.rereadPg k).legScans = s.legScans := by
  unfold State.rereadPg State.setPg
  split <;> simp (disch := omega) [F.SEQ_PG_MAP_PG]

theorem State.legScans_setRail (s : State) (k x : Nat) (hk : k < 4096) : (s.setRail k x).legScans = s.legScans := by
  simp (disch := omega) [State.setRail, State.showRail, F.SEQ_RAIL_STAT_STATE, F.SEQ_FAULT_MAP_FAULT, F.SEQ_STAT_RAIL]

theorem State.programme_lt (s : State) (k : Nat) (h : s.programme.head? = some k) : k < 24 :=
  List.mem_range.mp (List.mem_filter.mp (List.mem_of_mem_head? h)).1

@[simp] theorem State.legScans_seqStart (s : State) (cause : Nat) : (s.seqStart cause).legScans = s.legScans := by
  unfold State.seqStart
  extract_lets src u v
  have hv : v.legScans = s.legScans := by
    have hstate (w : State) : (w.wr F.SEQ_STAT_STATE 1).legScans = w.legScans := by
      simp (disch := omega) [F.SEQ_STAT_STATE]
    have hpend : (u.wr F.SEQ_STAT_PEND_ON 0).legScans = u.legScans := by
      simp (disch := omega) [F.SEQ_STAT_PEND_ON]
    exact (State.legScans_postVig _ _ _ _ _ _).trans ((hstate _).trans
      ((State.legScans_of_eq rfl rfl).trans (hpend.trans (State.legScans_of_eq rfl rfl))))
  split
  next k hk =>
    have hlt := v.programme_lt k hk
    unfold State.railStart
    split
    · exact hv
    · rw [State.legScans_setRail _ _ _ (by omega)]
      exact hv
  next => exact (State.legScans_of_eq (s := v) rfl rfl).trans hv

@[simp] theorem State.legScans_seqTry (s : State) : s.seqTry.legScans = s.legScans := by
  unfold State.seqTry
  split <;> simp

@[simp] theorem State.legScans_webEnable (s : State) : s.webEnable.legScans = s.legScans := by
  unfold State.webEnable
  extract_lets u v
  have hu : u.legScans = s.legScans := by
    refine foldl_keeps State.legScans _ (fun t n => ?_) _ s
    exact State.legScans_modEnc _ _ _
  have hv : v.legScans = u.legScans := State.legScans_modWeb _ _
  simp (disch := omega) [F.WEB_STAT_RUN, F.WEB_STAT_SRC_SEC, F.WEB_STAT_REVERSED, hv, hu]

@[simp] theorem State.legScans_webToPri (s : State) : s.webToPri.legScans = s.legScans := by
  simp only [State.webToPri]
  split <;> simp (disch := omega) [F.WEB_STAT_SRC_SEC]

@[simp] theorem State.legScans_webCommit (s old : State) : (s.webCommit old).legScans = s.legScans := by
  unfold State.webCommit
  repeat' split
  all_goals simp (disch := omega) [F.WEB_STAT_RUN]

end Sys2Proof.Machine
end

section
/-! The same of clocks and of the commits of configuration groups; what legacy fields drive (R273, R503). -/

namespace Sys2Proof.Machine

open Sys2Proof

/-! ### Clocks (R285, R288, R297, R298, R300) -/

@[simp] theorem State.legScans_syncOuts (s : State) : s.syncOuts.legScans = s.legScans := by
  refine List.foldlRecOn (motive := fun t : State => t.legScans = s.legScans) _ _ rfl (fun t ih c hc => ?_)
  have hlt := List.mem_range.mp hc
  simpa (disch := omega) [F.CLK_OUT_STAT_RUNNING] using ih

@[simp] theorem State.legScans_sysStop (s : State) : s.sysStop.legScans = s.legScans := by
  unfold State.sysStop; split <;> rfl

@[simp] theorem State.legScans_lockPins (s : State) : s.lockPins.legScans = s.legScans := rfl

@[simp] theorem State.legScans_stationUnlocked (s : State) (st cause : Nat) :
    (s.stationUnlocked st cause).legScans = s.legScans := by
  simp only [State.stationUnlocked]
  split <;> simp

/-- The state of a PLL as PLL_STAT and the lock pins show it. -/
theorem State.legScans_showPll (s : State) (p x : Nat) :
    (s.wr (F.PLL_STAT_STATE p) x).syncOuts.lockPins.legScans = s.legScans := by
  rw [State.legScans_lockPins, State.legScans_syncOuts]
  exact State.legScans_wr _ _ _ _ _ _ (by omega) (by omega)

/-- A lock lost, and its count. -/
theorem State.legScans_lockLost (s : State) (p cause : Nat) :
    (if 4 ≤ p then (s.inc (F.PLL_COUNT_LOSSES p)).stationUnlocked (p - 4) cause else s.inc (F.PLL_COUNT_LOSSES p)).legScans =
      s.legScans := by
  split <;> simp (disch := omega) [F.PLL_COUNT_LOSSES]

@[simp] theorem State.legScans_setPll (s : State) (p x cause : Nat) : (s.setPll p x cause).legScans = s.legScans := by
  unfold State.setPll
  extract_lets lost u v w counted
  have hu : u.legScans = s.legScans := s.legScans_showPll p x
  clear_value u
  have hv : v.legScans = u.legScans := by
    simp only [v]
    split <;> simp
  clear_value v
  have hw : w.legScans = v.legScans := State.legScans_modPll _ _ _
  clear_value w
  rw [← hu, ← hv, ← hw]
  split
  · exact w.legScans_lockLost p cause
  · rfl

@[simp] theorem State.legScans_acqFail (s : State) (p why : Nat) : (s.acqFail p why).legScans = s.legScans := by
  simp [State.acqFail]

@[simp] theorem State.legScans_closeLoop (s : State) (p : Nat) : (s.closeLoop p).legScans = s.legScans := by
  simp [State.closeLoop]

@[simp] theorem State.legScans_startSearch (s : State) (p : Nat) : (s.startSearch p).legScans = s.legScans := by
  simp (disch := omega) [State.startSearch, F.PLL_STAT_SRC]

@[simp] theorem State.legScans_loadHop (s : State) (p k : Nat) : (s.loadHop p k).legScans = s.legScans := by
  simp (disch := omega) [State.loadHop, State.hopUsed, F.PLL_STAT_CAP, F.PLL_STAT_SRC, F.PLL_STAT_HOPENT]

@[simp] theorem State.legScans_loadBand (s : State) (p k : Nat) : (s.loadBand p k).legScans = s.legScans := by
  have hfree : s.free.2.legScans = s.legScans := rfl
  simp (disch := omega) [State.loadBand, F.PLL_STAT_CAP, F.PLL_STAT_SRC, F.PLL_STAT_BAND, hfree]

/-! ### Commits (R272, R273) -/

@[simp] theorem State.legScans_prospect (s : State) (gs : List Nat) : (s.prospect gs).legScans = s.legScans :=
  foldl_keeps State.legScans _ (fun t ⟨k, v⟩ => by
    simp only
    split
    · split
      next h a f hat => exact State.legScans_wr_native _ _ _ (fieldAt_native hat)
      next => rfl
    · rfl) _ s

@[simp] theorem State.legScans_promote (s : State) (g : Nat) : (s.promote g).legScans = s.legScans :=
  (State.legScans_of_eq (s := s.prospect [g]) rfl rfl).trans (s.legScans_prospect [g])

@[simp] theorem State.legScans_coreKeys (s : State) (p : Nat) (keys : List Nat) :
    (s.coreKeys p keys).legScans = s.legScans := by
  unfold State.coreKeys; split <;> rfl

/-- The parts of transactions that a commit ends. -/
theorem State.legScans_partsDone (s : State) (ids : List Nat) :
    (ids.foldl (fun (t : State) id => t.partDone id 0 0) s).legScans = s.legScans :=
  foldl_keeps State.legScans _ (fun t id => t.legScans_partDone id 0 0 0) ids s

@[simp] theorem State.legScans_useTable (s : State) (p : Nat) : (s.useTable p).legScans = s.legScans := by
  simp only [State.useTable]
  split
  · rw [State.legScans_partsDone]
    simp
  · rfl

theorem State.legScans_acquire (s : State) (p fcw : Nat) (entry : Option Nat) (hold : Bool) (tag : Nat) (hp : p < 4096) :
    (s.acquire p fcw entry hold tag).legScans = s.legScans := by
  unfold State.acquire
  extract_lets u v w
  have hw : w.legScans = s.legScans := by
    simp only [w, v, u]
    split <;> simp (disch := omega) [F.PLL_COUNT_ACQS, F.PLL_RAMP_FCW_FCW_NOW]
  repeat' split
  all_goals simp [hw]

theorem State.legScans_hopStart (s : State) (p : Nat) (hp : p < 4096) : (s.hopStart p).legScans = s.legScans := by
  simp only [State.hopStart]
  split
  · rfl
  · rw [State.legScans_acquire _ _ _ _ _ _ hp, State.legScans_modPll]

theorem State.legScans_pllEnable (s : State) (p : Nat) (on : Bool) (hp : p < 4096) :
    (s.pllEnable p on).legScans = s.legScans := by
  simp only [State.pllEnable, State.pllOff]
  repeat' split
  all_goals simp (disch := omega) [State.legScans_acquire, F.PLL_CTL_EN, F.PLL_RAMP_STAT_RUN]

@[simp] theorem State.legScans_geomCommit (s : State) (st : Nat) (keys : List Nat) :
    (s.geomCommit st keys).legScans = s.legScans := by
  simp only [State.geomCommit, State.legScans_syncOcts, State.legScans_wantOcts]
  repeat' split
  all_goals simp

@[simp] theorem State.legScans_placeCommit (s : State) (st : Nat) (keys : List Nat) :
    (s.placeCommit st keys).legScans = s.legScans := by
  unfold State.placeCommit
  extract_lets u
  have hu : u.legScans = s.legScans := by
    simp only [u]
    split <;> simp
  split
  · refine (foldl_keeps State.legScans _ (fun t k => ?_) _ u).trans hu
    split <;> simp
  · exact hu

@[simp] theorem State.legScans_beamCommit (s : State) (b : Nat) (keys : List Nat) :
    (s.beamCommit b keys).legScans = s.legScans := by
  simp only [State.beamCommit, State.latchCodes]
  repeat' split
  all_goals simp (disch := omega) [F.BM_MOD_MOD]

theorem State.legScans_afterCommit (s old : State) (g : GrpKind) (i j : Nat) (keys : List Nat) (hi : i < 4096) :
    (s.afterCommit old g i j keys).legScans = s.legScans := by
  cases g with
  | pll =>
    simp only [State.afterCommit]
    split
    · exact s.legScans_hopStart i hi
    · rfl
  | loop => simp (disch := omega) [State.afterCommit, State.showLoad, F.LP_PROG_CRC_CRC, F.LOOP_LOAD_LOAD]
  | loopClass => simp (disch := omega) [State.afterCommit, State.showLoad, F.LOOP_LOAD_LOAD]
  | xd =>
    simp only [State.afterCommit, State.legScans_syncXd]
    split <;> rfl
  | fz =>
    simp only [State.afterCommit]
    split
    · simp (disch := omega) [State.fzOff, F.FZ_STAT_CONDUCTING]
    · rw [State.legScans_fzCut _ _ hi]
      split <;> rfl
  | rail => exact (State.legScans_syncOwners _).trans ((State.legScans_of_eq rfl rfl).trans (s.legScans_rereadPg i))
  | _ => simp [State.afterCommit]

@[simp] theorem State.legScans_applyCommit (s : State) (g : Nat) : (s.applyCommit g).legScans = s.legScans := by
  simp only [State.applyCommit]
  split
  · rfl
  next k ks _ =>
    rw [State.legScans_partsDone, State.legScans_afterCommit _ _ _ _ _ _ (kindOfKey_inst_lt k), State.legScans_promote]

/-- The values of a group's due fields. -/
theorem State.legScans_dueWrites (s : State) (es : List (Nat × Nat)) :
    (es.foldl (fun (t : State) (e : Nat × Nat) =>
      match fieldAt e.1 with | some (_, _, f) => t.wr f e.2 | none => t) s).legScans = s.legScans :=
  foldl_keeps State.legScans _ (fun t e => by
    split
    next h a f hat => exact State.legScans_wr_native _ _ _ (fieldAt_native hat)
    next => rfl) es s

@[simp] theorem State.legScans_applyDue (s : State) (g : Nat) : (s.applyDue g).legScans = s.legScans := by
  simp only [State.applyDue]
  split
  · rfl
  next k v ks _ =>
    rw [State.legScans_afterCommit _ _ _ _ _ _ (kindOfKey_inst_lt k)]
    exact (State.legScans_of_eq rfl rfl).trans (s.legScans_dueWrites _)

@[simp] theorem State.legScans_boundary (s : State) (g : Nat) : (s.boundary g).legScans = s.legScans := by
  simp only [State.boundary]
  split <;> simp

@[simp] theorem State.legScans_boundaries (s : State) (t : GrpKind → Nat → Bool) :
    (s.boundaries t).legScans = s.legScans :=
  foldl_keeps State.legScans _ State.legScans_boundary _ s

@[simp] theorem State.legScans_atEdge (s : State) (gs : List (GrpKind × Nat)) : (s.atEdge gs).legScans = s.legScans :=
  (State.legScans_boundaries _ _).trans rfl

@[simp] theorem State.legScans_drive (s : State) (vs : List (Fld × Nat)) : (s.drive vs).legScans = s.legScans :=
  (State.legScans_boundaries _ _).trans (State.legScans_of_eq rfl rfl)

end Sys2Proof.Machine
end

section
/-! Frequency hops. -/

namespace Sys2Proof.Machine

open Sys2Proof

/-! ### Frequency hops (R506) -/

theorem State.legScans_legSt {s t : State} (h : t.legScans = s.legScans) (st : Nat) : t.legSt st = s.legSt st :=
  congrArg (fun l : List LegStation => l.getD st {}) (congrArg Prod.fst h)

theorem State.legScans_freq {s t : State} (h : t.legScans = s.legScans) (st : Fin 4) :
    t.rd (L.SC_FREQ_HI_FREQ st) = s.rd (L.SC_FREQ_HI_FREQ st) ∧ t.rd (L.SC_FREQ_LO_FREQ st) = s.rd (L.SC_FREQ_LO_FREQ st) :=
  Prod.mk.inj (congrFun (congrArg Prod.snd h) st)

theorem State.legSt_modLeg_same (s : State) (st : Nat) (g : LegStation → LegStation) (h : st < s.leg.st.length) :
    (s.modLeg st g).legSt st = g (s.legSt st) := by
  simp [State.legSt, State.modLeg, h]

@[simp] theorem State.legSt_wr (s : State) (f : Fld) (v st : Nat) : (s.wr f v).legSt st = s.legSt st := rfl

/-- The hop itself is done before its clocks are set. -/
theorem State.freqHop_legScans (s : State) (st : Fin 4) (f : Nat) (hhop : (s.legSt st).hop = some f)
    (hcompat : s.compat = true) (hout : s.outOfFrame st = true) :
    (s.freqHop st).legScans =
      ((((s.modLeg st (fun l => { l with hop := none, rescan := true })).scanEn st false).wr
        (L.SC_FREQ_HI_FREQ st) (f / 65536)).wr (L.SC_FREQ_LO_FREQ st) (f % 65536)).legScans := by
  have hst := st.isLt
  simp only [State.freqHop, hhop, hcompat, hout, Bool.not_true, Bool.or_self, Bool.false_eq_true, if_false]
  split
  · rw [State.legScans_pllEnable _ _ _ (by omega)]
    simp (disch := omega) [F.CLK_OUT_CTL_EN]
  · simp (disch := omega) [F.CLK_OUT_CTL_EN]

theorem State.freqHop_done (s : State) (st : Fin 4) (f : Nat) (hhop : (s.legSt st).hop = some f)
    (hcompat : s.compat = true) (hlen : s.leg.st.length = 4) (hout : s.outOfFrame st = true) (hf : f < 2 ^ 28) :
    ((s.freqHop st).legSt st).hop = none ∧ (s.freqHop st).rd (L.SC_FREQ_HI_FREQ st) = f / 65536 ∧
      (s.freqHop st).rd (L.SC_FREQ_LO_FREQ st) = f % 65536 := by
  have hscans := s.freqHop_legScans st f hhop hcompat hout
  obtain ⟨hhi, hlo⟩ := State.legScans_freq hscans st
  have hwords : (L.SC_FREQ_LO_FREQ st).key ≠ (L.SC_FREQ_HI_FREQ st).key := by
    simp only [L.SC_FREQ_HI_FREQ, L.SC_FREQ_LO_FREQ, Fld.key, legOff]
    omega
  refine ⟨?_, hhi.trans ?_, hlo.trans ?_⟩
  · rw [State.legScans_legSt hscans]
    rw [State.legSt_wr, State.legSt_wr, State.legScans_legSt (State.legScans_scanEn_off _ _),
      State.legSt_modLeg_same _ _ _ (by omega)]
  · rw [State.rd_wr_ne _ _ _ _ hwords, State.rd_wr_same _ _ _ (by simp [L.SC_FREQ_HI_FREQ])]
    exact Nat.mod_eq_of_lt (by simp only [L.SC_FREQ_HI_FREQ]; omega)
  · rw [State.rd_wr_same _ _ _ (by simp [L.SC_FREQ_LO_FREQ])]
    exact Nat.mod_eq_of_lt (by simp only [L.SC_FREQ_LO_FREQ]; omega)

end Sys2Proof.Machine
end

section
/-! Legacy frames: the end of one frame and the start of the next. -/

namespace Sys2Proof.Machine

open Sys2Proof

/-! ### Records (R249, R253) -/

@[simp] theorem State.legScans_putRec (s : State) (q : Nat) (r : Rec) : (s.putRec q r).legScans = s.legScans := by
  simp only [State.putRec]
  repeat' split
  all_goals simp (disch := omega) [F.RING_IDX_PI, F.RING_TAKEN_TAKEN]

theorem State.legScans_putOrDrop (s : State) (q : Nat) (r : Rec) (hq : q < 4096) :
    (s.putOrDrop q r).legScans = s.legScans := by
  unfold State.putOrDrop
  split <;> simp (disch := omega) [F.RING_DISCARD_DISCARD]

@[simp] theorem State.legScans_putTrace (s : State) (d : Desc) : (s.putTrace d).legScans = s.legScans :=
  State.legScans_putOrDrop _ _ _ (by omega)

@[simp] theorem State.legScans_trace (s : State) (kind ring : Nat) (ds : List Desc) (tseq : Nat) :
    (s.trace kind ring ds tseq).legScans = s.legScans := by
  unfold State.trace
  repeat' split
  all_goals simp

@[simp] theorem State.legScans_doneTrace (s : State) (r : Option Desc) : (s.doneTrace r).legScans = s.legScans := by
  unfold State.doneTrace
  repeat' split
  all_goals simp

@[simp] theorem State.legScans_progress (s : State) (irq : Bool) (tag pageId slot kind value ring : Nat) (fp : Int) :
    (s.progress irq tag pageId slot kind value ring fp).legScans = s.legScans :=
  State.legScans_putOrDrop _ _ _ (by omega)

@[simp] theorem State.legScans_slotProgress (s : State) (p : Nat) : (s.slotProgress p).legScans = s.legScans := by
  simp only [State.slotProgress]
  split <;> simp

@[simp] theorem State.legScans_ringError (s : State) (q cause phase : Nat) :
    (s.ringError q cause phase).legScans = s.legScans := by
  simp (disch := omega) [State.ringError, F.RING_STAT_STATE, F.RING_STAT_ERR_CAUSE]

@[simp] theorem State.legScans_errorDue (s : State) (q : Nat) : (s.errorDue q).legScans = s.legScans := by
  unfold State.errorDue
  repeat' split
  all_goals simp

@[simp] theorem State.legScans_passTxn (s : State) (q n : Nat) : (s.passTxn q n).legScans = s.legScans := by
  unfold State.passTxn
  extract_lets size ci u v host w
  have hu : u.legScans = s.legScans := State.legScans_modRing _ _ _
  clear_value u
  have hv : v.legScans = u.legScans := by
    simp (disch := omega) [v, F.RING_IDX_CI, F.RING_TAKEN_TAKEN]
  clear_value v
  have hw : w.legScans = v.legScans := State.legScans_of_eq rfl rfl
  rw [State.legScans_errorDue, State.legScans_vecCause, hw, hv, hu]

/-! ### The band store and captures (R62, R63, R145) -/

@[simp] theorem State.legScans_releaseGrans (s : State) (gs : List Nat) : (s.releaseGrans gs).legScans = s.legScans :=
  foldl_keeps State.legScans _ (fun t g => by
    split
    · rw [State.legScans_post]
      exact (State.legScans_inc _ _ _ _ _ _ (by omega) (by omega)).trans (State.legScans_of_eq rfl rfl)
    · rfl) gs s

@[simp] theorem State.legScans_poolWaits (s : State) : s.poolWaits.legScans = s.legScans := by
  unfold State.poolWaits
  refine List.foldlRecOn (motive := fun a : State × Nat × Bool => a.1.legScans = s.legScans) _ _ rfl (fun a ih p _ => ?_)
  obtain ⟨t, free, waits⟩ := a
  simp only at ih ⊢
  repeat' split
  all_goals simpa using ih

@[simp] theorem State.legScans_modCapture (s : State) (c : Capture → Bool) (g : Capture → Capture) :
    (s.modCapture c g).legScans = s.legScans := rfl

@[simp] theorem State.legScans_codecDone (s : State) (ring : Nat) (d : Desc) (e : CodecEnd) :
    (s.codecDone ring d e).legScans = s.legScans := by
  simp only [State.codecDone, State.legScans_doneTrace, State.legScans_queueRec]
  split
  · rfl
  · simp (disch := omega) [F.CODEC_FAIL_FAIL]

@[simp] theorem State.legScans_takeHold (s : State) (q : Nat) (d : Desc) : (s.takeHold q d).legScans = s.legScans := by
  simp only [State.takeHold]
  repeat' split
  all_goals simp

@[simp] theorem State.legScans_holdsFirst (s : State) (fuel : Nat) : (s.holdsFirst fuel).legScans = s.legScans := by
  induction fuel generalizing s with
  | zero => rfl
  | succ fuel ih =>
    unfold State.holdsFirst
    split
    · rw [ih, State.legScans_takeHold]
    · rfl

@[simp] theorem State.legScans_dropCapture (s : State) (id : Nat) : (s.dropCapture id).legScans = s.legScans := by
  simp only [State.dropCapture]
  split
  · rfl
  · exact (State.legScans_releaseGrans _ _).trans (State.legScans_of_eq rfl rfl)

@[simp] theorem State.legScans_makeRoom (s : State) (n fuel : Nat) : (s.makeRoom n fuel).legScans = s.legScans := by
  induction fuel generalizing s with
  | zero => rfl
  | succ fuel ih =>
    simp only [State.makeRoom]
    repeat' split
    all_goals simp [ih]

@[simp] theorem State.legScans_putGrans (s : State) (gs : List Nat) (n : Nat) (bs : List Byte) :
    (s.putGrans gs n bs).legScans = s.legScans := by
  induction bs generalizing s n with
  | nil => rfl
  | cons b bs ih =>
    unfold State.putGrans
    exact (ih _ _).trans (State.legScans_of_eq rfl rfl)

@[simp] theorem State.legScans_storeBands (s : State) (p st fuel : Nat) : (s.storeBands p st fuel).legScans = s.legScans := by
  induction fuel generalizing s with
  | zero => rfl
  | succ fuel ih =>
    simp only [State.storeBands]
    repeat' split
    all_goals simp (disch := omega) [ih, F.RPR_TRUNC_TRUNC]

@[simp] theorem State.legScans_endCapture (s : State) (p st : Nat) : (s.endCapture p st).legScans = s.legScans := by
  unfold State.endCapture
  split
  · rfl
  next c _ =>
    extract_lets missing u v id w x y codec z
    have hv : v.legScans = s.legScans := by
      simp only [v, u, State.legScans_storeBands]
      split <;> simp
    clear_value v
    have hw : w.legScans = v.legScans := State.legScans_modCapture _ _ _
    clear_value w
    have hx : x.legScans = w.legScans := by
      simp only [x]
      split <;> simp
    clear_value x
    have hz : z.legScans = x.legScans := State.legScans_of_eq rfl rfl
    clear_value z
    rw [State.legScans_modSlot]
    exact (State.legScans_wr _ _ _ _ _ _ (by omega) (by omega)).trans (hz.trans (hx.trans (hw.trans hv)))

@[simp] theorem State.legScans_captureEnd (s : State) (p st : Nat) : (s.captureEnd p st).legScans = s.legScans := by
  unfold State.captureEnd
  split <;> simp

/-! ### The end of a frame (R41, R62) -/

@[simp] theorem State.legScans_syncFetch (s : State) (st : Nat) : (s.syncFetch st).legScans = s.legScans := by
  simp (disch := omega) [State.syncFetch, F.ST_FETCH_STAT_IMG_HELD, F.ST_FETCH_STAT_TAG_HELD, F.ST_FETCH_STAT_ACTIVE]

@[simp] theorem State.legScans_noCheck (s : State) (st p y : Nat) : (s.noCheck st p y).legScans = s.legScans := rfl

@[simp] theorem State.legScans_blankLines (s : State) (st p cause : Nat) (ys : List Nat) :
    (s.blankLines st p cause ys).legScans = s.legScans := by
  unfold State.blankLines
  split <;> simp

@[simp] theorem State.legScans_frameOutcome (s : State) (st p : Nat) : (s.frameOutcome st p).legScans = s.legScans := by
  have hrest (t : State) (ys : List Nat) : (ys.foldl (fun (t : State) y => t.noCheck st p y) t).legScans = t.legScans :=
    foldl_keeps State.legScans _ (fun t y => t.legScans_noCheck st p y) ys t
  simp only [State.frameOutcome]
  repeat' split
  all_goals simp [hrest]

@[simp] theorem State.legScans_frameEnds (s : State) (st p : Nat) : (s.frameEnds st p).legScans = s.legScans := by
  simp only [State.frameEnds]
  split <;> simp

@[simp] theorem State.legScans_frameEnd (s : State) (st : Nat) : (s.frameEnd st).legScans = s.legScans := by
  unfold State.frameEnd
  repeat' split
  all_goals simp

/-! ### The start of a frame (R52, R63) -/

@[simp] theorem State.legScans_dropHolds (s : State) (p : Nat) : (s.dropHolds p).legScans = s.legScans := rfl

@[simp] theorem State.legScans_restoreNow (s : State) (st e : Nat) : (s.restoreNow st e).legScans = s.legScans := by
  simp (disch := omega) [State.restoreNow, F.ST_DROP_MAP_DROPPED, F.ST_ROLL_STAT_DROPS, F.ST_RESTORE_PEND_PEND,
    F.BM_ROLL_MISS_RUN, F.BM_ROLL_REJOINS]

@[simp] theorem State.legScans_restoreAll (s : State) (st : Nat) : (s.restoreAll st).legScans = s.legScans :=
  foldl_keeps State.legScans _ (fun t e => t.legScans_restoreNow st e) _ s

@[simp] theorem State.legScans_endDerate (s : State) (n : Nat) : (s.endDerate n).legScans = s.legScans := by
  unfold State.endDerate
  extract_lets pct u v
  have hv : v.legScans = s.legScans := by
    simp (disch := omega) [v, u, F.OCT_STAT_DERATED, F.OCT_SCALE_K_DER]
  clear_value v
  refine (foldl_keeps State.legScans _ (fun t k => ?_) _ v).trans hv
  simp only
  split
  · simp (disch := omega) [F.BM_MOD_MOD]
  · rfl

@[simp] theorem State.legScans_frameOctets (s : State) (st : Nat) : (s.frameOctets st).legScans = s.legScans :=
  foldl_keeps State.legScans _ (fun t n => by
    simp only
    repeat' split
    all_goals simp) _ s

@[simp] theorem State.legScans_modTbl (s : State) (st : Nat) (g : TblStation → TblStation) :
    (s.modTbl st g).legScans = s.legScans := rfl

@[simp] theorem State.legScans_modTblTxn (s : State) (id : Nat) (g : TblTxn → TblTxn) :
    (s.modTblTxn id g).legScans = s.legScans := rfl

@[simp] theorem State.legScans_flipBank (s : State) (st : Nat) : (s.flipBank st).legScans = s.legScans := by
  simp (disch := omega) [State.flipBank, F.ST_TBL_STAT_ACTIVE_BANK]

@[simp] theorem State.legScans_switchDone (s : State) (t : TblTxn) (d : Desc) (status st bank : Nat) (fp : Int) (last : Bool) :
    (s.switchDone t d status st bank fp last).legScans = s.legScans := by
  simp only [State.switchDone, State.tableDone, State.legScans_queueRec]
  split <;> simp (disch := omega) [F.ST_TBL_SWITCHES_SWITCHES, F.ST_TBL_STAT_ACTIVE_OK, F.ST_TBL_REFUSED_REFUSED]

@[simp] theorem State.legScans_oneSwitch (s : State) (id status st bank : Nat) (d : Desc) (fp : Int) :
    (s.oneSwitch id status st bank d fp).legScans = s.legScans := by
  simp only [State.oneSwitch]
  repeat' split
  · rfl
  · exact (State.legScans_of_eq rfl rfl).trans (State.legScans_switchDone _ _ _ _ _ _ _ _)
  · rw [State.legScans_modTblTxn, State.legScans_switchDone]

@[simp] theorem State.legScans_syncTbl (s : State) (st : Nat) : (s.syncTbl st).legScans = s.legScans := by
  simp only [State.syncTbl, State.wr64]
  repeat' split
  all_goals simp (disch := omega) [F.ST_TBL_STAT_SHADOW_VALID, F.ST_TBL_STAT_BUSY, F.ST_TBL_STAT_PENDING,
    F.ST_TBL_STAT_PEND_PAGE, F.ST_TBL_PEND_ID_LO_PEND_ID, F.ST_TBL_PEND_ID_HI_PEND_ID]

@[simp] theorem State.legScans_switchAtFrame (s : State) (st p : Nat) : (s.switchAtFrame st p).legScans = s.legScans := by
  simp only [State.switchAtFrame]
  repeat' split
  all_goals simp

@[simp] theorem State.legScans_frameFaults (s : State) (st p : Nat) : (s.frameFaults st p).legScans = s.legScans := by
  unfold State.frameFaults
  extract_lets u
  have hu : u.legScans = s.legScans := by
    simp only [u]
    split <;> simp
  clear_value u
  refine (foldl_keeps State.legScans _ (fun t n => ?_) _ u).trans hu
  simp only
  repeat' split
  all_goals simp

@[simp] theorem State.legScans_frameCapture (s : State) (st p : Nat) : (s.frameCapture st p).legScans = s.legScans := by
  simp only [State.frameCapture]
  repeat' split
  · rfl
  · exact State.legScans_of_eq rfl rfl
  · simp

@[simp] theorem State.legScans_frameBegins (s : State) (st p : Nat) : (s.frameBegins st p).legScans = s.legScans := by
  simp only [State.frameBegins]
  split <;> simp (disch := omega) [F.ST_DS_EFF_DS_EFF]

/-! ### Legacy frames (R501) -/

/-- What leaves each station's count of frames alone. -/
theorem State.legSt_next_modLeg (s : State) (st : Nat) (g : LegStation → LegStation) (hg : ∀ l, (g l).next = l.next) :
    ((s.modLeg st g).legSt st).next = (s.legSt st).next := by
  rcases Nat.lt_or_ge st s.leg.st.length with h | h
  · rw [State.legSt_modLeg_same _ _ _ h, hg]
  · rw [State.modLeg, List.modify_eq_self h]

/-- Each frame begun or passed over is counted. -/
theorem State.legFrame_next (s : State) (st : Nat) (hruns : s.legRuns st = true)
    (hdue : s.legFp st + s.dsNext st ≤ s.wpos) (hst : st < s.leg.st.length) :
    ((s.legFrame st).legSt st).next = (s.legSt st).next + 1 := by
  have hend := State.legScans_frameEnd s st
  have hlen : (s.frameEnd st).leg.st.length = s.leg.st.length := congrArg (fun x => List.length x.1) hend
  have hcount : (((s.frameEnd st).modLeg st (fun l => { l with next := l.next + 1 })).legSt st).next =
      (s.legSt st).next + 1 := by
    rw [State.legSt_modLeg_same _ _ _ (by omega), State.legScans_legSt hend]
  simp only [State.legFrame, hruns, Int.not_lt.mpr hdue, Bool.not_true, decide_false, Bool.or_self, Bool.false_eq_true,
    if_false]
  rw [← hcount]
  generalize (s.frameEnd st).modLeg st (fun l => { l with next := l.next + 1 }) = u
  split
  · rfl
  · split
    · rw [State.legScans_legSt (State.legScans_legSst_skip u st)]
    · refine (State.legSt_next_modLeg _ st _ ?_).trans ?_
      · exact fun _ => rfl
      refine congrArg LegStation.next (State.legScans_legSt ?_ st)
      rw [State.legScans_frameBegins, State.legScans_modSlot, State.legScans_dropHolds, State.legScans_atEdge]

end Sys2Proof.Machine
end

section
/-! Compatibility mode outside its frames: register writes, pairs, axes, the receiver, the transmitter of native mode and the
loopback test (R282, R496, R500, R502–R506, R508, R510–R515). -/

namespace Sys2Proof.Machine

open Sys2Proof

/-! ### What an event leaves of the legacy state (R505) -/

/-- The legacy state but for the level of L_INT. -/
def State.legRest (s : State) : LegacySt := { s.leg with int := false }

@[simp] theorem State.legRest_setW1c (s : State) (f : Fld) (bits : Nat) : (s.setW1c f bits).legRest = s.legRest := rfl

@[simp] theorem State.legRest_vecCause (s : State) (n : Nat) (imm : Bool) : (s.vecCause n imm).legRest = s.legRest := by
  unfold State.vecCause; split <;> rfl

@[simp] theorem State.legRest_legIrq (s : State) (bit : Nat) : (s.legIrq bit).legRest = s.legRest := by
  simp only [State.legIrq, State.legInt]
  split
  · split
    · exact State.legRest_vecCause _ _ _
    · rfl
  · rfl

@[simp] theorem State.legRest_legSst (s : State) (st : Nat) (f : Nat → Fld) : (s.legSst st f).legRest = s.legRest := by
  unfold State.legSst; split <;> simp

@[simp] theorem State.legRest_legEvent (s : State) (sev code inst : Nat) : (s.legEvent sev code inst).legRest = s.legRest := by
  have hlast : (if 1 ≤ sev then s.wr L.LASTCODE_CODE code else s).legRest = s.legRest := by split <;> rfl
  unfold State.legEvent
  split
  · rfl
  · rw [← hlast]
    simp only
    repeat' split
    all_goals simp

theorem State.legRest_postRaw (s : State) (sev code block inst : Nat) (d : BitVec 80) (src tag : Nat) :
    (s.postRaw sev code block inst d src tag).legRest = s.legRest := by
  have hlost (u : State) : ((u.inc F.EVT_DROPPED_DROPPED).vecCause 62 true).legRest = u.legRest :=
    State.legRest_vecCause _ _ _
  rw [← State.legRest_legEvent s sev code inst]
  unfold State.postRaw
  generalize s.legEvent sev code inst = u
  extract_lets s0 e0 after e last host v lost
  split
  · rfl
  · split
    · exact hlost v
    · split
      · exact hlost _
      · exact hlost v

theorem State.legRest_post_below_hard (s : State) (sev code block inst : Nat) (d : List (Nat × Nat × Nat)) (tag : Nat)
    (hs : sev ≠ 3) : (s.post sev code block inst d tag).legRest = s.legRest := by
  simp only [State.post, State.postBy, hs, if_false]
  exact State.legRest_postRaw _ _ _ _ _ _ _ _

/-! ### Register writes (R282, R502, R505) -/

theorem State.legWrite_native (s : State) (n v : Nat) (h : s.compat = false) : s.legWrite n v = s := by
  simp [State.legWrite, h]

/-- A register that is no half of a pair, but L_CTRL. -/
theorem State.legWrite_single (s : State) (n v : Nat) (hcompat : s.compat = true) (hctrl : n ≠ 1) (hpair : pairOf n = none) :
    s.legWrite n v = ((s.legStore n v).legEffect n v).legInt := by
  simp [State.legWrite, hcompat, hctrl, hpair]

theorem pairOf_hvCtl : ∀ c : Fin 16, pairOf (0x81 + 4 * c) = none := by decide

theorem pairOf_fzCtl : ∀ k : Fin 8, pairOf (0xC1 + 4 * k) = none := by decide

theorem State.legEffect_hvCtl (s : State) (c : Fin 16) (v : Nat) : s.legEffect (0x81 + 4 * c) v = s.legHvCtl c := by
  have hrow : (0x81 + 4 * c.val) % 4 = 1 ∧ (0x81 + 4 * c.val - 0x80) / 4 = c.val := by omega
  unfold State.legEffect
  rw [if_neg (by omega), if_neg (by omega), if_neg (by omega), if_neg (by omega), if_neg (by omega), if_pos (by omega)]
  simp only [hrow]

theorem State.legEffect_fzCtl (s : State) (k : Fin 8) (v : Nat) : s.legEffect (0xC1 + 4 * k) v = s.legFzCtl k := by
  have hrow : (0xC1 + 4 * k.val) % 4 = 1 ∧ (0xC1 + 4 * k.val - 0xC0) / 4 = k.val := by omega
  unfold State.legEffect
  rw [if_neg (by omega), if_neg (by omega), if_neg (by omega), if_neg (by omega), if_neg (by omega), if_neg (by omega),
    if_pos (by omega)]
  simp only [hrow]

/-! ### RUN (R500) -/

theorem State.legRun_armed (s : State) (hcompat : s.compat = true) (h : s.armRefusal = none) :
    s.legRun true = { (s.wr L.CTRL_RUN 1).armed with leg := { (s.wr L.CTRL_RUN 1).armed.leg with stopping := false } } := by
  simp [State.legRun, hcompat, h]

theorem State.legRun_refused (s : State) (r f g : Nat) (hcompat : s.compat = true) (h : s.armRefusal = some (r, f, g)) :
    s.legRun true = (((s.wr L.CTRL_RUN 0).armRefused r 0 f g).setW1c L.STAT_CFG_FAULT 1).legIrq 12 := by
  simp [State.legRun, hcompat, h]

theorem State.on_eq_false {s : State} {f : Fld} (h : s.rd f = 0) : s.on f = false := by
  simp [State.on, h]

/-- RUN = 0 of a device not armed stops nothing. -/
theorem State.legRun_disarmed (s : State) (hcompat : s.compat = true) (harmed : s.rd F.GLB_STATE_ARMED = 0) :
    s.legRun false = { s.wr L.CTRL_RUN 0 with leg := { s.leg with stopping := false } } := by
  have hoff : (s.wr L.CTRL_RUN 0).on F.GLB_STATE_ARMED = false :=
    State.on_eq_false ((State.rd_wr_ne _ _ _ _ (by decide)).trans harmed)
  simp only [State.legRun, hcompat, Bool.not_true, Bool.false_eq_true, if_false, State.legStop, hoff, Bool.false_and]
  rfl

/-! ### Axes (R502, R506) -/

theorem State.axTarget_of_none (s : State) (h : s.leg.axTgt = none) : s.axTarget = s := by
  simp [State.axTarget, h]

@[simp] theorem State.axTarget_axTgt (s : State) : s.axTarget.leg.axTgt = none := by
  unfold State.axTarget
  split
  · assumption
  · rfl

theorem State.axTarget_axTarget (s : State) : s.axTarget.axTarget = s.axTarget :=
  State.axTarget_of_none _ s.axTarget_axTgt

/-- A target taken changes AX_TGT alone. -/
theorem State.rd_axTarget (s : State) (f : Fld) (hhi : L.AX_TGT_HI_TGT.key ≠ f.key) (hlo : L.AX_TGT_LO_TGT.key ≠ f.key) :
    s.axTarget.rd f = s.rd f := by
  unfold State.axTarget
  split
  · rfl
  · rw [State.rd_wr_ne _ _ _ _ hlo, State.rd_wr_ne _ _ _ _ hhi]
    rfl

/-- AX_TGT reads the target taken. -/
theorem State.axTarget_reads (s : State) (v : Nat) (h : s.leg.axTgt = some v) (hv : v < 2 ^ 32) :
    s.axTarget.rd L.AX_TGT_HI_TGT * 65536 + s.axTarget.rd L.AX_TGT_LO_TGT = v := by
  simp only [State.axTarget, h]
  rw [State.rd_wr_ne _ L.AX_TGT_LO_TGT L.AX_TGT_HI_TGT _ (by decide), State.rd_wr_same _ _ _ (by decide),
    State.rd_wr_same _ _ _ (by decide)]
  simp only [L.AX_TGT_HI_TGT, L.AX_TGT_LO_TGT]
  omega

theorem State.axTarget_compat (s : State) : s.axTarget.compat = s.compat := by
  simp only [State.compat, State.rd_axTarget s F.GLB_MODE_MODE (by decide) (by decide)]

/-- A legacy axis command that is done. -/
theorem State.legAxis_done (s u : State) (w r : Nat) (fs : List (Nat × Nat × Nat)) (hcompat : s.compat = true)
    (h : s.axTarget.applyAxis 0 [mkEntry ((8, 1, s.rd L.AX_SEL_AXIS) :: fs)] = .done u w r) : s.legAxis fs = u := by
  rw [← State.rd_axTarget s L.AX_SEL_AXIS (by decide) (by decide)] at h
  simp [State.legAxis, hcompat, h]

theorem State.legMove_done (s u : State) (w r : Nat) (hcompat : s.compat = true)
    (h : s.axTarget.applyAxis 0 [mkEntry [(8, 1, s.rd L.AX_SEL_AXIS), (0, 1, 0x32),
      (10, 6, uBits 48 (sInt 32 (s.axTarget.rd L.AX_TGT_HI_TGT * 65536 + s.axTarget.rd L.AX_TGT_LO_TGT))),
      (16, 4, 256 * (32 * s.rd L.AX_VMAX_VMAX)), (20, 4, 10 * (32 * s.rd L.AX_VMAX_VMAX))]] = .done u w r) :
    s.legMove = u := by
  simp only [State.legMove, hcompat, Bool.not_true, Bool.false_eq_true, if_false]
  refine State.legAxis_done _ u w r _ (s.axTarget_compat.trans hcompat) ?_
  rw [State.axTarget_axTarget, State.rd_axTarget s L.AX_SEL_AXIS (by decide) (by decide),
    State.rd_axTarget s L.AX_VMAX_VMAX (by decide) (by decide)]
  exact h

/-! ### Pairs (R282) -/

/-- R282: the half that was not written, as it stands. -/
def State.halfOld (s : State) (p : PairHold) : Nat :=
  if p.other = min p.addr p.other then s.pairNow (min p.addr p.other) / 65536 else s.pairNow (min p.addr p.other) % 65536

/-- The only half that waits comes into use, or is refused, 64 µs after its write. -/
theorem State.pairExpiry_of_one (s : State) (n : Nat) (p : PairHold) (h : s.leg.pairs = [p]) (hn : p.addr = n) :
    s.pairExpiry n =
      if s.now < p.start + 64000 then s
      else if (s.dropHold (min p.addr p.other)).pairOk (min p.addr p.other) (p.value (min p.addr p.other) (s.halfOld p)) then
        (s.dropHold (min p.addr p.other)).pairUse (min p.addr p.other) (p.value (min p.addr p.other) (s.halfOld p))
      else (s.dropHold (min p.addr p.other)).post 1 0xA010 17 0 [(0, 1, p.addr), (1, 1, p.other), (2, 2, p.val),
        (4, 2, p.val2.getD (s.halfOld p))] := by
  simp [State.pairExpiry, State.halfOld, h, hn]

/-! ### The receiver (R508, R510) -/

/-- A cause of L_IRQ_STAT shows in no other field. -/
theorem State.rd_legIrq_ne (s : State) (bit : Nat) (f : Fld) (h : L.IRQ_STAT_CAUSE.key ≠ f.key) :
    (s.legIrq bit).rd f = s.rd f := by
  have hset (v : Nat) : (s.setW1c L.IRQ_STAT_CAUSE v).rd f = s.rd f := State.rd_wr_ne _ _ _ _ h
  simp only [State.legIrq, State.legInt]
  split
  · split
    · exact (State.rd_vecCause _ _ _ _).trans (hset _)
    · exact hset _
  · rfl

/-- A status bit set reads 1. -/
theorem State.rd_setW1c_bit (s : State) (f : Fld) (h : f.w = 1) : (s.setW1c f 1).rd f = 1 := by
  have hone (x : Nat) : (x ||| 1) % 2 = 1 := by
    rw [← Nat.and_one_is_mod, Nat.and_or_distrib_right, Nat.and_one_is_mod]
    rcases Nat.mod_two_eq_zero_or_one x with hx | hx <;> simp [hx]
  refine (State.rd_wr_same s f (s.rd f ||| 1) (by omega)).trans ?_
  rw [h]
  exact hone _

theorem State.badPacket_parity (s : State) (st : Nat) (hcompat : s.compat = true) (hst : st < 4) :
    (s.badPacket st L.SSTAT_PARERR).rd (L.SSTAT_PARERR st) = 1 ∧
      (s.badPacket st L.SSTAT_PARERR).rd F.LVR_STAT_BAD = satAdd F.LVR_STAT_BAD.w (s.rd F.LVR_STAT_BAD) 1 ∧
      (s.badPacket st L.SSTAT_PARERR).leg.st = s.leg.st := by
  have hmode : s.rd F.GLB_MODE_MODE = 1 := by simpa [State.compat] using hcompat
  have hbad : F.LVR_STAT_BAD.key ≠ (L.SSTAT_PARERR st).key := by
    simp only [Fld.key, F.LVR_STAT_BAD, L.SSTAT_PARERR, legOff]; omega
  have hcause : L.IRQ_STAT_CAUSE.key ≠ (L.SSTAT_PARERR st).key := by
    simp only [Fld.key, L.IRQ_STAT_CAUSE, L.SSTAT_PARERR, legOff]; omega
  have hset : s.legSst st L.SSTAT_PARERR = (s.setW1c (L.SSTAT_PARERR st) 1).legIrq (8 + st) := by
    simp [State.legSst, hmode, hst]
  refine ⟨?_, ?_, ?_⟩
  · rw [State.badPacket, State.rd_inc_ne _ _ _ _ hbad, hset, State.rd_legIrq_ne _ _ _ hcause]
    exact State.rd_setW1c_bit _ _ rfl
  · rw [State.badPacket, State.rd_inc_same _ _ _ (by decide), hset, State.rd_legIrq _ _ _ (by decide)]
    exact congrArg (satAdd _ · 1) (State.rd_wr_ne _ _ _ _ hbad.symm)
  · have hst : (s.legSst st L.SSTAT_PARERR).legRest.st = s.legRest.st := by rw [State.legRest_legSst]
    exact hst

/-- A packet of a wrong parity word is bad, whatever else it says. -/
theorem State.lvrPacket_parity (s : State) (got : List Nat) (st : Nat) (hcompat : s.compat = true)
    (hlink : s.on L.STAT_LINK_OK = true) (hloop : s.leg.looping = false) (hst : got.headD 0 / 8192 % 4 = st)
    (hpar : packetParity (s.packetTaken st got) ≠ 0) : s.lvrPacket got = s.badPacket st L.SSTAT_PARERR := by
  simp only [State.lvrPacket, hcompat, hlink, hloop, hst, bne_iff_ne.mpr hpar, Bool.not_true, Bool.or_self,
    Bool.false_eq_true, if_false, if_true]

/-- A sound packet of the facet asked for, the first of its emitter, is held. -/
theorem State.lvrPacket_held (s : State) (got : List Nat) (st a : Nat) (hcompat : s.compat = true)
    (hlink : s.on L.STAT_LINK_OK = true) (hloop : s.leg.looping = false) (hst : got.headD 0 / 8192 % 4 = st)
    (hpar : packetParity (s.packetTaken st got) = 0) (hasked : (s.legSt st).asked = some a)
    (hen : s.on (L.SC_CTL_EN st) = true) (hlpar : got.headD 0 / 512 % 2 = (a + (s.legSt st).first) % 2)
    (hnew : s.legPacket st (got.headD 0 / 1024 % 8) a = none) :
    s.lvrPacket got = s.holdPacket st (got.headD 0 / 1024 % 8) a (((s.packetTaken st got).drop 1).dropLast) := by
  simp only [State.lvrPacket, hcompat, hlink, hloop, hst, hpar, hasked, hen, hlpar, hnew, Bool.not_true, Bool.or_self,
    Bool.false_eq_true, if_false, if_true, bne_self_eq_false, Option.isSome_none]

theorem State.linkTrained_aligned (s : State) (k : Nat) (hlrdy : s.lrdy = true) (hlink : s.on L.STAT_LINK_OK = false)
    (hk : k ≤ 8) : s.linkTrained k = (s.wr L.STAT_LINK_OK 1).post 0 0xA001 17 1 [(0, 1, k)] := by
  simp [State.linkTrained, hlrdy, hlink, hk]

theorem State.linkTrained_skewed (s : State) (k : Nat) (hk : 8 < k) : s.linkTrained k = s := by
  simp [State.linkTrained, Nat.not_le.mpr hk]

theorem State.linkLost_up (s : State) (why : Nat) (h : s.on L.STAT_LINK_OK = true) :
    s.linkLost why = (s.wr L.STAT_LINK_OK 0).post 1 0xA002 17 1 [(0, 1, why)] := by
  simp [State.linkLost, h]

/-! ### The transmitter of native mode (R511–R514) -/

theorem State.lvtSettle_idle (s : State) (h : s.leg.trainAt = none) : s.lvtSettle = s := by
  simp [State.lvtSettle, h]

theorem State.lvtSt_modLvt_same (s : State) (st : Nat) (g : LvtStation → LvtStation) (h : st < s.leg.lvt.length) :
    (s.modLvt st g).lvtSt st = g (s.lvtSt st) := by
  simp [State.lvtSt, State.modLvt, h]

/-- Also where there is no such station, whose facet is 0 already. -/
theorem State.lvtSt_modLvt_facet (s : State) (st : Nat) :
    ((s.modLvt st (fun l => { l with facet := 0 })).lvtSt st).facet = 0 := by
  rcases Nat.lt_or_ge st s.leg.lvt.length with h | h
  · rw [State.lvtSt_modLvt_same _ _ _ h]
  · rw [State.modLvt, List.modify_eq_self h]
    simp [State.lvtSt, h]

/-- R513: a page whose lines have all been sent ends its frame. -/
def State.lvtPageEnd (s : State) (st : Nat) : State :=
  match (s.lvtSt st).page with
  | some p => if (s.slot p).lines ≤ 8 * (s.lvtSt st).facet then s.lvtEnd st p else s
  | none => s

theorem State.lvtPageEnd_idle (s : State) (st : Nat) (h : (s.lvtSt st).page = none) : s.lvtPageEnd st = s := by
  simp [State.lvtPageEnd, h]

theorem State.lvtPageEnd_page (s : State) (st p : Nat) (h : (s.lvtSt st).page = some p) :
    s.lvtPageEnd st = if (s.slot p).lines ≤ 8 * (s.lvtSt st).facet then s.lvtEnd st p else s := by
  simp [State.lvtPageEnd, h]

/-- R513: the page that a station begins at LVT_TOP. -/
def State.lvtStart (s : State) (st : Nat) : State :=
  match s.leg.lvtOrder.find? (fun p => (s.slot p).mask.testBit st && !(s.slot p).started.testBit st) with
  | some p => s.lvtBegin st p
  | none => match s.lvtNext st with
    | none => s
    | some p => if ((s.lvtDecide p).slot p).st = .admitted then (s.lvtDecide p).lvtBegin st p else s.lvtDecide p

theorem State.lvtStart_none (s : State) (st : Nat) (horder : s.leg.lvtOrder = []) (hwait : s.leg.lvtWait = []) :
    s.lvtStart st = s := by
  simp [State.lvtStart, State.lvtNext, horder, hwait]

theorem State.lvtStart_admitted (s : State) (st p : Nat)
    (h : s.leg.lvtOrder.find? (fun p => (s.slot p).mask.testBit st && !(s.slot p).started.testBit st) = some p) :
    s.lvtStart st = s.lvtBegin st p := by
  simp only [State.lvtStart, h]

theorem State.lvtStart_undecided (s : State) (st p : Nat)
    (h : s.leg.lvtOrder.find? (fun p => (s.slot p).mask.testBit st && !(s.slot p).started.testBit st) = none)
    (hnext : s.lvtNext st = some p) :
    s.lvtStart st =
      if ((s.lvtDecide p).slot p).st = .admitted then (s.lvtDecide p).lvtBegin st p else s.lvtDecide p := by
  simp only [State.lvtStart, h, hnext]

theorem State.lvtRise_enabled (s : State) (hcompat : s.compat = false) (hrdy : s.on F.LVT_STAT_RDY = false)
    (hen : s.on F.LVT_CFG_EN = true) :
    s.lvtRise = { s.wr F.LVT_STAT_RDY 1 with leg := { s.leg with
      trainAt := some (s.now + ceilDiv (64 * 16 * 1000) (max 1 (s.rd F.LVT_CFG_RATE))) } } := by
  have hon : (s.wr F.LVT_STAT_RDY 1).on F.LVT_CFG_EN = true := by
    rw [← hen]
    exact congrArg (· != 0) (State.rd_wr_ne _ _ _ _ (by decide))
  have hrate : (s.wr F.LVT_STAT_RDY 1).rd F.LVT_CFG_RATE = s.rd F.LVT_CFG_RATE := State.rd_wr_ne _ _ _ _ (by decide)
  simp only [State.lvtRise, hcompat, hrdy, hon, hrate, Bool.or_self, Bool.not_true, Bool.false_eq_true, if_false]
  rfl

/-- Without a page the eight packets of a facet are blank, and nothing but the transmitter moves. -/
theorem State.lvtPackets_idle (s : State) (st : Nat) (h : (s.lvtSt st).page = none) :
    ∃ ps : List (List Nat), ps.length = 8 ∧
      s.lvtPackets st = s.modLvt st (fun x => { x with facet := x.facet + 1, sent := ps }) := by
  simp only [State.lvtPackets, h, List.range_succ_eq_map, List.range_zero, List.map_nil, List.map_cons, List.foldl_cons,
    List.foldl_nil]
  exact ⟨_, rfl, rfl⟩

theorem State.lvtRequest_idle (s : State) (st : Nat) (htrain : s.leg.trainAt = none)
    (hst : s.lvtStations.contains st = true) (hup : s.lvtUp = true) (htf : (s.sc st).tf = none)
    (hpage : (s.lvtSt st).page = none) (hlt : st < s.leg.lvt.length) :
    ((s.lvtRequest st).lvtSt st).sent.length = 8 ∧
      ((s.lvtRequest st).lvtSt st).facet = (s.lvtSt st).facet + 1 ∧ (s.lvtRequest st).alm = s.alm := by
  have hedge : s.lvtRequest st = ((s.modSc st (fun c => { c with tf := some (s.now * 250), fno := c.fno + 1 })).lvtPackets
      st).lvtPageEnd st := by
    simp only [State.lvtRequest, s.lvtSettle_idle htrain, hst, hup, htf, Bool.not_true, Bool.or_self, Bool.false_eq_true,
      if_false]
    rfl
  have hpage' : ((s.modSc st (fun c => { c with tf := some (s.now * 250), fno := c.fno + 1 })).lvtSt st).page = none := hpage
  have hlt' : st < (s.modSc st (fun c => { c with tf := some (s.now * 250), fno := c.fno + 1 })).leg.lvt.length := hlt
  have hkeeps : (s.modSc st (fun c => { c with tf := some (s.now * 250), fno := c.fno + 1 })).lvtSt st = s.lvtSt st ∧
    (s.modSc st (fun c => { c with tf := some (s.now * 250), fno := c.fno + 1 })).alm = s.alm := ⟨rfl, rfl⟩
  generalize s.modSc st (fun c => { c with tf := some (s.now * 250), fno := c.fno + 1 }) = u at *
  obtain ⟨ps, hps, hpackets⟩ := u.lvtPackets_idle st hpage'
  have hsame := u.lvtSt_modLvt_same st (fun x => { x with facet := x.facet + 1, sent := ps }) hlt'
  rw [hedge, hpackets, State.lvtPageEnd_idle _ _ (by rw [hsame]; exact hpage'), hsame, ← hkeeps.1, ← hkeeps.2]
  exact ⟨hps, rfl, rfl⟩

/-- A request of a station in its frame, whose latest edge was at `t`. -/
theorem State.lvtRequest_timed (s : State) (st t : Nat) (htrain : s.leg.trainAt = none)
    (hst : s.lvtStations.contains st = true) (hup : s.lvtUp = true) (htf : (s.sc st).tf = some t) :
    s.lvtRequest st = (((s.wr (F.ST_FACET_PERIOD_PERIOD st) (s.now * 250 - t)).modSc st
      (fun c => { c with tf := some (s.now * 250), fno := c.fno + 1 })).lvtPackets st).lvtPageEnd st := by
  simp only [State.lvtRequest, s.lvtSettle_idle htrain, hst, hup, htf, Bool.not_true, Bool.or_self, Bool.false_eq_true,
    if_false]
  rfl

/-- LVT_TOP of a station between frames: the next page in order begins. -/
theorem State.lvtTop_idle (s : State) (st : Nat) (htrain : s.leg.trainAt = none)
    (hst : s.lvtStations.contains st = true) (hpage : (s.lvtSt st).page = none) :
    s.lvtTop st = (s.modLvt st (fun l => { l with facet := 0 })).lvtStart st := by
  simp only [State.lvtTop, s.lvtSettle_idle htrain, hst, hpage, Bool.not_true, Bool.false_eq_true, if_false]
  rfl

/-- No station is in a page's frame. -/
theorem State.lvtFrames_idle (s u : State) (hpages : ∀ st : Fin 8, (s.lvtSt st).page = none) (h : u.leg.lvt = s.leg.lvt) :
    (List.range 8).filterMap (fun st => ((u.lvtSt st).page).map (fun p => (st, p))) = [] := by
  rw [List.filterMap_eq_nil_iff]
  intro st hst
  rw [State.lvtSt, h]
  exact congrArg (Option.map _) (hpages ⟨st, List.mem_range.mp hst⟩)

theorem State.lvtLost_idle (s : State) (hrdy : s.on F.LVT_STAT_RDY = true) (hpages : ∀ st : Fin 8, (s.lvtSt st).page = none) :
    s.lvtLost = { (s.wr F.LVT_STAT_RDY 0).wr F.LVT_STAT_TRAINED 0 with leg := { s.leg with trainAt := none } } := by
  unfold State.lvtLost
  rw [if_neg (by simp [hrdy])]
  extract_lets u leg v inFrame sts w
  have hidle : inFrame = [] := State.lvtFrames_idle s v hpages rfl
  simp only [w, hidle]
  rfl

/-! ### The loopback test (R515) -/

theorem State.loopStartTest_armed (s : State) (h : s.rd F.GLB_STATE_ARMED ≠ 0) : s.loopStartTest = s := by
  simp [State.loopStartTest, State.on, h]

theorem State.loopStartTest_ready (s : State) (harmed : s.rd F.GLB_STATE_ARMED = 0) (hen : s.on F.LINK_LOOP_EN = true)
    (hloop : s.leg.looping = false) :
    s.loopStartTest = { ((s.wr F.LINK_LOOP_STAT_DONE 0).wr F.LINK_LOOP_STAT_PASS 0).wr F.LINK_LOOP_STAT_ERRORS 0 with
      leg := { s.leg with looping := true } } := by
  simp only [State.loopStartTest, State.on_eq_false harmed, hen, hloop, Bool.not_true, Bool.or_self, Bool.false_eq_true,
    if_false]

/-- LINK_LOOP_STAT after a test with `e` word errors. -/
def State.loopShown (s : State) (e : Nat) : State :=
  ((s.wr F.LINK_LOOP_STAT_DONE 1).wr F.LINK_LOOP_STAT_PASS (b2n (e == 0))).wr F.LINK_LOOP_STAT_ERRORS e

theorem State.loopShown_reads (s : State) (e : Nat) (he : e < 2 ^ 16) :
    (s.loopShown e).rd F.LINK_LOOP_STAT_DONE = 1 ∧ (s.loopShown e).rd F.LINK_LOOP_STAT_ERRORS = e ∧
      (s.loopShown e).rd F.LINK_LOOP_STAT_PASS = b2n (e == 0) := by
  refine ⟨?_, ?_, ?_⟩
  · rw [State.loopShown, State.rd_wr_ne _ _ _ _ (by decide), State.rd_wr_ne _ _ _ _ (by decide),
      State.rd_wr_same _ _ _ (by decide)]
    rfl
  · rw [State.loopShown, State.rd_wr_same _ _ _ (by decide)]
    exact Nat.mod_eq_of_lt he
  · rw [State.loopShown, State.rd_wr_ne _ _ _ _ (by decide), State.rd_wr_same _ _ _ (by decide)]
    cases e == 0 <;> rfl

theorem State.loopDone_running (s : State) (ws : List (BitVec 16)) (e : Nat) (hloop : s.leg.looping = true)
    (he : e = if s.on F.LINK_LOOP_EXT then min 65535 (wordErrors s.loopSent ws) else 0) :
    s.loopDone ws = State.post { s.loopShown e with leg := { s.leg with looping := false } } 0 0xA040 17 1
      [(0, 1, b2n (e == 0)), (1, 2, e)] := by
  simp only [State.loopDone, hloop, ← he, Bool.not_true, Bool.false_eq_true, if_false]
  rfl

/-- The event of a test's end leaves what the test shows. -/
theorem State.loopDone_reads (s : State) (ws : List (BitVec 16)) (e : Nat) (hloop : s.leg.looping = true)
    (he : e = if s.on F.LINK_LOOP_EXT then min 65535 (wordErrors s.loopSent ws) else 0) :
    (s.loopDone ws).leg.looping = false ∧ (s.loopDone ws).rd F.LINK_LOOP_STAT_DONE = 1 ∧
      (s.loopDone ws).rd F.LINK_LOOP_STAT_ERRORS = e ∧ (s.loopDone ws).rd F.LINK_LOOP_STAT_PASS = b2n (e == 0) := by
  have hlt : e < 2 ^ 16 := by split at he <;> omega
  obtain ⟨hdone, herrors, hpass⟩ := s.loopShown_reads e hlt
  rw [s.loopDone_running ws e hloop he]
  refine ⟨congrArg LegacySt.looping (State.legRest_post_below_hard _ _ _ _ _ _ _ (by decide)), ?_, ?_, ?_⟩
  · rw [State.rd_post_below_hard _ _ _ _ _ _ _ _ (by decide) (by decide) (by decide)]
    exact hdone
  · rw [State.rd_post_below_hard _ _ _ _ _ _ _ _ (by decide) (by decide) (by decide)]
    exact herrors
  · rw [State.rd_post_below_hard _ _ _ _ _ _ _ _ (by decide) (by decide) (by decide)]
    exact hpass

theorem wordErrors_self (ws : List (BitVec 16)) : wordErrors ws ws = 0 := by
  induction ws with
  | nil => rfl
  | cons w ws ih => simp [wordErrors, ih, b2n]

/-! ### The serial port (R496) -/

/-- A frame that is neither a write nor a read does nothing. -/
theorem State.spiFrame_ignored (s : State) (ns : Nat) (c : Byte) (bs : List Byte) (hwrite : c = 2 → bs.length ≠ 3)
    (hread : c = 3 → bs.length ≠ 1) : s.spiFrame ns (c :: bs) = (s, []) := by
  match bs with
  | [] => rfl
  | [a] =>
    have hc : c ≠ 3 := fun h => hread h rfl
    simp only [State.spiFrame, hc, if_false]
  | [a, b] => rfl
  | [a, b, d] =>
    have hc : c ≠ 2 := fun h => hwrite h rfl
    simp only [State.spiFrame, hc, if_false]
  | a :: b :: d :: e :: l => rfl

theorem ceilDiv_bounds (a b : Nat) (hb : 0 < b) : a ≤ ceilDiv a b * b ∧ ceilDiv a b * b < a + b := by
  have hdiv := Nat.div_add_mod' (a + b - 1) b
  have hmod := Nat.mod_lt (a + b - 1) hb
  unfold ceilDiv
  omega

end Sys2Proof.Machine
end

section
/-! O55: each clause is an equation of an operation above. -/

namespace Sys2Proof.Machine

open Sys2Proof

/-- Settles O55: a command is the operation of its section; the frames and hops of R501 and R506 go by `State.legScans`, which
the operations of a frame's end and start keep. -/
theorem compatibilityMode : Obligations.CompatibilityMode := by
  refine ⟨?_, ?_, ?_, ?_, ?_, ?_, ?_, ?_, ?_, ?_, ?_, ?_, ?_, ?_, ?_, ?_, ?_, ?_, ?_, ?_, ?_, ?_, ?_, ?_, ?_, ?_, ?_, ?_, ?_,
    ?_, ?_, ?_, ?_, ?_⟩
  · intro s n v c k v' hup hnative
    have hwrite (n v : Nat) := s.legWrite_native n v hnative
    exact ⟨exec_of_live rfl hup (hwrite _ _), exec_of_live rfl hup (hwrite _ _), exec_of_live rfl hup (hwrite _ _)⟩
  · exact fun s v hup hcompat => exec_of_live rfl hup (s.legWrite_single 0x0A v.toNat hcompat (by decide) rfl)
  · intro s c v hup hcompat
    refine exec_of_live rfl hup ((s.legWrite_single _ v.toNat hcompat (by omega) (pairOf_hvCtl c)).trans ?_)
    rw [State.legEffect_hvCtl]
  · intro s k v hup hcompat
    refine exec_of_live rfl hup ((s.legWrite_single _ v.toNat hcompat (by omega) (pairOf_fzCtl k)).trans ?_)
    rw [State.legEffect_fzCtl]
  · intro s hup hcompat
    exact ⟨fun h => exec_of_live rfl hup (s.legRun_armed hcompat h),
      fun r f g h => exec_of_live rfl hup (s.legRun_refused r f g hcompat h)⟩
  · intro s hup hcompat harmed
    refine gives_of_live rfl hup ?_
    rw [s.legRun_disarmed hcompat harmed]
    exact ⟨State.rd_wr_same s L.CTRL_RUN 0 (by decide), rfl, rfl⟩
  · intro s hup hcompat
    exact ⟨exec_of_live rfl hup (if_pos hcompat), exec_of_live rfl hup (if_pos hcompat)⟩
  · intro s u w r hup hcompat
    have haxis (fs : List (Nat × Nat × Nat)) := s.legAxis_done u w r fs hcompat
    exact ⟨fun h => exec_of_live rfl hup (s.legMove_done u w r hcompat h), fun h => exec_of_live rfl hup (haxis _ h),
      fun h => exec_of_live rfl hup (haxis _ h), fun h => exec_of_live rfl hup (haxis _ h),
      fun h => exec_of_live rfl hup (haxis _ h)⟩
  · exact fun s v h hv => ⟨s.axTarget_axTgt, s.axTarget_reads v h hv⟩
  · exact State.axTarget_of_none
  · exact fun s st m hup hcompat => exec_of_live rfl hup (if_pos hcompat)
  · intro s n p hup hpairs hn
    have hexpiry := s.pairExpiry_of_one n p hpairs hn
    refine ⟨fun hearly => ?_, fun hlate hok => ?_, fun hlate hok => ?_⟩
    · exact exec_of_live rfl hup (hexpiry.trans (if_pos hearly))
    · exact exec_of_live rfl hup (hexpiry.trans ((if_neg (Nat.not_lt.mpr hlate)).trans (if_pos hok)))
    · exact exec_of_live rfl hup
        (hexpiry.trans ((if_neg (Nat.not_lt.mpr hlate)).trans (if_neg (Bool.eq_false_iff.mp hok))))
  · intro s st hup hhop
    exact exec_of_live rfl hup (by simp only [State.freqHop, hhop])
  · intro s st f hup hhop hcompat hlen hout hf
    exact gives_of_live rfl hup (s.freqHop_done st f hhop hcompat hlen hout hf)
  · intro s st hup hruns hdue hlen
    exact gives_of_live rfl hup (s.legFrame_next st hruns hdue (by omega))
  · intro s st hup hruns
    exact exec_of_live rfl hup (by simp [State.legFrame, hruns])
  · intro s ws hup hcompat hlink hloop hpar
    refine gives_of_live rfl hup ?_
    rw [s.lvrPacket_parity _ _ hcompat hlink hloop rfl hpar]
    exact s.badPacket_parity _ hcompat (Nat.mod_lt _ (by decide))
  · intro s ws a hup hcompat hlink hloop h st e got hpar hasked hen hlpar hnew
    exact exec_of_live rfl hup (s.lvrPacket_held _ st a hcompat hlink hloop rfl hpar hasked hen hlpar hnew)
  · intro s k hup hlrdy hlink
    exact ⟨fun hk => exec_of_live rfl hup (s.linkTrained_aligned k hlrdy hlink hk),
      fun hk => exec_of_live rfl hup (s.linkTrained_skewed k hk)⟩
  · intro s hup
    refine ⟨fun hlink => exec_of_live rfl hup (s.linkLost_up 0 hlink), fun hlink hlow => ?_, fun hhigh => ?_⟩
    · exact exec_of_live rfl hup ((if_neg (Bool.eq_false_iff.mp hlow)).trans (s.linkLost_up 1 hlink))
    · exact exec_of_live rfl hup (if_pos hhigh)
  · intro s hup hcompat hrdy hen
    refine gives_of_live rfl hup ?_
    rw [s.lvtRise_enabled hcompat hrdy hen]
    exact ⟨State.rd_wr_same s F.LVT_STAT_RDY 1 (by decide), rfl, rfl⟩
  · intro s st hup htrain hst hlink htf hpage hlen
    exact gives_of_live rfl hup (s.lvtRequest_idle st htrain hst hlink htf hpage (by omega))
  · intro s st t p hup htrain hst hlink htf v hpage
    exact exec_of_live rfl hup ((s.lvtRequest_timed st t htrain hst hlink htf).trans (v.lvtPageEnd_page st p hpage))
  · intro s st hup htrain hst horder hwait hpage
    have htop : s.lvtTop st = s.modLvt st (fun l => { l with facet := 0 }) :=
      (s.lvtTop_idle st htrain hst hpage).trans (State.lvtStart_none _ _ horder hwait)
    refine gives_of_live rfl hup ?_
    rw [htop]
    exact ⟨s.lvtSt_modLvt_facet st, rfl⟩
  · intro s st hup htrain hst hpage u
    have htop := s.lvtTop_idle st htrain hst hpage
    exact ⟨fun p h => exec_of_live rfl hup (htop.trans (u.lvtStart_admitted st p h)),
      fun p h hnext => exec_of_live rfl hup (htop.trans (u.lvtStart_undecided st p h hnext))⟩
  · intro s hup hrdy hpages
    refine gives_of_live rfl hup ?_
    rw [s.lvtLost_idle hrdy hpages]
    refine ⟨?_, State.rd_wr_same _ F.LVT_STAT_TRAINED 0 (by decide), rfl, rfl⟩
    exact (State.rd_wr_ne _ F.LVT_STAT_TRAINED F.LVT_STAT_RDY 0 (by decide)).trans
      (State.rd_wr_same s F.LVT_STAT_RDY 0 (by decide))
  · intro s hup harmed hen hloop
    refine gives_of_live rfl hup ?_
    rw [s.loopStartTest_ready harmed hen hloop]
    refine ⟨rfl, ?_, ?_⟩
    · exact (State.rd_wr_ne _ F.LINK_LOOP_STAT_ERRORS F.LINK_LOOP_STAT_DONE 0 (by decide)).trans
        ((State.rd_wr_ne _ F.LINK_LOOP_STAT_PASS F.LINK_LOOP_STAT_DONE 0 (by decide)).trans
          (State.rd_wr_same s F.LINK_LOOP_STAT_DONE 0 (by decide)))
    · exact (((RegsOnly.refl { s with leg := { s.leg with looping := true } } _).wr F.LINK_LOOP_STAT_DONE 0 (by simp)).wr
        F.LINK_LOOP_STAT_PASS 0 (by simp)).wr F.LINK_LOOP_STAT_ERRORS 0 (by simp)
  · exact fun s hup harmed => exec_of_live rfl hup (s.loopStartTest_armed harmed)
  · exact fun s ws hup hloop => gives_of_live rfl hup (s.loopDone_reads ws _ hloop rfl)
  · exact fun s => wordErrors_self _
  · exact fun s ns a hi lo => rfl
  · exact fun s ns a => rfl
  · exact State.spiFrame_ignored
  · intro ns v hns
    obtain ⟨hlow, hhigh⟩ := ceilDiv_bounds 2000 ns hns
    exact ⟨ceilDiv 2000 ns, by rw [spiReply, Nat.max_eq_right hns], hlow, hhigh⟩

end Sys2Proof.Machine
end

section
/-! Clocks (chapter 11): what the change of a PLL's state, an event and a start of roll call leave of the registers and of the
rest (R285–R288, R298, R480). -/

namespace Sys2Proof.Machine

open Sys2Proof

/-! ### Fields given by their place -/

/-- A write leaves a field of another place alone: the places in numbers, for `omega`. -/
theorem State.rd_wr_apart (s : State) (o lo w r v o' lo' w' r' : Nat) (h : o * 32 + lo ≠ o' * 32 + lo') :
    (s.wr ⟨o, lo, w, r⟩ v).rd ⟨o', lo', w', r'⟩ = s.rd ⟨o', lo', w', r'⟩ :=
  State.rd_wr_ne _ _ _ _ h

theorem State.rd_wrS_apart (s : State) (o lo w r : Nat) (v : Int) (o' lo' w' r' : Nat) (h : o * 32 + lo ≠ o' * 32 + lo') :
    (s.wrS ⟨o, lo, w, r⟩ v).rd ⟨o', lo', w', r'⟩ = s.rd ⟨o', lo', w', r'⟩ :=
  State.rd_wr_ne _ _ _ _ h

theorem State.rd_inc_apart (s : State) (o lo w r k o' lo' w' r' : Nat) (h : o * 32 + lo ≠ o' * 32 + lo') :
    (s.inc ⟨o, lo, w, r⟩ k).rd ⟨o', lo', w', r'⟩ = s.rd ⟨o', lo', w', r'⟩ :=
  State.rd_wr_ne _ _ _ _ h

/-- A whole register takes what a field read gives. -/
theorem State.rd_lt (s : State) (f : Fld) : s.rd f < 2 ^ 32 :=
  BitVec.isLt _

/-! ### Outputs and stations (R293, R298) -/

/-- An update of the outputs writes RUNNING alone. -/
theorem State.regsOnly_syncOuts (s : State) : RegsOnly s s.syncOuts ((List.range 24).map F.CLK_OUT_STAT_RUNNING) :=
  List.foldlRecOn (motive := fun t : State => RegsOnly s t ((List.range 24).map F.CLK_OUT_STAT_RUNNING)) _ _
    (RegsOnly.refl s _) (fun _ ih _ hc => ih.wr _ _ (List.mem_map_of_mem hc))

/-- RUNNING is the lowest bit of its registers, which lie above the PLLs'. -/
theorem State.rd_syncOuts (s : State) (o lo w r : Nat) (hlo : lo < 32) (h : o < 0x33000 ∨ lo ≠ 0) :
    s.syncOuts.rd ⟨o, lo, w, r⟩ = s.rd ⟨o, lo, w, r⟩ := by
  refine s.regsOnly_syncOuts.2 _ (fun f hf => ?_)
  obtain ⟨c, -, rfl⟩ := List.mem_map.mp hf
  simp only [Fld.key, F.CLK_OUT_STAT_RUNNING]
  omega

/-- The emitters of a station stop: of the registers ONMAX alone moves. -/
theorem State.rd_stationUnlocked (s : State) (st cause : Nat) (f : Fld) (honmax : ∀ b, (F.BM_ONMAX_ONMAX b).key ≠ f.key) :
    (s.stationUnlocked st cause).rd f = s.rd f := by
  have hoff : (s.stationOff st).rd f = s.rd f :=
    foldl_keeps (fun u : State => u.rd f) _ (fun u e => u.rd_cutLine st e f honmax) _ s
  have hahead (u : State) : (u.hurtAhead st 2 cause 0).rd f = u.rd f :=
    foldl_keeps (fun u : State => u.rd f) _ (fun _ _ => State.rd_modSlot _ _ _ _) _ u
  simp only [State.stationUnlocked, State.thermPages]
  split
  · rfl
  · split
    · rw [State.rd_modSlot, hahead, hoff]
    · rw [hahead, hoff]

/-! ### A change of state (R286, R287, R298) -/

/-- A PLL shows a state: its outputs, the lock pins and SYS follow; a loss of lock is not counted yet. -/
def State.pllShown (s : State) (p x : Nat) : State :=
  let s := ((s.wr (F.PLL_STAT_STATE p) x).syncOuts).lockPins
  let s := if p = 0 && x = 0 then s.sysStop else s
  s.modPll p (fun z => { z with
    unlocked := !(locksIn (s.rd F.GLB_STATE_TIER) x) && (z.unlocked || !(x == 3 || x == 4)) })

/-- R286, R298: a loss of lock counts, and a station follows it. -/
def State.lossCounted (s : State) (p cause : Nat) : State :=
  if 4 ≤ p then (s.inc (F.PLL_COUNT_LOSSES p)).stationUnlocked (p - 4) cause else s.inc (F.PLL_COUNT_LOSSES p)

theorem State.setPll_eq (s : State) (p x cause : Nat) : s.setPll p x cause =
    if s.coarse p && !(x == 3 || x == 4) then (s.pllShown p x).lossCounted p cause else s.pllShown p x := rfl

/-- Neither into COARSE or FINE nor from another state is a lock lost. -/
theorem State.setPll_kept (s : State) (p x cause : Nat) (h : s.coarse p = false ∨ x = 3 ∨ x = 4) :
    s.setPll p x cause = s.pllShown p x := by
  rw [State.setPll_eq, if_neg]
  rcases h with h | rfl | rfl <;> simp [*]

theorem State.setPll_lost (s : State) (p x cause : Nat) (h : s.coarse p = true) (h3 : x ≠ 3) (h4 : x ≠ 4) :
    s.setPll p x cause = (s.pllShown p x).lossCounted p cause := by
  rw [State.setPll_eq, if_pos (by simp [h, h3, h4])]

/-- What neither a PLL's own entry nor a stop of SYS changes goes by STATE, the outputs and the lock pins. -/
theorem State.pllShown_keeps {β : Type} (π : State → β) (hpll : ∀ s p g, π (State.modPll s p g) = π s)
    (hsys : ∀ s, π (State.sysStop s) = π s) (s : State) (p x : Nat) :
    π (s.pllShown p x) = π ((s.wr (F.PLL_STAT_STATE p) x).syncOuts).lockPins := by
  unfold State.pllShown
  generalize ((s.wr (F.PLL_STAT_STATE p) x).syncOuts).lockPins = u
  refine (hpll _ _ _).trans ?_
  split
  · exact hsys u
  · rfl

@[simp] theorem State.rd_lockPins (s : State) (f : Fld) : s.lockPins.rd f = s.rd f := rfl

@[simp] theorem State.rd_sysStop (s : State) (f : Fld) : s.sysStop.rd f = s.rd f := by
  unfold State.sysStop; split <;> exact State.rd_congr _ _ _ rfl

@[simp] theorem State.sysStop_clk (s : State) : s.sysStop.clk = s.clk := by
  unfold State.sysStop; split <;> rfl

@[simp] theorem State.sysStop_alm (s : State) : s.sysStop.alm = s.alm := by
  unfold State.sysStop; split <;> rfl

/-- The registers that a PLL's state shows in. -/
theorem State.rd_pllShown (s : State) (p x : Nat) (f : Fld) :
    (s.pllShown p x).rd f = ((s.wr (F.PLL_STAT_STATE p) x).syncOuts).rd f :=
  (State.pllShown_keeps (fun u => u.rd f) (fun _ _ _ => State.rd_modPll _ _ _ _) (fun u => u.rd_sysStop f) s p x).trans
    (State.rd_lockPins _ _)

theorem State.rd_pllShown_apart (s : State) (p x o lo w r : Nat) (hlo : lo < 32) (hrun : o < 0x33000 ∨ lo ≠ 0)
    (hstate : (0x3000c + p * 0x400) * 32 + 16 ≠ o * 32 + lo) :
    (s.pllShown p x).rd ⟨o, lo, w, r⟩ = s.rd ⟨o, lo, w, r⟩ := by
  rw [State.rd_pllShown, State.rd_syncOuts _ _ _ _ _ hlo hrun]
  exact State.rd_wr_ne _ _ _ _ hstate

theorem State.pllState_pllShown (s : State) (p x : Nat) (hp : p < 12) (hx : x < 8) : (s.pllShown p x).pllState p = x := by
  rw [State.pllState, State.rd_pllShown]
  refine (State.rd_syncOuts _ _ _ _ _ (by decide) (by omega)).trans ?_
  exact (State.rd_wr_same _ (F.PLL_STAT_STATE p) x (by simp [F.PLL_STAT_STATE])).trans (Nat.mod_eq_of_lt hx)

/-- The pins LOCKA go by the state shown (R287). -/
theorem State.pllShown_lockA (s : State) (p x : Nat) :
    (s.pllShown p x).clk.lockA = ((s.wr (F.PLL_STAT_STATE p) x).syncOuts).lockPins.clk.lockA :=
  State.pllShown_keeps (fun u => u.clk.lockA) (fun _ _ _ => rfl) (fun u => congrArg ClockSt.lockA u.sysStop_clk) s p x

@[simp] theorem State.syncOuts_alm (s : State) : s.syncOuts.alm = s.alm :=
  foldl_keeps State.alm _ (fun _ _ => State.wr_alm _ _ _) _ s

@[simp] theorem State.lockPins_alm (s : State) : s.lockPins.alm = s.alm := rfl

@[simp] theorem State.pllShown_alm (s : State) (p x : Nat) : (s.pllShown p x).alm = s.alm := by
  rw [State.pllShown_keeps State.alm (fun _ _ _ => rfl) State.sysStop_alm, State.lockPins_alm, State.syncOuts_alm,
    State.wr_alm]

/-! ### What no change of a PLL's state reaches -/

/-- The host side, the commits, the fields of core tables that a commit has set, and the time of the reference's loss. -/
def State.besidePlls (s : State) : HostIf × Bezel × List Nat × Nat := (s.host, s.bezel, s.clk.coreSet, s.clk.refLostAt)

theorem State.besidePlls_of_eq {s t : State} (hhost : t.host = s.host) (hbezel : t.bezel = s.bezel) (hclk : t.clk = s.clk) :
    t.besidePlls = s.besidePlls := by
  simp only [State.besidePlls, hhost, hbezel, hclk]

@[simp] theorem State.besidePlls_wr (s : State) (f : Fld) (v : Nat) : (s.wr f v).besidePlls = s.besidePlls := rfl
@[simp] theorem State.besidePlls_wrS (s : State) (f : Fld) (v : Int) : (s.wrS f v).besidePlls = s.besidePlls := rfl
@[simp] theorem State.besidePlls_inc (s : State) (f : Fld) (k : Nat) : (s.inc f k).besidePlls = s.besidePlls := rfl
@[simp] theorem State.besidePlls_modPll (s : State) (p : Nat) (g : Pll → Pll) :
    (s.modPll p g).besidePlls = s.besidePlls := rfl
@[simp] theorem State.besidePlls_lockPins (s : State) : s.lockPins.besidePlls = s.besidePlls := rfl

@[simp] theorem State.besidePlls_modSlot (s : State) (p : Nat) (g : Slot → Slot) :
    (s.modSlot p g).besidePlls = s.besidePlls := by
  unfold State.modSlot; split <;> exact State.besidePlls_of_eq rfl rfl rfl

@[simp] theorem State.besidePlls_syncOuts (s : State) : s.syncOuts.besidePlls = s.besidePlls :=
  foldl_keeps State.besidePlls _ (fun _ _ => State.besidePlls_wr _ _ _) _ s

@[simp] theorem State.besidePlls_sysStop (s : State) : s.sysStop.besidePlls = s.besidePlls := by
  unfold State.sysStop; split <;> rfl

@[simp] theorem State.besidePlls_cutLine (s : State) (st e : Nat) : (s.cutLine st e).besidePlls = s.besidePlls := by
  unfold State.cutLine
  extract_lets b u
  change u.besidePlls = _
  simp only [u]
  split
  · split
    · exact State.besidePlls_modSlot _ _ _
    · rfl
  · rfl

@[simp] theorem State.besidePlls_stationUnlocked (s : State) (st cause : Nat) :
    (s.stationUnlocked st cause).besidePlls = s.besidePlls := by
  have hoff : (s.stationOff st).besidePlls = s.besidePlls :=
    foldl_keeps State.besidePlls _ (fun u e => u.besidePlls_cutLine st e) _ s
  have hahead (u : State) : (u.hurtAhead st 2 cause 0).besidePlls = u.besidePlls :=
    foldl_keeps State.besidePlls _ (fun _ _ => State.besidePlls_modSlot _ _ _) _ u
  simp only [State.stationUnlocked, State.thermPages]
  split
  · rfl
  · split <;> simp [hahead, hoff]

@[simp] theorem State.besidePlls_pllShown (s : State) (p x : Nat) : (s.pllShown p x).besidePlls = s.besidePlls := by
  rw [State.pllShown_keeps State.besidePlls State.besidePlls_modPll State.besidePlls_sysStop, State.besidePlls_lockPins,
    State.besidePlls_syncOuts, State.besidePlls_wr]

@[simp] theorem State.besidePlls_setPll (s : State) (p x cause : Nat) : (s.setPll p x cause).besidePlls = s.besidePlls := by
  rw [State.setPll_eq, State.lossCounted]
  repeat' split
  all_goals simp

@[simp] theorem State.besidePlls_closeLoop (s : State) (p : Nat) : (s.closeLoop p).besidePlls = s.besidePlls := by
  simp [State.closeLoop]

theorem State.host_of_besidePlls {s t : State} (h : t.besidePlls = s.besidePlls) : t.host = s.host :=
  congrArg Prod.fst h

theorem State.bezel_of_besidePlls {s t : State} (h : t.besidePlls = s.besidePlls) : t.bezel = s.bezel :=
  congrArg (fun x => x.2.1) h

theorem State.coreSet_of_besidePlls {s t : State} (h : t.besidePlls = s.besidePlls) : t.clk.coreSet = s.clk.coreSet :=
  congrArg (fun x => x.2.2.1) h

theorem State.refLostAt_of_besidePlls {s t : State} (h : t.besidePlls = s.besidePlls) : t.clk.refLostAt = s.clk.refLostAt :=
  congrArg (fun x => x.2.2.2) h

/-! ### The registers after a change of state -/

/-- A change of a PLL's state writes its STATE and LOSSES, RUNNING and ONMAX. -/
theorem State.rd_setPll (s : State) (p x cause o lo w r : Nat) (hlo : lo < 32) (hrun : o < 0x33000 ∨ lo ≠ 0)
    (honmax : o < 0x200000) (hstate : (0x3000c + p * 0x400) * 32 + 16 ≠ o * 32 + lo)
    (hloss : (0x30014 + p * 0x400) * 32 + 16 ≠ o * 32 + lo) :
    (s.setPll p x cause).rd ⟨o, lo, w, r⟩ = s.rd ⟨o, lo, w, r⟩ := by
  have hshown := s.rd_pllShown_apart p x o lo w r hlo hrun hstate
  have hkey : (F.PLL_COUNT_LOSSES p).key ≠ (⟨o, lo, w, r⟩ : Fld).key := by
    simpa only [Fld.key, F.PLL_COUNT_LOSSES] using hloss
  have hcount : ((s.pllShown p x).inc (F.PLL_COUNT_LOSSES p)).rd ⟨o, lo, w, r⟩ = s.rd ⟨o, lo, w, r⟩ := by
    rw [State.rd_inc_ne _ _ _ _ hkey, hshown]
  have hbeam (b : Nat) : (F.BM_ONMAX_ONMAX b).key ≠ (⟨o, lo, w, r⟩ : Fld).key := by
    simp only [Fld.key, F.BM_ONMAX_ONMAX]; omega
  rw [State.setPll_eq, State.lossCounted]
  repeat' split
  · exact (State.rd_stationUnlocked _ _ _ _ hbeam).trans hcount
  · exact hcount
  · exact hshown

/-- ONMAX lies above every register of the clocks. -/
theorem onmax_key_ne_pll (f : Fld) (h : f.key < 32 * 0x34000) (b : Nat) : (F.BM_ONMAX_ONMAX b).key ≠ f.key := by
  simp only [Fld.key, F.BM_ONMAX_ONMAX] at h ⊢; omega

theorem State.rd_lossCounted (s : State) (p cause : Nat) (f : Fld) (h : f.key < 32 * 0x34000) :
    (s.lossCounted p cause).rd f = (s.inc (F.PLL_COUNT_LOSSES p)).rd f := by
  unfold State.lossCounted
  split
  · exact State.rd_stationUnlocked _ _ _ _ (onmax_key_ne_pll f h)
  · rfl

theorem State.pllState_setPll (s : State) (p x cause : Nat) (hp : p < 12) (hx : x < 8) :
    (s.setPll p x cause).pllState p = x := by
  have hshown := s.pllState_pllShown p x hp hx
  have hstate : (F.PLL_STAT_STATE p).key < 32 * 0x34000 := by simp only [Fld.key, F.PLL_STAT_STATE]; omega
  have hkey : (F.PLL_COUNT_LOSSES p).key ≠ (F.PLL_STAT_STATE p).key := by
    simp only [Fld.key, F.PLL_COUNT_LOSSES, F.PLL_STAT_STATE]; omega
  rw [State.setPll_eq]
  split
  · exact (State.rd_lossCounted _ _ _ _ hstate).trans ((State.rd_inc_ne _ _ _ _ hkey).trans hshown)
  · exact hshown

/-- A change of one PLL's state is none of another's. -/
theorem State.pllState_setPll_ne (s : State) (p q x cause : Nat) (hq : q < 12) (h : q ≠ p) :
    (s.setPll p x cause).pllState q = s.pllState q := by
  have hplace : (0x3000c + p * 0x400) * 32 + 16 ≠ (0x3000c + q * 0x400) * 32 + 16 := by omega
  exact State.rd_setPll _ _ _ _ _ _ _ _ (by decide) (by omega) (by omega) hplace (by omega)

/-- A loss of lock counts once (R286). -/
theorem State.losses_setPll_lost (s : State) (p x cause : Nat) (hp : p < 12) (h : s.coarse p = true) (h3 : x ≠ 3)
    (h4 : x ≠ 4) : (s.setPll p x cause).rd (F.PLL_COUNT_LOSSES p) =
      satAdd (F.PLL_COUNT_LOSSES p).w (s.rd (F.PLL_COUNT_LOSSES p)) 1 := by
  rw [State.setPll_lost _ _ _ _ h h3 h4, State.rd_lossCounted _ _ _ _ (by simp only [Fld.key, F.PLL_COUNT_LOSSES]; omega),
    State.rd_inc_same _ _ _ (by simp [F.PLL_COUNT_LOSSES])]
  exact congrArg (satAdd _ · 1) (State.rd_pllShown_apart _ _ _ _ _ _ _ (by decide) (by omega) (by omega))

/-! ### What an event leaves beside the registers (R251, R480, R505) -/

/-- Beside the registers an event in the queue moves the host side and the level of L_INT. -/
theorem State.postRaw_keeps {β : Type} (π : State → β)
    (hregs : ∀ (s : State) l j, π { s with regs := l, justSet := j } = π s)
    (hint : ∀ (s : State) b, π { s with leg := { s.leg with int := b } } = π s)
    (hhost : ∀ (s : State) h, π { s with host := h } = π s) (s : State) (sev code block inst : Nat) (d : BitVec 80)
    (src tag : Nat) : π (s.postRaw sev code block inst d src tag) = π s := by
  have hwr (u : State) (f : Fld) (v : Nat) : π (u.wr f v) = π u := hregs u _ _
  have hset (u : State) (f : Fld) (v : Nat) : π (u.setW1c f v) = π u := hregs u _ _
  have hvec (u : State) (n : Nat) (imm : Bool) : π (u.vecCause n imm) = π u := by
    rw [State.vecCause_frame]
    exact hhost u _
  have hirq (u : State) (bit : Nat) : π (u.legIrq bit) = π u := by
    simp only [State.legIrq, State.legInt]
    repeat' split
    · exact (hvec _ _ _).trans ((hint _ _).trans (hset _ _ _))
    · exact (hint _ _).trans (hset _ _ _)
    · rfl
  have hleg : π (s.legEvent sev code inst) = π s := by
    unfold State.legEvent
    repeat' split
    all_goals simp only [hirq, hset, hwr]
  have hlost (u : State) : π ((u.inc F.EVT_DROPPED_DROPPED).vecCause 62 true) = π u := (hvec _ _ _).trans (hwr _ _ _)
  rw [← hleg]
  unfold State.postRaw
  generalize s.legEvent sev code inst = u
  extract_lets s0 e0 after e last host v lost
  have hv : π v = π u := hhost _ _
  rw [← hv]
  repeat' split
  · exact hhost _ _
  · exact hlost v
  · exact (hlost _).trans (hhost _ _)
  · exact hlost v

theorem State.undoClr_time (s : State) : s.undoClr.time = s.time := by
  unfold State.undoClr
  repeat' split
  all_goals rfl

theorem State.legIrq_time (s : State) (bit : Nat) : (s.legIrq bit).time = s.time := by
  have hvec (u : State) : (u.vecCause 0 true).time = u.time := by rw [State.vecCause_frame]
  simp only [State.legIrq, State.legInt]
  repeat' split
  · exact hvec _
  · rfl
  · rfl

/-- No event takes time. -/
theorem State.post_time (s : State) (sev code block inst : Nat) (d : List (Nat × Nat × Nat)) (tag : Nat) :
    (s.post sev code block inst d tag).time = s.time := by
  have hraw := State.postRaw_keeps State.time (fun _ _ _ => rfl) (fun _ _ => rfl) (fun _ _ => rfl) s sev code block inst
    (detail d) 0 tag
  have hstop (u : State) : (u.frameStop code).time = u.time := by
    change (if u.on F.FAULT_STAT_FRAME_STOP || u.clrUndone then u.undoClr else
      { ((((u.legIrq 15).wr F.FAULT_STAT_FRAME_STOP 1).wr F.FAULT_STAT_FS_CAUSE code).inc F.FAULT_COUNT_FRAME_STOPS) with
        flt := { (u.legIrq 15).flt with stopAt := (u.legIrq 15).now } } : State).time = u.time
    split
    · exact u.undoClr_time
    · exact u.legIrq_time 15
  simp only [State.post, State.postBy]
  split
  · exact (hstop _).trans hraw
  · exact hraw

/-! ### Events and roll call beside the PLLs (R216, R480) -/

/-- The fields that a frame stop writes. -/
def stopFields : List Fld :=
  [F.FAULT_STAT_FRAME_STOP, F.FAULT_STAT_FS_CAUSE, F.FAULT_STAT_FLUSHABLE, F.FAULT_COUNT_FRAME_STOPS, F.FAULT_STAT_WSTOP]

theorem State.rd_undoClr (s : State) (f : Fld) (hstop : ∀ g ∈ stopFields, g.key ≠ f.key) : s.undoClr.rd f = s.rd f := by
  unfold State.undoClr
  split
  next t c fl at_ hclr =>
    split
    · refine (State.rd_wr_ne _ _ _ _ (hstop F.FAULT_STAT_FLUSHABLE (by simp [stopFields]))).trans ?_
      rw [State.rd_wr_ne _ _ _ _ (hstop _ (by simp [stopFields])), State.rd_wr_ne _ _ _ _ (hstop _ (by simp [stopFields]))]
    · rfl
  next hclr => rfl

/-- The registers of a frame stop that begins. -/
def State.stopBegun (s : State) (code : Nat) : State :=
  (((s.legIrq 15).wr F.FAULT_STAT_FRAME_STOP 1).wr F.FAULT_STAT_FS_CAUSE code).inc F.FAULT_COUNT_FRAME_STOPS

/-- WSTOP_N goes low and the pages go by the stop: a frame stop writes what its beginning, or the undoing of a clear, does. -/
theorem State.rd_frameStop_eq (s : State) (code : Nat) (f : Fld) (hstop : F.FAULT_STAT_WSTOP.key ≠ f.key) :
    (s.frameStop code).rd f =
      (if s.on F.FAULT_STAT_FRAME_STOP || s.clrUndone then s.undoClr else s.stopBegun code).rd f := by
  unfold State.frameStop
  refine Eq.trans (State.rd_congr (State.wr (if s.on F.FAULT_STAT_FRAME_STOP || s.clrUndone then s.undoClr else
    { s.stopBegun code with flt := { (s.legIrq 15).flt with stopAt := (s.legIrq 15).now } }) F.FAULT_STAT_WSTOP 1) _ f rfl) ?_
  rw [State.rd_wr_ne _ _ _ _ hstop]
  split
  · rfl
  · exact State.rd_congr _ _ _ rfl

theorem State.rd_frameStop (s : State) (code : Nat) (f : Fld) (hleg : f.key < 32 * legOff 0)
    (hstop : ∀ g ∈ stopFields, g.key ≠ f.key) : (s.frameStop code).rd f = s.rd f := by
  rw [State.rd_frameStop_eq _ _ _ (hstop _ (by simp [stopFields]))]
  split
  · exact s.rd_undoClr f hstop
  · rw [State.stopBegun, State.rd_inc_ne _ _ _ _ (hstop _ (by simp [stopFields])),
      State.rd_wr_ne _ _ _ _ (hstop _ (by simp [stopFields])), State.rd_wr_ne _ _ _ _ (hstop _ (by simp [stopFields])),
      State.rd_legIrq _ _ _ hleg]

/-- A clear of this cycle that a HARD event undoes sets the stop again (R481). -/
theorem State.rd_undoClr_stop (s : State) (h : s.on F.FAULT_STAT_FRAME_STOP = true ∨ s.clrUndone = true) :
    s.undoClr.rd F.FAULT_STAT_FRAME_STOP ≠ 0 := by
  have hon (hs : s.on F.FAULT_STAT_FRAME_STOP = true) : s.rd F.FAULT_STAT_FRAME_STOP ≠ 0 := bne_iff_ne.mp hs
  unfold State.undoClr
  split
  next t c fl at_ hclr =>
    split
    · have hset : ((s.wr F.FAULT_STAT_FRAME_STOP 1).wr F.FAULT_STAT_FS_CAUSE c |>.wr F.FAULT_STAT_FLUSHABLE fl).rd
          F.FAULT_STAT_FRAME_STOP = 1 := by
        rw [State.rd_wr_ne _ _ _ _ (by decide), State.rd_wr_ne _ _ _ _ (by decide)]
        exact State.rd_wr_same s F.FAULT_STAT_FRAME_STOP 1 (by decide)
      exact fun hzero => absurd (hset.symm.trans hzero) Nat.one_ne_zero
    next hno =>
      rcases h with h | h
      · exact hon h
      · simp only [State.clrUndone, hclr, beq_iff_eq] at h
        simp only [h, Bool.and_eq_true, decide_true, true_and, Bool.not_eq_true', Bool.not_eq_false] at hno
        exact hon hno
  next hclr =>
    refine hon (h.resolve_right ?_)
    simp [State.clrUndone, hclr]

/-- A HARD event starts a frame stop, or continues it (R480). -/
theorem State.rd_frameStop_stop (s : State) (code : Nat) : (s.frameStop code).rd F.FAULT_STAT_FRAME_STOP ≠ 0 := by
  rw [State.rd_frameStop_eq _ _ _ (by decide)]
  split
  next h => exact s.rd_undoClr_stop (Bool.or_eq_true_iff.mp h)
  next h =>
    rw [State.stopBegun, State.rd_inc_ne _ _ _ _ (by decide), State.rd_wr_ne _ _ _ _ (by decide),
      State.rd_wr_same _ _ _ (by decide)]
    decide

theorem State.rd_post_hard_stop (s : State) (code block inst : Nat) (d : List (Nat × Nat × Nat)) (tag : Nat) :
    (s.post 3 code block inst d tag).rd F.FAULT_STAT_FRAME_STOP ≠ 0 :=
  State.rd_frameStop_stop _ _

/-- An event of any severity shows in no register of the clocks. -/
theorem State.rd_post_clock (s : State) (sev code block inst : Nat) (d : List (Nat × Nat × Nat)) (tag o lo w r : Nat)
    (hlo : lo < 32) (h : 0x30000 ≤ o ∧ o < 0x34000) :
    (s.post sev code block inst d tag).rd ⟨o, lo, w, r⟩ = s.rd ⟨o, lo, w, r⟩ := by
  have hleg : (⟨o, lo, w, r⟩ : Fld).key < 32 * legOff 0 := by simp only [Fld.key, legOff]; omega
  have hdrop : F.EVT_DROPPED_DROPPED.key ≠ (⟨o, lo, w, r⟩ : Fld).key := by
    simp only [Fld.key, F.EVT_DROPPED_DROPPED]; omega
  have hraw := State.rd_postRaw_of_legEvent s sev code block inst (detail d) 0 tag _
    (State.rd_legEvent _ _ _ _ _ hleg) hdrop
  simp only [State.post, State.postBy]
  split
  · refine (State.rd_frameStop _ _ _ hleg ?_).trans hraw
    simp only [stopFields, List.forall_mem_cons, Fld.key, F.FAULT_STAT_FRAME_STOP, F.FAULT_STAT_FS_CAUSE,
      F.FAULT_STAT_FLUSHABLE, F.FAULT_COUNT_FRAME_STOPS, F.FAULT_STAT_WSTOP]
    simp only [List.not_mem_nil, false_implies, implies_true, and_true]
    omega
  · exact hraw

/-- The registers of a station and of its beams lie above the clocks': roll call that starts writes no other (R216). -/
theorem State.rd_scanEn_clock (s : State) (st o lo w r : Nat) (hlo : lo < 32) (h : o < 0x34000) :
    (s.scanEn st true).rd ⟨o, lo, w, r⟩ = s.rd ⟨o, lo, w, r⟩ := by
  have hlow : (⟨o, lo, w, r⟩ : Fld).key < (F.BM_ONMAX_ONMAX 0).key := by simp only [Fld.key, F.BM_ONMAX_ONMAX]; omega
  have hphase : (F.ST_ROLL_STAT_PHASE st).key ≠ (⟨o, lo, w, r⟩ : Fld).key := by
    simp only [Fld.key, F.ST_ROLL_STAT_PHASE]; omega
  have hscan : (F.ST_SCANCTL_SCAN_EN st).key ≠ (⟨o, lo, w, r⟩ : Fld).key := by
    simp only [Fld.key, F.ST_SCANCTL_SCAN_EN]; omega
  have hstart (u : State) : (u.rollStart st).rd ⟨o, lo, w, r⟩ = u.rd ⟨o, lo, w, r⟩ := by
    refine (State.rd_toAcquire _ _ _ hlow hphase).trans ?_
    refine (foldl_keeps (fun u : State => u.rd ⟨o, lo, w, r⟩) _ (fun _ _ => State.rd_modBeam _ _ _ _) _ _).trans ?_
    exact State.rd_wr_ne _ _ _ _ hphase
  simp only [State.scanEn, if_true]
  split
  · rfl
  · split
    · rw [State.rd_modSc, State.rd_wr_ne _ _ _ _ hscan]
    · rw [State.syncOcts_keeps (fun u : State => u.rd ⟨o, lo, w, r⟩) (fun _ _ _ => State.rd_modOct _ _ _ _)
        (fun _ n _ => State.rd_wr_ne _ _ _ _ (beamField_key_ne _ hlow n).1), hstart, State.rd_modSc,
        State.rd_wr_ne _ _ _ _ hscan]

theorem State.rd_withTime (s : State) (t : Time) (f : Fld) : ({ s with time := t } : State).rd f = s.rd f := rfl

/-- SYS starts: of the registers ETIME_RESEEDED alone (R23). -/
theorem State.rd_sysStart (s : State) (f : Fld) (h : F.GLB_STATE_ETIME_RESEEDED.key ≠ f.key) :
    s.sysStart.rd f = s.rd f := by
  unfold State.sysStart
  repeat' split
  · rfl
  · exact State.rd_withTime _ _ _
  · exact State.rd_withTime _ _ _
  · exact (State.rd_withTime _ _ _).trans (State.rd_wr_ne _ _ _ _ h)

end Sys2Proof.Machine
end

section
/-! The states of a PLL: enable, search, lock and its loss, the reference, clears (R285–R290, R297–R300, R306). -/

namespace Sys2Proof.Machine

open Sys2Proof

/-! ### The loop closes, the error is noted (R285, R306) -/

theorem State.rd_wr_zero (s : State) (f : Fld) (h : f.w ≤ 32) : (s.wr f 0).rd f = 0 :=
  (State.rd_wr_same s f 0 h).trans (Nat.zero_mod _)

theorem State.pllState_wr (s : State) (p o lo w r v : Nat) (h : o * 32 + lo ≠ (0x3000c + p * 0x400) * 32 + 16) :
    (s.wr ⟨o, lo, w, r⟩ v).pllState p = s.pllState p :=
  State.rd_wr_ne _ _ _ _ h

theorem State.pllState_closeLoop (s : State) (p : Nat) (hp : p < 12) : (s.closeLoop p).pllState p = 2 :=
  State.pllState_setPll _ _ _ _ hp (by decide)

theorem State.pllState_closeLoop_ne (s : State) (p q : Nat) (hq : q < 12) (h : q ≠ p) :
    (s.closeLoop p).pllState q = s.pllState q :=
  (State.pllState_setPll_ne _ _ _ _ _ hq h).trans (State.rd_modPll _ _ _ _)

theorem State.rd_closeLoop (s : State) (p o lo w r : Nat) (hlo : lo < 32) (hrun : o < 0x33000 ∨ lo ≠ 0)
    (honmax : o < 0x200000) (hstate : (0x3000c + p * 0x400) * 32 + 16 ≠ o * 32 + lo)
    (hloss : (0x30014 + p * 0x400) * 32 + 16 ≠ o * 32 + lo) :
    (s.closeLoop p).rd ⟨o, lo, w, r⟩ = s.rd ⟨o, lo, w, r⟩ :=
  (State.rd_setPll _ _ _ _ _ _ _ _ hlo hrun honmax hstate hloss).trans (State.rd_modPll _ _ _ _)

@[simp] theorem State.besidePlls_noteErr (s : State) (p : Nat) (err : Int) : (s.noteErr p err).besidePlls = s.besidePlls :=
  rfl

@[simp] theorem State.noteErr_alm (s : State) (p : Nat) (err : Int) : (s.noteErr p err).alm = s.alm := rfl

/-- ERR and PEAK make up PLL_PHERR. -/
theorem State.rd_noteErr (s : State) (p : Nat) (err : Int) (o lo w r : Nat) (hlo : lo < 32) (h : o ≠ 0x30010 + p * 0x400) :
    (s.noteErr p err).rd ⟨o, lo, w, r⟩ = s.rd ⟨o, lo, w, r⟩ := by
  simp (disch := omega) only [State.noteErr, State.rd_lockPins, F.PLL_PHERR_ERR, F.PLL_PHERR_PEAK, State.rd_wr_apart,
    State.rd_wrS_apart]

theorem State.pllState_noteErr (s : State) (p : Nat) (err : Int) : (s.noteErr p err).pllState p = s.pllState p :=
  State.rd_noteErr _ _ _ _ _ _ _ (by decide) (by omega)

theorem State.coarse_modPll (s : State) (p q : Nat) (g : Pll → Pll) : (s.modPll p g).coarse q = s.coarse q := rfl

/-! ### EN (R285) -/

theorem State.pllEnable_off (s : State) (p : Nat) (hp : 4 ≤ p) :
    s.pllEnable p false = (s.wr (F.PLL_CTL_EN p) 0).pllOff p := by
  simp [State.pllEnable, Nat.not_lt.mpr hp]

/-- A PLL that stops is OFF, its ramp too. -/
theorem State.pllOff_spec (s : State) (p : Nat) (hp : p < 12) :
    (s.pllOff p).rd (F.PLL_CTL_EN p) = s.rd (F.PLL_CTL_EN p) ∧ (s.pllOff p).pllState p = 0 ∧
      (s.pllOff p).rd (F.PLL_RAMP_STAT_RUN p) = 0 ∧ (s.pllOff p).host = s.host := by
  refine ⟨?_, State.pllState_setPll _ _ _ _ hp (by decide), ?_, State.host_of_besidePlls (by simp [State.pllOff])⟩
  · simp (disch := omega) only [State.pllOff, F.PLL_CTL_EN, F.PLL_RAMP_STAT_RUN, State.rd_setPll, State.rd_modPll,
      State.rd_wr_apart]
  · refine (State.rd_setPll _ _ _ _ _ _ _ _ (by decide) (by omega) (by omega) (by omega) (by omega)).trans ?_
    exact (State.rd_modPll _ _ _ _).trans (State.rd_wr_zero s (F.PLL_RAMP_STAT_RUN p) (by simp [F.PLL_RAMP_STAT_RUN]))

theorem State.pllEnable_off_spec (s : State) (p : Nat) (hp : p < 12) (h4 : 4 ≤ p) :
    (s.pllEnable p false).rd (F.PLL_CTL_EN p) = 0 ∧ (s.pllEnable p false).pllState p = 0 ∧
      (s.pllEnable p false).rd (F.PLL_RAMP_STAT_RUN p) = 0 ∧ (s.pllEnable p false).host = s.host := by
  obtain ⟨hen, hstate, hrun, hhost⟩ := (s.wr (F.PLL_CTL_EN p) 0).pllOff_spec p hp
  rw [s.pllEnable_off p h4]
  exact ⟨hen.trans (s.rd_wr_zero _ (by simp [F.PLL_CTL_EN])), hstate, hrun, hhost⟩

theorem State.pllEnable_on (s : State) (p : Nat) (h4 : 4 ≤ p) (hoff : s.pllState p = 0)
    (hdom : (s.wr (F.PLL_CTL_EN p) 1).domOn (4 + p) = true) :
    s.pllEnable p true =
      (s.wr (F.PLL_CTL_EN p) 1).acquire p ((s.wr (F.PLL_CTL_EN p) 1).rd (F.PLL_FCW_FCW p)) none true 0 := by
  have hstate : (s.wr (F.PLL_CTL_EN p) 1).pllState p = 0 :=
    (s.pllState_wr p _ _ _ _ _ (by omega)).trans hoff
  simp [State.pllEnable, Nat.not_lt.mpr h4, hstate, hdom]

/-! ### The sources of an acquisition (R288, R289) -/

/-- What is least in a list is one of its elements. -/
theorem leastBy_mem (m : Nat → Nat) (l : List Nat) (k : Nat) (h : leastBy m l = some k) : k ∈ l := by
  induction l generalizing k with
  | nil => simp [leastBy] at h
  | cons a l ih =>
    unfold leastBy at h
    split at h
    · simp_all
    next j hj =>
      split at h
      · simp_all
      · obtain rfl := Option.some.inj h
        exact List.mem_cons_of_mem _ (ih j hj)

theorem leastBy_congr (m m' : Nat → Nat) (l : List Nat) (h : ∀ k ∈ l, m k = m' k) : leastBy m l = leastBy m' l := by
  induction l with
  | nil => rfl
  | cons a l ih =>
    obtain ⟨ha, hl⟩ := List.forall_mem_cons.mp h
    unfold leastBy
    rw [ih hl]
    split
    · rfl
    next j hj => rw [ha, hl j (leastBy_mem _ _ _ hj)]

/-- Two states in which an entry of every index below `n` passes the same test and measures the same. -/
theorem leastBy_filter_congr (m m' : Nat → Nat) (t t' : Nat → Bool) (n : Nat) (ht : ∀ k < n, t k = t' k)
    (hm : ∀ k < n, m k = m' k) :
    leastBy m ((List.range n).filter t) = leastBy m' ((List.range n).filter t') := by
  rw [List.filter_congr (fun k hk => ht k (List.mem_range.mp hk))]
  exact leastBy_congr _ _ _ (fun k hk => hm k (List.mem_range.mp (List.mem_filter.mp hk).1))

theorem State.bandFor_lt (s : State) (p fcw k : Nat) (h : s.bandFor p fcw = some k) : k < 64 :=
  List.mem_range.mp (List.mem_filter.mp (leastBy_mem _ _ _ h)).1

theorem State.bandServes_lt (s : State) (p fcw k : Nat) (h : s.bandServes p fcw = some k) : k < 64 := by
  simp only [State.bandServes] at h
  split at h
  · obtain rfl := Option.some.inj h
    cases hband : s.bandFor p fcw with
    | none => decide
    | some j => exact s.bandFor_lt p fcw j hband
  · exact s.bandFor_lt p fcw k h

theorem State.hopFor_lt (s : State) (p fcw k : Nat) (h : s.hopFor p fcw = some k) : k < 16 :=
  List.mem_range.mp (List.mem_filter.mp (leastBy_mem _ _ _ h)).1

/-- The band table of PLL `p` reads the same in both states. -/
def State.SameBands (s t : State) (p : Nat) : Prop :=
  t.clk.coreSet = s.clk.coreSet ∧ ∀ k < 64, t.rd (F.PLL_BAND_A_FMIN p k) = s.rd (F.PLL_BAND_A_FMIN p k) ∧
    t.rd (F.PLL_BAND_A_FMAX p k) = s.rd (F.PLL_BAND_A_FMAX p k) ∧ t.rd (F.PLL_BAND_B_VALID p k) = s.rd (F.PLL_BAND_B_VALID p k)

theorem State.bandRd_congr {s t : State} {f : Fld} (hcore : t.clk.coreSet = s.clk.coreSet) (h : t.rd f = s.rd f) :
    t.bandRd f = s.bandRd f := by
  have hfuse : t.fuseBand f = s.fuseBand f := by rw [State.fuseBand, State.fuseBand, hcore]
  simp only [State.bandRd, hfuse, h]

/-- The band that serves goes by the table alone. -/
theorem State.bandServes_congr {s t : State} {p : Nat} (fcw : Nat) (h : s.SameBands t p) :
    t.bandServes p fcw = s.bandServes p fcw := by
  obtain ⟨hcore, hentries⟩ := h
  have hentry (k : Nat) (hk : k < 64) : t.bandRd (F.PLL_BAND_A_FMIN p k) = s.bandRd (F.PLL_BAND_A_FMIN p k) ∧
      t.bandRd (F.PLL_BAND_A_FMAX p k) = s.bandRd (F.PLL_BAND_A_FMAX p k) ∧ t.bandHas p k fcw = s.bandHas p k fcw := by
    obtain ⟨hmin, hmax, hvalid⟩ := hentries k hk
    have hmin := State.bandRd_congr hcore hmin
    have hmax := State.bandRd_congr hcore hmax
    have hlow : t.bandLow p k = s.bandLow p k := by rw [State.bandLow, State.bandLow, hmin]
    have hhigh : t.bandHigh p k = s.bandHigh p k := by rw [State.bandHigh, State.bandHigh, hmax]
    exact ⟨hmin, hmax, by rw [State.bandHas, State.bandHas, State.bandRd_congr hcore hvalid, hlow, hhigh]⟩
  have hfor : t.bandFor p fcw = s.bandFor p fcw :=
    leastBy_filter_congr _ _ _ _ 64 (fun k hk => (hentry k hk).2.2)
      (fun k hk => by simp only [(hentry k hk).1, (hentry k hk).2.1])
  simp only [State.bandServes, hfor, hcore]

/-- The hop memory of PLL `p` serves both states alike. -/
theorem State.hopFor_congr {s t : State} {p : Nat} (fcw : Nat)
    (h : ∀ k < 16, t.rd (F.PLL_HOP_A_FCW p k) = s.rd (F.PLL_HOP_A_FCW p k) ∧
      t.rd (F.PLL_HOP_B_VALID p k) = s.rd (F.PLL_HOP_B_VALID p k)) : t.hopFor p fcw = s.hopFor p fcw :=
  leastBy_filter_congr _ _ _ _ 16 (fun k hk => by simp only [State.on, h k hk]) (fun k hk => by simp only [h k hk])

/-- A committed table waits for the next acquisition only while a commit is pending. -/
theorem State.useTable_idle (s : State) (p : Nat) (h : s.bezel.pending = []) : s.useTable p = s := by
  simp [State.useTable, h]

/-- An acquisition begins: SEARCH shows, it counts, and the target is the FCW in use (R288). -/
def State.acquiring (s : State) (p fcw : Nat) (hold : Bool) (tag : Nat) : State :=
  let s := ((s.setPll p 1 0x4011).inc (F.PLL_COUNT_ACQS p)).useTable p
  let s := if p < 4 then s else s.wr (F.PLL_RAMP_FCW_FCW_NOW p) fcw
  (s.modPll p (fun x => { x with
    startAt := s.now, searched := false, searching := false, held := hold || x.held, tag := tag })).syncOuts

theorem State.sameBands_acquiring (s : State) (p fcw : Nat) (hold : Bool) (tag : Nat) (hp : p < 12)
    (hpend : s.bezel.pending = []) : s.SameBands (s.acquiring p fcw hold tag) p := by
  have hbegun : ((s.setPll p 1 0x4011).inc (F.PLL_COUNT_ACQS p)).besidePlls = s.besidePlls := by simp
  have htable := State.useTable_idle _ p ((congrArg Bezel.pending (State.bezel_of_besidePlls hbegun)).trans hpend)
  unfold State.acquiring
  rw [htable]
  constructor
  · refine State.coreSet_of_besidePlls ?_
    simp only
    split <;> simp
  · intro k hk
    simp only
    split <;>
    · simp (disch := omega) only [F.PLL_BAND_A_FMIN, F.PLL_BAND_A_FMAX, F.PLL_BAND_B_VALID, F.PLL_COUNT_ACQS,
        F.PLL_RAMP_FCW_FCW_NOW, State.rd_syncOuts, State.rd_modPll, State.rd_wr_apart, State.rd_inc_apart, State.rd_setPll,
        and_self]

/-- A band that serves is loaded, and the loop closes. -/
theorem State.acquire_band (s : State) (p fcw k : Nat) (hold : Bool) (tag : Nat) (hp : p < 12)
    (hpend : s.bezel.pending = []) (hband : s.bandServes p fcw = some k) :
    s.acquire p fcw none hold tag = ((s.acquiring p fcw hold tag).loadBand p k).closeLoop p := by
  have hserves := (State.bandServes_congr fcw (s.sameBands_acquiring p fcw hold tag hp hpend)).trans hband
  unfold State.acquire
  extract_lets u v w
  have hw : w = s.acquiring p fcw hold tag := rfl
  clear_value w
  subst hw
  simp only [hserves]

/-- An entry of the band table loaded is named by SRC and BAND. -/
theorem State.rd_loadBand (s : State) (p k : Nat) (hk : k < 64) :
    (s.loadBand p k).rd (F.PLL_STAT_SRC p) = 0 ∧ (s.loadBand p k).rd (F.PLL_STAT_BAND p) = k := by
  simp only [State.loadBand, State.rd_modPll]
  constructor
  · rw [State.rd_wr_ne _ _ _ _ (by simp only [Fld.key, F.PLL_STAT_BAND, F.PLL_STAT_SRC]; omega)]
    exact State.rd_wr_zero _ _ (by simp [F.PLL_STAT_SRC])
  · rw [State.rd_wr_same _ _ _ (by simp [F.PLL_STAT_BAND])]
    exact Nat.mod_eq_of_lt hk

theorem State.acquire_band_spec (s : State) (p fcw k : Nat) (hold : Bool) (tag : Nat) (hp : p < 12)
    (hpend : s.bezel.pending = []) (hband : s.bandServes p fcw = some k) :
    (s.acquire p fcw none hold tag).pllState p = 2 ∧ (s.acquire p fcw none hold tag).rd (F.PLL_STAT_SRC p) = 0 ∧
      (s.acquire p fcw none hold tag).rd (F.PLL_STAT_BAND p) = k := by
  obtain ⟨hsrc, hname⟩ := (s.acquiring p fcw hold tag).rd_loadBand p k (s.bandServes_lt p fcw k hband)
  rw [s.acquire_band p fcw k hold tag hp hpend hband]
  refine ⟨State.pllState_closeLoop _ _ hp, Eq.trans ?_ hsrc, Eq.trans ?_ hname⟩ <;>
  exact State.rd_closeLoop _ _ _ _ _ _ (by decide) (by omega) (by omega) (by omega) (by omega)

/-! ### Search and lock (R285, R288) -/

theorem State.searchDone_spec (s : State) (p cap : Nat) (hp : p < 12) (hsearch : (s.pll p).searching = true)
    (hdue : (s.pll p).pullAt + 36000 ≤ s.now) :
    (s.searchDone p cap).pllState p = 2 ∧ (s.searchDone p cap).rd (F.PLL_STAT_CAP p) = cap % 256 ∧
      (s.searchDone p cap).host = s.host := by
  have hends : s.searchDone p cap = (s.wr (F.PLL_STAT_CAP p) cap).closeLoop p := if_pos (by simp [hsearch, hdue])
  rw [hends]
  refine ⟨State.pllState_closeLoop _ _ hp, ?_, State.host_of_besidePlls (by simp)⟩
  refine (State.rd_closeLoop _ _ _ _ _ _ (by decide) (by omega) (by omega) (by omega) (by omega)).trans ?_
  exact State.rd_wr_same s (F.PLL_STAT_CAP p) cap (by simp [F.PLL_STAT_CAP])

theorem State.coarseLock_within (s : State) (p : Nat) (err : Int) (hpull : s.pllState p = 2)
    (herr : err.natAbs ≤ s.rd (F.PLL_LOCKCFG_CWIN p)) :
    s.coarseLock p err = ((s.noteErr p err).modPll p (fun x => { x with held := false })).pllShown p 3 :=
  (if_pos (by simp [hpull, herr])).trans (State.setPll_kept _ _ _ _ (Or.inr (Or.inl rfl)))

/-- COARSE is no loss: the pages stay as they are. -/
theorem State.coarseLock_spec (s : State) (p : Nat) (err : Int) (hp : p < 12) (hpull : s.pllState p = 2)
    (herr : err.natAbs ≤ s.rd (F.PLL_LOCKCFG_CWIN p)) :
    (s.coarseLock p err).pllState p = 3 ∧
      (s.coarseLock p err).rd (F.PLL_COUNT_LOSSES p) = s.rd (F.PLL_COUNT_LOSSES p) ∧
      (s.coarseLock p err).host = s.host ∧ (s.coarseLock p err).alm = s.alm := by
  rw [s.coarseLock_within p err hpull herr]
  refine ⟨State.pllState_pllShown _ _ _ hp (by decide), ?_, State.host_of_besidePlls (by simp), by simp⟩
  refine (State.rd_pllShown_apart _ _ _ _ _ _ _ (by decide) (by omega) (by omega)).trans ?_
  exact (State.rd_modPll _ _ _ _).trans (s.rd_noteErr p err _ _ _ _ (by decide) (by omega))

/-! ### FINE (R290, R300) -/

/-- FINE with no hop that waits for it: the registers of the PLLs go by its state and the hop memory. -/
theorem State.rd_fineLock (s : State) (p : Nat) (err : Int) (mean o lo w r : Nat) (hcoarse : s.pllState p = 3)
    (herr : err.natAbs ≤ s.rd (F.PLL_LOCKCFG_LOCK_WIN p)) (hhops : (s.pll p).hops = []) (hlo : lo < 32)
    (hpll : 0x30000 ≤ o ∧ o < 0x33000) : (s.fineLock p err mean).rd ⟨o, lo, w, r⟩ =
      (((s.noteErr p err).setPll p 4 0x4011).storeHop p mean).rd ⟨o, lo, w, r⟩ := by
  have hlocks : (s.pllState p = 3 && decide (err.natAbs ≤ s.rd (F.PLL_LOCKCFG_LOCK_WIN p))) = true := by
    simp [hcoarse, herr]
  have hseed : F.GLB_STATE_ETIME_RESEEDED.key ≠ (⟨o, lo, w, r⟩ : Fld).key := by
    simp only [Fld.key, F.GLB_STATE_ETIME_RESEEDED]; omega
  have hsys (u : State) : (if p = 0 then u.sysStart else u).rd ⟨o, lo, w, r⟩ = u.rd ⟨o, lo, w, r⟩ := by
    split
    · exact u.rd_sysStart _ hseed
    · rfl
  have hscan (u : State) : (if 4 ≤ p && p < 8 && (u.legSt (p - 4)).rescan then
      (u.modLeg (p - 4) (fun l => { l with rescan := false })).scanEn (p - 4) true else u).rd ⟨o, lo, w, r⟩ =
        u.rd ⟨o, lo, w, r⟩ := by
    split
    · exact (State.rd_scanEn_clock _ _ _ _ _ _ hlo (by omega)).trans (State.rd_congr _ _ _ rfl)
    · rfl
  simp only [State.fineLock, hlocks, if_true, hhops, List.foldl_nil]
  rw [hscan, State.rd_modPll, State.rd_post_clock _ _ _ _ _ _ _ _ _ _ _ hlo (by omega), hsys]

/-- The entry of the hop memory that a target takes anew (R290). -/
theorem State.hopSlot_served (s : State) (p fcw k : Nat) (h : s.hopFor p fcw = some k) : s.hopSlot p fcw = k := by
  simp [State.hopSlot, h]

theorem State.storeHop_spec (s : State) (p mean k : Nat) (hhop : s.hopFor p (s.fcwUse p) = some k) :
    (s.storeHop p mean).pllState p = s.pllState p ∧ (s.storeHop p mean).rd (F.PLL_HOP_A_FCW p k) = s.fcwUse p ∧
      (s.storeHop p mean).rd (F.PLL_HOP_B_VALID p k) = 1 ∧
      (s.storeHop p mean).rd (F.PLL_HOP_B_FINE p k) = mean % 65536 := by
  have hk := s.hopFor_lt p _ k hhop
  have hfcw : s.fcwUse p < 2 ^ 32 := by
    unfold State.fcwUse
    split <;> exact s.rd_lt _
  simp only [State.storeHop, s.hopSlot_served p _ k hhop, State.hopUsed, State.rd_modPll, State.pllState]
  refine ⟨?_, ?_, ?_, ?_⟩
  · simp (disch := omega) only [F.PLL_STAT_STATE, F.PLL_HOP_A_FCW, F.PLL_HOP_B_VALID, F.PLL_HOP_B_CAP, F.PLL_HOP_B_FINE,
      F.PLL_STAT_HOPENT, State.rd_wr_apart]
  · refine Eq.trans ?_ ((State.rd_wr_same s (F.PLL_HOP_A_FCW p k) _ (by simp [F.PLL_HOP_A_FCW])).trans
      (Nat.mod_eq_of_lt hfcw))
    simp (disch := omega) only [F.PLL_HOP_A_FCW, F.PLL_HOP_B_VALID, F.PLL_HOP_B_CAP, F.PLL_HOP_B_FINE,
      F.PLL_STAT_HOPENT, State.rd_wr_apart]
  · refine Eq.trans ?_ (State.rd_wr_same (s.wr (F.PLL_HOP_A_FCW p k) (s.fcwUse p)) (F.PLL_HOP_B_VALID p k) 1
      (by simp [F.PLL_HOP_B_VALID]))
    simp (disch := omega) only [F.PLL_HOP_B_VALID, F.PLL_HOP_B_CAP, F.PLL_HOP_B_FINE, F.PLL_STAT_HOPENT,
      State.rd_wr_apart]
  · rw [State.rd_wr_ne _ _ _ _ (by simp only [Fld.key, F.PLL_STAT_HOPENT, F.PLL_HOP_B_FINE]; omega)]
    exact State.rd_wr_same _ (F.PLL_HOP_B_FINE p k) mean (by simp [F.PLL_HOP_B_FINE])

/-- On the way to FINE the hop memory and the FCW in use stay. -/
theorem State.hopFor_toFine (s : State) (p : Nat) (err : Int) (hp : p < 12) :
    ((s.noteErr p err).setPll p 4 0x4011).fcwUse p = s.fcwUse p ∧
      ((s.noteErr p err).setPll p 4 0x4011).hopFor p (s.fcwUse p) = s.hopFor p (s.fcwUse p) := by
  constructor
  · simp (disch := omega) only [State.fcwUse, F.PLL_FCW_FCW, F.PLL_RAMP_FCW_FCW_NOW, State.rd_setPll, State.rd_noteErr]
  · refine State.hopFor_congr _ (fun k hk => ?_)
    simp (disch := omega) only [F.PLL_HOP_A_FCW, F.PLL_HOP_B_VALID, State.rd_setPll, State.rd_noteErr, and_self]

theorem State.fineLock_spec (s : State) (p : Nat) (err : Int) (mean k : Nat) (hp : p < 12) (hcoarse : s.pllState p = 3)
    (herr : err.natAbs ≤ s.rd (F.PLL_LOCKCFG_LOCK_WIN p)) (hhops : (s.pll p).hops = [])
    (hhop : s.hopFor p (s.fcwUse p) = some k) :
    (s.fineLock p err mean).pllState p = 4 ∧ (s.fineLock p err mean).rd (F.PLL_HOP_A_FCW p k) = s.fcwUse p ∧
      (s.fineLock p err mean).rd (F.PLL_HOP_B_VALID p k) = 1 ∧
      (s.fineLock p err mean).rd (F.PLL_HOP_B_FINE p k) = mean % 65536 := by
  have hk := s.hopFor_lt p _ k hhop
  obtain ⟨hfcw, hmemory⟩ := s.hopFor_toFine p err hp
  obtain ⟨hstate, ha, hvalid, hfine⟩ := ((s.noteErr p err).setPll p 4 0x4011).storeHop_spec p mean k
    ((congrArg _ hfcw).trans (hmemory.trans hhop))
  have hrd (o lo w r : Nat) := s.rd_fineLock p err mean o lo w r hcoarse herr hhops
  refine ⟨?_, ?_, ?_, ?_⟩
  · exact (hrd _ _ _ _ (by decide) (by omega)).trans (hstate.trans (State.pllState_setPll _ _ _ _ hp (by decide)))
  · exact (hrd _ _ _ _ (by decide) (by omega)).trans (ha.trans hfcw)
  · exact (hrd _ _ _ _ (by decide) (by omega)).trans hvalid
  · exact (hrd _ _ _ _ (by decide) (by omega)).trans hfine

/-! ### Lock lost (R285–R287, R299) -/

theorem State.fineLost_beyond (s : State) (p : Nat) (err : Int) (hfine : s.pllState p = 4)
    (herr : s.rd (F.PLL_LOCKCFG_LOCK_WIN p) < err.natAbs) :
    s.fineLost p err = ((s.noteErr p err).setPll p 3 0x4011).post 1 0x4010 7 p [(0, 2, uBits 16 err)] :=
  if_pos (by simp [hfine, herr])

/-- R287: a pin LOCKA by its PLL's state and last error. -/
theorem State.lockPins_lockA (s : State) (p : Fin 4) (b : Bool) : s.lockPins.clk.lockA.getD p b =
    (s.pllState p != 0 && decide ((s.rdS (F.PLL_PHERR_ERR p)).natAbs ≤ s.rd (F.PLL_LOCKCFG_LOCK_WIN p))) := by
  simp [State.lockPins]

/-- Below HARD an event leaves the clocks alone, in any mode. -/
theorem State.post_clk (s : State) (sev code block inst : Nat) (d : List (Nat × Nat × Nat)) (tag : Nat) (hs : sev ≠ 3) :
    (s.post sev code block inst d tag).clk = s.clk := by
  simp only [State.post, State.postBy, hs, if_false]
  exact State.postRaw_keeps State.clk (fun _ _ _ => rfl) (fun _ _ => rfl) (fun _ _ => rfl) _ _ _ _ _ _ _ _

/-- R287: beyond LOCK_WIN the pin of a core PLL goes low. -/
theorem State.fineLost_lockA (s : State) (p : Nat) (err : Int) (h4 : p < 4) (hfine : s.pllState p = 4)
    (herr : s.rd (F.PLL_LOCKCFG_LOCK_WIN p) < err.natAbs) (hsmall : err.natAbs < 32768) :
    (s.fineLost p err).clk.lockA.getD p true = false := by
  have hwin : (((s.noteErr p err).wr (F.PLL_STAT_STATE p) 3).syncOuts).rd (F.PLL_LOCKCFG_LOCK_WIN p) =
      s.rd (F.PLL_LOCKCFG_LOCK_WIN p) := by
    simp (disch := omega) only [F.PLL_LOCKCFG_LOCK_WIN, F.PLL_STAT_STATE, State.rd_syncOuts, State.rd_wr_apart,
      State.rd_noteErr]
  have hnoted : (((s.noteErr p err).wr (F.PLL_STAT_STATE p) 3).syncOuts).rdS (F.PLL_PHERR_ERR p) = err := by
    have hkeep : (((s.noteErr p err).wr (F.PLL_STAT_STATE p) 3).syncOuts).rd (F.PLL_PHERR_ERR p) =
        (s.wrS (F.PLL_PHERR_ERR p) err).rd (F.PLL_PHERR_ERR p) := by
      simp (disch := omega) only [State.noteErr, F.PLL_PHERR_ERR, F.PLL_PHERR_PEAK, F.PLL_STAT_STATE, State.rd_syncOuts,
        State.rd_lockPins, State.rd_wr_apart]
    rw [State.rdS, hkeep]
    exact State.rdS_wrS_same s (F.PLL_PHERR_ERR p) err (by simp [F.PLL_PHERR_ERR]) (by simp [F.PLL_PHERR_ERR])
      (by simp only [F.PLL_PHERR_ERR]; omega) (by simp only [F.PLL_PHERR_ERR]; omega)
  rw [s.fineLost_beyond p err hfine herr, State.post_clk _ _ _ _ _ _ _ (by decide),
    State.setPll_kept _ _ _ _ (Or.inr (Or.inl rfl)), State.pllShown_lockA]
  refine (State.lockPins_lockA _ ⟨p, h4⟩ true).trans ?_
  simp only [hwin, hnoted, decide_eq_false (Nat.not_le.mpr herr), Bool.and_false]

/-- R299: the event of a loss of lock, by the PLL's kind, leaves the registers of the clocks alone. -/
theorem State.rd_postLockLost (s : State) (p next slot o lo w r : Nat) (hlo : lo < 32) (h : 0x30000 ≤ o ∧ o < 0x34000) :
    (s.postLockLost p next slot).rd ⟨o, lo, w, r⟩ = s.rd ⟨o, lo, w, r⟩ :=
  State.rd_post_clock _ _ _ _ _ _ _ _ _ _ _ hlo h

/-- The loss of a core PLL's lock is HARD. -/
theorem State.rd_postLockLost_stop (s : State) (p next slot : Nat) (h : p < 4) :
    (s.postLockLost p next slot).rd F.FAULT_STAT_FRAME_STOP ≠ 0 := by
  rw [State.postLockLost, if_pos h]
  exact State.rd_post_hard_stop _ _ _ _ _ _

theorem State.lockLost_beyond (s : State) (p : Nat) (err : Int) (hcoarse : s.coarse p = true)
    (herr : s.rd (F.PLL_LOCKCFG_CWIN p) < err.natAbs) : s.lockLost p err =
      (((s.noteErr p err).postLockLost p 2 (s.pllSlot p)).modPll p (fun x => { x with pullAt := s.now })).setPll p 2
        0x4011 := by
  simp only [State.lockLost, hcoarse, herr, decide_true, Bool.and_self, if_true]

theorem State.lockLost_spec (s : State) (p : Nat) (err : Int) (hp : p < 12) (hcoarse : s.coarse p = true)
    (herr : s.rd (F.PLL_LOCKCFG_CWIN p) < err.natAbs) :
    (s.lockLost p err).pllState p = 2 ∧
      (s.lockLost p err).rd (F.PLL_COUNT_LOSSES p) =
        satAdd (F.PLL_COUNT_LOSSES p).w (s.rd (F.PLL_COUNT_LOSSES p)) 1 ∧
      (p < 4 → (s.lockLost p err).rd F.FAULT_STAT_FRAME_STOP ≠ 0) := by
  have hposted (o lo w r : Nat) (hlo : lo < 32) (h : 0x30000 ≤ o ∧ o < 0x33000) (hne : o ≠ 0x30010 + p * 0x400) :
      ((s.noteErr p err).postLockLost p 2 (s.pllSlot p)).rd ⟨o, lo, w, r⟩ = s.rd ⟨o, lo, w, r⟩ :=
    (State.rd_postLockLost _ _ _ _ _ _ _ _ hlo (by omega)).trans (s.rd_noteErr p err _ _ _ _ hlo hne)
  have hstill : ((s.noteErr p err).postLockLost p 2 (s.pllSlot p)).coarse p = true := by
    simp only [State.coarse, State.pllState] at hcoarse ⊢
    rwa [F.PLL_STAT_STATE, hposted _ _ _ _ (by decide) (by omega) (by omega)]
  rw [s.lockLost_beyond p err hcoarse herr]
  refine ⟨State.pllState_setPll _ _ _ _ hp (by decide), ?_, fun h4 => ?_⟩
  · rw [State.losses_setPll_lost _ _ _ _ hp ((State.coarse_modPll _ _ _ _).trans hstill) (by decide) (by decide), State.rd_modPll]
    exact congrArg (satAdd _ · 1) (hposted _ _ _ _ (by decide) (by omega) (by omega))
  · rw [F.FAULT_STAT_FRAME_STOP, State.rd_setPll _ _ _ _ _ _ _ _ (by decide) (by decide) (by decide) (by omega) (by omega),
      State.rd_modPll]
    exact State.rd_postLockLost_stop _ _ _ _ h4

theorem State.codeLimit_coarse (s : State) (p : Nat) (h : s.coarse p = true) :
    s.codeLimit p = (s.postLockLost p 1 (s.pllSlot p)).acquire p ((s.postLockLost p 1 (s.pllSlot p)).fcwUse p) none false 0 := by
  simp [State.codeLimit, h]

theorem State.codeLimit_pull (s : State) (p : Nat) (hcoarse : s.coarse p = false) (hpull : s.pllState p = 2) :
    s.codeLimit p = s.acquire p (s.fcwUse p) none false 0 := by
  simp [State.codeLimit, hcoarse, hpull]

/-- An acquisition that fails turns the PLL OFF (R285, R310). -/
theorem State.pllState_acqFail (s : State) (p why : Nat) (hp : p < 12) : (s.acqFail p why).pllState p = 0 :=
  (State.rd_post_clock _ _ _ _ _ _ _ _ _ _ _ (by decide) (by omega)).trans (State.pllState_setPll _ _ _ _ hp (by decide))

theorem State.pullTimeout_search (s : State) (p : Nat) (hpull : s.pllState p = 2) (hdue : (s.pll p).pullAt + 1000000 ≤ s.now)
    (hnot : (s.pll p).searched = false) (hen : s.on (F.PLL_CTL_SEARCH_EN p) = true) :
    s.pullTimeout p = s.startSearch p := by
  simp [State.pullTimeout, hpull, hdue, hnot, hen]

theorem State.pullTimeout_fail (s : State) (p : Nat) (hpull : s.pllState p = 2) (hdue : (s.pll p).pullAt + 1000000 ≤ s.now)
    (hsearched : (s.pll p).searched = true) : s.pullTimeout p = s.acqFail p 1 := by
  simp [State.pullTimeout, hpull, hdue, hsearched]

/-! ### The reference (R285, R299) -/

/-- Steps that each change what is at their own index alone, one for each index of a list. -/
theorem foldl_each {β : Type} (g : State → Nat → State) (π : Nat → State → β) (φ : β → β) (n : Nat)
    (hsame : ∀ s p, p < n → π p (g s p) = φ (π p s)) (hne : ∀ s p q, q < n → q ≠ p → π q (g s p) = π q s) (l : List Nat)
    (hl : l.Nodup) (s : State) (q : Nat) (hq : q < n) : π q (l.foldl g s) = if q ∈ l then φ (π q s) else π q s := by
  induction l generalizing s with
  | nil => rfl
  | cons p l ih =>
    obtain ⟨hp, hl⟩ := List.nodup_cons.mp hl
    rw [List.foldl_cons, ih hl]
    by_cases hqp : q = p
    · subst hqp
      rw [if_neg hp, if_pos List.mem_cons_self, hsame s q hq]
    · simp only [hne s p q hq hqp, List.mem_cons, hqp, false_or]

theorem State.pllState_foldl_range (g : State → Nat → State) (φ : Nat → Nat)
    (hsame : ∀ s p, p < 12 → (g s p).pllState p = φ (s.pllState p))
    (hne : ∀ s p q, q < 12 → q ≠ p → (g s p).pllState q = s.pllState q) (s : State) (q : Fin 12) :
    ((List.range 12).foldl g s).pllState q = φ (s.pllState q) :=
  (foldl_each g (fun p s => s.pllState p) φ 12 hsame hne _ List.nodup_range s q q.isLt).trans
    (if_pos (List.mem_range.mpr q.isLt))

/-- R285: a PLL that is in PULL, COARSE or FINE goes to HOLDOVER. -/
def State.heldOver (means : List Nat) (s : State) (p : Nat) : State :=
  if s.coarse p || s.pllState p = 2 then
    (s.modPll p (fun x => { x with fine := means.getD p 0 })).setPll p 5 0x4040
  else s

/-- R285: a PLL that is in HOLDOVER closes its loop. -/
def State.resumed (s : State) (p : Nat) : State := if s.pllState p = 5 then s.closeLoop p else s

theorem State.pllState_heldOver (means : List Nat) (s : State) (p : Nat) (hp : p < 12) :
    (State.heldOver means s p).pllState p =
      if s.pllState p = 2 ∨ s.pllState p = 3 ∨ s.pllState p = 4 then 5 else s.pllState p := by
  have hlocked : (s.coarse p || s.pllState p = 2) = true ↔ s.pllState p = 2 ∨ s.pllState p = 3 ∨ s.pllState p = 4 := by
    simp only [State.coarse, Bool.or_eq_true, beq_iff_eq, decide_eq_true_eq]; omega
  simp only [State.heldOver, hlocked]
  split
  · exact State.pllState_setPll _ _ _ _ hp (by decide)
  · rfl

theorem State.pllState_heldOver_ne (means : List Nat) (s : State) (p q : Nat) (hq : q < 12) (h : q ≠ p) :
    (State.heldOver means s p).pllState q = s.pllState q := by
  unfold State.heldOver
  split
  · exact (State.pllState_setPll_ne _ _ _ _ _ hq h).trans (State.rd_modPll _ _ _ _)
  · rfl

theorem State.pllState_resumed (s : State) (p : Nat) (hp : p < 12) :
    (s.resumed p).pllState p = if s.pllState p = 5 then 2 else s.pllState p := by
  unfold State.resumed
  split
  · exact s.pllState_closeLoop p hp
  · rfl

theorem State.pllState_resumed_ne (s : State) (p q : Nat) (hq : q < 12) (h : q ≠ p) :
    (s.resumed p).pllState q = s.pllState q := by
  unfold State.resumed
  split
  · exact s.pllState_closeLoop_ne p q hq h
  · rfl

@[simp] theorem State.besidePlls_heldOver (means : List Nat) (s : State) (p : Nat) :
    (State.heldOver means s p).besidePlls = s.besidePlls := by
  unfold State.heldOver
  split <;> simp

/-- HOLDOVER of every PLL writes none of the fields below the clocks', and of theirs no REF_OK. -/
theorem State.rd_heldOver (means : List Nat) (s : State) (p o lo w r : Nat) (hlo : lo < 32)
    (h : o < 0x30000 ∨ 0x33000 ≤ o ∧ o < 0x200000 ∧ lo ≠ 0) (hp : p < 12) :
    (State.heldOver means s p).rd ⟨o, lo, w, r⟩ = s.rd ⟨o, lo, w, r⟩ := by
  unfold State.heldOver
  split
  · rw [State.rd_setPll _ _ _ _ _ _ _ _ hlo (by omega) (by omega) (by omega) (by omega), State.rd_modPll]
  · rfl

theorem State.rd_resumed (s : State) (p o lo w r : Nat) (hlo : lo < 32)
    (h : o < 0x30000 ∨ 0x33000 ≤ o ∧ o < 0x200000 ∧ lo ≠ 0) (hp : p < 12) :
    (s.resumed p).rd ⟨o, lo, w, r⟩ = s.rd ⟨o, lo, w, r⟩ := by
  unfold State.resumed
  split
  · exact State.rd_closeLoop _ _ _ _ _ _ hlo (by omega) (by omega) (by omega) (by omega)
  · rfl

/-- The reference is lost, before any PLL goes by it: the HARD event, and the time. -/
def State.refGone (s : State) : State :=
  let u := (s.wr F.CLK_REF_REF_OK 0).post 3 0x4040 7 0 [(0, 1, s.rd F.CLK_REF_SRC)]
  { u with clk := { u.clk with refLostAt := u.now } }

theorem State.refLost_ok (s : State) (means : List Nat) (h : s.on F.CLK_REF_REF_OK = true) :
    s.refLost means = (List.range 12).foldl (State.heldOver means) s.refGone := by
  simp only [State.refLost, h, Bool.not_true, Bool.false_eq_true, if_false]
  rfl

theorem State.rd_refGone (s : State) (f : Fld) :
    s.refGone.rd f = ((s.wr F.CLK_REF_REF_OK 0).post 3 0x4040 7 0 [(0, 1, s.rd F.CLK_REF_SRC)]).rd f :=
  State.rd_congr _ _ _ rfl

theorem State.rd_refGone_clock (s : State) (o lo w r : Nat) (hlo : lo < 32) (h : 0x30000 ≤ o ∧ o < 0x34000) :
    s.refGone.rd ⟨o, lo, w, r⟩ = (s.wr F.CLK_REF_REF_OK 0).rd ⟨o, lo, w, r⟩ := by
  rw [s.rd_refGone, State.rd_post_clock _ _ _ _ _ _ _ _ _ _ _ hlo h]

theorem State.refGone_refLostAt (s : State) : s.refGone.clk.refLostAt = s.now :=
  congrArg Time.now (State.post_time (s.wr F.CLK_REF_REF_OK 0) 3 0x4040 7 0 [(0, 1, s.rd F.CLK_REF_SRC)] 0)

/-- A step that leaves a field alone for each PLL leaves it alone for all. -/
theorem State.rd_foldl_range (g : State → Nat → State) (f : Fld) (h : ∀ s p, p < 12 → (g s p).rd f = s.rd f) (s : State) :
    ((List.range 12).foldl g s).rd f = s.rd f :=
  List.foldlRecOn (motive := fun t : State => t.rd f = s.rd f) _ _ rfl
    (fun t ih p hp => (h t p (List.mem_range.mp hp)).trans ih)

theorem State.refLost_spec (s : State) (means : List Nat) (h : s.on F.CLK_REF_REF_OK = true) :
    (s.refLost means).rd F.CLK_REF_REF_OK = 0 ∧ (s.refLost means).rd F.FAULT_STAT_FRAME_STOP ≠ 0 ∧
      (s.refLost means).clk.refLostAt = s.now ∧ ∀ p : Fin 12, (s.refLost means).pllState p =
        if s.pllState p = 2 ∨ s.pllState p = 3 ∨ s.pllState p = 4 then 5 else s.pllState p := by
  rw [s.refLost_ok means h]
  refine ⟨?_, ?_, ?_, fun p => ?_⟩
  · rw [State.rd_foldl_range _ F.CLK_REF_REF_OK (fun u p hp =>
      u.rd_heldOver means p 0x33800 1 1 0 (by decide) (by decide) hp)]
    exact (s.rd_refGone_clock _ _ _ _ (by decide) (by decide)).trans (s.rd_wr_zero F.CLK_REF_REF_OK (by decide))
  · rw [State.rd_foldl_range _ F.FAULT_STAT_FRAME_STOP (fun u p hp =>
      u.rd_heldOver means p 0x4000 0 1 0 (by decide) (by decide) hp), s.rd_refGone]
    exact State.rd_post_hard_stop _ _ _ _ _ _
  · refine (State.refLostAt_of_besidePlls ?_).trans s.refGone_refLostAt
    exact foldl_keeps State.besidePlls _ (State.besidePlls_heldOver means) _ _
  · have hp := p.isLt
    have hgone : s.refGone.pllState p = s.pllState p :=
      (s.rd_refGone_clock _ _ _ _ (by decide) (by omega)).trans (s.pllState_wr p _ _ _ _ _ (by omega))
    rw [State.pllState_foldl_range _ (fun x => if x = 2 ∨ x = 3 ∨ x = 4 then 5 else x) (State.pllState_heldOver means)
      (State.pllState_heldOver_ne means), hgone]

/-- The reference is back, before any PLL goes by it. -/
def State.refBack (s : State) : State :=
  (s.wr F.CLK_REF_REF_OK 1).post 0 0x4041 7 0 [(0, 4, min 4294967295 ((s.now - s.clk.refLostAt) / 1000))]

theorem State.refRestored_due (s : State) (hlost : s.on F.CLK_REF_REF_OK = false) (hdue : s.clk.refLostAt + 10000 ≤ s.now) :
    s.refRestored = (List.range 12).foldl State.resumed s.refBack := by
  simp only [State.refRestored, hlost, Nat.not_lt.mpr hdue, decide_false, Bool.or_self, Bool.false_eq_true, if_false]
  rfl

theorem State.refRestored_spec (s : State) (hlost : s.on F.CLK_REF_REF_OK = false)
    (hdue : s.clk.refLostAt + 10000 ≤ s.now) :
    s.refRestored.rd F.CLK_REF_REF_OK = 1 ∧
      ∀ p : Fin 12, s.refRestored.pllState p = if s.pllState p = 5 then 2 else s.pllState p := by
  rw [s.refRestored_due hlost hdue]
  refine ⟨?_, fun p => ?_⟩
  · rw [State.rd_foldl_range _ F.CLK_REF_REF_OK (fun u p hp => u.rd_resumed p 0x33800 1 1 0 (by decide) (by decide) hp)]
    exact (State.rd_post_clock _ _ _ _ _ _ _ _ _ _ _ (by decide) (by decide)).trans
      (State.rd_wr_same s F.CLK_REF_REF_OK 1 (by decide))
  · have hp := p.isLt
    have hback : s.refBack.pllState p = s.pllState p :=
      (State.rd_post_clock _ _ _ _ _ _ _ _ _ _ _ (by decide) (by omega)).trans (s.pllState_wr p _ _ _ _ _ (by omega))
    rw [State.pllState_foldl_range _ (fun x => if x = 5 then 2 else x) State.pllState_resumed State.pllState_resumed_ne,
      hback]

/-! ### Clears (R290, R306) -/

/-- The fields that PLL_CLR clears. -/
def pllCounters (p : Nat) : List Fld := [F.PLL_PHERR_PEAK p, F.PLL_COUNT_LOSSES p, F.PLL_COUNT_ACQS p]

theorem pllCounters_apart (p : Nat) : (pllCounters p).Pairwise (fun f g => g.key ≠ f.key) ∧ ∀ f ∈ pllCounters p, f.w ≤ 32 := by
  constructor
  · simp only [pllCounters, List.pairwise_cons, List.forall_mem_cons, List.not_mem_nil, false_implies, implies_true,
      List.Pairwise.nil, and_true, Fld.key, F.PLL_PHERR_PEAK, F.PLL_COUNT_LOSSES, F.PLL_COUNT_ACQS]
    omega
  · simp [pllCounters, F.PLL_PHERR_PEAK, F.PLL_COUNT_LOSSES, F.PLL_COUNT_ACQS]

/-- The fields of an entry of the hop memory. -/
def hopEntry (p k : Nat) : List Fld :=
  [F.PLL_HOP_A_FCW p k, F.PLL_HOP_B_VALID p k, F.PLL_HOP_B_CAP p k, F.PLL_HOP_B_FINE p k]

theorem State.hopClr_eq (s : State) (p m : Nat) :
    s.hopClr p m = (bitsOf 16 m).foldl (fun u k => u.zeroed (hopEntry p k)) s := rfl

/-- What of an entry says which target it serves. -/
def State.hopShown (p k : Nat) (s : State) : Nat × Nat := (s.rd (F.PLL_HOP_A_FCW p k), s.rd (F.PLL_HOP_B_VALID p k))

theorem hopEntry_apart (p k : Nat) :
    (hopEntry p k).Pairwise (fun f g => g.key ≠ f.key) ∧ ∀ f ∈ hopEntry p k, f.w ≤ 32 := by
  constructor
  · simp only [hopEntry, List.pairwise_cons, List.forall_mem_cons, List.not_mem_nil, false_implies, implies_true,
      List.Pairwise.nil, and_true, Fld.key, F.PLL_HOP_A_FCW, F.PLL_HOP_B_VALID, F.PLL_HOP_B_CAP, F.PLL_HOP_B_FINE]
    omega
  · simp [hopEntry, F.PLL_HOP_A_FCW, F.PLL_HOP_B_VALID, F.PLL_HOP_B_CAP, F.PLL_HOP_B_FINE]

theorem State.hopShown_zeroed_same (s : State) (p k : Nat) : State.hopShown p k (s.zeroed (hopEntry p k)) = (0, 0) := by
  obtain ⟨hkeys, hw⟩ := hopEntry_apart p k
  exact Prod.ext (s.rd_zeroed _ hkeys hw _ (by simp [hopEntry])) (s.rd_zeroed _ hkeys hw _ (by simp [hopEntry]))

theorem State.hopShown_zeroed_ne (s : State) (p j k : Nat) (h : k ≠ j) :
    State.hopShown p k (s.zeroed (hopEntry p j)) = State.hopShown p k s := by
  refine Prod.ext (s.rd_zeroed_ne _ _ ?_) (s.rd_zeroed_ne _ _ ?_) <;>
  · simp only [hopEntry, List.forall_mem_cons, List.not_mem_nil, false_implies, implies_true, and_true, Fld.key,
      F.PLL_HOP_A_FCW, F.PLL_HOP_B_VALID, F.PLL_HOP_B_CAP, F.PLL_HOP_B_FINE]
    omega

theorem State.hopShown_hopClr (s : State) (p m : Nat) (k : Fin 16) :
    State.hopShown p k (s.hopClr p m) = if m.testBit k then (0, 0) else State.hopShown p k s := by
  have hbit : k.val ∈ bitsOf 16 m ↔ m.testBit k = true := by simp [bitsOf]
  simp only [← hbit]
  exact foldl_each _ (State.hopShown p) (fun _ => (0, 0)) 16 (fun u j _ => u.hopShown_zeroed_same p j)
    (fun u i j _ h => u.hopShown_zeroed_ne p i j h) _ (List.nodup_range.filter _) s k k.isLt

/-- Clears of the hop memory write registers alone. -/
theorem State.hopClr_frame (s : State) (p m : Nat) : s.hopClr p m = { s with regs := (s.hopClr p m).regs } := by
  rw [s.hopClr_eq]
  refine List.foldlRecOn (motive := fun t : State => t = { s with regs := t.regs }) _ _ rfl (fun t ih k _ => ?_)
  exact ((t.regsOnly_zeroed (hopEntry p k)).1).trans
    (congrArg (fun u : State => { u with regs := (t.zeroed (hopEntry p k)).regs }) ih)

/-! ### Hops that wait for FINE (R300) -/

theorem State.pll_modPll_same (s : State) (p : Nat) (g : Pll → Pll) (h : p < s.clk.plls.length) :
    (s.modPll p g).pll p = g (s.pll p) := by
  simp [State.pll, State.modPll, h]

theorem State.rd_clkEnd_cmd (s : State) (status det result : Nat) :
    (s.clkEnd none status det result).rd F.CLK_CMD_STAT_BUSY = 0 ∧
      (s.clkEnd none status det result).rd F.CLK_CMD_STAT_STATUS = status % 256 := by
  simp only [State.clkEnd]
  constructor
  · simp (disch := decide) only [State.rd_wr_ne]
    exact s.rd_wr_zero F.CLK_CMD_STAT_BUSY (by decide)
  · simp (disch := decide) only [State.rd_wr_ne]
    exact State.rd_wr_same _ F.CLK_CMD_STAT_STATUS status (by decide)

/-- The one hop that waits ends with TIMEOUT. -/
theorem State.hopTimeout_one (s : State) (p t : Nat) (r : Option Nat) (h : (s.pll p).hops = [(r, t)])
    (hlate : t + 2000000 ≤ s.now) : s.hopTimeout p =
      (s.modPll p (fun x => { x with hops := x.hops.filter (fun h => s.now < h.2 + 2000000) })).clkEnd r 8 0 0 := by
  simp [State.hopTimeout, h, hlate]

theorem State.hopTimeout_cmd_spec (s : State) (p t : Nat) (hp : p < s.clk.plls.length) (h : (s.pll p).hops = [(none, t)])
    (hlate : t + 2000000 ≤ s.now) :
    ((s.hopTimeout p).pll p).hops = [] ∧ (s.hopTimeout p).rd F.CLK_CMD_STAT_BUSY = 0 ∧
      (s.hopTimeout p).rd F.CLK_CMD_STAT_STATUS = 8 ∧ (s.hopTimeout p).host = s.host ∧ (s.hopTimeout p).alm = s.alm := by
  rw [s.hopTimeout_one p t none h hlate]
  obtain ⟨hbusy, hstatus⟩ := State.rd_clkEnd_cmd
    (s.modPll p (fun x => { x with hops := x.hops.filter (fun h => s.now < h.2 + 2000000) })) 8 0 0
  refine ⟨?_, hbusy, hstatus, rfl, rfl⟩
  refine (congrArg Pll.hops (s.pll_modPll_same p _ hp)).trans ?_
  simp [h, hlate]

/-- Settles O58: the two tests of `State.pllLocked`, whose tier is one test of both. -/
theorem stationPllLocked : Obligations.StationPllLocked := by
  intro s st
  simp only [State.pllLocked, Bool.or_eq_true, Bool.and_eq_true, beq_iff_eq]
  constructor
  · rintro (hfine | ⟨hcoarse, htier⟩)
    · exact Or.inl hfine
    · exact Or.inr ⟨htier, Or.inl hcoarse⟩
  · rintro (hfine | ⟨htier, hcoarse | hfine⟩)
    · exact Or.inl hfine
    · exact Or.inr ⟨hcoarse, htier⟩
    · exact Or.inl hfine

/-- Settles O44: each clause is the equation or the reads of one operation above. -/
theorem pllStates : Obligations.PllStates := by
  refine ⟨?_, ?_, ?_, ?_, ?_, ?_, ?_, ?_, ?_, ?_, ?_, ?_, ?_, ?_, ?_, ?_, ?_⟩
  · intro s p hup h4
    exact gives_of_live rfl hup (s.pllEnable_off_spec p p.isLt h4)
  · intro s p hup h4 hoff hdom
    exact exec_of_live rfl hup (s.pllEnable_on p h4 hoff hdom)
  · intro s p fcw k tag h hpend hband
    exact s.acquire_band_spec p fcw k h tag p.isLt hpend hband
  · intro s p cap hup hsearch hdue
    exact gives_of_live rfl hup (s.searchDone_spec p cap p.isLt hsearch hdue)
  · intro s p err hup hpull herr
    exact gives_of_live rfl hup (s.coarseLock_spec p err p.isLt hpull herr)
  · intro s p err mean k hup hcoarse herr hhops hhop
    exact gives_of_live rfl hup (s.fineLock_spec p err mean k p.isLt hcoarse herr hhops hhop)
  · intro s p err hup hfine herr
    exact exec_of_live rfl hup (s.fineLost_beyond p err hfine herr)
  · intro s p err hup hcoarse herr
    exact gives_of_live rfl hup (s.lockLost_spec p err p.isLt hcoarse herr)
  · intro s p hup
    exact ⟨fun hcoarse => exec_of_live rfl hup (s.codeLimit_coarse p hcoarse),
      fun hcoarse hpull => exec_of_live rfl hup (s.codeLimit_pull p hcoarse hpull)⟩
  · intro s p hup hpull hdue
    refine ⟨fun hnot hen => exec_of_live rfl hup (s.pullTimeout_search p hpull hdue hnot hen), fun hsearched => ?_⟩
    refine gives_of_live rfl hup ?_
    rw [s.pullTimeout_fail p hpull hdue hsearched]
    exact s.pllState_acqFail p 1 p.isLt
  · intro s means hup hok
    exact gives_of_live rfl hup (s.refLost_spec means hok)
  · intro s hup hlost hdue
    exact gives_of_live rfl hup (s.refRestored_spec hlost hdue)
  · intro s p hup
    obtain ⟨hkeys, hw⟩ := pllCounters_apart p
    have hzero := s.rd_zeroed (pllCounters p) hkeys hw
    exact gives_of_live (t := s.zeroed (pllCounters p)) rfl hup ⟨hzero _ (by simp [pllCounters]),
      hzero _ (by simp [pllCounters]), hzero _ (by simp [pllCounters]), s.regsOnly_zeroed (pllCounters p)⟩
  · intro s p m hup
    refine gives_of_live rfl hup ⟨s.hopClr_frame p m, fun k => ?_⟩
    have hshown := s.hopShown_hopClr p m k
    split at hshown
    next hbit =>
      rw [if_pos hbit]
      exact Prod.ext_iff.mp hshown
    next hbit =>
      rw [if_neg hbit]
      exact Prod.ext_iff.mp hshown
  · intro s p t0 hup hlen hhops hlate
    exact gives_of_live rfl hup (s.hopTimeout_cmd_spec p t0 (by omega) hhops hlate)
  · exact fun s p => s.lockPins_lockA p false
  · intro s p err hup h4 hfine herr hsmall
    exact gives_of_live rfl hup (s.fineLost_lockA p err h4 hfine herr hsmall)

end Sys2Proof.Machine
end

section
/-! The clock commands: hops, ramps, sweeps and returns through a machine ring and through CLK_CMD, the guard, the outputs
(R291, R294, R295, R300–R303, R308). -/

namespace Sys2Proof.Machine

open Sys2Proof

/-! ### Clock transactions of a machine ring (R253, R300) -/

/-- A clock transaction is none of those that enter VIGIL. -/
theorem State.entersVigil_clk (s : State) (d : Desc) (h : dOpcode d ≠ 0x50) : s.entersVigil [d] = false := by
  simp [State.entersVigil, h]

/-- Ramps and sweeps act at once, not at the end of the SYS cycle. -/
theorem State.endsCycle_clk (s : State) (d : Desc) (h : dOpcode d = 0x3D ∨ dOpcode d = 0x3E) : s.endsCycle [d] = false := by
  rcases h with h | h <;> simp [State.endsCycle, h]

/-- A ramp or sweep that stands ready, whose row's test it meets, is answered with its effect. -/
theorem State.machOp_clk (s v : State) (q : Nat) (d : Desc) (t : List Desc → Bool) (w r : Nat) (h : s.machReady q [d])
    (hop : dOpcode d = 0x3D ∨ dOpcode d = 0x3E) (ht : t [d] = true)
    (ha : (s.machState q [d]).applyMach (s.machRef q [d]) [d] = .done v w r) :
    s.machOp q t = s.machAnswer q [d] v w r :=
  s.machOp_done q [d] t v w r h ht (s.entersVigil_clk d (by omega)) (s.endsCycle_clk d hop) ha

/-- A hop that stands ready waits for the end of its SYS cycle (log 145). -/
theorem State.machOp_hop (s : State) (q : Nat) (d : Desc) (h : s.machReady q [d]) (hop : dOpcode d = 0x3C) :
    s.machOp q (opIs 0x3C) = (s.machLate q [d]).settleHead q 1 := by
  obtain ⟨-, htake, hclass, hpass, hisland⟩ := h
  have hcycle : s.endsCycle [d] = true := by simp [State.endsCycle, hop]
  simp [State.machOp, State.takeWhen, htake, hpass, hclass, opIs, hop, State.takeMach, hisland, hcycle]

theorem opSub_of {d : Desc} {op a v : Nat} (hop : dOpcode d = op) (hv : dField d a 1 = v) : opSub op a v [d] = true := by
  simp [opSub, opIs, hop, hv]

/-- The opcodes 0x3C to 0x3E are the clocks'. -/
theorem State.applyMach_clk (s : State) (ref : Nat) (d : Desc) (hop : dOpcode d = 0x3C ∨ dOpcode d = 0x3D ∨ dOpcode d = 0x3E) :
    s.applyMach ref [d] = s.applyClk ref [d] := by
  rcases hop with hop | hop | hop <;> simp [State.applyMach, hop]

theorem State.applyMach_hop (s : State) (ref : Nat) (d : Desc) (hform : clkFormat d = true) (hop : dOpcode d = 0x3C) :
    s.applyMach ref [d] = s.clkHop (some ref) (dField d 8 1) (dField d 12 4)
      (if dField d 9 1 = 1 then some (dField d 10 1) else none) (dTag d) := by
  rw [s.applyMach_clk ref d (Or.inl hop)]
  simp [State.applyClk, hform, hop]

theorem State.applyMach_ramp (s : State) (ref : Nat) (d : Desc) (hform : clkFormat d = true) (hop : dOpcode d = 0x3D) :
    s.applyMach ref [d] = match dField d 9 1 with
      | 0 => s.rampStart (dField d 8 1)
      | 1 => s.rampHold (dField d 8 1)
      | _ => s.rampReturn (some ref) (dField d 8 1) := by
  rw [s.applyMach_clk ref d (Or.inr (Or.inl hop))]
  simp only [State.applyClk, List.length_singleton, ne_eq, not_true, hform, Bool.not_true, Bool.false_eq_true, or_self,
    if_false, List.headD_cons, hop] <;> rfl

theorem State.applyMach_sweep (s : State) (ref : Nat) (d : Desc) (hform : clkFormat d = true) (hop : dOpcode d = 0x3E) :
    s.applyMach ref [d] =
      s.clkSweep (some ref) (dField d 8 1) (dField d 9 1) (dField d 10 1 == 1) (dField d 11 1) := by
  rw [s.applyMach_clk ref d (Or.inr (Or.inr hop))]
  simp [State.applyClk, hform, hop]

/-! ### Ramps, holds, returns and sweeps (R291, R300, R301) -/

/-- A ramp of a FINE station PLL starts at once; RUN reads 1. -/
theorem State.rampStart_fine (s : State) (p : Nat) (h4 : 4 ≤ p) (hfine : s.pllState p = 4) :
    ∃ u : State, u.rd (F.PLL_RAMP_STAT_RUN p) = 1 ∧ s.rampStart p = .done u 0 0 := by
  have hstarts : ¬ (p < 4 ∨ s.pllState p ≠ 4) := by omega
  rw [State.rampStart, if_neg hstarts]
  refine ⟨_, ?_, rfl⟩
  rw [State.rd_wr_ne _ _ _ _ (by simp only [Fld.key, F.PLL_RAMP_STAT_SEG, F.PLL_RAMP_STAT_RUN]; omega)]
  exact State.rd_wr_same _ (F.PLL_RAMP_STAT_RUN p) 1 (by simp [F.PLL_RAMP_STAT_RUN])

theorem State.rampHold_station (s : State) (p : Nat) (h4 : 4 ≤ p) :
    s.rampHold p = .done ((s.endReturn p).wr (F.PLL_RAMP_STAT_RUN p) 0) 0 0 :=
  if_neg (Nat.not_lt.mpr h4)

theorem State.rampReturn_station (s : State) (ref : Option Nat) (p : Nat) (h4 : 4 ≤ p) :
    s.rampReturn ref p =
      if ((s.endReturn p).wr (F.PLL_RAMP_STAT_RUN p) 0).fcwUse p =
        ((s.endReturn p).wr (F.PLL_RAMP_STAT_RUN p) 0).rd (F.PLL_FCW_FCW p)
      then .done ((s.endReturn p).wr (F.PLL_RAMP_STAT_RUN p) 0) 0 0
      else .done (((s.endReturn p).wr (F.PLL_RAMP_STAT_RUN p) 0).modPll p (fun x => { x with
        returning := true, rampNext := ((s.endReturn p).wr (F.PLL_RAMP_STAT_RUN p) 0).now + 10000, backs := [ref] })) 1 0 :=
  if_neg (Nat.not_lt.mpr h4)

theorem State.clkSweep_off (s : State) (ref : Option Nat) (p cap : Nat) (stage : Bool) (entry : Nat) (h4 : 4 ≤ p)
    (hoff : s.pllState p = 0) (hnone : (s.pll p).sweep = none) :
    s.clkSweep ref p cap stage entry =
      .done (s.modPll p (fun x => { x with sweep := some ⟨cap, stage, entry, s.now, ref, false⟩ })) 1 0 :=
  if_neg (by simp [hoff, hnone, Nat.not_lt.mpr h4])

/-- A return that nothing waits for is given up with no answer. -/
theorem State.endReturn_idle (s : State) (p : Nat) (h : (s.pll p).backs = []) :
    s.endReturn p = s.modPll p (fun x => { x with returning := false, backs := [] }) := by
  simp [State.endReturn, h]

/-! ### Hops (R300) -/

/-- A core PLL refuses a hop. -/
theorem State.clkHop_core (s : State) (ref : Option Nat) (p fcw : Nat) (entry : Option Nat) (tag : Nat) (h : p < 4) :
    s.clkHop ref p fcw entry tag = .fail 0 5 0 0 id :=
  if_pos h

/-- The state in which a hop has written PLL_FCW: through a ring it stages the value, through CLK_CMD as BAR0 does. -/
def State.hopWritten (s : State) (ref : Option Nat) (p fcw : Nat) : State :=
  if ref.isSome then s.stage (F.PLL_FCW_FCW p) fcw else s.putField .rwf (F.PLL_FCW_FCW p) fcw

/-- A hop whose write and commit nothing refuses is committed and waits for FINE. -/
theorem State.clkHop_accepted (s : State) (ref : Option Nat) (p fcw tag : Nat) (h : RegHit) (h4 : 4 ≤ p)
    (hreg : findReg (F.PLL_FCW_FCW p).off = some h) (hwrite : s.writeRefusal h .rwf = 0)
    (hcommit : (s.hopWritten ref p fcw).commitFail [h.group] = none) :
    s.clkHop ref p fcw none tag = .done (((s.hopWritten ref p fcw).modPll p (fun x => { x with
      nextEntry := none, nextTag := tag, hops := x.hops ++ [(ref, s.now)] })).acceptCommit [h.group] none) 1 0 := by
  unfold State.hopWritten at hcommit ⊢
  simp only [State.clkHop, Nat.not_lt.mpr h4, if_false, Bool.false_eq_true, hreg, hwrite, bne_self_eq_false, hcommit]

/-! ### The end of a sweep and of a return (R291, R300) -/

theorem State.sweepDone_off (s : State) (p fmin fmax kdco : Nat) (j : SweepJob) (hjob : (s.pll p).sweep = some j)
    (hdue : j.start + 40000 ≤ s.now) (hboot : j.boot = false) (hstage : j.stage = false) (hoff : s.pllState p = 0) :
    s.sweepDone p fmin fmax kdco = (s.modPll p (fun x => { x with sweep := none })).clkEnd j.ref 0 0
      (packBytes [(0, 2, fmin), (2, 2, fmax), (4, 2, kdco), (6, 1, j.cap)]) := by
  have hstill : (s.modPll p (fun x => { x with sweep := none })).pllState p = 0 := (State.rd_modPll _ _ _ _).trans hoff
  simp [State.sweepDone, hjob, Nat.not_lt.mpr hdue, hboot, hstage, hstill]

theorem State.returnDone_one (s : State) (p : Nat) (r : Option Nat) (hback : (s.pll p).backs = [r])
    (hfcw : s.fcwUse p = s.rd (F.PLL_FCW_FCW p)) :
    s.returnDone p = (s.modPll p (fun x => { x with returning := false, backs := [] })).clkEnd r 0 0 0 := by
  simp [State.returnDone, hback, hfcw]

/-! ### A ramp's update (R302, R303) -/

theorem clampI_self {lo hi x : Int} (hlo : lo ≤ x) (hhi : x ≤ hi) : clampI lo hi x = x := by
  rw [clampI, if_neg (Int.not_lt.mpr hlo), if_neg (Int.not_lt.mpr hhi)]

theorem guardEdges_reach (ceil iv per : Nat) (h : 0 < per) : ceil * 250 ≤ iv + guardEdges ceil iv per * per := by
  obtain ⟨hreach, -⟩ := ceilDiv_bounds (ceil * 250 - iv) per h
  unfold guardEdges
  split
  · omega
  · rw [Nat.max_eq_right h]
    omega

theorem guardEdges_none (ceil iv per : Nat) (h : ceil * 250 ≤ iv) : guardEdges ceil iv per = 0 :=
  if_pos h

/-- Slices that keep their CEIL pass the guard. -/
theorem State.swallow_none (s : State) (st : Nat) (g : List (Nat × Nat))
    (h : ∀ x ∈ g, s.rd (F.CLK_OUT_CEIL_CEIL st) * 250 ≤ x.1) : s.swallow st g = s := by
  have hpass : g.filter (fun x => guardEdges (s.rd (F.CLK_OUT_CEIL_CEIL st)) x.1 x.2 != 0) = [] :=
    List.filter_eq_nil_iff.mpr (fun x hx => by simp [guardEdges_none _ _ x.2 (h x hx)])
  simp only [State.swallow, hpass]

/-- An FCW asked for within 0.01 % of the one in use is taken as it is. -/
theorem State.rampUpdate_near (s : State) (p seg ask : Nat) (h4 : 4 ≤ p) (hrun : s.on (F.PLL_RAMP_STAT_RUN p) = true)
    (hdue : (s.pll p).rampNext ≤ s.now) (hask : s.rampAsk p = (seg, ask))
    (hlo : s.fcwUse p - s.fcwUse p / 10000 ≤ ask) (hhi : ask ≤ s.fcwUse p + s.fcwUse p / 10000) :
    s.rampUpdate p [] = ((((s.wr (F.PLL_RAMP_STAT_SEG p) seg).modPll p (fun x => { x with
      rampNext := s.now + 10000 })).wr (F.PLL_RAMP_STAT_LIMITED p) 0).rampMove p ask ask).returnDone p := by
  have hnear : clampI ((s.fcwUse p : Int) - (s.fcwUse p / 10000 : Nat)) ((s.fcwUse p : Int) + (s.fcwUse p / 10000 : Nat)) ask =
      ask := clampI_self (by omega) (by omega)
  have hguard : s.swallow (p - 4) [] = s := s.swallow_none (p - 4) [] (by simp)
  simp only [State.rampUpdate, Nat.not_lt.mpr h4, if_false, hguard, hrun, Bool.true_or, Bool.not_true, Bool.false_or,
    decide_eq_true_eq, Nat.not_lt.mpr hdue, hask, hnear, Int.toNat_natCast, bne_self_eq_false, b2n, Bool.false_eq_true,
    decide_true, if_true]

/-- Where the band in use holds the FCW it moves there (R303). -/
theorem State.rampMove_stays (s : State) (p fcw ask k : Nat) (hband : s.bandInUse p = some k) (hhas : s.bandHas p k fcw = true) :
    s.rampMove p fcw ask = (s.wr (F.PLL_RAMP_FCW_FCW_NOW p) fcw).modPll p (fun x => { x with noBand := false }) := by
  simp [State.rampMove, hband, hhas]

/-! ### Outputs (R294) -/

theorem State.outEnable_sync (s : State) (c : Nat) (on : Bool) (h : 20 ≤ c) :
    s.outEnable c on = (s.wr (F.CLK_OUT_CTL_EN c) (b2n on)).syncOuts :=
  if_pos h

/-- Registers written one list after another. -/
theorem RegsOnly.trans {s t u : State} {fs gs : List Fld} (hst : RegsOnly s t fs) (htu : RegsOnly t u gs)
    (hsub : gs ⊆ fs) : RegsOnly s u fs :=
  ⟨htu.1.trans (congrArg (fun v : State => { v with regs := u.regs }) hst.1),
    fun g hg => (htu.2 g (fun f hf => hg f (hsub hf))).trans (hst.2 g hg)⟩

theorem State.outEnable_spec (s : State) (c : Nat) (on : Bool) (h20 : 20 ≤ c) :
    (s.outEnable c on).rd (F.CLK_OUT_CTL_EN c) = b2n on ∧
      RegsOnly s (s.outEnable c on) (F.CLK_OUT_CTL_EN c :: (List.range 24).map F.CLK_OUT_STAT_RUNNING) := by
  have hsync := (s.wr (F.CLK_OUT_CTL_EN c) (b2n on)).regsOnly_syncOuts
  rw [s.outEnable_sync c on h20]
  constructor
  · refine (hsync.2 _ (fun f hf => ?_)).trans (s.rd_wr_b2n _ on rfl)
    obtain ⟨k, -, rfl⟩ := List.mem_map.mp hf
    simp only [Fld.key, F.CLK_OUT_STAT_RUNNING, F.CLK_OUT_CTL_EN]
    omega
  · exact ((RegsOnly.refl s _).wr _ _ List.mem_cons_self).trans hsync (List.subset_cons_self _ _)

/-! ### CLK_CMD (R308) -/

/-- A command of CLK_CMD has begun. -/
def State.cmdBegun (s : State) : State := s.wr F.CLK_CMD_STAT_BUSY 1

/-- A command that waits for its end answers when it ends. -/
theorem State.clkCmd_waits (s v : State) (p w r : Nat) (a : State → Applied) (hidle : s.on F.CLK_CMD_STAT_BUSY = false)
    (hp : p ≤ 11) (ha : a s.cmdBegun = .done v (w + 1) r) : s.clkCmd p a = v := by
  have ha : a (s.wr F.CLK_CMD_STAT_BUSY 1) = .done v (w + 1) r := ha
  simp only [State.clkCmd, hidle, Bool.false_eq_true, if_false, Nat.not_lt.mpr hp, ha]

/-- A command that is done at once ends at once. -/
theorem State.clkCmd_done (s v : State) (p r : Nat) (a : State → Applied) (hidle : s.on F.CLK_CMD_STAT_BUSY = false)
    (hp : p ≤ 11) (ha : a s.cmdBegun = .done v 0 r) : s.clkCmd p a = v.clkEnd none 0 0 r := by
  have ha : a (s.wr F.CLK_CMD_STAT_BUSY 1) = .done v 0 r := ha
  simp only [State.clkCmd, hidle, Bool.false_eq_true, if_false, Nat.not_lt.mpr hp, ha]

/-- The end of a command leaves the PLLs' registers alone. -/
theorem State.rd_clkEnd_cmd_pll (s : State) (status det result o lo w r : Nat) (hlo : lo < 32) (h : o < 0x33000) :
    (s.clkEnd none status det result).rd ⟨o, lo, w, r⟩ = s.rd ⟨o, lo, w, r⟩ := by
  simp (disch := omega) only [State.clkEnd, F.CLK_CMD_STAT_BUSY, F.CLK_CMD_STAT_STATUS, F.CLK_CMD_RES0_RES,
    F.CLK_CMD_RES1_RES, State.rd_wr_apart]

theorem State.clkCmd_rampStart_spec (s : State) (p : Nat) (h4 : 4 ≤ p) (hp : p ≤ 11)
    (hidle : s.on F.CLK_CMD_STAT_BUSY = false) (hfine : s.cmdBegun.pllState p = 4) :
    (s.clkCmd p (fun u => u.rampStart p)).rd (F.PLL_RAMP_STAT_RUN p) = 1 ∧
      (s.clkCmd p (fun u => u.rampStart p)).rd F.CLK_CMD_STAT_BUSY = 0 ∧
      (s.clkCmd p (fun u => u.rampStart p)).rd F.CLK_CMD_STAT_STATUS = 0 := by
  obtain ⟨u, hrun, hstart⟩ := s.cmdBegun.rampStart_fine p h4 hfine
  obtain ⟨hbusy, hstatus⟩ := u.rd_clkEnd_cmd 0 0 0
  rw [s.clkCmd_done u p 0 (fun u => u.rampStart p) hidle hp hstart]
  exact ⟨(u.rd_clkEnd_cmd_pll 0 0 0 _ _ _ _ (by decide) (by omega)).trans hrun, hbusy, hstatus⟩

/-- The FCW in use and PLL_FCW do not go by RUN. -/
theorem State.rd_fcw_endReturn (s : State) (p : Nat) (hback : (s.pll p).backs = []) :
    ((s.endReturn p).wr (F.PLL_RAMP_STAT_RUN p) 0).fcwUse p = s.fcwUse p ∧
      ((s.endReturn p).wr (F.PLL_RAMP_STAT_RUN p) 0).rd (F.PLL_FCW_FCW p) = s.rd (F.PLL_FCW_FCW p) := by
  rw [s.endReturn_idle p hback]
  simp (disch := omega) only [State.fcwUse, F.PLL_FCW_FCW, F.PLL_RAMP_FCW_FCW_NOW, F.PLL_RAMP_STAT_RUN, State.rd_wr_apart,
    State.rd_modPll, and_self]

theorem State.clkCmd_rampReturn_spec (s : State) (p : Nat) (h4 : 4 ≤ p) (hp : p ≤ 11)
    (hidle : s.on F.CLK_CMD_STAT_BUSY = false) (hback : (s.cmdBegun.pll p).backs = [])
    (hfcw : s.cmdBegun.fcwUse p ≠ s.cmdBegun.rd (F.PLL_FCW_FCW p)) (hlen : s.clk.plls.length = 12) :
    ((s.clkCmd p (fun u => u.rampReturn none p)).pll p).returning = true ∧
      (s.clkCmd p (fun u => u.rampReturn none p)).rd F.CLK_CMD_STAT_BUSY = 1 ∧
      (s.clkCmd p (fun u => u.rampReturn none p)).rd (F.PLL_RAMP_STAT_RUN p) = 0 := by
  obtain ⟨huse, hset⟩ := s.cmdBegun.rd_fcw_endReturn p hback
  have hreturn := (s.cmdBegun.rampReturn_station none p h4).trans (if_neg (by rwa [huse, hset]))
  rw [s.clkCmd_waits _ p 0 0 (fun u => u.rampReturn none p) hidle hp hreturn, s.cmdBegun.endReturn_idle p hback]
  refine ⟨?_, ?_, ?_⟩
  · have hplls : p < (((s.cmdBegun.modPll p (fun x => { x with returning := false, backs := [] })).wr
        (F.PLL_RAMP_STAT_RUN p) 0).clk.plls.length) := by
      simp only [State.wr_clk, State.modPll, List.length_modify, State.cmdBegun]
      omega
    rw [State.pll_modPll_same _ p _ hplls]
  · rw [State.rd_modPll, State.rd_wr_ne _ _ _ _ (by simp only [Fld.key, F.PLL_RAMP_STAT_RUN, F.CLK_CMD_STAT_BUSY]; omega),
      State.rd_modPll]
    exact State.rd_wr_same s F.CLK_CMD_STAT_BUSY 1 (by decide)
  · rw [State.rd_modPll]
    exact State.rd_wr_zero _ _ (by simp [F.PLL_RAMP_STAT_RUN])

/-- Settles O45: a transaction is answered with its effect, a hop at the end of its cycle; the effects, the ends and the
commands of CLK_CMD are the operations above. -/
theorem clockCommands : Obligations.ClockCommands := by
  refine ⟨?_, ?_, ?_, ?_, ?_, ?_, ?_, ?_, ?_, ?_, ?_, ?_, ?_⟩
  · intro s q d hready hop
    exact exec_of_live rfl hready.1 (s.machOp_hop q d hready hop)
  · intro s v q d w r hready ha
    have hramp (n : Nat) (hop : dOpcode d = 0x3D) (hn : dField d 9 1 = n) :=
      s.machOp_clk v q d (opSub 0x3D 9 n) w r hready (Or.inl hop) (opSub_of hop hn) ha
    refine ⟨fun hop hn => ?_, fun hop hn => ?_, fun hop hn => ?_, fun hop => ?_⟩
    · exact exec_of_live rfl hready.1 (hramp 0 hop hn)
    · exact exec_of_live rfl hready.1 (hramp 1 hop hn)
    · exact exec_of_live rfl hready.1 (hramp 2 hop hn)
    · exact exec_of_live rfl hready.1 (s.machOp_clk v q d (opIs 0x3E) w r hready (Or.inr hop) (by simp [opIs, hop]) ha)
  · intro s ref d hform h4
    have hramp (hop : dOpcode d = 0x3D) := s.applyMach_ramp ref d hform hop
    refine ⟨fun hop hn => ?_, fun hop hn hfine => ?_, fun hop hn => ?_, fun hop hn => ?_, fun hop hoff hnone => ?_⟩
    · rw [s.applyMach_hop ref d hform hop, hn]
      rfl
    · simp only [hramp hop, hn]
      exact s.rampStart_fine _ h4 hfine
    · simp only [hramp hop, hn]
      exact s.rampHold_station _ h4
    · simp only [hramp hop, hn]
      exact s.rampReturn_station (some ref) _ h4
    · rw [s.applyMach_sweep ref d hform hop]
      exact s.clkSweep_off (some ref) _ _ _ _ h4 hoff hnone
  · intro s ref p fcw tag h h4 _ hreg u hwrite hcommit
    exact s.clkHop_accepted ref p fcw tag h h4 hreg hwrite hcommit
  · intro s ref d hform hcore hop
    exact ⟨id, (s.applyMach_hop ref d hform hop).trans (s.clkHop_core _ _ _ _ _ hcore)⟩
  · intro s p j fmin fmax kdco hup hjob hdue hboot hstage hoff
    exact exec_of_live rfl hup (s.sweepDone_off p fmin fmax kdco j hjob hdue hboot hstage hoff)
  · intro s p seg ask hup h4 hrun _ hdue hask hlo hhi
    exact exec_of_live rfl hup (s.rampUpdate_near p seg ask h4 hrun hdue hask hlo hhi)
  · exact State.returnDone_one
  · intro s p fcw ask k hband hhas
    rw [s.rampMove_stays p fcw ask k hband hhas, State.rd_modPll]
    exact State.rd_wr_same s (F.PLL_RAMP_FCW_FCW_NOW p) fcw (by simp [F.PLL_RAMP_FCW_FCW_NOW])
  · exact fun ceil iv per hper => ⟨guardEdges_reach ceil iv per hper, guardEdges_none ceil iv per⟩
  · exact State.swallow_none
  · intro s c on hup h20
    exact gives_of_live rfl hup (s.outEnable_spec c on h20)
  · intro s p arg ent hup hidle h4 hp u
    refine ⟨fun v w r ha => ?_, fun v w r harg ha => ?_, fun hfine => ?_, ?_, fun hback hfcw hlen => ?_,
      fun hent hoff hnone => ?_⟩
    · exact exec_of_live rfl hup (s.clkCmd_waits v p w r _ hidle hp ha)
    · exact exec_of_live rfl hup (s.clkCmd_waits v p w r _ hidle hp ((if_neg (Nat.not_lt.mpr harg)).trans ha))
    · exact gives_of_live rfl hup (s.clkCmd_rampStart_spec p h4 hp hidle hfine)
    · exact exec_of_live rfl hup (s.clkCmd_done _ p 0 _ hidle hp (u.rampHold_station p h4))
    · exact gives_of_live rfl hup (s.clkCmd_rampReturn_spec p h4 hp hidle hback hfcw hlen)
    · exact exec_of_live rfl hup (s.clkCmd_waits _ p 0 0 _ hidle hp
        ((if_neg (Nat.not_le.mpr hent)).trans (u.clkSweep_off none p arg _ _ h4 hoff hnone)))

end Sys2Proof.Machine
end
